-- ==== Sys2Proof/Word.lean ====
section
/-! DEFINITION. The plain word types of the TRA-5808 model: register words, memory words, zone and voice numbers. -/

namespace Sys2Proof

/-- A byte of a frame, of the bulk buffer, of the flash or of the MRAM. -/
abbrev Byte := BitVec 8

/-- A register word (R365). -/
abbrev Word := BitVec 32

/-- The 72 data bits of a zone memory word (R81); also an A72 code (R70). -/
abbrev W72 := BitVec 72

/-- A zone number Z0–Z7 (R1). -/
abbrev ZoneId := Fin 8

/-- A voice number V0–V95. -/
abbrev VoiceId := Fin 96

end Sys2Proof
end

