-- ==== Sys2Proof/Syntax.lean ====
section
/-! DEFINITION. The commands the block takes: one constructor of Instr for each row of spec/opcode_table.json, with the
operands that the rule of the row gives it. Nothing here says what a command does. -/

namespace Sys2Proof

/-- Which software makes a register access: host software through the page router, or the zone program through the
register bridge (R210). Each has its own capture set, window address and staging registers (R47, R378). -/
inductive Party where
  | host | prog
  deriving DecidableEq, Repr

/-- Who asks for a voice (Table 15-5, NOVOICE): 0 scheduler, 1 host, 2 zone DSP. -/
inductive VSrc where
  | sched | host | dsp
  deriving DecidableEq, Repr

/-- A finish-by position of a VSTART with DL = 1 (R65): direction, position q, nominal duration override in ticks. -/
structure Deadline where
  dir    : Bool
  q      : BitVec 48
  nomdur : BitVec 16
  deriving DecidableEq, Repr

/-- Authority data of a VOICE or EVENT_POST command (R309). -/
inductive Auth where
  | none
  | inline (token : List Byte)
  | standing (item : Word)
  | other (code : Byte)
  deriving DecidableEq, Repr

/-- One word of a zone memory that has come to hold a bit error: memory code of Table 17-1, word, and whether the error
is a double one, which SECDED detects and does not correct (R81). -/
structure Upset where
  mem    : Fin 8
  word   : Nat
  double : Bool
  deriving DecidableEq, Repr

/-- What reaches a zone from outside during one frame: 64 modulator codes of each measurement input (R220; code value
n stands for n − 2, so 0–4 is −2 to +2), the eight TDM slots received (R277) and new memory bit errors. -/
structure FrameIn where
  micA   : Vector (Fin 5) 64
  micB   : Vector (Fin 5) 64
  senV   : Vector (Fin 5) 64
  senI   : Vector (Fin 5) 64
  tdm    : Vector Word 8
  upsets : List Upset
  deriving DecidableEq, Repr

/-- The fields of a MAC slot below its op (Table 10-2): guard, a, x, y, HX, HY. -/
structure MacF where
  g  : Fin 16
  a  : Fin 4
  x  : Fin 64
  y  : Fin 64
  hx : Bool
  hy : Bool
  deriving DecidableEq, Repr

/-- The fields of an ALU slot below its op (Table 10-2): guard and the 15 bits 34:20, that is d, s and x. -/
structure AluF where
  g   : Fin 16
  arg : BitVec 15
  deriving DecidableEq, Repr

/-- The fields of a MEM slot below its op (Table 10-2): guard, register, n and aux. -/
structure MemF where
  g   : Fin 16
  reg : Fin 64
  n   : BitVec 3
  aux : BitVec 8
  deriving DecidableEq, Repr

/-- The fields of a MEM slot of op 6 whose direction bit n[0] the row itself gives (Table 10-5). -/
structure IoF where
  g   : Fin 16
  reg : Fin 64
  nHi : BitVec 2
  aux : BitVec 8
  deriving DecidableEq, Repr

/-- The header of a host command as the protocol engine holds it: its number CN (R304), its CHECK (R291) and whether it
came in a broadcast (R314). -/
structure Hdr where
  cn    : Byte
  check : BitVec 16
  bcast : Bool
  deriving DecidableEq, Repr

/-- A native frame as it ends on LRXD (R288–R291): T8 of its SYNC character in LINK cycles, whether the SYNC character
read 0x55, how many start edges were glitches and how many characters had a framing error before it, IDENT, payload and
CHECK. -/
structure RxFrame where
  t8       : Nat
  syncOk   : Bool
  glitches : Nat
  ferrs    : Nat
  ident    : Byte
  payload  : List Byte
  check    : BitVec 16
  deriving DecidableEq, Repr

/-- A compatibility frame as it ends on LSW (R299), below its CMD: what the checks of R285–R289 see, as in RxFrame; TA, DIR,
DATA and CHK; and whether the answer met a read-back mismatch, a collision (R300). -/
structure CompatFrame where
  t8        : Nat
  syncOk    : Bool
  glitches  : Nat
  ferrs     : Nat
  ta        : BitVec 2
  dir       : Bool
  data      : List Byte
  chk       : Byte
  collision : Bool
  deriving DecidableEq, Repr

/-- What the read-back of LTXD gives while a frame is sent (R296, R297). -/
inductive ArbOutcome where
  | sent
  | lost (afterIdent : Bool)
  | driverFault
  deriving DecidableEq, Repr

/-- The record that failed its check at Avhar (R321, R338). -/
inductive KeyRec where
  | opk (slot : Fin 4) | cek | tgk | owk | dik | session | lifeCycle
  deriving DecidableEq, Repr

/-- A check-value unit that software can use: ZCRC of a zone, or HCRC1 (R361). -/
inductive CrcUnit where
  | zcrc (z : ZoneId) | hcrc1
  deriving DecidableEq, Repr

/-- How many bytes one feed of a check-value unit takes (R362). -/
inductive FeedSize where
  | d8 | d16 | d32
  deriving DecidableEq, Repr

/-- What ends a device reset's cause field (Table 19-10, RCAUSE). -/
inductive ResetCause where
  | por | resetn | vcore | vaux | vio
  deriving DecidableEq, Repr

/-- A wake source (R391). -/
inductive WakeCause where
  | link
  | timer (z : ZoneId)
  | move (z : ZoneId)
  deriving DecidableEq, Repr

/-- The commands of the block, in the order of spec/opcode_table.json but for eight without operands at the end: Lean's runtime
holds operands only in the first 244 constructors of a type. -/
inductive Instr where
  -- zone states (R6–R25, R411)
  | enable (z : ZoneId)
  | disable (z : ZoneId)
  | resetWarm (z : ZoneId)
  | resetCold (z : ZoneId)
  | run (z : ZoneId)
  | resume (z : ZoneId)
  | fence (z : ZoneId)
  | recover (z : ZoneId)
  | initComplete (z : ZoneId)
  | initSlow (z : ZoneId)
  | testComplete (z : ZoneId) (marchFail ladderFail : Bool)
  | wdog (z : ZoneId)
  | wdogKick (z : ZoneId) (p : Party) (v : Word)
  | wdogWrite (z : ZoneId) (v : Word)
  | trapBucketLeak (z : ZoneId)
  | router (z : ZoneId)
  | regulatorTrip (z : ZoneId) (core analog : Bool)
  | orphan (z : ZoneId)
  | hcloss (z : ZoneId)
  -- time and position (R28–R51, R61)
  | frameBoundary (z : ZoneId) (inp : FrameIn)
  | tickBoundary (z : ZoneId)
  | frefEdge (z : ZoneId) (interval : Nat) (e : Int) (sync : Bool)
  | holdover (z : ZoneId) (elapsed : Nat)
  | holdoverLimit (z : ZoneId)
  | slewComplete (z : ZoneId)
  | frefRate (z : ZoneId) (v : Word)
  | epochArm (z : ZoneId) (check : Bool)
  | epochDisarm (z : ZoneId)
  | loadEdge (z : ZoneId)
  | tachEdge (z : ZoneId) (a b : Bool) (sub : Fin 7680)
  | standstill (z : ZoneId)
  | stale (z : ZoneId)
  | setpos (z : ZoneId) (atTick : Bool)
  | setvel (z : ZoneId) (atTick : Bool)
  | hcmdApply (z : ZoneId)
  | posMode (z : ZoneId) (v : Word)
  | periodEnd (z : ZoneId) (n : Fin 4)
  | tmrNext (z : ZoneId) (n : Fin 4) (v : Word)
  | tmrCtl (z : ZoneId) (n : Fin 4) (v : Word)
  | forceEnd (z : ZoneId) (n : Fin 4)
  | latchRead (z : ZoneId) (p : Party) (pos : Bool)
  -- swaps, scheduler and modes (R52–R69)
  | armAtTgt (z : ZoneId) (page : Fin 6) (tgt : BitVec 24)
  | armNext (z : ZoneId) (page : Fin 6)
  | armAtTgtCopy (z : ZoneId) (page : Fin 6) (tgt : BitVec 24)
  | armNextCopy (z : ZoneId) (page : Fin 6)
  | disarm (z : ZoneId) (page : Fin 6)
  | copyDone (z : ZoneId) (page : Fin 6)
  | swapset (z : ZoneId) (next : Bool) (mask : BitVec 6)
  | post (z : ZoneId)
  | cancel (z : ZoneId) (tag : BitVec 16)
  | flush (z : ZoneId)
  | vstart (z : ZoneId) (src : VSrc) (cls : Fin 8) (arg0 arg1 : Word) (dl : Option Deadline)
  | vrel (z : ZoneId) (src : VSrc) (arg1 : Word)
  | vkill (z : ZoneId) (src : VSrc) (arg1 : Word)
  | vctl (z : ZoneId) (src : VSrc) (arg0 arg1 : Word)
  | retrig (z : ZoneId) (src : VSrc) (arg0 arg1 : Word)
  | swap (z : ZoneId) (tag : BitVec 16) (arg0 arg1 : Word)
  | mode (z : ZoneId) (tag : BitVec 16) (arg0 arg1 : Word)
  | msg (z : ZoneId) (tag : BitVec 16) (arg0 : Word)
  | gain (z : ZoneId) (arg0 arg1 : Word)
  | handler (z : ZoneId) (arg0 arg1 : Word)
  | modeArm (pmask : BitVec 6) (modeNo : Byte) (zmask : Byte)
  | modeArmNext (pmask : BitVec 6) (modeNo : Byte) (zmask : Byte)
  | abort (zmask : Byte)
  -- voices and content (R133–R171)
  | presetCopy (z : ZoneId) (v : VoiceId)
  | successorStart (z : ZoneId) (v : VoiceId)
  | vwinDataWrite (z : ZoneId) (p : Party) (v : Word)
  | vwinDataRead (z : ZoneId) (p : Party)
  | mount
  | unmount
  | load
  | unfence (z : ZoneId)
  | xcmd (v : Word)
  | fetchSlot (cdqs : Bool)
  -- routing (R172–R193)
  | validate (z : ZoneId)
  | spliceWindowEnd (z : ZoneId)
  | greqLo (z : ZoneId) (v : Word)
  | gramp (z : ZoneId) (k : Fin 64)
  | stoneCfg (z : ZoneId) (v : Word)
  -- zone DSP (R194–R219)
  | overrun (z : ZoneId)
  | macMnop (z : ZoneId) (f : MacF)
  | mpy (z : ZoneId) (f : MacF)
  | mac (z : ZoneId) (f : MacF)
  | msu (z : ZoneId) (f : MacF)
  | gmpy (z : ZoneId) (f : MacF)
  | gmac (z : ZoneId) (f : MacF)
  | dmpy (z : ZoneId) (f : MacF)
  | dmac (z : ZoneId) (f : MacF)
  | dmac2 (z : ZoneId) (f : MacF)
  | wmpy (z : ZoneId) (f : MacF)
  | wmac (z : ZoneId) (f : MacF)
  | wgmac (z : ZoneId) (f : MacF)
  | ald (z : ZoneId) (f : MacF)
  | aadd (z : ZoneId) (f : MacF)
  | asub (z : ZoneId) (f : MacF)
  | aclr (z : ZoneId) (f : MacF)
  | anop (z : ZoneId) (f : AluF)
  | mov (z : ZoneId) (f : AluF)
  | add (z : ZoneId) (f : AluF)
  | sub (z : ZoneId) (f : AluF)
  | neg (z : ZoneId) (f : AluF)
  | abs (z : ZoneId) (f : AluF)
  | min (z : ZoneId) (f : AluF)
  | max (z : ZoneId) (f : AluF)
  | and (z : ZoneId) (f : AluF)
  | or (z : ZoneId) (f : AluF)
  | xor (z : ZoneId) (f : AluF)
  | shra (z : ZoneId) (f : AluF)
  | shra8 (z : ZoneId) (f : AluF)
  | shl (z : ZoneId) (f : AluF)
  | ldi (z : ZoneId) (f : AluF)
  | ldis (z : ZoneId) (f : AluF)
  | cmpeq (z : ZoneId) (f : AluF)
  | cmplt (z : ZoneId) (f : AluF)
  | cmple (z : ZoneId) (f : AluF)
  | rdacc (z : ZoneId) (f : AluF)
  | sts (z : ZoneId) (f : AluF)
  | stg (z : ZoneId) (f : AluF)
  | fclr (z : ZoneId) (f : AluF)
  | hmov (z : ZoneId) (f : AluF)
  | br (z : ZoneId) (f : AluF)
  | loop (z : ZoneId) (f : AluF)
  | endRoutine (z : ZoneId) (f : AluF)
  | memMnop (z : ZoneId) (f : MemF)
  | ldw (z : ZoneId) (f : MemF)
  | stw (z : ZoneId) (f : MemF)
  | lde (z : ZoneId) (f : MemF)
  | ste (z : ZoneId) (f : MemF)
  | tap (z : ZoneId) (f : MemF)
  | ioRead (z : ZoneId) (f : IoF)
  | ioWrite (z : ZoneId) (f : IoF)
  | pts (z : ZoneId) (f : MemF)
  | dspRun (z : ZoneId) (v : Word)
  | dwinDataWrite (z : ZoneId) (p : Party) (v : Word)
  | dwinDataRead (z : ZoneId) (p : Party)
  | rwinDataWrite (z : ZoneId) (p : Party) (v : Word)
  | rwinDataRead (z : ZoneId) (p : Party)
  -- measurement chain (R220–R238)
  | ovl (z : ZoneId) (n : Fin 4)
  | srst (z : ZoneId) (n : Fin 4)
  | cdataLo (z : ZoneId) (n : Fin 4) (v : Word)
  | cdataHi (z : ZoneId) (n : Fin 4)
  | freq (z : ZoneId) (n : Fin 4) (v : Word)
  | crossFadeEnd (z : ZoneId) (n : Fin 4)
  | aecInstant (z : ZoneId)
  | dtHoldEnd (z : ZoneId) (ch : Fin 2)
  | erleWindow (z : ZoneId) (ch : Fin 2)
  | checkpoint (z : ZoneId) (ch : Fin 2)
  | clra (z : ZoneId)
  | clrb (z : ZoneId)
  | btickRead (z : ZoneId) (p : Party)
  -- governor (R239–R256)
  | intervalEnd (z : ZoneId)
  | ampfault (z : ZoneId) (asserted : Bool)
  | ampenRelease (z : ZoneId)
  | storeBase (z : ZoneId)
  | clearBase (z : ZoneId)
  | ampReset (z : ZoneId)
  | holdTimeout (z : ZoneId)
  -- outputs (R257–R281)
  | spanRequest (z : ZoneId) (v : Word)
  | spanSwitch (z : ZoneId)
  | cmok (z : ZoneId)
  | unmute (z : ZoneId)
  | mute (z : ZoneId) (v : Word)
  | clrnAssert (z : ZoneId)
  | clrnRelease (z : ZoneId) (sub : Fin 7680)
  | clrCrossFade (z : ZoneId)
  | burst (z : ZoneId)
  | pilotRequest (z : ZoneId) (v : Word)
  | slip (z : ZoneId) (phase : Int)
  | tdmLock (z : ZoneId) (phase : Int)
  | tdmCfg (z : ZoneId) (v : Word)
  -- link (R282–R302)
  | linkBreak
  | frameReceived (f : RxFrame)
  | timeout
  | transmitFrame (o : ArbOutcome)
  | write (f : CompatFrame)
  | read (f : CompatFrame)
  | pingCompat (f : CompatFrame)
  | wakeEdge (lsw lowFor4us : Bool)
  | sgArm (v : Word)
  | sgDisarm
  | syncPulse (syncLow : Bool)
  -- protocol (R303–R319)
  | ping (h : Hdr)
  | ident (h : Hdr)
  | regWrite (h : Hdr) (addr : BitVec 24) (words : List Word)
  | regRead (h : Hdr) (addr : BitVec 24) (count : Byte)
  | voice (h : Hdr) (op : Byte) (zmask : Byte) (cls : Byte) (arg0 arg1 : Word) (auth : Auth)
  | eventPost (h : Hdr) (zmask : Byte) (entry : Vector Word 8) (auth : Auth)
  | bulkWr (h : Hdr) (off : BitVec 16) (data : List Byte)
  | bulkRd (h : Hdr) (off : BitVec 16) (count : Byte)
  | msgack (h : Hdr) (src : Byte) (mseq : BitVec 16)
  | recordCreated (src : Fin 9) (cls : Fin 5) (code : BitVec 16) (params : List Byte)
  | message
  | messageResend
  -- security (R320–R343)
  | hello (h : Hdr) (qh nh : List Byte)
  | auth (h : Hdr) (hcert sigh : List Byte)
  | handshakeTimeout
  | close (h : Hdr) (sid : Word) (mac : List Byte)
  | resumeSession (h : Hdr) (sid : Word) (mac : List Byte)
  | status (h : Hdr)
  | getcert (h : Hdr) (off : BitVec 16) (count : Byte)
  | p0Check (zmask : Byte) (item : Word) (auth : Auth)
  | nonceExpiry
  | installOpk (slot : Fin 16)
  | revokeOpk (slot : Fin 16)
  | setCek
  | setTgk
  | installSt
  | removeSt
  | setFloor
  | setCfloor
  | genkey
  | provision
  | takeOwner
  | lockField
  | unlock
  | rma
  | rmaMaker
  | remake
  | keyrec (k : KeyRec)
  | debugOpen (test : Bool) (sig : List Byte)
  | debugHalt (z : ZoneId)
  -- memories, registers, power (R344–R412)
  | scrubPass (z : ZoneId)
  | borrow (z : ZoneId) (marchFail yielded : Bool)
  | correctedWriteBack (z : ZoneId)
  | crcFeed (u : CrcUnit) (p : Party) (size : FeedSize) (v : Word)
  | start (u : CrcUnit) (p : Party)
  | cur (u : CrcUnit) (p : Party) (v : Word)
  | nvmData (wr : Option Word)
  | wdataRead (z : ZoneId) (p : Party)
  | clrcnt (addr : BitVec 24) (p : Party)
  | pgLock (addr : BitVec 24) (v : Word)
  | rcRead (addr : BitVec 24) (p : Party)
  | registerWrite (addr : BitVec 24) (p : Party) (v : Word)
  | deviceReset (cause : ResetCause) (ta : BitVec 2)
  | brownOut (cause : ResetCause)
  | vanaFail (z : ZoneId)
  | x32Check (running : Bool)
  | sleepArm (v : Word)
  | sleepEntry (z : ZoneId)
  | wake (c : WakeCause)
  | zvaInRegulation (z : ZoneId)
  | ovlClear (z : ZoneId) (n : Fin 4)
  | debugHaltEnd (z : ZoneId) (e : Int)
  | zslowEdge (z : ZoneId) (a b : Bool)
  | avharClockReturn
  | tempInRange
  | clkmon
  | vglitch
  | temp
  | puf
  | shield
  | ready
  | slept
  | kill
  deriving DecidableEq, Repr

end Sys2Proof
end

