-- ==== Sys2Proof/Decode.lean ====
section
/-! DEFINITION. The command that a word of the table's bits spells: no row of spec/opcode_table.json gives bits, so no word
spells one. -/

namespace Sys2Proof

/-- The command that a word of nbits bits spells by the table's bits. -/
def decodeTableWord (_nbits _w : Nat) : Option Instr := none

end Sys2Proof
end

