-- ==== Sys2Proof/Config.lean ====
section
/-! DEFINITION. What the spec leaves to the device or does not state: free values. Every constant here is opaque and has
no body, so nothing can be proved about the value it gives; each is named in a row of the assumption log. A statement
about the model holds whatever these constants are. -/

namespace Sys2Proof.Config

/-- A draw from a zone's noise source (R91, R122, R126): zone, draw number. 48 bits, of which a user takes the upper
ones (assumption 13). -/
opaque noise : Nat → Nat → BitVec 48

/-- The ZCORE cycle of a frame at which a register access falls: the commands carry no cycle (assumption 14). -/
opaque subf : Nat → Nat → Nat

/-- PLL.FOFS as the PLL measures it (assumption 15). -/
opaque fofs : Nat → Nat → BitVec 32

/-- The value a reading of an analog or physical quantity gives, or of bits whose layout the spec does not give: zone or
16 for the host complex, what is read, and a counter (assumption 16). -/
opaque word : Nat → Nat → Nat → BitVec 72

/-- The error of one of the device's function units within the bound the spec states for it: unit, arguments; clamped
to the bound where it is used (assumption 17). -/
opaque dev : Nat → List Int → Int

/-- A coefficient of the 256-phase windowed-sinc table of R95: phase, tap; S36 code (assumption 18). -/
opaque sinc : Nat → Nat → Int

/-- A fixed coefficient the device holds and the spec does not print: which filter, index; S36 or G36 code
(assumption 18). -/
opaque coef : Nat → Nat → Int

/-- The interpolator of R257: phase of the update in its frame, and the sums of the last frames, newest first, as A72
codes (assumption 18). -/
opaque interp : Nat → List Int → Int

/-- The side-tone decimator of R192: the last modulator codes, newest first; S36 code (assumption 18). -/
opaque sideDec : List Int → Int

/-- Results of the cryptographic functions of the security island, as byte lists of the length asked for: which
function, its arguments, the length (assumption 21). -/
opaque crypto : Nat → List (List (BitVec 8)) → Nat → List (BitVec 8)

/-- Whether a cryptographic check passes: which check, its arguments (assumption 21). -/
opaque verify : Nat → List (List (BitVec 8)) → Bool

/-- The bytes that the maker provisions before a device ships (R4): 0 the device identity key's public key, 1 its certificate
(assumption 7). -/
opaque shipped : Nat → Nat → BitVec 8

/-- What the external flash does and answers outside block reads: command code, address, count (assumption 22). -/
opaque flash : Nat → Nat → Nat → List (BitVec 8) → List (BitVec 8)

/-- Whether a physical condition that the spec names and the commands do not carry holds: zone or 16, which condition, a
counter (assumption 16). -/
opaque cond : Nat → Nat → Nat → Bool

end Sys2Proof.Config
end

