-- ==== Sys2Proof/Machine/Basics.lean ====
section
/-! DEFINITION. Plain helpers of the machine: saturating counts, bit fields of register words, wrapped integers, the
sparse maps that hold registers and memories, and rounding. -/

namespace Sys2Proof.Machine

/-- n added to a count that saturates at hi. -/
def satAdd (hi v n : Nat) : Nat := if v + n > hi then hi else v + n

/-- x clamped to lo–hi. -/
def clampI (lo hi x : Int) : Int := if x < lo then lo else if x > hi then hi else x

/-- n clamped to lo–hi. -/
def clampN (lo hi n : Nat) : Nat := if n < lo then lo else if n > hi then hi else n

/-- Bits hi:lo of a word. -/
def fld (w : Word) (hi lo : Nat) : Nat := w.toNat / 2 ^ lo % 2 ^ (hi + 1 - lo)

/-- Bit i of a word. -/
def bit (w : Word) (i : Nat) : Bool := w.toNat / 2 ^ i % 2 == 1

/-- The word with bits hi:lo replaced by the low bits of v. -/
def setFld (w : Word) (hi lo v : Nat) : Word :=
  BitVec.ofNat 32 (w.toNat - fld w hi lo * 2 ^ lo + v % 2 ^ (hi + 1 - lo) * 2 ^ lo)

/-- The word with bit i set or cleared. -/
def setBit (w : Word) (i : Nat) (b : Bool) : Word := setFld w i i (if b then 1 else 0)

/-- A Bool as a bit. -/
def b2n (b : Bool) : Nat := if b then 1 else 0

/-- The signed value of the low n bits of x (two's complement), n ≥ 1. -/
def wrapS (n : Nat) (x : Int) : Int :=
  let m := x.emod (2 ^ n)
  if m ≥ 2 ^ (n - 1) then m - 2 ^ n else m

/-- x saturated to n-bit signed. -/
def satS (n : Nat) (x : Int) : Int := clampI (-(2 ^ (n - 1))) (2 ^ (n - 1) - 1) x

/-- The 32-bit word of an integer, modulo 2^32. -/
def wordI (x : Int) : Word := BitVec.ofInt 32 x

/-- round_shift of R73: add half an LSB of the target and floor; s = 0 leaves the value. -/
def roundShift (x : Int) (s : Nat) : Int := if s = 0 then x else (x + 2 ^ (s - 1)) / 2 ^ s

/-- Round half up of a rational (R73). -/
def roundHalfUp (x : Rat) : Int := (x + 1 / 2).floor

/-- The value at a key, or what an unlisted key reads as. -/
def smGet {α : Type} (d : Nat → α) : List (Nat × α) → Nat → α
  | [], k => d k
  | (a, v) :: r, k => if a = k then v else smGet d r k

/-- Write a key in the canonical form: keys rising, no entry equal to what an unlisted key reads as. -/
def smSet {α : Type} [DecidableEq α] (d : Nat → α) : List (Nat × α) → Nat → α → List (Nat × α)
  | [], k, v => if v = d k then [] else [(k, v)]
  | (a, w) :: r, k, v =>
    if a = k then (if v = d k then r else (k, v) :: r)
    else if k < a then (if v = d k then (a, w) :: r else (k, v) :: (a, w) :: r)
    else (a, w) :: smSet d r k v

/-- The canonical form of a sparse map, with a lower bound on its keys. -/
def smWf {α : Type} [DecidableEq α] (d : Nat → α) : Nat → List (Nat × α) → Bool
  | _, [] => true
  | lo, (a, v) :: r => decide (lo ≤ a) && decide (v ≠ d a) && smWf d (a + 1) r

/-- A memory of 72-bit words, by word number; an unlisted word is 0. -/
abbrev Mem72 := List (Nat × W72)

/-- The value of a memory word. -/
def m72Get (m : Mem72) (k : Nat) : W72 := smGet (fun _ => 0) m k

/-- A memory with one word written. -/
def m72Set (m : Mem72) (k : Nat) (v : W72) : Mem72 := smSet (fun _ => 0) m k v

/-- A memory of bytes, by address (Host.Cell's form); an unlisted byte is 0. -/
abbrev Bytes := List (Nat × Byte)

/-- The value of a byte. -/
def byGet (m : Bytes) (k : Nat) : Byte := smGet (fun _ => 0) m k

/-- A memory with one byte written. -/
def bySet (m : Bytes) (k : Nat) (v : Byte) : Bytes := smSet (fun _ => 0) m k v

/-- n bytes from an address. -/
def byRead (m : Bytes) (k : Nat) : Nat → List Byte
  | 0 => []
  | n + 1 => byGet m k :: byRead m (k + 1) n

/-- Bytes written from an address on. -/
def byWrite (m : Bytes) (k : Nat) : List Byte → Bytes
  | [] => m
  | b :: r => byWrite (bySet m k b) (k + 1) r

/-- n bytes as a little-endian number. -/
def leNat : List Byte → Nat
  | [] => 0
  | b :: r => b.toNat + 256 * leNat r

/-- The n low bytes of a number, little-endian. -/
def natLe (x : Nat) : Nat → List Byte
  | 0 => []
  | n + 1 => BitVec.ofNat 8 x :: natLe (x / 256) n

/-- The n low bytes of an integer, little-endian two's complement. -/
def intLe (x : Int) (n : Nat) : List Byte := natLe (x.emod (2 ^ (8 * n))).toNat n

/-- Bits 71:36 or 35:0 of a word, as a signed 36-bit value (R81). -/
def hiHalf (w : W72) : Int := (BitVec.extractLsb' 36 36 w).toInt

/-- Bits 35:0 of a word as a signed 36-bit value (R81). -/
def loHalf (w : W72) : Int := (BitVec.extractLsb' 0 36 w).toInt

/-- Bits hi:lo of a 72-bit word, unsigned. -/
def wfld (w : W72) (hi lo : Nat) : Nat := w.toNat / 2 ^ lo % 2 ^ (hi + 1 - lo)

/-- A word from two signed halves (R81). -/
def halves (hi lo : Int) : W72 := BitVec.ofInt 36 hi ++ BitVec.ofInt 36 lo

/-- The word with one of its halves replaced: high (even element) or low (odd element). -/
def setHalf (w : W72) (high : Bool) (v : Int) : W72 := if high then halves v (loHalf w) else halves (hiHalf w) v

/-- Part p of a 72-bit word as a window carries it (R82); bits 31:8 of part 2 read as copies of bit 71. -/
def partOf (w : W72) (p : Nat) : Word :=
  if p = 0 then BitVec.extractLsb' 0 32 w
  else if p = 1 then BitVec.extractLsb' 32 32 w
  else (BitVec.extractLsb' 64 8 w).signExtend 32

/-- A 72-bit word from its three parts (R82). -/
def ofParts (p0 p1 p2 : Word) : W72 := BitVec.extractLsb' 0 8 p2 ++ p1 ++ p0

/-- Apply a function at an index of a vector. -/
def vmod {α : Type} {n : Nat} (v : Vector α n) (i : Fin n) (f : α → α) : Vector α n := v.set i (f v[i])

/-- The index of a number, modulo the size. -/
def fin (n : Nat) [NeZero n] (k : Nat) : Fin n := Fin.ofNat n k

/-- Signed distance of two 32-bit tick numbers. -/
def tickDist (a b : BitVec 32) : Int := (a - b).toInt

/-- Repeat a function on a state n times with the index rising from k. -/
def iterFrom {α : Type} (f : Nat → α → α) (k : Nat) : Nat → α → α
  | 0, a => a
  | n + 1, a => iterFrom f (k + 1) n (f k a)

/-- Repeat a function for the indices 0 to n − 1. -/
def iter {α : Type} (n : Nat) (f : Nat → α → α) (a : α) : α := iterFrom f 0 n a

end Sys2Proof.Machine
end

