-- ==== Sys2Proof/Machine/RegTable.lean ====
section
/-! DEFINITION. The register map: every register of the chapters' register tables by its offset in a zone's block or in
the host complex (Table 18-5), its access type (Table 18-4), the bits that a write sets, the bits that a write of 1
clears, and its reset value. A docstring names the spec file (by its number) and its table. -/

namespace Sys2Proof.Machine

/-- Access types of Table 18-4; mix for a register whose fields have different types. -/
inductive Acc where
  | rw | ro | w1c | wo | rc | rws | mix
  deriving DecidableEq, Repr

/-- One register: offset, access type, bits a write sets, bits a write of 1 clears, reset value. -/
structure RegSpec where
  off   : Nat
  acc   : Acc
  rw    : Nat
  w1c   : Nat
  reset : Nat
  deriving DecidableEq, Repr

namespace Reg

/-- ZCTL.CMD (01 Table 1-6). -/
def ZCTL_CMD : Nat := 0x20
/-- ZCTL.STATE (01 Table 1-7). -/
def ZCTL_STATE : Nat := 0x24
/-- ZCTL.CFG (01 Table 1-7). -/
def ZCTL_CFG : Nat := 0x28
/-- ZCTL.WDOG (01 Table 1-8). -/
def ZCTL_WDOG : Nat := 0x2C
/-- ZCTL.WDOG_KICK (01 Table 1-5). -/
def ZCTL_WDOG_KICK : Nat := 0x30
/-- ZCTL.REG_STAT (01 Table 1-5). -/
def ZCTL_REG_STAT : Nat := 0x34
/-- FENCE.EN (01 Table 1-5). -/
def FENCE_EN : Nat := 0x420
/-- FENCE.CAUSE (01 Table 1-5). -/
def FENCE_CAUSE : Nat := 0x424
/-- FENCE.PEND (01 Table 1-5). -/
def FENCE_PEND : Nat := 0x428
/-- FENCE.FIRST (01 Table 1-5). -/
def FENCE_FIRST : Nat := 0x42C
/-- FENCE.FIRST_FRAME (01 Table 1-5). -/
def FENCE_FIRST_FRAME : Nat := 0x430
/-- FENCE.ACT (01 Table 1-8). -/
def FENCE_ACT : Nat := 0x434
/-- FENCE.VERDICT (01 Table 1-8). -/
def FENCE_VERDICT : Nat := 0x438
/-- FENCE.STORM (01 Table 1-8). -/
def FENCE_STORM : Nat := 0x43C
/-- FENCE.COUNT (01 Table 1-5). -/
def FENCE_COUNT : Nat := 0x440
/-- PLL.CFG (02 Table 2-7). -/
def PLL_CFG : Nat := 0x820
/-- PLL.HOLD (02 Table 2-7). -/
def PLL_HOLD : Nat := 0x824
/-- PLL.STAT (02 Table 2-7). -/
def PLL_STAT : Nat := 0x828
/-- PLL.PHASE (02 Table 2-6). -/
def PLL_PHASE : Nat := 0x82C
/-- PLL.HOLD_TICKS (02 Table 2-6). -/
def PLL_HOLD_TICKS : Nat := 0x830
/-- PLL.FOFS (02 Table 2-6). -/
def PLL_FOFS : Nat := 0x834
/-- PLL.COUNT (02 Table 2-6). -/
def PLL_COUNT : Nat := 0x838
/-- TIME.CTL (02 Table 2-8). -/
def TIME_CTL : Nat := 0xC20
/-- TIME.FRAME_LO (02 Table 2-6). -/
def TIME_FRAME_LO : Nat := 0xC24
/-- TIME.FRAME_HI (02 Table 2-6). -/
def TIME_FRAME_HI : Nat := 0xC28
/-- TIME.SUBF (02 Table 2-6). -/
def TIME_SUBF : Nat := 0xC2C
/-- TIME.TICK (02 Table 2-6). -/
def TIME_TICK : Nat := 0xC30
/-- TIME.EPOCH_LO (02 Table 2-6). -/
def TIME_EPOCH_LO : Nat := 0xC34
/-- TIME.EPOCH_HI (02 Table 2-6). -/
def TIME_EPOCH_HI : Nat := 0xC38
/-- TIME.EPOCH_CTL (02 Table 2-8). -/
def TIME_EPOCH_CTL : Nat := 0xC3C
/-- TIME.STAT (02 Table 2-8). -/
def TIME_STAT : Nat := 0xC40
/-- TIME.EPOCH_DIFF (02 Table 2-6). -/
def TIME_EPOCH_DIFF : Nat := 0xC44
/-- TIME.SYNC_CNT (02 Table 2-6). -/
def TIME_SYNC_CNT : Nat := 0xC48
/-- POS.CFG (02 Table 2-9). -/
def POS_CFG : Nat := 0x1020
/-- POS.POS_LO (02 Table 2-6). -/
def POS_POS_LO : Nat := 0x1024
/-- POS.POS_HI (02 Table 2-6). -/
def POS_POS_HI : Nat := 0x1028
/-- POS.FRAC (02 Table 2-6). -/
def POS_FRAC : Nat := 0x102C
/-- POS.SPEED (02 Table 2-6). -/
def POS_SPEED : Nat := 0x1030
/-- POS.STAT (02 Table 2-9). -/
def POS_STAT : Nat := 0x1034
/-- POS.HSET_LO (02 Table 2-6). -/
def POS_HSET_LO : Nat := 0x1038
/-- POS.HSET_HI (02 Table 2-6). -/
def POS_HSET_HI : Nat := 0x103C
/-- POS.HSET_VEL (02 Table 2-6). -/
def POS_HSET_VEL : Nat := 0x1040
/-- POS.HCMD (02 Table 2-9). -/
def POS_HCMD : Nat := 0x1044
/-- POS.COUNT (02 Table 2-6). -/
def POS_COUNT : Nat := 0x1048
/-- TMRn.CTL (02 Table 2-10). -/
def TMR_CTL (n : Nat) : Nat := 0x1420 + 0x20 * n
/-- TMRn.NEXT (02 Table 2-6). -/
def TMR_NEXT (n : Nat) : Nat := 0x1424 + 0x20 * n
/-- TMRn.PERIOD (02 Table 2-6). -/
def TMR_PERIOD (n : Nat) : Nat := 0x1428 + 0x20 * n
/-- TMRn.COUNT (02 Table 2-6). -/
def TMR_COUNT (n : Nat) : Nat := 0x142C + 0x20 * n
/-- TMRn.STAT (02 Table 2-10). -/
def TMR_STAT (n : Nat) : Nat := 0x1430 + 0x20 * n
/-- SCHED.CFG (03 Table 3-9). -/
def SCHED_CFG : Nat := 0x1820
/-- SCHED.CMD (03 Table 3-9). -/
def SCHED_CMD : Nat := 0x1824
/-- SCHED.STAT (03 Table 3-9). -/
def SCHED_STAT : Nat := 0x1828
/-- SCHED.FILL (03 Table 3-8). -/
def SCHED_FILL : Nat := 0x182C
/-- SCHED.COUNT (03 Table 3-8). -/
def SCHED_COUNT : Nat := 0x1830
/-- SCHED.E0 (03 Table 3-4). -/
def SCHED_E0 : Nat := 0x1840
/-- SCHED.E1 (03 Table 3-4). -/
def SCHED_E1 : Nat := 0x1844
/-- SCHED.E2 (03 Table 3-4). -/
def SCHED_E2 : Nat := 0x1848
/-- SCHED.E3 (03 Table 3-4). -/
def SCHED_E3 : Nat := 0x184C
/-- SCHED.E4 (03 Table 3-4). -/
def SCHED_E4 : Nat := 0x1850
/-- SCHED.E5 (03 Table 3-4). -/
def SCHED_E5 : Nat := 0x1854
/-- SCHED.E6 (03 Table 3-4). -/
def SCHED_E6 : Nat := 0x1858
/-- SCHED.E7 (03 Table 3-4). -/
def SCHED_E7 : Nat := 0x185C
/-- SCHED.SWAPSET (03 Table 3-8). -/
def SCHED_SWAPSET : Nat := 0x1860
/-- SCHED.SWAPTGT (03 Table 3-8). -/
def SCHED_SWAPTGT : Nat := 0x1864
/-- SCHED.MODE (03 Table 3-8). -/
def SCHED_MODE : Nat := 0x1868
/-- SCHED.MREP (03 Table 3-8). -/
def SCHED_MREP : Nat := 0x186C
/-- SCHED.MREP_TGT (03 Table 3-8). -/
def SCHED_MREP_TGT : Nat := 0x1870
/-- VCTL.SREF (06 Table 6-12). -/
def VCTL_SREF : Nat := 0x1C20
/-- VCTL.DREF (06 Table 6-12). -/
def VCTL_DREF : Nat := 0x1C24
/-- VCTL.COUNT (06 Table 6-12). -/
def VCTL_COUNT : Nat := 0x1C28
/-- VCTL.VSEL (06 Table 6-12). -/
def VCTL_VSEL : Nat := 0x1C2C
/-- VCTL.VSTAT (06 Table 6-13). -/
def VCTL_VSTAT : Nat := 0x1C30
/-- VCTL.ACFG (07 Table 7-8). -/
def VCTL_ACFG : Nat := 0x1C34
/-- VCTL.RES_LO (07 Table 7-8). -/
def VCTL_RES_LO : Nat := 0x1C38
/-- VCTL.RES_HI (07 Table 7-8). -/
def VCTL_RES_HI : Nat := 0x1C3C
/-- VCTL.OCC_LO (07 Table 7-7). -/
def VCTL_OCC_LO : Nat := 0x1C40
/-- VCTL.OCC_HI (07 Table 7-7). -/
def VCTL_OCC_HI : Nat := 0x1C44
/-- VCTL.ACOUNT (07 Table 7-7). -/
def VCTL_ACOUNT : Nat := 0x1C48
/-- VCTL.VINFO (07 Table 7-8). -/
def VCTL_VINFO : Nat := 0x1C4C
/-- VCTL.VAGE (07 Table 7-7). -/
def VCTL_VAGE : Nat := 0x1C50
/-- VCTL.DUCK_CFG (07 Table 7-8). -/
def VCTL_DUCK_CFG : Nat := 0x1C54
/-- VCTL.DUCK_TAG (07 Table 7-8). -/
def VCTL_DUCK_TAG : Nat := 0x1C58
/-- VCTL.DUCK_STAT (07 Table 7-8). -/
def VCTL_DUCK_STAT : Nat := 0x1C5C
/-- VWIN.ADDR (06 Table 6-13). -/
def VWIN_ADDR : Nat := 0x2020
/-- VWIN.DATA (06 Table 6-12). -/
def VWIN_DATA : Nat := 0x2024
/-- ROUTE.CFG (09 Table 9-10). -/
def ROUTE_CFG : Nat := 0x2420
/-- ROUTE.STAT (09 Table 9-10). -/
def ROUTE_STAT : Nat := 0x2424
/-- ROUTE.VSTAT (09 Table 9-10). -/
def ROUTE_VSTAT : Nat := 0x2428
/-- ROUTE.CMD (09 Table 9-9). -/
def ROUTE_CMD : Nat := 0x242C
/-- ROUTE.GREQ_HI (09 Table 9-9). -/
def ROUTE_GREQ_HI : Nat := 0x2430
/-- ROUTE.GREQ_LO (09 Table 9-9). -/
def ROUTE_GREQ_LO : Nat := 0x2434
/-- ROUTE.GSEL (09 Table 9-9). -/
def ROUTE_GSEL : Nat := 0x2438
/-- ROUTE.GCUR_HI (09 Table 9-9). -/
def ROUTE_GCUR_HI : Nat := 0x243C
/-- ROUTE.GCUR_LO (09 Table 9-9). -/
def ROUTE_GCUR_LO : Nat := 0x2440
/-- ROUTE.COUNT (09 Table 9-9). -/
def ROUTE_COUNT : Nat := 0x2444
/-- ROUTE.LAT (09 Table 9-10). -/
def ROUTE_LAT (n : Nat) : Nat := 0x2480 + 0x4 * n
/-- RWIN.ADDR (09 Table 9-9). -/
def RWIN_ADDR : Nat := 0x2820
/-- RWIN.DATA (09 Table 9-9). -/
def RWIN_DATA : Nat := 0x2824
/-- LIM.CFG (09 Table 9-10). -/
def LIM_CFG : Nat := 0x2C20
/-- LIM.STAT (09 Table 9-10). -/
def LIM_STAT : Nat := 0x2C24
/-- LIM.PEAK (09 Table 9-9). -/
def LIM_PEAK : Nat := 0x2C28
/-- LIM.COUNT (09 Table 9-9). -/
def LIM_COUNT : Nat := 0x2C2C
/-- STONE.CFG (09 Table 9-11). -/
def STONE_CFG : Nat := 0x7020
/-- STONE.STAT (09 Table 9-11). -/
def STONE_STAT : Nat := 0x7024
/-- DSP.CTL (10 Table 10-13). -/
def DSP_CTL : Nat := 0x3020
/-- DSP.CFG (10 Table 10-13). -/
def DSP_CFG : Nat := 0x3024
/-- DSP.STAT (10 Table 10-13). -/
def DSP_STAT : Nat := 0x3028
/-- DSP.TRAP (10 Table 10-12). -/
def DSP_TRAP : Nat := 0x302C
/-- DSP.TRAP_FRAME (10 Table 10-12). -/
def DSP_TRAP_FRAME : Nat := 0x3030
/-- DSP.LOAD (10 Table 10-12). -/
def DSP_LOAD : Nat := 0x3034
/-- DSP.PEAK (10 Table 10-12). -/
def DSP_PEAK : Nat := 0x3038
/-- DSP.COUNT (10 Table 10-12). -/
def DSP_COUNT : Nat := 0x303C
/-- DSP.RCOUNT (10 Table 10-12). -/
def DSP_RCOUNT : Nat := 0x3040
/-- DWIN.ADDR (10 Table 10-13). -/
def DWIN_ADDR : Nat := 0x3420
/-- DWIN.DATA (10 Table 10-12). -/
def DWIN_DATA : Nat := 0x3424
/-- DECn.MA12 (11 Table 11-5). -/
def DEC_MA12 (n : Nat) : Nat := 0x3820 + 0x400 * n
/-- DECn.MA3 (11 Table 11-5). -/
def DEC_MA3 (n : Nat) : Nat := 0x3824 + 0x400 * n
/-- DECn.FIR (11 Table 11-5). -/
def DEC_FIR (n : Nat) : Nat := 0x3828 + 0x400 * n
/-- DECn.FREQ (11 Table 11-5). -/
def DEC_FREQ (n : Nat) : Nat := 0x382C + 0x400 * n
/-- DECn.CADDR (11 Table 11-5). -/
def DEC_CADDR (n : Nat) : Nat := 0x3830 + 0x400 * n
/-- DECn.CDATA_HI (11 Table 11-4). -/
def DEC_CDATA_HI (n : Nat) : Nat := 0x3834 + 0x400 * n
/-- DECn.CDATA_LO (11 Table 11-4). -/
def DEC_CDATA_LO (n : Nat) : Nat := 0x3838 + 0x400 * n
/-- DECn.STAT (11 Table 11-5). -/
def DEC_STAT (n : Nat) : Nat := 0x383C + 0x400 * n
/-- DECn.CMD (11 Table 11-4). -/
def DEC_CMD (n : Nat) : Nat := 0x3840 + 0x400 * n
/-- DECn.COUNT (11 Table 11-4). -/
def DEC_COUNT (n : Nat) : Nat := 0x3844 + 0x400 * n
/-- AEC.CFG (11 Table 11-7). -/
def AEC_CFG : Nat := 0x4820
/-- AEC.ADAPT (11 Table 11-7). -/
def AEC_ADAPT : Nat := 0x4824
/-- AEC.DIV (11 Table 11-7). -/
def AEC_DIV : Nat := 0x4828
/-- AEC.CMD (11 Table 11-6). -/
def AEC_CMD : Nat := 0x482C
/-- AEC.STAT (11 Table 11-7). -/
def AEC_STAT : Nat := 0x4830
/-- AEC.ERLE (11 Table 11-6). -/
def AEC_ERLE : Nat := 0x4834
/-- AEC.COUNT (11 Table 11-6). -/
def AEC_COUNT : Nat := 0x4838
/-- AEC.AMB (11 Table 11-7). -/
def AEC_AMB (n : Nat) : Nat := 0x4840 + 0x4 * n
/-- AEC.REF (11 Table 11-7). -/
def AEC_REF (n : Nat) : Nat := 0x4860 + 0x4 * n
/-- AEC.MIC (11 Table 11-7). -/
def AEC_MIC (n : Nat) : Nat := 0x4880 + 0x4 * n
/-- AEC.BTICK (11 Table 11-6). -/
def AEC_BTICK : Nat := 0x489C
/-- NAL.CFG (12 Table 12-5). -/
def NAL_CFG : Nat := 0x4C20
/-- NAL.BAND (12 Table 12-5). -/
def NAL_BAND (n : Nat) : Nat := 0x4C24 + 0x4 * n
/-- NAL.STALE (12 Table 12-4). -/
def NAL_STALE : Nat := 0x4C40
/-- NAL.STAT (12 Table 12-5). -/
def NAL_STAT (n : Nat) : Nat := 0x4C44 + 0x4 * n
/-- LINE.VSCALE (12 Table 12-4). -/
def LINE_VSCALE : Nat := 0x5020
/-- LINE.ISCALE (12 Table 12-4). -/
def LINE_ISCALE : Nat := 0x5024
/-- LINE.CMD (12 Table 12-5). -/
def LINE_CMD : Nat := 0x5028
/-- LINE.STAT (12 Table 12-5). -/
def LINE_STAT : Nat := 0x502C
/-- LINE.ZMAG (12 Table 12-4). -/
def LINE_ZMAG : Nat := 0x5030
/-- LINE.ZPH (12 Table 12-4). -/
def LINE_ZPH : Nat := 0x5034
/-- LINE.AMPL (12 Table 12-4). -/
def LINE_AMPL : Nat := 0x5038
/-- LINE.ITICK (12 Table 12-4). -/
def LINE_ITICK : Nat := 0x503C
/-- LINE.BMAG (12 Table 12-4). -/
def LINE_BMAG : Nat := 0x5040
/-- LINE.BPH (12 Table 12-4). -/
def LINE_BPH : Nat := 0x5044
/-- LINE.BFREQ (12 Table 12-4). -/
def LINE_BFREQ : Nat := 0x5048
/-- LINE.BTICK (12 Table 12-4). -/
def LINE_BTICK : Nat := 0x504C
/-- LINE.COUNT (12 Table 12-4). -/
def LINE_COUNT : Nat := 0x5050
/-- GOV.LCFG (12 Table 12-5). -/
def GOV_LCFG : Nat := 0x5420
/-- GOV.ZLO (12 Table 12-4). -/
def GOV_ZLO : Nat := 0x5424
/-- GOV.ZHI (12 Table 12-4). -/
def GOV_ZHI : Nat := 0x5428
/-- GOV.AMP (12 Table 12-5). -/
def GOV_AMP : Nat := 0x542C
/-- GOV.HOLD (12 Table 12-5). -/
def GOV_HOLD : Nat := 0x5430
/-- GOV.HSTAT (12 Table 12-4). -/
def GOV_HSTAT : Nat := 0x5434
/-- DAC.SPAN_CTL (13 Table 13-9). -/
def DAC_SPAN_CTL : Nat := 0x5820
/-- DAC.CTL (13 Table 13-9). -/
def DAC_CTL : Nat := 0x5824
/-- DAC.DGL (13 Table 13-9). -/
def DAC_DGL : Nat := 0x5828
/-- DAC.CLR (13 Table 13-8). -/
def DAC_CLR : Nat := 0x582C
/-- DAC.STAT (13 Table 13-9). -/
def DAC_STAT : Nat := 0x5830
/-- DAC.COUNT (13 Table 13-8). -/
def DAC_COUNT : Nat := 0x5834
/-- GEN.PCFG (13 Table 13-9). -/
def GEN_PCFG : Nat := 0x5C20
/-- GEN.FCFG (13 Table 13-9). -/
def GEN_FCFG : Nat := 0x5C24
/-- GEN.FCAD (13 Table 13-8). -/
def GEN_FCAD : Nat := 0x5C28
/-- GEN.TCFG (13 Table 13-9). -/
def GEN_TCFG : Nat := 0x5C2C
/-- GEN.STAT (13 Table 13-9). -/
def GEN_STAT : Nat := 0x5C30
/-- TDM.CFG (13 Table 13-9). -/
def TDM_CFG : Nat := 0x6020
/-- TDM.STAT (13 Table 13-8). -/
def TDM_STAT : Nat := 0x6024
/-- TDM.COUNT (13 Table 13-8). -/
def TDM_COUNT : Nat := 0x6028
/-- ZCRC.CFG (17 Table 17-4). -/
def ZCRC_CFG : Nat := 0x6420
/-- ZCRC.POLY (17 Table 17-4). -/
def ZCRC_POLY : Nat := 0x6424
/-- ZCRC.INIT (17 Table 17-4). -/
def ZCRC_INIT : Nat := 0x6428
/-- ZCRC.XOROUT (17 Table 17-4). -/
def ZCRC_XOROUT : Nat := 0x642C
/-- ZCRC.CMD (17 Table 17-4). -/
def ZCRC_CMD : Nat := 0x6430
/-- ZCRC.DATA8 (17 Table 17-4). -/
def ZCRC_DATA8 : Nat := 0x6434
/-- ZCRC.DATA16 (17 Table 17-4). -/
def ZCRC_DATA16 : Nat := 0x6438
/-- ZCRC.DATA32 (17 Table 17-4). -/
def ZCRC_DATA32 : Nat := 0x643C
/-- ZCRC.CUR (17 Table 17-4). -/
def ZCRC_CUR : Nat := 0x6440
/-- ZCRC.RES (17 Table 17-4). -/
def ZCRC_RES : Nat := 0x6444
/-- ZCRC.STAT (17 Table 17-4). -/
def ZCRC_STAT : Nat := 0x6448
/-- MEM.BT_CFG (17 Table 17-4). -/
def MEM_BT_CFG : Nat := 0x6820
/-- MEM.BT_STAT (17 Table 17-4). -/
def MEM_BT_STAT : Nat := 0x6824
/-- MEM.BTCNT (17 Table 17-4). -/
def MEM_BTCNT : Nat := 0x6828
/-- MEM.BTFAIL (17 Table 17-4). -/
def MEM_BTFAIL : Nat := 0x682C
/-- MEM.ECCSEL (17 Table 17-4). -/
def MEM_ECCSEL : Nat := 0x6830
/-- MEM.ECCCNT (17 Table 17-4). -/
def MEM_ECCCNT : Nat := 0x6834
/-- MEM.UADDR (17 Table 17-4). -/
def MEM_UADDR : Nat := 0x6838
/-- MEM.CONF (17 Table 17-4). -/
def MEM_CONF (n : Nat) : Nat := 0x6840 + 0x4 * n
/-- MEM.WADDR (17 Table 17-5). -/
def MEM_WADDR : Nat := 0x6860
/-- MEM.WDATA (17 Table 17-4). -/
def MEM_WDATA : Nat := 0x6864
/-- MSG.CFG (15 Table 15-8). -/
def MSG_CFG : Nat := 0x6C20
/-- MSG.STAT (15 Table 15-7). -/
def MSG_STAT : Nat := 0x6C24
/-- MSG.DROPPED (15 Table 15-7). -/
def MSG_DROPPED : Nat := 0x6C28
/-- MSG.NSEQ (15 Table 15-7). -/
def MSG_NSEQ : Nat := 0x6C2C
/-- DEV.STAT (19 Table 19-10). -/
def DEV_STAT : Nat := 0x20
/-- DEV.BOOT (19 Table 19-10). -/
def DEV_BOOT : Nat := 0x24
/-- DEV.SLEEP (19 Table 19-10). -/
def DEV_SLEEP : Nat := 0x28
/-- DEV.SLEEP_TGT (19 Table 19-9). -/
def DEV_SLEEP_TGT : Nat := 0x2C
/-- DEV.WAKE (19 Table 19-10). -/
def DEV_WAKE : Nat := 0x30
/-- DEV.MODE_CMD (03 Table 3-10). -/
def DEV_MODE_CMD : Nat := 0x100
/-- DEV.MODE_TGT (03 Table 3-8). -/
def DEV_MODE_TGT : Nat := 0x104
/-- DEV.MODE_STATE (03 Table 3-10). -/
def DEV_MODE_STATE : Nat := 0x108
/-- DEV.MODE_OK (03 Table 3-8). -/
def DEV_MODE_OK : Nat := 0x10C
/-- CLK.STAT (19 Table 19-10). -/
def CLK_STAT : Nat := 0x420
/-- CLK.COUNT (19 Table 19-9). -/
def CLK_COUNT : Nat := 0x424
/-- LINK.CFG (14 Table 14-8). -/
def LINK_CFG : Nat := 0x820
/-- LINK.RATE (14 Table 14-8). -/
def LINK_RATE : Nat := 0x824
/-- LINK.STAT (14 Table 14-8). -/
def LINK_STAT : Nat := 0x828
/-- LINK.COUNT (14 Table 14-7). -/
def LINK_COUNT : Nat := 0x82C
/-- LINK.COUNT2 (14 Table 14-7). -/
def LINK_COUNT2 : Nat := 0x830
/-- LINK.SILENCE (14 Table 14-7). -/
def LINK_SILENCE : Nat := 0x834
/-- TRUSS.CFG (14 Table 14-8). -/
def TRUSS_CFG : Nat := 0xC20
/-- TRUSS.STAT (14 Table 14-8). -/
def TRUSS_STAT : Nat := 0xC24
/-- TRUSS.COUNT (14 Table 14-7). -/
def TRUSS_COUNT : Nat := 0xC28
/-- TRUSS.SG_LO (14 Table 14-7). -/
def TRUSS_SG_LO : Nat := 0xC2C
/-- TRUSS.SG_HI (14 Table 14-7). -/
def TRUSS_SG_HI : Nat := 0xC30
/-- TRUSS.SG_CTL (14 Table 14-8). -/
def TRUSS_SG_CTL : Nat := 0xC34
/-- TRUSS.SG_STAT (14 Table 14-8). -/
def TRUSS_SG_STAT : Nat := 0xC38
/-- MSGQ.CFG (15 Table 15-8). -/
def MSGQ_CFG : Nat := 0x1020
/-- MSGQ.STAT (15 Table 15-8). -/
def MSGQ_STAT : Nat := 0x1024
/-- MSGQ.DROPPED (15 Table 15-7). -/
def MSGQ_DROPPED : Nat := 0x1028
/-- MSGQ.NSEQ (15 Table 15-7). -/
def MSGQ_NSEQ : Nat := 0x102C
/-- CONT.CFG (08 Table 8-9). -/
def CONT_CFG : Nat := 0x1420
/-- CONT.FCMD (08 Table 8-8). -/
def CONT_FCMD : Nat := 0x1424
/-- CONT.BASE (08 Table 8-8). -/
def CONT_BASE : Nat := 0x1428
/-- CONT.FSIZE (08 Table 8-8). -/
def CONT_FSIZE : Nat := 0x142C
/-- CONT.CMD (08 Table 8-9). -/
def CONT_CMD : Nat := 0x1430
/-- CONT.STAT (08 Table 8-9). -/
def CONT_STAT : Nat := 0x1434
/-- CONT.NB (08 Table 8-8). -/
def CONT_NB : Nat := 0x1438
/-- CONT.SERIAL (08 Table 8-8). -/
def CONT_SERIAL : Nat := 0x143C
/-- CONT.LOAD_ITEM (08 Table 8-8). -/
def CONT_LOAD_ITEM : Nat := 0x1440
/-- CONT.LOAD_DST (08 Table 8-9). -/
def CONT_LOAD_DST : Nat := 0x1444
/-- CONT.XCMD (08 Table 8-8). -/
def CONT_XCMD : Nat := 0x1448
/-- CONT.XADDR (08 Table 8-8). -/
def CONT_XADDR : Nat := 0x144C
/-- CONT.ZCFG (08 Table 8-9). -/
def CONT_ZCFG (n : Nat) : Nat := 0x1480 + 0x10 * n
/-- CONT.ZSTAT (08 Table 8-8). -/
def CONT_ZSTAT (n : Nat) : Nat := 0x1484 + 0x10 * n
/-- CONT.ZCOUNT (08 Table 8-8). -/
def CONT_ZCOUNT (n : Nat) : Nat := 0x1488 + 0x10 * n
/-- CONT.ZMISS (08 Table 8-8). -/
def CONT_ZMISS (n : Nat) : Nat := 0x148C + 0x10 * n
/-- NVM.ADDR (17 Table 17-4). -/
def NVM_ADDR : Nat := 0x1820
/-- NVM.DATA (17 Table 17-4). -/
def NVM_DATA : Nat := 0x1824
/-- NVM.STAT (17 Table 17-4). -/
def NVM_STAT : Nat := 0x1828
/-- NVM.FLOG (17 Table 17-4). -/
def NVM_FLOG : Nat := 0x182C
/-- HCRC.CFG (17 Table 17-4). -/
def HCRC_CFG : Nat := 0x1C20
/-- HCRC.POLY (17 Table 17-4). -/
def HCRC_POLY : Nat := 0x1C24
/-- HCRC.INIT (17 Table 17-4). -/
def HCRC_INIT : Nat := 0x1C28
/-- HCRC.XOROUT (17 Table 17-4). -/
def HCRC_XOROUT : Nat := 0x1C2C
/-- HCRC.CMD (17 Table 17-4). -/
def HCRC_CMD : Nat := 0x1C30
/-- HCRC.DATA8 (17 Table 17-4). -/
def HCRC_DATA8 : Nat := 0x1C34
/-- HCRC.DATA16 (17 Table 17-4). -/
def HCRC_DATA16 : Nat := 0x1C38
/-- HCRC.DATA32 (17 Table 17-4). -/
def HCRC_DATA32 : Nat := 0x1C3C
/-- HCRC.CUR (17 Table 17-4). -/
def HCRC_CUR : Nat := 0x1C40
/-- HCRC.RES (17 Table 17-4). -/
def HCRC_RES : Nat := 0x1C44
/-- HCRC.STAT (17 Table 17-4). -/
def HCRC_STAT : Nat := 0x1C48
/-- HCRC.LAST_RX (17 Table 17-4). -/
def HCRC_LAST_RX : Nat := 0x1C80
/-- HCRC.LAST_TX (17 Table 17-4). -/
def HCRC_LAST_TX : Nat := 0x1C84
/-- SEC.CFG (16 Table 16-12). -/
def SEC_CFG : Nat := 0x2020
/-- SEC.STAT (16 Table 16-12). -/
def SEC_STAT : Nat := 0x2024
/-- SEC.CMD (16 Table 16-12). -/
def SEC_CMD : Nat := 0x2028
/-- SEC.ARG (16 Table 16-11). -/
def SEC_ARG : Nat := 0x202C
/-- SEC.RES (16 Table 16-11). -/
def SEC_RES : Nat := 0x2030
/-- SEC.SID (16 Table 16-11). -/
def SEC_SID : Nat := 0x2034
/-- SEC.HFLOOR (16 Table 16-11). -/
def SEC_HFLOOR : Nat := 0x2038
/-- SEC.DSEQ (16 Table 16-11). -/
def SEC_DSEQ : Nat := 0x203C
/-- SEC.FLOOR (16 Table 16-11). -/
def SEC_FLOOR : Nat := 0x2040
/-- SEC.CFLOOR (16 Table 16-11). -/
def SEC_CFLOOR : Nat := 0x2044
/-- SEC.MAXWIN (16 Table 16-11). -/
def SEC_MAXWIN : Nat := 0x2048
/-- SEC.COUNT (16 Table 16-11). -/
def SEC_COUNT : Nat := 0x204C
/-- SEC.STOK (16 Table 16-11). -/
def SEC_STOK : Nat := 0x2050
/-- SEC.P0LAT (16 Table 16-11). -/
def SEC_P0LAT : Nat := 0x2054
/-- LCS.STAT (16 Table 16-12). -/
def LCS_STAT : Nat := 0x2420
/-- LCS.CMD (16 Table 16-12). -/
def LCS_CMD : Nat := 0x2424
/-- LCS.CHAL (16 Table 16-11). -/
def LCS_CHAL (n : Nat) : Nat := 0x2428 + 0x4 * n
/-- LCS.RES (16 Table 16-11). -/
def LCS_RES : Nat := 0x2438
/-- LCS.TCFG (16 Table 16-11). -/
def LCS_TCFG : Nat := 0x243C

end Reg

/-- Registers of page ZCTL. -/
def regsZCTL : List RegSpec :=
  [⟨0x20, .wo, 0x0, 0x0, 0x0⟩,
   ⟨0x24, .ro, 0x0, 0x0, 0x0⟩,
   ⟨0x28, .rw, 0xFFFF000D, 0x0, 0x7D00008⟩,
   ⟨0x2C, .rw, 0x1FFFF, 0x0, 0x0⟩,
   ⟨0x30, .wo, 0x0, 0x0, 0x0⟩,
   ⟨0x34, .ro, 0x0, 0x0, 0x0⟩]

/-- Registers of page FENCE. -/
def regsFENCE : List RegSpec :=
  [⟨0x420, .mix, 0x1D, 0x0, 0x3FF⟩,
   ⟨0x424, .ro, 0x0, 0x0, 0x0⟩,
   ⟨0x428, .w1c, 0x0, 0x3FF, 0x0⟩,
   ⟨0x42C, .ro, 0x0, 0x0, 0x0⟩,
   ⟨0x430, .ro, 0x0, 0x0, 0x0⟩,
   ⟨0x434, .rw, 0x7, 0x0, 0x0⟩,
   ⟨0x438, .rw, 0x3FF, 0x0, 0x44⟩,
   ⟨0x43C, .mix, 0xFFFF, 0x0, 0x6008⟩,
   ⟨0x440, .rc, 0x0, 0x0, 0x0⟩]

/-- Registers of page PLL. -/
def regsPLL : List RegSpec :=
  [⟨0x820, .rw, 0xFFFF0003, 0x0, 0x640A0000⟩,
   ⟨0x824, .rw, 0xFFFFFF00, 0x0, 0x13883200⟩,
   ⟨0x828, .ro, 0x0, 0x0, 0x0⟩,
   ⟨0x82C, .ro, 0x0, 0x0, 0x0⟩,
   ⟨0x830, .ro, 0x0, 0x0, 0x0⟩,
   ⟨0x834, .ro, 0x0, 0x0, 0x0⟩,
   ⟨0x838, .rc, 0x0, 0x0, 0x0⟩]

/-- Registers of page TIME. -/
def regsTIME : List RegSpec :=
  [⟨0xC20, .rw, 0x3, 0x0, 0x0⟩,
   ⟨0xC24, .ro, 0x0, 0x0, 0x0⟩,
   ⟨0xC28, .ro, 0x0, 0x0, 0x0⟩,
   ⟨0xC2C, .ro, 0x0, 0x0, 0x0⟩,
   ⟨0xC30, .ro, 0x0, 0x0, 0x0⟩,
   ⟨0xC34, .rw, 0xFFFFFFFF, 0x0, 0x0⟩,
   ⟨0xC38, .rw, 0xFFFF, 0x0, 0x0⟩,
   ⟨0xC3C, .rw, 0x3, 0x0, 0x0⟩,
   ⟨0xC40, .mix, 0x0, 0xC, 0x1⟩,
   ⟨0xC44, .ro, 0x0, 0x0, 0x0⟩,
   ⟨0xC48, .rc, 0x0, 0x0, 0x0⟩]

/-- Registers of page POS. -/
def regsPOS : List RegSpec :=
  [⟨0x1020, .rw, 0xFFFFFF07, 0x0, 0x1F42703⟩,
   ⟨0x1024, .ro, 0x0, 0x0, 0x0⟩,
   ⟨0x1028, .ro, 0x0, 0x0, 0x0⟩,
   ⟨0x102C, .ro, 0x0, 0x0, 0x0⟩,
   ⟨0x1030, .ro, 0x0, 0x0, 0x0⟩,
   ⟨0x1034, .mix, 0x0, 0x1, 0x2⟩,
   ⟨0x1038, .rw, 0xFFFFFFFF, 0x0, 0x0⟩,
   ⟨0x103C, .rw, 0xFFFF, 0x0, 0x0⟩,
   ⟨0x1040, .rw, 0xFFFFFFFF, 0x0, 0x0⟩,
   ⟨0x1044, .wo, 0x0, 0x0, 0x0⟩,
   ⟨0x1048, .rc, 0x0, 0x0, 0x0⟩]

/-- Registers of page TMR. -/
def regsTMR : List RegSpec :=
  [⟨0x1420, .mix, 0x1F, 0x0, 0x0⟩,
   ⟨0x1424, .rw, 0xFFFFFFFF, 0x0, 0x0⟩,
   ⟨0x1428, .ro, 0x0, 0x0, 0x0⟩,
   ⟨0x142C, .ro, 0x0, 0x0, 0x0⟩,
   ⟨0x1430, .mix, 0x0, 0x3, 0x0⟩,
   ⟨0x1440, .mix, 0x1F, 0x0, 0x0⟩,
   ⟨0x1444, .rw, 0xFFFFFFFF, 0x0, 0x0⟩,
   ⟨0x1448, .ro, 0x0, 0x0, 0x0⟩,
   ⟨0x144C, .ro, 0x0, 0x0, 0x0⟩,
   ⟨0x1450, .mix, 0x0, 0x3, 0x0⟩,
   ⟨0x1460, .mix, 0x1F, 0x0, 0x0⟩,
   ⟨0x1464, .rw, 0xFFFFFFFF, 0x0, 0x0⟩,
   ⟨0x1468, .ro, 0x0, 0x0, 0x0⟩,
   ⟨0x146C, .ro, 0x0, 0x0, 0x0⟩,
   ⟨0x1470, .mix, 0x0, 0x3, 0x0⟩,
   ⟨0x1480, .mix, 0x1F, 0x0, 0x0⟩,
   ⟨0x1484, .rw, 0xFFFFFFFF, 0x0, 0x0⟩,
   ⟨0x1488, .ro, 0x0, 0x0, 0x0⟩,
   ⟨0x148C, .ro, 0x0, 0x0, 0x0⟩,
   ⟨0x1490, .mix, 0x0, 0x3, 0x0⟩]

/-- Registers of page SCHED. -/
def regsSCHED : List RegSpec :=
  [⟨0x1820, .rw, 0xFFFF00, 0x0, 0xA7D00⟩,
   ⟨0x1824, .wo, 0x0, 0x0, 0x0⟩,
   ⟨0x1828, .mix, 0x0, 0x2, 0x0⟩,
   ⟨0x182C, .ro, 0x0, 0x0, 0x0⟩,
   ⟨0x1830, .rc, 0x0, 0x0, 0x0⟩,
   ⟨0x1840, .rw, 0xFFFFFFFF, 0x0, 0x0⟩,
   ⟨0x1844, .rw, 0xFFFFFFFF, 0x0, 0x0⟩,
   ⟨0x1848, .rw, 0xFFFFFFFF, 0x0, 0x0⟩,
   ⟨0x184C, .rw, 0xFFFFFFFF, 0x0, 0x0⟩,
   ⟨0x1850, .rw, 0xFFFFFFFF, 0x0, 0x0⟩,
   ⟨0x1854, .rw, 0xFFFFFFFF, 0x0, 0x0⟩,
   ⟨0x1858, .rw, 0xFFFFFFFF, 0x0, 0x0⟩,
   ⟨0x185C, .rw, 0xFFFFFFFF, 0x0, 0x0⟩,
   ⟨0x1860, .mix, 0x4000003F, 0x0, 0x0⟩,
   ⟨0x1864, .rw, 0xFFFFFFFF, 0x0, 0x0⟩,
   ⟨0x1868, .ro, 0x0, 0x0, 0x0⟩,
   ⟨0x186C, .ro, 0x0, 0x0, 0x0⟩,
   ⟨0x1870, .ro, 0x0, 0x0, 0x0⟩]

/-- Registers of page VCTL. -/
def regsVCTL : List RegSpec :=
  [⟨0x1C20, .rw, 0xFFFFFFFF, 0x0, 0x100000⟩,
   ⟨0x1C24, .rw, 0xFFFFFFFF, 0x0, 0x2710⟩,
   ⟨0x1C28, .rc, 0x0, 0x0, 0x0⟩,
   ⟨0x1C2C, .rw, 0x7F, 0x0, 0x0⟩,
   ⟨0x1C30, .ro, 0x0, 0x0, 0x0⟩,
   ⟨0x1C34, .rw, 0x303FF, 0x0, 0x100C0⟩,
   ⟨0x1C38, .rw, 0xFFFFFFFF, 0x0, 0x408⟩,
   ⟨0x1C3C, .rw, 0xFFFF, 0x0, 0x0⟩,
   ⟨0x1C40, .ro, 0x0, 0x0, 0x0⟩,
   ⟨0x1C44, .ro, 0x0, 0x0, 0x0⟩,
   ⟨0x1C48, .rc, 0x0, 0x0, 0x0⟩,
   ⟨0x1C4C, .ro, 0x0, 0x0, 0x0⟩,
   ⟨0x1C50, .ro, 0x0, 0x0, 0x0⟩,
   ⟨0x1C54, .rw, 0x3FFFFFFF, 0x0, 0x7501496⟩,
   ⟨0x1C58, .rw, 0xFFFFFFFF, 0x0, 0x0⟩,
   ⟨0x1C5C, .ro, 0x0, 0x0, 0x0⟩]

/-- Registers of page VWIN. -/
def regsVWIN : List RegSpec :=
  [⟨0x2020, .rw, 0x33FFF, 0x0, 0x20000⟩,
   ⟨0x2024, .rw, 0x0, 0x0, 0x0⟩]

/-- Registers of page ROUTE. -/
def regsROUTE : List RegSpec :=
  [⟨0x2420, .rw, 0x83FF1FFF, 0x0, 0x6001E0⟩,
   ⟨0x2424, .ro, 0x0, 0x0, 0x0⟩,
   ⟨0x2428, .ro, 0x0, 0x0, 0x0⟩,
   ⟨0x242C, .wo, 0x0, 0x0, 0x0⟩,
   ⟨0x2430, .rw, 0xF0FFF, 0x0, 0x0⟩,
   ⟨0x2434, .wo, 0x0, 0x0, 0x0⟩,
   ⟨0x2438, .rw, 0x3F, 0x0, 0x0⟩,
   ⟨0x243C, .ro, 0x0, 0x0, 0x0⟩,
   ⟨0x2440, .ro, 0x0, 0x0, 0x0⟩,
   ⟨0x2444, .rc, 0x0, 0x0, 0x0⟩] ++
  (List.range 32).map (fun i => ⟨0x2480 + 0x4 * i, .ro, 0x0, 0x0, 0x0⟩)

/-- Registers of page RWIN. -/
def regsRWIN : List RegSpec :=
  [⟨0x2820, .rw, 0x33FFF, 0x0, 0x20000⟩,
   ⟨0x2824, .rw, 0x0, 0x0, 0x0⟩]

/-- Registers of page LIM. -/
def regsLIM : List RegSpec :=
  [⟨0x2C20, .rws, 0x7FF7F3F, 0x0, 0xC80030⟩,
   ⟨0x2C24, .ro, 0x0, 0x0, 0x0⟩,
   ⟨0x2C28, .rc, 0x0, 0x0, 0x0⟩,
   ⟨0x2C2C, .rc, 0x0, 0x0, 0x0⟩]

/-- Registers of page STONE. -/
def regsSTONE : List RegSpec :=
  [⟨0x7020, .rw, 0xFF03, 0x0, 0x0⟩,
   ⟨0x7024, .ro, 0x0, 0x0, 0x0⟩]

/-- Registers of page DSP. -/
def regsDSP : List RegSpec :=
  [⟨0x3020, .rw, 0x7, 0x0, 0x0⟩,
   ⟨0x3024, .rw, 0x1FFF, 0x0, 0x1DF0⟩,
   ⟨0x3028, .ro, 0x0, 0x0, 0x0⟩,
   ⟨0x302C, .ro, 0x0, 0x0, 0x0⟩,
   ⟨0x3030, .ro, 0x0, 0x0, 0x0⟩,
   ⟨0x3034, .ro, 0x0, 0x0, 0x0⟩,
   ⟨0x3038, .rc, 0x0, 0x0, 0x0⟩,
   ⟨0x303C, .rc, 0x0, 0x0, 0x0⟩,
   ⟨0x3040, .rc, 0x0, 0x0, 0x0⟩]

/-- Registers of page DWIN. -/
def regsDWIN : List RegSpec :=
  [⟨0x3420, .rw, 0xFC01FFFF, 0x0, 0x20000000⟩,
   ⟨0x3424, .rw, 0x0, 0x0, 0x0⟩]

/-- Registers of page DECn. -/
def regsDEC (n : Nat) : List RegSpec :=
  [⟨0x3820 + 0x400 * n, .rw, 0xFFFFFFFF, 0x0, 0x1C333CF4⟩,
   ⟨0x3824 + 0x400 * n, .rw, 0x8CFFFF, 0x0, 0x401⟩,
   ⟨0x3828 + 0x400 * n, .rw, 0x3F, 0x0, 0x3F⟩,
   ⟨0x382C + 0x400 * n, .wo, 0x0, 0x0, 0x0⟩,
   ⟨0x3830 + 0x400 * n, .rw, 0xFF, 0x0, 0x80⟩,
   ⟨0x3834 + 0x400 * n, .rw, 0xF0000, 0x0, 0x0⟩,
   ⟨0x3838 + 0x400 * n, .rw, 0xFFFFFFFF, 0x0, 0x0⟩,
   ⟨0x383C + 0x400 * n, .ro, 0x0, 0x0, 0x0⟩,
   ⟨0x3840 + 0x400 * n, .wo, 0x0, 0x0, 0x0⟩,
   ⟨0x3844 + 0x400 * n, .rc, 0x0, 0x0, 0x0⟩]

/-- Registers of page AEC. -/
def regsAEC : List RegSpec :=
  [⟨0x4820, .rw, 0xC3FFFF0F, 0x0, 0x3C03⟩,
   ⟨0x4824, .rw, 0xFFFFF0FF, 0x0, 0x4000801E⟩,
   ⟨0x4828, .rw, 0xFFFF, 0x0, 0x60C⟩,
   ⟨0x482C, .wo, 0x0, 0x0, 0x0⟩,
   ⟨0x4830, .ro, 0x0, 0x0, 0x0⟩,
   ⟨0x4834, .ro, 0x0, 0x0, 0x0⟩,
   ⟨0x4838, .rc, 0x0, 0x0, 0x0⟩,
   ⟨0x4840, .ro, 0x0, 0x0, 0x80008800⟩,
   ⟨0x4844, .ro, 0x0, 0x0, 0x80008800⟩,
   ⟨0x4848, .ro, 0x0, 0x0, 0x80008800⟩,
   ⟨0x484C, .ro, 0x0, 0x0, 0x80008800⟩,
   ⟨0x4850, .ro, 0x0, 0x0, 0x80008800⟩,
   ⟨0x4854, .ro, 0x0, 0x0, 0x80008800⟩,
   ⟨0x4858, .ro, 0x0, 0x0, 0x80008800⟩,
   ⟨0x4860, .ro, 0x0, 0x0, 0x80008800⟩,
   ⟨0x4864, .ro, 0x0, 0x0, 0x80008800⟩,
   ⟨0x4868, .ro, 0x0, 0x0, 0x80008800⟩,
   ⟨0x486C, .ro, 0x0, 0x0, 0x80008800⟩,
   ⟨0x4870, .ro, 0x0, 0x0, 0x80008800⟩,
   ⟨0x4874, .ro, 0x0, 0x0, 0x80008800⟩,
   ⟨0x4878, .ro, 0x0, 0x0, 0x80008800⟩,
   ⟨0x4880, .ro, 0x0, 0x0, 0x80008800⟩,
   ⟨0x4884, .ro, 0x0, 0x0, 0x80008800⟩,
   ⟨0x4888, .ro, 0x0, 0x0, 0x80008800⟩,
   ⟨0x488C, .ro, 0x0, 0x0, 0x80008800⟩,
   ⟨0x4890, .ro, 0x0, 0x0, 0x80008800⟩,
   ⟨0x4894, .ro, 0x0, 0x0, 0x80008800⟩,
   ⟨0x4898, .ro, 0x0, 0x0, 0x80008800⟩,
   ⟨0x489C, .ro, 0x0, 0x0, 0x0⟩]

/-- Registers of page NAL. -/
def regsNAL : List RegSpec :=
  [⟨0x4C20, .rws, 0x3FFFFFFF, 0x0, 0xF461E78⟩,
   ⟨0x4C24, .rws, 0xFFFFFFFF, 0x0, 0xF04048⟩,
   ⟨0x4C28, .rws, 0xFFFFFFFF, 0x0, 0xF04048⟩,
   ⟨0x4C2C, .rws, 0xFFFFFFFF, 0x0, 0xF04048⟩,
   ⟨0x4C30, .rws, 0xFFFFFFFF, 0x0, 0xF04048⟩,
   ⟨0x4C34, .rws, 0xFFFFFFFF, 0x0, 0xF04048⟩,
   ⟨0x4C38, .rws, 0xFFFFFFFF, 0x0, 0xF04048⟩,
   ⟨0x4C3C, .rws, 0xFFFFFFFF, 0x0, 0xF04048⟩,
   ⟨0x4C40, .rws, 0xFFFF, 0x0, 0x0⟩,
   ⟨0x4C44, .ro, 0x0, 0x0, 0x0⟩,
   ⟨0x4C48, .ro, 0x0, 0x0, 0x0⟩,
   ⟨0x4C4C, .ro, 0x0, 0x0, 0x0⟩,
   ⟨0x4C50, .ro, 0x0, 0x0, 0x0⟩,
   ⟨0x4C54, .ro, 0x0, 0x0, 0x0⟩,
   ⟨0x4C58, .ro, 0x0, 0x0, 0x0⟩,
   ⟨0x4C5C, .ro, 0x0, 0x0, 0x0⟩]

/-- Registers of page LINE. -/
def regsLINE : List RegSpec :=
  [⟨0x5020, .rw, 0xFFFFFFFF, 0x0, 0x0⟩,
   ⟨0x5024, .rw, 0xFFFFFFFF, 0x0, 0x0⟩,
   ⟨0x5028, .wo, 0x0, 0x0, 0x0⟩,
   ⟨0x502C, .ro, 0x0, 0x0, 0x4000000⟩,
   ⟨0x5030, .ro, 0x0, 0x0, 0x0⟩,
   ⟨0x5034, .ro, 0x0, 0x0, 0x0⟩,
   ⟨0x5038, .ro, 0x0, 0x0, 0x0⟩,
   ⟨0x503C, .ro, 0x0, 0x0, 0x0⟩,
   ⟨0x5040, .ro, 0x0, 0x0, 0x0⟩,
   ⟨0x5044, .ro, 0x0, 0x0, 0x0⟩,
   ⟨0x5048, .ro, 0x0, 0x0, 0x0⟩,
   ⟨0x504C, .ro, 0x0, 0x0, 0x0⟩,
   ⟨0x5050, .rc, 0x0, 0x0, 0x0⟩]

/-- Registers of page GOV. -/
def regsGOV : List RegSpec :=
  [⟨0x5420, .rws, 0x8FFFFFFF, 0x0, 0x81143C3C⟩,
   ⟨0x5424, .rws, 0xFFFFFFFF, 0x0, 0x10000⟩,
   ⟨0x5428, .rws, 0xFFFFFFFF, 0x0, 0x27100000⟩,
   ⟨0x542C, .rws, 0x80FFFFF0, 0x0, 0xA3230⟩,
   ⟨0x5430, .rws, 0x8000FFFF, 0x0, 0x7530⟩,
   ⟨0x5434, .ro, 0x0, 0x0, 0x0⟩]

/-- Registers of page DAC. -/
def regsDAC : List RegSpec :=
  [⟨0x5820, .rw, 0x7, 0x0, 0x1⟩,
   ⟨0x5824, .rw, 0xFF0301, 0x0, 0x140000⟩,
   ⟨0x5828, .rw, 0x3F07, 0x0, 0x102⟩,
   ⟨0x582C, .rw, 0xFFFFF, 0x0, 0x0⟩,
   ⟨0x5830, .ro, 0x0, 0x0, 0x201⟩,
   ⟨0x5834, .rc, 0x0, 0x0, 0x0⟩]

/-- Registers of page GEN. -/
def regsGEN : List RegSpec :=
  [⟨0x5C20, .rw, 0x80FFFFFF, 0x0, 0x504E20⟩,
   ⟨0x5C24, .rw, 0xFFFFFF, 0x0, 0x1803E8⟩,
   ⟨0x5C28, .rw, 0xFFFFFFFF, 0x0, 0x1F401F4⟩,
   ⟨0x5C2C, .rw, 0xE0FFFFFF, 0x0, 0x1803E8⟩,
   ⟨0x5C30, .ro, 0x0, 0x0, 0x0⟩]

/-- Registers of page TDM. -/
def regsTDM : List RegSpec :=
  [⟨0x6020, .rw, 0xFE00FFFF, 0x0, 0x0⟩,
   ⟨0x6024, .ro, 0x0, 0x0, 0x0⟩,
   ⟨0x6028, .rc, 0x0, 0x0, 0x0⟩]

/-- Registers of page ZCRC. -/
def regsZCRC : List RegSpec :=
  [⟨0x6420, .rw, 0x8000031F, 0x0, 0x31F⟩,
   ⟨0x6424, .rw, 0xFFFFFFFF, 0x0, 0x4C11DB7⟩,
   ⟨0x6428, .rw, 0xFFFFFFFF, 0x0, 0xFFFFFFFF⟩,
   ⟨0x642C, .rw, 0xFFFFFFFF, 0x0, 0xFFFFFFFF⟩,
   ⟨0x6430, .wo, 0x0, 0x0, 0x0⟩,
   ⟨0x6434, .wo, 0x0, 0x0, 0x0⟩,
   ⟨0x6438, .wo, 0x0, 0x0, 0x0⟩,
   ⟨0x643C, .wo, 0x0, 0x0, 0x0⟩,
   ⟨0x6440, .rw, 0xFFFFFFFF, 0x0, 0x0⟩,
   ⟨0x6444, .ro, 0x0, 0x0, 0x0⟩,
   ⟨0x6448, .ro, 0x0, 0x0, 0x0⟩]

/-- Registers of page MEM. -/
def regsMEM : List RegSpec :=
  [⟨0x6820, .rw, 0x80FFFFFF, 0x0, 0x80080064⟩,
   ⟨0x6824, .ro, 0x0, 0x0, 0x0⟩,
   ⟨0x6828, .rc, 0x0, 0x0, 0x0⟩,
   ⟨0x682C, .ro, 0x0, 0x0, 0x0⟩,
   ⟨0x6830, .rw, 0x7, 0x0, 0x0⟩,
   ⟨0x6834, .rc, 0x0, 0x0, 0x0⟩,
   ⟨0x6838, .ro, 0x0, 0x0, 0x0⟩,
   ⟨0x6840, .rc, 0x0, 0x0, 0x0⟩,
   ⟨0x6844, .rc, 0x0, 0x0, 0x0⟩,
   ⟨0x6848, .rc, 0x0, 0x0, 0x0⟩,
   ⟨0x684C, .rc, 0x0, 0x0, 0x0⟩,
   ⟨0x6850, .rc, 0x0, 0x0, 0x0⟩,
   ⟨0x6854, .rc, 0x0, 0x0, 0x0⟩,
   ⟨0x6858, .rc, 0x0, 0x0, 0x0⟩,
   ⟨0x6860, .rw, 0xE00FFFFF, 0x0, 0x20000⟩,
   ⟨0x6864, .ro, 0x0, 0x0, 0x0⟩]

/-- Registers of page MSG. -/
def regsMSG : List RegSpec :=
  [⟨0x6C20, .rw, 0xFFFF0001, 0x0, 0x0⟩,
   ⟨0x6C24, .ro, 0x0, 0x0, 0x0⟩,
   ⟨0x6C28, .rc, 0x0, 0x0, 0x0⟩,
   ⟨0x6C2C, .ro, 0x0, 0x0, 0x0⟩]

/-- The registers of the zone pages, without the page headers. -/
def zoneRegs : List RegSpec :=
  regsZCTL ++
  regsFENCE ++
  regsPLL ++
  regsTIME ++
  regsPOS ++
  regsTMR ++
  regsSCHED ++
  regsVCTL ++
  regsVWIN ++
  regsROUTE ++
  regsRWIN ++
  regsLIM ++
  regsSTONE ++
  regsDSP ++
  regsDWIN ++
  regsDEC 0 ++
  regsDEC 1 ++
  regsDEC 2 ++
  regsDEC 3 ++
  regsAEC ++
  regsNAL ++
  regsLINE ++
  regsGOV ++
  regsDAC ++
  regsGEN ++
  regsTDM ++
  regsZCRC ++
  regsMEM ++
  regsMSG

/-- Registers of page DEV. -/
def regsDEV : List RegSpec :=
  [⟨0x20, .ro, 0x0, 0x0, 0x0⟩,
   ⟨0x24, .ro, 0x0, 0x0, 0x0⟩,
   ⟨0x28, .mix, 0xC0000006, 0x0, 0x1⟩,
   ⟨0x2C, .rw, 0xFFFFFFFF, 0x0, 0x0⟩,
   ⟨0x30, .mix, 0x0, 0x7, 0x0⟩,
   ⟨0x100, .wo, 0x0, 0x0, 0x0⟩,
   ⟨0x104, .rw, 0xFFFFFFFF, 0x0, 0x0⟩,
   ⟨0x108, .ro, 0x0, 0x0, 0x0⟩,
   ⟨0x10C, .ro, 0x0, 0x0, 0x0⟩]

/-- Registers of page CLK. -/
def regsCLK : List RegSpec :=
  [⟨0x420, .ro, 0x0, 0x0, 0x0⟩,
   ⟨0x424, .rc, 0x0, 0x0, 0x0⟩]

/-- Registers of page LINK. -/
def regsLINK : List RegSpec :=
  [⟨0x820, .rw, 0xE1FFF0FF, 0x0, 0x21FF6014⟩,
   ⟨0x824, .rw, 0x8000FFFF, 0x0, 0x80000280⟩,
   ⟨0x828, .ro, 0x0, 0x0, 0x6600000⟩,
   ⟨0x82C, .rc, 0x0, 0x0, 0x0⟩,
   ⟨0x830, .rc, 0x0, 0x0, 0x0⟩,
   ⟨0x834, .ro, 0x0, 0x0, 0x0⟩]

/-- Registers of page TRUSS. -/
def regsTRUSS : List RegSpec :=
  [⟨0xC20, .rw, 0x8000FFFF, 0x0, 0x80000C04⟩,
   ⟨0xC24, .ro, 0x0, 0x0, 0x0⟩,
   ⟨0xC28, .rc, 0x0, 0x0, 0x0⟩,
   ⟨0xC2C, .rw, 0xFFFFFFFF, 0x0, 0x0⟩,
   ⟨0xC30, .rw, 0xFFFF, 0x0, 0x0⟩,
   ⟨0xC34, .rw, 0x80000007, 0x0, 0x0⟩,
   ⟨0xC38, .w1c, 0x0, 0xF, 0x0⟩]

/-- Registers of page MSGQ. -/
def regsMSGQ : List RegSpec :=
  [⟨0x1020, .rw, 0xC000FFFF, 0x0, 0x80000064⟩,
   ⟨0x1024, .ro, 0x0, 0x0, 0x0⟩,
   ⟨0x1028, .rc, 0x0, 0x0, 0x0⟩,
   ⟨0x102C, .ro, 0x0, 0x0, 0x0⟩]

/-- Registers of page CONT. -/
def regsCONT : List RegSpec :=
  [⟨0x1420, .rw, 0x1F07, 0x0, 0x1400⟩,
   ⟨0x1424, .rw, 0xFFFF, 0x0, 0xEE11⟩,
   ⟨0x1428, .rw, 0x3FFFF000, 0x0, 0x0⟩,
   ⟨0x142C, .rw, 0x7FF00000, 0x0, 0x40000000⟩,
   ⟨0x1430, .wo, 0x0, 0x0, 0x0⟩,
   ⟨0x1434, .ro, 0x0, 0x0, 0x0⟩,
   ⟨0x1438, .ro, 0x0, 0x0, 0x0⟩,
   ⟨0x143C, .ro, 0x0, 0x0, 0x0⟩,
   ⟨0x1440, .rw, 0xFFFFFFFF, 0x0, 0x0⟩,
   ⟨0x1444, .rw, 0x37, 0x0, 0x0⟩,
   ⟨0x1448, .wo, 0x0, 0x0, 0x0⟩,
   ⟨0x144C, .rw, 0xFFFFFFFF, 0x0, 0x0⟩,
   ⟨0x1480, .rw, 0x1FFFFFF, 0x0, 0x4007D0⟩,
   ⟨0x1490, .rw, 0x1FFFFFF, 0x0, 0x4007D0⟩,
   ⟨0x14A0, .rw, 0x1FFFFFF, 0x0, 0x4007D0⟩,
   ⟨0x14B0, .rw, 0x1FFFFFF, 0x0, 0x4007D0⟩,
   ⟨0x14C0, .rw, 0x1FFFFFF, 0x0, 0x4007D0⟩,
   ⟨0x14D0, .rw, 0x1FFFFFF, 0x0, 0x4007D0⟩,
   ⟨0x14E0, .rw, 0x1FFFFFF, 0x0, 0x4007D0⟩,
   ⟨0x14F0, .rw, 0x1FFFFFF, 0x0, 0x4007D0⟩,
   ⟨0x1484, .ro, 0x0, 0x0, 0x0⟩,
   ⟨0x1494, .ro, 0x0, 0x0, 0x0⟩,
   ⟨0x14A4, .ro, 0x0, 0x0, 0x0⟩,
   ⟨0x14B4, .ro, 0x0, 0x0, 0x0⟩,
   ⟨0x14C4, .ro, 0x0, 0x0, 0x0⟩,
   ⟨0x14D4, .ro, 0x0, 0x0, 0x0⟩,
   ⟨0x14E4, .ro, 0x0, 0x0, 0x0⟩,
   ⟨0x14F4, .ro, 0x0, 0x0, 0x0⟩,
   ⟨0x1488, .rc, 0x0, 0x0, 0x0⟩,
   ⟨0x1498, .rc, 0x0, 0x0, 0x0⟩,
   ⟨0x14A8, .rc, 0x0, 0x0, 0x0⟩,
   ⟨0x14B8, .rc, 0x0, 0x0, 0x0⟩,
   ⟨0x14C8, .rc, 0x0, 0x0, 0x0⟩,
   ⟨0x14D8, .rc, 0x0, 0x0, 0x0⟩,
   ⟨0x14E8, .rc, 0x0, 0x0, 0x0⟩,
   ⟨0x14F8, .rc, 0x0, 0x0, 0x0⟩,
   ⟨0x148C, .rc, 0x0, 0x0, 0x0⟩,
   ⟨0x149C, .rc, 0x0, 0x0, 0x0⟩,
   ⟨0x14AC, .rc, 0x0, 0x0, 0x0⟩,
   ⟨0x14BC, .rc, 0x0, 0x0, 0x0⟩,
   ⟨0x14CC, .rc, 0x0, 0x0, 0x0⟩,
   ⟨0x14DC, .rc, 0x0, 0x0, 0x0⟩,
   ⟨0x14EC, .rc, 0x0, 0x0, 0x0⟩,
   ⟨0x14FC, .rc, 0x0, 0x0, 0x0⟩]

/-- Registers of page NVM. -/
def regsNVM : List RegSpec :=
  [⟨0x1820, .rw, 0x3FFFFC, 0x0, 0x0⟩,
   ⟨0x1824, .rw, 0x0, 0x0, 0x0⟩,
   ⟨0x1828, .ro, 0x0, 0x0, 0x0⟩,
   ⟨0x182C, .ro, 0x0, 0x0, 0x0⟩]

/-- Registers of page HCRC. -/
def regsHCRC : List RegSpec :=
  [⟨0x1C20, .rw, 0x31F, 0x0, 0x31F⟩,
   ⟨0x1C24, .rw, 0xFFFFFFFF, 0x0, 0x4C11DB7⟩,
   ⟨0x1C28, .rw, 0xFFFFFFFF, 0x0, 0xFFFFFFFF⟩,
   ⟨0x1C2C, .rw, 0xFFFFFFFF, 0x0, 0xFFFFFFFF⟩,
   ⟨0x1C30, .wo, 0x0, 0x0, 0x0⟩,
   ⟨0x1C34, .wo, 0x0, 0x0, 0x0⟩,
   ⟨0x1C38, .wo, 0x0, 0x0, 0x0⟩,
   ⟨0x1C3C, .wo, 0x0, 0x0, 0x0⟩,
   ⟨0x1C40, .rw, 0xFFFFFFFF, 0x0, 0x0⟩,
   ⟨0x1C44, .ro, 0x0, 0x0, 0x0⟩,
   ⟨0x1C48, .ro, 0x0, 0x0, 0x0⟩,
   ⟨0x1C80, .ro, 0x0, 0x0, 0x0⟩,
   ⟨0x1C84, .ro, 0x0, 0x0, 0x0⟩]

/-- Registers of page SEC. -/
def regsSEC : List RegSpec :=
  [⟨0x2020, .rw, 0x7, 0x0, 0x6⟩,
   ⟨0x2024, .ro, 0x0, 0x0, 0x0⟩,
   ⟨0x2028, .wo, 0x0, 0x0, 0x0⟩,
   ⟨0x202C, .rw, 0xFFFFFFFF, 0x0, 0x0⟩,
   ⟨0x2030, .ro, 0x0, 0x0, 0x0⟩,
   ⟨0x2034, .ro, 0x0, 0x0, 0x0⟩,
   ⟨0x2038, .ro, 0x0, 0x0, 0x0⟩,
   ⟨0x203C, .ro, 0x0, 0x0, 0x0⟩,
   ⟨0x2040, .ro, 0x0, 0x0, 0x0⟩,
   ⟨0x2044, .ro, 0x0, 0x0, 0x0⟩,
   ⟨0x2048, .rw, 0xFFFFFFFF, 0x0, 0x927C0⟩,
   ⟨0x204C, .rc, 0x0, 0x0, 0x0⟩,
   ⟨0x2050, .ro, 0x0, 0x0, 0x0⟩,
   ⟨0x2054, .ro, 0x0, 0x0, 0x0⟩]

/-- Registers of page LCS. -/
def regsLCS : List RegSpec :=
  [⟨0x2420, .ro, 0x0, 0x0, 0x1C000000⟩,
   ⟨0x2424, .wo, 0x0, 0x0, 0x0⟩,
   ⟨0x2428, .ro, 0x0, 0x0, 0x0⟩,
   ⟨0x242C, .ro, 0x0, 0x0, 0x0⟩,
   ⟨0x2430, .ro, 0x0, 0x0, 0x0⟩,
   ⟨0x2434, .ro, 0x0, 0x0, 0x0⟩,
   ⟨0x2438, .ro, 0x0, 0x0, 0x0⟩,
   ⟨0x243C, .mix, 0xFF, 0x0, 0x10⟩]

/-- The registers of the host-complex pages, without the page headers. -/
def hostRegs : List RegSpec :=
  regsDEV ++
  regsCLK ++
  regsLINK ++
  regsTRUSS ++
  regsMSGQ ++
  regsCONT ++
  regsNVM ++
  regsHCRC ++
  regsSEC ++
  regsLCS

/-- The W1C bits of a page's PG_FLT (Tables 6-13, 9-10, 10-13, 11-5, 11-7, 12-5, 13-9, 15-8, 17-4, 14-8), by page
offset; PG_FLTEN has the same layout (R369). -/
def fltMask (zone : Bool) (page : Nat) : Nat :=
  if zone then
    match page with
    | 0x1C00 => 0xFF | 0x2400 => 0x1F | 0x2C00 => 1 | 0x3000 => 0x3FF | 0x3800 => 0x3F | 0x3C00 => 0x3F
    | 0x4000 => 0x3F | 0x4400 => 0x3F | 0x4800 => 0x3F | 0x4C00 => 7 | 0x5000 => 0x3F | 0x5800 => 3 | 0x6000 => 1
    | 0x6400 => 1 | 0x6800 => 7 | _ => 0
  else
    match page with
    | 0x0800 => 0x1F | 0x1800 => 1 | _ => 0

/-- Page offsets of the six double-banked pages, in mask-bit order (Table 3-2). -/
def bankedPage (i : Nat) : Nat :=
  match i with
  | 0 => 0x1C00 | 1 => 0x2400 | 2 => 0x3000 | 3 => 0x5400 | 4 => 0x4C00 | _ => 0x2C00

/-- The mask bit of a double-banked page. -/
def bankOf (page : Nat) : Option (Fin 6) :=
  match page with
  | 0x1C00 => some 0 | 0x2400 => some 1 | 0x3000 => some 2 | 0x5400 => some 3 | 0x4C00 => some 4 | 0x2C00 => some 5
  | _ => none

/-- The register defined at an offset of a zone's block. -/
def zoneSpec (off : Nat) : Option RegSpec := zoneRegs.find? (fun r => r.off == off)

/-- The register defined at an address of the host complex. -/
def hostSpec (off : Nat) : Option RegSpec := hostRegs.find? (fun r => r.off == off)

/-- The reset value of a zone register; Batten B of a register lies 0x8000 above its offset, Batten A at it. -/
def zoneRst (k : Nat) : Word :=
  match zoneSpec (if k ≥ 0x8000 then k - 0x8000 else k) with
  | some r => BitVec.ofNat 32 r.reset
  | none => 0

/-- The reset value of a host-complex register. -/
def hostRst (k : Nat) : Word :=
  match hostSpec k with
  | some r => BitVec.ofNat 32 r.reset
  | none => 0

/-- Stored register words by offset; an unlisted register holds its reset value. -/
abbrev RegMap := List (Nat × Word)

end Sys2Proof.Machine
end

