-- ==== Sys2Proof/Machine/ZoneState.lean ====
section
/-! DEFINITION. The state of one zone up to its voices: control block, time, position, timers, scheduler, swaps, messages,
voices and their memories. Plain data. -/

namespace Sys2Proof.Machine

/-- Zone states of Table 1-1. -/
inductive ZSt where
  | off | init | test | run | hold | fenced | recover
  deriving DecidableEq, Repr

/-- The always-on control block of a zone beside its ZCTL and FENCE registers (chapter 1). -/
structure ZCtl where
  /-- ZCTL.STATE.STATE. -/
  st        : ZSt
  /-- A RUN written in TEST is held or due at the next tick boundary (R6). -/
  runHeld   : Bool
  /-- The selected tests of TEST have passed (Table 1-2). -/
  testsOk   : Bool
  /-- A RESUME has been accepted and the zone enters RUN at the next tick boundary (Table 1-2). -/
  resume    : Bool
  /-- The present INIT is a warm start (R10). -/
  warm      : Bool
  /-- Ticks since INIT began (R12). -/
  initTicks : Nat
  initSlow  : Bool
  marchFail : Bool
  ladFail   : Bool
  warmLost  : Bool
  /-- WHY bits (R22, R23). -/
  orphan    : Bool
  hcloss    : Bool
  /-- Watchdog: length of the running period (0 none), its source (true: host), ticks run (R411). -/
  wdLen     : Nat
  wdHost    : Bool
  wdRun     : Nat
  /-- Trap bucket and tick boundaries since the last change of FENCE.STORM (R13). -/
  bucket    : Nat
  leakTicks : Nat
  /-- Ticks since the last heartbeat (R23). -/
  hbMiss    : Nat
  deriving DecidableEq, Repr

/-- A zone's regulators, supply and clocks (R20, R21, R382; chapter 19). -/
structure ZPower where
  /-- VANAn good (R382). -/
  vanaGood : Bool
  zvcReg   : Bool
  zvaReg   : Bool
  zvcLim   : Bool
  zvaLim   : Bool
  /-- The zone core is power-gated (R20). -/
  gated    : Bool
  /-- ZVA has been in regulation for 1 ms since its trip (Table 1-4). -/
  regaOk   : Bool
  /-- The 10 kΩ hold of the output pins (R265). -/
  pinHold  : Bool
  /-- The zone is under debug halt (R27). -/
  halted   : Bool
  /-- Ticks since T of a sleep entry that runs (Table 19-7). -/
  slp      : Option Nat
  /-- The zone stopped for sleep (R389). -/
  asleep   : Bool
  /-- The zone has woken and its engines wait for lock and CMOK (R392). -/
  waking   : Bool
  deriving DecidableEq, Repr

/-- One party's captured values of the TIME or POS page (R47). -/
structure Cap3 where
  a : Word
  b : Word
  c : Word
  deriving DecidableEq, Repr

/-- Time of a zone (R35–R37, R47–R51). -/
structure ZTime where
  frame   : BitVec 48
  /-- SUBF at the last event of the frame that carries a time. -/
  subf    : Nat
  /-- FRAME_EST: the counters run from ZSLOW. -/
  est     : Bool
  /-- SYNC sampled high at the previous FREF edge (R37). -/
  syncHi  : Bool
  /-- A free-running interval is open, with H and S of R34. -/
  free    : Bool
  hFr     : Nat
  sFr     : Nat
  /-- The fractional accumulator of R49, in 32768ths of a frame. -/
  slowAcc : Nat
  capHost : Cap3
  capProg : Cap3
  /-- The present frame boundary is a tick boundary. -/
  tk      : Bool
  /-- The next frame's counters have been updated and its tick work done by TICK_BOUNDARY (R61 steps 1 and 2). -/
  began   : Bool
  deriving DecidableEq, Repr

/-- The zone PLL (R28–R33). -/
structure ZPll where
  lock     : Bool
  hold     : Bool
  slewing  : Bool
  frefOk   : Bool
  /-- A lock has been reached since device reset (R30). -/
  everLock : Bool
  /-- Consecutive valid edges with |e| ≤ 4 against the frame that the lock will align to (assumption 19), consecutive valid
  edges, consecutive invalid intervals, consecutive edges with |e| > 64. -/
  small    : Nat
  valid    : Nat
  bad      : Nat
  big      : Nat
  /-- e at the last FREF edge and e measured at step 1 of R33. -/
  phase    : Int
  slewE    : Int
  /-- FREF_RATE in force, and whether 16 edges at a new rate are awaited (R30). -/
  rate     : Nat
  rateChg  : Bool
  holdTk   : Nat
  /-- Frames since step 1 of R33. -/
  slewN    : Nat
  /-- e at the first edge of the run that `small` counts (R29). -/
  ref      : Int
  /-- The frequency word frozen at the entry of the holdover, as PLL.FOFS shows it (R31, R33). -/
  fofs     : Word
  deriving DecidableEq, Repr

/-- A pending host position command with its snapshot (R43). -/
structure HCmd where
  setpos : Bool
  setvel : Bool
  atTick : Bool
  pos    : BitVec 48
  vel    : Int
  deriving DecidableEq, Repr

/-- Track position (R39–R43, R410). -/
structure ZPos where
  pos     : BitVec 48
  /-- FRAC, Q1.15. -/
  frac    : Int
  /-- The 24 fraction bits of the HOST accumulator. -/
  acc     : Nat
  /-- POS.SPEED, Q8.24. -/
  speed   : Int
  vel     : Int
  /-- The position mode in force. -/
  mode    : Nat
  /-- Intervals collected, newest first, at most 64 (R42). -/
  hist    : List Nat
  /-- FRAME and SUBF of the last counted edge of the speed history. -/
  last    : Option (BitVec 48 × Nat)
  /-- Frame from which STOP_TO runs: last counted edge, last SETVEL or mode change. -/
  since   : BitVec 48
  neg     : Bool
  stopped : Bool
  stale   : Bool
  lvlA    : Bool
  lvlB    : Bool
  hcmd    : Option HCmd
  capHost : Cap3
  capProg : Cap3
  /-- A SETPOS has been applied since the due entries were last found (R64). -/
  jump    : Bool
  deriving DecidableEq, Repr

/-- The running side of a general timer (R44–R46). -/
structure ZTimer where
  period  : Nat
  count   : Nat
  unit    : Bool
  oneshot : Bool
  force   : Bool
  pend    : Bool
  deriving DecidableEq, Repr

/-- The swap control of one double-banked page (R54–R57). -/
structure ZSwap where
  active  : Bool
  pend    : Bool
  copying : Bool
  result  : Nat
  tgt     : BitVec 24
  /-- Target tick of the pending swap. -/
  target  : BitVec 32
  copy    : Bool
  /-- The pending swap belongs to the pending mode change (R57, R67). -/
  owned   : Bool
  deriving DecidableEq, Repr

/-- A queued event entry (R59–R64). -/
structure Entry where
  seq    : BitVec 32
  e      : Vector Word 8
  /-- Frame of posting. -/
  posted : BitVec 48
  /-- Frame of the trigger once it has occurred or been recorded (R62, R64). -/
  trig   : Option (BitVec 48)
  /-- POS: x is before P since the posting or since it went back (R64). -/
  before : Bool
  /-- POS: due at once under PASTOK, executed with L = 0 (R64). -/
  past   : Bool
  /-- Last tick of the token of an authorised P0 entry (R334). -/
  tend   : Option (BitVec 48)
  /-- Posted in a session that holds P0CTL (R331). -/
  p0ctl  : Bool
  deriving DecidableEq, Repr

/-- A pending mode change (R67). -/
structure ModePend where
  mode   : Nat
  pages  : BitVec 6
  target : BitVec 32
  /-- It came from DEV.MODE_CMD (R69). -/
  dev    : Bool
  deriving DecidableEq, Repr

/-- The scheduler of a zone (R59–R69). -/
structure ZSched where
  queue  : List Entry
  seq    : BitVec 32
  high   : Nat
  err    : Nat
  mode   : Option ModePend
  cur    : Nat
  /-- Outcome reported for the last DEV.MODE_CMD that addressed this zone (R69). -/
  devRep : Option Nat
  /-- Voices skipped under R331 that SEC.COUNT has not counted yet. -/
  p0prot : Nat
  deriving DecidableEq, Repr

/-- A message record (Table 15-4). -/
structure Rec where
  src    : Nat
  cls    : Nat
  mseq   : BitVec 16
  frame  : BitVec 48
  code   : Nat
  rep    : Nat
  flags  : Nat
  params : List Byte
  /-- Sent and waiting for its MSGACK, with the ticks since its last sending (R319). -/
  sent   : Option Nat
  deriving DecidableEq, Repr

/-- A message queue with the number of the next record (R315, R316). -/
structure MsgQ where
  q    : List Rec
  nseq : BitVec 16
  deriving DecidableEq, Repr

/-- An accumulator of R74–R76: value in A72 codes, WRAP, STUCK, LDIR and its two sticky flags. -/
structure AccSt where
  val   : Int
  wrap  : Int
  stuck : Bool
  ldir  : Int
  aov   : Bool
  lost  : Bool
  deriving DecidableEq, Repr

/-- An envelope (R116–R121): state code, frames into the segment, segment length, end levels and level E (S36). -/
structure EnvSt where
  st  : Nat
  k   : Nat
  n   : Nat
  l0  : Int
  l1  : Int
  e   : Int
  cv  : Nat
  deriving DecidableEq, Repr

/-- An LFO (R122, R123): under TICK and POSITION whether a frame has been formed, and FRAME or x at the last one, from which
a wrap of p is told. -/
structure LfoSt where
  run  : Bool
  at0  : Rat
  ph   : BitVec 32
  k    : Nat
  cur  : Int
  prev : Int
  out  : Int
  deriving DecidableEq, Repr

/-- A read position: 48-bit Q32.16 position, direction and whether it is inside its loop (R94–R98). -/
structure ReadPos where
  x      : Int
  back   : Bool
  inside : Bool
  left   : Bool
  deriving DecidableEq, Repr

/-- A grain reader (R100, R101). -/
structure Grain where
  y  : ReadPos
  t  : Nat
  on : Bool
  deriving DecidableEq, Repr

/-- An oscillator (R90–R105). -/
structure OscSt where
  ph    : BitVec 48
  pos   : ReadPos
  ga    : Grain
  gb    : Grain
  glen  : Nat
  grate : Nat
  lvl   : Nat
  s     : Int
  s1    : Int
  fin   : Bool
  dis   : Bool
  s32   : BitVec 32
  rows  : List Int
  cnt   : Nat
  deriving DecidableEq, Repr

/-- A modulation slot's held contributions (R125), and its last addend for a retrigger destination (R127). -/
structure ModSt where
  prev : Int
  tgt  : Int
  /-- A swap has changed the slot's destination: the new contribution applies at once (R136). -/
  fresh : Bool
  deriving DecidableEq, Repr

/-- A live control (R129): value, target, frames left and length of its ramp, value at its start. -/
structure CtlSt where
  v    : Int
  tgt  : Int
  left : Nat
  len  : Nat
  from0 : Int
  /-- Value of the last frame. -/
  last : Int
  deriving DecidableEq, Repr

/-- A filter's states (R107, R110), A72 codes. -/
structure FltSt where
  z1 : Int
  z2 : Int
  y1 : Int
  y2 : Int
  deriving DecidableEq, Repr

/-- The sounding side of a voice. -/
structure VSig where
  env   : Vector EnvSt 4
  lfo   : Vector LfoSt 3
  osc   : Vector OscSt 3
  mods  : Vector ModSt 16
  /-- Retrigger addends of the last frame, ENV0–ENV3 (Table 6-5). -/
  rtg   : Vector Int 4
  /-- LFO rate addends of the last frame's matrix (R86, R122). -/
  ladd  : Vector Int 3
  ctl   : Vector CtlSt 8
  flt   : Vector FltSt 2
  /-- Amplitude A of the previous frame. -/
  amp   : Int
  rand  : Int
  /-- Frames rendered since the voice started. -/
  age   : Nat
  rel   : Bool
  send  : Vector Int 4
  /-- Sustain ramp of R136: level at its start and frames left. -/
  sus   : Vector (Int × Nat) 4
  deriving DecidableEq, Repr

/-- A finish-by deadline of a voice (R65, R66). -/
structure DlSt where
  dir   : Bool
  q     : BitVec 48
  nom   : Nat
  rate  : Rat
  /-- Nominal frames played at their rates. -/
  played : Rat
  risk  : Bool
  miss  : Bool
  /-- The computation of R65 at execution, or at a successor's first sample, has been made (R65, R147). -/
  begun : Bool
  deriving DecidableEq, Repr

/-- A start waiting on a victim's fade (R147), or the start data of the voice itself. -/
structure Start where
  item   : Word
  cls    : Nat
  handle : BitVec 16
  note   : Nat
  vel    : Nat
  dl     : Option DlSt
  held   : List Word
  /-- A scheduler start, not yet counted late, whose wait for its preset counts as lateness (R135). -/
  cnt    : Bool
  deriving DecidableEq, Repr

/-- A host voice command that waits for the next bookkeeping window (R150): OP 0 VSTART, 1 VREL, 2 VKILL, 3 VCTL; whether it
may act on P0 voices (R331); whether the answer of its zone is awaited (R308). -/
structure HostV where
  op    : Nat
  cls   : Nat
  arg0  : Word
  arg1  : Word
  full  : Bool
  asked : Bool
  deriving DecidableEq, Repr

/-- Voice life states of Table 7-2. -/
inductive Life where
  | free | wait | active | released | fading
  deriving DecidableEq, Repr

/-- Starvation of a voice (R168): fade frames and direction, and whether an episode is open. -/
structure StarveSt where
  k    : Nat
  open0 : Bool
  deriving DecidableEq, Repr

/-- One voice. -/
structure Voice where
  life   : Life
  st     : Start
  start  : BitVec 48
  succ   : Option Start
  fadeK  : Nat
  fadeN  : Nat
  /-- The voice ended in the last frame; it becomes FREE, or its successor starts, in the next window (R141, R150). -/
  ended  : Bool
  /-- Allocated in the present window, no sample yet (R147). -/
  fresh  : Bool
  edit   : Bool
  pclamp : Bool
  perr   : Bool
  posc   : Nat
  starve : StarveSt
  /-- Bundle blocks that its oscillators pin in the cache (R164). -/
  pins   : List Nat
  sig    : VSig
  deriving DecidableEq, Repr

/-- One party's window staging: staged parts of a write and the fetched word of a read (R137). -/
structure Win where
  p0  : Word
  p1  : Word
  rd  : W72
  deriving DecidableEq, Repr

/-- Each party's ADDR register and staging of the four 72-bit windows and of MEM (R378). -/
structure WinSet where
  vaddr : Word
  raddr : Word
  daddr : Word
  maddr : Word
  v     : Win
  r     : Win
  d     : Win
  m     : Win
  deriving DecidableEq, Repr

/-- Voice-engine state beside the voices: blocks, lanes, reservations in force and ducking (R131, R144, R152). -/
structure ZVox where
  battA  : Mem72
  battB  : Mem72
  lanes  : Vector AccSt 4
  /-- SAT of each lane (R80, R86). -/
  laneSat : BitVec 4
  /-- RES_0–RES_5 in force (R144). -/
  res    : Vector Nat 6
  /-- Of the present frame's window: cycles left, none once an item has not fitted, and due entries executed (R61, R84). -/
  winLeft : Nat
  winN   : Nat
  /-- Host voice commands that wait for the next window, in order of arrival, and the zone's reason and DETAIL for the one
  that the protocol engine awaits (R150, R308). -/
  hostq  : List HostV
  ans    : Option (Nat × Nat)
  /-- Duck attenuation a in U8.16 dB, gain at the end of the previous tick, target gain, trigger, DUCK_CFG in force
  (R152, R153). -/
  duckA  : Nat
  duckP  : Int
  duckT  : Int
  duckOn : Bool
  duckCfg : Word
  deriving DecidableEq, Repr

/-- A request for a content block of a zone (R157): rank 0 demand, 1 preset, 2 prefetch; class and age of its voice;
bundle block; posting number of the entry of a prefetch; whether it is the refetch of R169. -/
structure Fetch where
  rank  : Nat
  cls   : Nat
  age   : BitVec 48
  blk   : Nat
  entry : BitVec 32
  /-- The voice of a demand or preset fetch; 96 for a prefetch. -/
  voice : Nat
  retry : Bool
  /-- The record has been read and its check waits for a hash block (R169): 1 without data, 2 with; and whether that hash block
  has failed its own check once. -/
  got   : Nat
  hbad  : Bool
  deriving DecidableEq, Repr

/-- A request that is made. -/
def Fetch.new (rank cls : Nat) (age : BitVec 48) (blk : Nat) (entry : BitVec 32) (voice : Nat) : Fetch :=
  { rank := rank, cls := cls, age := age, blk := blk, entry := entry, voice := voice, retry := false, got := 0, hbad := false }

/-- One line of the sample cache (R164): line number, bundle block, order of its last use, entries that hold it. -/
structure CacheLine where
  line : Nat
  blk  : Nat
  used : Nat
  held : List (BitVec 32)
  deriving DecidableEq, Repr

/-- The sample cache of a zone, its fetch queue, the requests that wait for room in it and the zone's list of fenced items
(R157, R164, R170). -/
structure ZCache where
  lines  : List CacheLine
  mem    : Mem72
  queue  : List Fetch
  wait   : List Fetch
  clock  : Nat
  fenced : List Word
  /-- The counts of CONT.ZCOUNTn and CONT.ZMISSn (Table 8-8). -/
  starves : Nat
  chks    : Nat
  refets  : Nat
  fences  : Nat
  misses  : Nat
  nolines : Nat
  absents : Nat
  deriving DecidableEq, Repr

end Sys2Proof.Machine
end

