-- ==== Sys2Proof/Machine/ZoneState2.lean ====
section
/-! DEFINITION. The state of one zone from its routing to its outputs and memories, and Zone itself. -/

namespace Sys2Proof.Machine

/-- A live gain register (R185, R186): present value, target, pending with its wait count, ramp frames left and its start
value, and whether the key signal of the last pass was negative. -/
structure GainReg where
  cur  : Int
  tgt  : Int
  pend : Bool
  wait : Nat
  ramp : Nat
  from0 : Int
  neg  : Option Bool
  deriving DecidableEq, Repr

/-- The route sequencer (R172–R186). -/
structure ZRoute where
  batA   : Mem72
  batB   : Mem72
  g      : Vector GainReg 64
  /-- Requests of host writes and of the zone program for the next frame boundary, in order: register, target (R185). -/
  reqH   : List (Nat × Int)
  bus    : Vector AccSt 16
  mb     : AccSt
  toAcc  : Vector AccSt 8
  diAcc  : Vector AccSt 64
  /-- Bus values at the end of the previous pass, read under R78. -/
  z1     : Vector Int 16
  /-- MB as captured at the end of the last pass, read under R78. -/
  mbCap  : Int
  toOut  : Vector Int 8
  diOut  : Vector Int 64
  /-- Splice buffer: slot and old version; window length and frames run (R181). -/
  splice : List (Nat × W72)
  splW   : Nat
  splK   : Nat
  /-- The present frame's pass has been made. -/
  passed : Bool
  inactOk : Bool
  latAct : List Word
  latIn  : List Word
  deriving DecidableEq, Repr

/-- NAL band filters, the Ridge limiter and the side-tone path (R187–R193, R239–R240). -/
structure ZLim where
  /-- Ridge inputs with their effective ceilings, newest first, 49 of them (R189). -/
  line   : List (Int × Int)
  g      : Int
  ceff   : Int
  /-- Output y of the last frame, S36 (OREF). -/
  y      : Int
  /-- LOOK before the change of R190 and the frames of it that have run, 96 when none runs. -/
  lookO  : Nat
  lookK  : Nat
  /-- Side-tone gain: present, start and end of its ramp, updates run of 384; source in force; frames of a source change
  (R193), 192 when none runs. -/
  stG    : Int
  stF    : Int
  stT    : Int
  stK    : Nat
  stSrc  : Bool
  stMute : Nat
  deriving DecidableEq, Repr

/-- A pointer PT0–PT7 (R194, R211, R212). -/
structure Ptr where
  /-- SPACE: false D, true Y. -/
  y     : Bool
  base  : Nat
  len   : Nat
  a     : Nat
  lnext : Nat
  deriving DecidableEq, Repr

/-- A result under way to a physical register (R201): bundles until it lands, register, part (0 whole, 1 H, 2 L). -/
structure DspRes where
  dly  : Nat
  reg  : Fin 64
  part : Nat
  val  : W72
  deriving DecidableEq, Repr

/-- A running hardware loop (R202, R203): first and last bundle, iterations left with the present one, rotating form and its
trip count T. -/
structure DspLoop where
  first : Nat
  last  : Nat
  left  : Nat
  rot   : Bool
  trip  : Nat
  deriving DecidableEq, Repr

/-- A request of the zone program (R209). -/
structure DspReq where
  act : Nat
  cls : Nat
  a   : Word
  b   : Word
  deriving DecidableEq, Repr

/-- The zone DSP (R194–R219). -/
structure ZDsp where
  /-- Physical registers (R195). -/
  g       : Vector W72 64
  acc     : Vector AccSt 4
  /-- The accumulators as RDACC, STS and STG read them: one bundle behind (Table 10-6). -/
  accOld  : Vector AccSt 4
  pt      : Vector Ptr 8
  lc      : BitVec 16
  ro      : BitVec 5
  ix      : BitVec 16
  /-- Q15–Q0; bit 0 is 1. -/
  q       : BitVec 16
  pc      : Nat
  loop    : Option DspLoop
  pend    : List DspRes
  prog    : Mem72
  /-- General data words; the parameter battens lie in parA and parB (R196). -/
  data    : Mem72
  parA    : Mem72
  parB    : Mem72
  dly     : Mem72
  /-- Stale delay segments (R213). -/
  stale   : List (Nat × Bool)
  diIn    : Vector Int 64
  doReg   : Vector Int 64
  /-- DO0–DO63 as latched for the route (R205). -/
  doOut   : Vector Int 64
  rqA     : Word
  rqB     : Word
  /-- Requests accepted in the present frame, and whether one was discarded in it (R209). -/
  reqs    : List DspReq
  /-- Requests of earlier frames that the bookkeeping windows have not reached yet (R84, R209). -/
  late    : List DspReq
  rqFull  : Bool
  /-- Running routine: its HNUM; HNUM and HARG as the program reads them (R207). -/
  rtn     : Option Nat
  hnum    : Nat
  harg    : Word
  tcause  : Nat
  tpc     : Nat
  /-- DFLAGS bits 8–11. -/
  sat     : Bool
  tapclamp : Bool
  wcoll   : Bool
  regdeny : Bool
  raddr   : BitVec 15
  /-- Handler queue: number, argument, frame and cycle of queueing (R205, R206). -/
  handlers : List (Nat × Word × BitVec 48 × Nat)
  timerEv : BitVec 4
  running : Bool
  loaded  : Bool
  abandoned : Bool
  /-- The run of the present frame has been abandoned (R215). -/
  dead    : Bool
  cycle   : Nat
  /-- Cycles of zeroing before CYCLE 0 of the next run (R213), and CYCLE at the last END. -/
  delay   : Nat
  lastEnd : Nat
  /-- Number of the last host write that a run's end has left behind or that a write of the zone program has met (R356). -/
  met     : Nat
  deriving DecidableEq, Repr

/-- A moving-average stage (R222): its last inputs, newest first, their sum and the decimation count. -/
structure MaSt where
  line : List Int
  s    : Int
  cnt  : Nat
  deriving DecidableEq, Repr

/-- One party's coefficient window (R225, R378). -/
structure DecWin where
  addr : Word
  hi   : Word
  rd   : Int
  deriving DecidableEq, Repr

/-- One decimator (R220–R230). -/
structure ZDec where
  ma     : Vector MaSt 3
  /-- The configuration in force: MA12, MA3 and FIR words; whether a write of them is staged (R223). -/
  ma12   : Word
  ma3    : Word
  fir    : Word
  staged : Bool
  cfgErr : Bool
  bank0  : Vector Int 64
  bank1  : Vector Int 64
  /-- The active bank, or the target bank while a cross-fade runs (R226). -/
  bank   : Bool
  /-- Cross-fade: its length (0 none) and frames run. -/
  xf     : Nat
  xk     : Nat
  /-- Pending bank request: bank and length. -/
  req    : Option (Bool × Nat)
  /-- FIR inputs, newest first, and whether one has come since the last sample. -/
  hist   : List Int
  newX   : Bool
  acc    : AccSt
  out    : Int
  valid  : Bool
  /-- The latest sample was formed while OVL was set (R221). -/
  outOvl : Bool
  srem   : Nat
  ovl    : Bool
  run2   : Nat
  runOk  : Nat
  /-- The modulator codes of the present frame, and whether a reset fell on its boundary (R228). -/
  codes  : List Int
  fresh  : Bool
  /-- A command reset is pending (R228). -/
  srst   : Bool
  /-- The chain start's reset is awaited (R220). -/
  await  : Bool
  winH   : DecWin
  winP   : DecWin
  deriving DecidableEq, Repr

/-- A biquad's state in A72 codes (R237). -/
structure BqSt where
  z1 : Int
  z2 : Int
  deriving DecidableEq, Repr

/-- One band of one signal: its two biquads, the sum of squares of S36 codes and the samples counted in the tick. -/
structure BandSt where
  a  : BqSt
  b  : BqSt
  sq : Int
  n  : Nat
  deriving DecidableEq, Repr

/-- One channel of the echo canceller (R231–R236). -/
structure AecCh where
  /-- Coefficients w_0–w_2047, the checkpoint and the copy under way. -/
  w     : List Int
  ckpt  : Option (List Int)
  copy  : Option (List Int)
  /-- Front decimator history, newest first, and residual samples left with VALID low (Table 11-2). -/
  front : List Int
  /-- Whether each of them was formed under OVL (R221). -/
  frontO : List Bool
  settle : Nat
  /-- Mic sample d of the last instant, whether it was valid and formed under OVL. -/
  d     : Int
  dOk   : Bool
  dOvl  : Bool
  /-- Residual and its VALID. -/
  e     : Int
  eOk   : Bool
  /-- Instants of double talk left (R234). -/
  dt    : Nat
  adapt : Bool
  floor : Bool
  div   : Bool
  erle  : Int
  /-- The running window (R235): energies, valid samples, whether it adapted and whether double talk occurred. -/
  ed    : Int
  ee    : Int
  wn    : Nat
  wAdapt : Bool
  wDt   : Bool
  /-- The window's 1536 instants have run and its end is due (R235). -/
  wEnd  : Bool
  /-- The window that ended last showed divergence (R242), and a CLR command is pending (R236). -/
  lastDiv : Bool
  clr   : Bool
  deriving DecidableEq, Repr

/-- The echo canceller and the band energies (R231–R238). -/
structure ZAec where
  ch     : Vector AecCh 2
  accs   : Vector AccSt 2
  /-- Ridge outputs for the reference decimator, newest first, and the reference at 24 kHz, newest first. -/
  refIn  : List Int
  x      : List Int
  /-- D in force (R232). -/
  dly    : Nat
  /-- Instants run in the present window, 0–1535, and the frame of the last instant. -/
  win    : Nat
  last   : Option (BitVec 48)
  /-- Seven bands of residual A, residual B, mic A, mic B and reference. -/
  bands  : Vector (Vector BandSt 7) 5
  /-- Bands whose ambient level of the last tick came from channel B (R242). -/
  sup    : BitVec 7
  capH   : List Word
  capP   : List Word
  deriving DecidableEq, Repr

/-- One NAL band (R239–R245): accumulator in U8.16 dB, applied code and the code before this tick, section states, ticks
untrusted, trust and target code of the last tick. -/
structure NalBand where
  acc   : Nat
  code  : Nat
  old   : Nat
  z1    : Int
  z2    : Int
  untr  : Nat
  trust : Bool
  tcode : Nat
  deriving DecidableEq, Repr

/-- A baseline record (R253): |Z|, phase, f_p, TICK. -/
structure BaseRec where
  mag  : Word
  ph   : Word
  freq : Word
  tick : Word
  deriving DecidableEq, Repr

/-- The governor (chapter 12). -/
structure ZGov where
  nal     : Vector NalBand 7
  /-- The running supervision interval (R246): its first tick, whether it can still be measured, samples taken, the sums of
  v and i times cos θ and sin θ, and the measurement settings it began with. -/
  iStart  : Option (BitVec 32)
  iOk     : Bool
  iN      : Nat
  vRe     : Int
  vIm     : Int
  iRe     : Int
  iIm     : Int
  iSet    : List Word
  /-- Verdict, candidate and its run (R249), and whether an interval has been measured since INIT (R253). -/
  verdict : Nat
  cand    : Nat
  runLen  : Nat
  measured : Bool
  /-- The verdict that fenced the zone (R251). -/
  fenceV  : Nat
  /-- The latest reported |Z| (R253): LINE.ZMAG reads 0 after an interval that reports none. -/
  zRep    : Word
  /-- Baseline: loaded, and whether f_p differs (R253); a record to be written or erased in the MRAM. -/
  baseOk  : Bool
  baseMis : Bool
  baseReq : Option (Option BaseRec)
  /-- Amplifier fault (R252): pin after debounce; frames of the low time run; frames since the release; retries; lock. -/
  ampFlt  : Bool
  ampLow  : Option Nat
  ampRel  : Option Nat
  retries : Nat
  ampLock : Bool
  /-- The HOLD timer runs (R255); the ticks left stand in GOV.HSTAT. -/
  hRun    : Bool
  deriving DecidableEq, Repr

/-- Outputs, generators and TDM port (chapter 13). -/
structure ZOut where
  /-- Active span, span sequence step (DAC.STAT.SEQ), ticks to its switch, its target span, a held request (R261, R262). -/
  span    : Nat
  seq     : Nat
  seqT    : Nat
  seqTgt  : Nat
  /-- A fence or a zone-local reset fell into the sequence: it ends without its rise (R262). -/
  seqCut  : Bool
  /-- A tick boundary has found the switch due (R261 step 3). -/
  seqDue  : Bool
  spanReq : Option Nat
  /-- Updates at μ = 0 of the sequence, up to 64 (R261 step 2); the common mode in 1,229,250ths of 2.5 V (R261, R265). -/
  parkN   : Nat
  cm      : Nat
  /-- Ticks left of a common-mode ramp of a span change, and ticks counted of ONDLY. -/
  cmT     : Nat
  onT     : Option Nat
  /-- Common mode settled (R265); the zone has started and waits for ZnAMPEN and ONDLY (R264). -/
  cmok    : Bool
  wait    : Bool
  /-- The mute factor in 768ths (R263). -/
  mu      : Nat
  /-- ZnAMPEN: level, level kept at fence or halt, the latch of row 6 of Table 13-4. -/
  ampen   : Bool
  ampKeep : Bool
  ampAuto : Bool
  /-- ZnAMPFLT as it stands. -/
  ampPin  : Bool
  /-- ZnCLRN (R267, R268): asserted; holding after release, with the tick boundaries to pass before that of the
  cross-fade; updates of it run. -/
  clr     : Bool
  clrHold : Option Nat
  clrX    : Option Nat
  /-- Sine generator phase (R270) and pilot (R271): running, amplitude, frequency word, A_p of the Ridge; step of a request,
  its word, the amplitude before it; the held request. -/
  phi     : BitVec 32
  pOn     : Bool
  pAmp    : Nat
  pInc    : Nat
  pRidge  : Nat
  pStep   : Nat
  pNew    : Word
  pOld    : Nat
  pReq    : Option Word
  /-- Fallback tone (R269): ticks since its start. -/
  fTicks  : Option Nat
  /-- Test generator (R273) and ticks since TEST was entered. -/
  tgen    : Int
  tphi    : BitVec 32
  tseed   : BitVec 32
  testTk  : Nat
  /-- Sums of the last frames for the interpolator, modulator codes for the side-tone, newest first; the four codes of the
  last frame, the element count and the ZCONV periods for which the deglitcher held at each of them, 0 where it did not (R257–R259). -/
  hist    : List Int
  mics    : List Int
  codes   : Vector Int 4
  elem    : Nat
  dgHeld  : Vector Nat 4
  /-- TDM port (R277–R281): settings in force, lock, PHASE, a write waits, slots received, TI, slots driven on ZnDOUT (none:
  high-impedance). -/
  tcfg    : Word
  tlock   : Bool
  tphase  : Int
  tpend   : Bool
  trx     : Vector Word 8
  tin     : Vector Word 8
  ttx     : Vector (Option Word) 8
  deriving DecidableEq, Repr

/-- Error correction and background test of the zone's memories (R344–R355). -/
structure ZMem where
  /-- Words that hold a bit error, by code × 2^20 + word: 1 single, 2 uncorrectable, 3 single and delivered corrected,
  waiting for its write-back. -/
  marks   : List (Nat × Nat)
  /-- Corrected and uncorrectable counts of each memory (MEM.ECCCNT). -/
  ecc     : Vector (Nat × Nat) 8
  /-- Ticks since the last scrub pass fell due (R351). -/
  scrub   : Nat
  /-- The next segment to borrow, counted over all memories in code order, the yields of it in this pass, and the borrows
  made in the present tick (R352, R354). -/
  seg     : Nat
  yields  : Nat
  borrows : Nat
  deriving DecidableEq, Repr

/-- One zone (R1, R2). -/
structure Zone where
  /-- The zone's own number (R1, R2). -/
  id     : ZoneId
  ctl    : ZCtl
  pwr    : ZPower
  regs   : RegMap
  time   : ZTime
  pll    : ZPll
  pos    : ZPos
  tmr    : Vector ZTimer 4
  sched  : ZSched
  swaps  : Vector ZSwap 6
  msgs   : MsgQ
  voices : Vector Voice 96
  vox    : ZVox
  winH   : WinSet
  winP   : WinSet
  cache  : ZCache
  route  : ZRoute
  lim    : ZLim
  dsp    : ZDsp
  dec    : Vector ZDec 4
  aec    : ZAec
  gov    : ZGov
  out    : ZOut
  mem    : ZMem
  /-- How many free values the zone has drawn (assumption 13). -/
  draws  : Nat
  deriving DecidableEq, Repr

end Sys2Proof.Machine
end

