-- ==== Sys2Proof/Machine/HostState.lean ====
section
/-! DEFINITION. The state of the host complex: content port, link, protocol, message queue, security island, life-cycle,
MRAM and power (chapters 8 and 14–19). Plain data. -/

namespace Sys2Proof.Machine

/-- An entry of the item table (Table 8-2). -/
structure Item where
  id    : Word
  ty    : Nat
  enc   : Bool
  first : Nat
  nblk  : Nat
  len   : Nat
  deriving DecidableEq, Repr

/-- Host-complex work on the content port (R156 step 1): a mount reading its hash blocks (R162 step 4), or a LOAD reading its
item's blocks (R171). -/
structure PortJob where
  /-- Item, zone and target of a LOAD; none for a mount. -/
  load  : Option (Word × ZoneId × Nat)
  /-- What is still to be read, in order: hash-block numbers, or block indexes within the item. -/
  todo  : List Nat
  /-- Hash blocks whose CRC failed in the first pass; hash blocks whose last read delivered no data. -/
  bad   : List Nat
  lost  : List Nat
  /-- A mount's second pass, or a LOAD's refetch of the block at the head. -/
  again : Bool
  /-- A LOAD's block at the head waits for its hash block, as in Fetch (R169). -/
  got   : Nat
  hbad  : Bool
  /-- Some read of the mount delivered data. -/
  seen  : Bool
  deriving DecidableEq, Repr

/-- The content port (chapter 8): mount state, the mounted bundle and the fetch slots. -/
structure Content where
  /-- MSTATE: 0 NONE, 1 MOUNTING, 2 MOUNTED, 3 FAILED (Table 8-9). -/
  mstate : Nat
  /-- The mount or LOAD that is running (MSTATE = MOUNTING, LBUSY = 1). -/
  job    : Option PortJob
  mfail  : Nat
  lres   : Nat
  nb     : Nat
  serial : Nat
  nonce  : List Byte
  base   : Nat
  barea  : Nat
  harea  : Nat
  items  : List Item
  groups : List (List Byte)
  /-- Hash blocks kept, newest use first, at most 64 (R169). -/
  hash   : List (Nat × List Byte)
  /-- Next fetch slot of the round, 0–95, and the zone last served by a shared slot (R155, R156). -/
  slot   : Nat
  rr     : Nat
  /-- The external flash (R154). -/
  flash  : Bytes
  deriving DecidableEq, Repr

/-- A frame that the device has ready to send (R293): TYPE, payload as sent, the records that it carries (source, number),
and whether it is a MESSAGE frame. -/
structure TxFrame where
  ty   : Nat
  pay  : List Byte
  recs : List (Nat × BitVec 16)
  msg  : Bool
  deriving DecidableEq, Repr

/-- The link and the truss (chapter 14) beside their registers. -/
structure HLink where
  /-- Locked mode: 0 none, 1 native, 2 compatibility (R298). -/
  lmode   : Nat
  rx      : Nat
  tx      : Nat
  /-- Rate code of the last valid frame since device reset (R293). -/
  heard   : Option Nat
  ta      : BitVec 2
  slow    : Bool
  /-- A frame is being received; the link-silence count in ticks (R22, R292). -/
  rxBusy  : Bool
  silence : Nat
  taconf  : Bool
  txfault : Bool
  /-- LINK_TX is owed once the next frame has been sent (R296). -/
  oweTx   : Bool
  /-- Frames ready: answers before messages (R312). -/
  txq     : List TxFrame
  /-- CHECK of the last frame received and sent (HCRC0). -/
  lastRx  : BitVec 16
  lastTx  : BitVec 16
  /-- The last frame sent whole on LTXD: IDENT, LEN, payload, CHECK (R293); the last answer on LSW: HDR, LEN, DATA, CHK
  (R300), empty when it was abandoned. -/
  ltxd    : List Byte
  lsw     : List Byte
  /-- SG_CTL.ARM with the frame number of the armed pulse (R302). -/
  sgArm   : Option (BitVec 48)
  deriving DecidableEq, Repr

/-- A command that the protocol engine holds (R312). -/
structure Held where
  ty    : Nat
  cn    : Byte
  check : BitVec 16
  bcast : Bool
  deriving DecidableEq, Repr

/-- An executed command's number, CHECK and answer (R313). -/
structure Kept where
  cn    : Byte
  check : BitVec 16
  ans   : TxFrame
  deriving DecidableEq, Repr

/-- A VOICE command that waits for the zones' bookkeeping windows (R308, R312): its header and ZMASK, the zones that have not
answered, those that refused, and the reason and DETAIL of the lowest of these. -/
structure VoiceWait where
  hdr    : Hdr
  zmask  : Nat
  left   : Nat
  zfail  : Nat
  low    : Nat
  why    : Nat
  detail : Nat
  deriving DecidableEq, Repr

/-- The protocol engine (chapter 15). -/
structure HProto where
  /-- The VOICE command under way, and the commands that have come after it (R312). -/
  vwait : Option VoiceWait
  wait  : List Instr
  held : List Held
  kept : List Kept
  bulk : Bytes
  msgs : MsgQ
  /-- The zone that gave the last record of the previous MESSAGE frame (R318). -/
  last : Nat
  deriving DecidableEq, Repr

/-- A session, open or stored (R323, R327): keys, floors and ceilings. -/
structure Session where
  sid    : Word
  roles  : Word
  kh2d   : List Byte
  kd2h   : List Byte
  kconf  : List Byte
  hfloor : Nat
  dseq   : Nat
  hc     : Nat
  bc     : Nat
  dc     : Nat
  rekey  : Bool
  deriving DecidableEq, Repr

/-- A handshake between DEVHELLO and AUTH (R324): T, K0 and the ticks that it has waited, up to 101 (assumption 8). -/
structure Shake where
  t    : List Byte
  k0   : List Byte
  age  : Nat
  deriving DecidableEq, Repr

/-- An operator key (R321). -/
structure OpKey where
  key    : List Byte
  anySer : Bool
  deriving DecidableEq, Repr

/-- An installed standing token (R335): its item ID, its bytes, and whether its key was revoked since. -/
structure StandTok where
  item    : Word
  tok     : List Byte
  revoked : Bool
  deriving DecidableEq, Repr

/-- Avhar's sessions, keys and tokens (R320–R337). -/
structure HSec where
  open0   : Option Session
  stored  : Option Session
  shake   : Option Shake
  /-- Consecutive TAGFAILs (R326). -/
  tagRun  : Nat
  /-- Tick boundaries since the last checkpoint, up to 251 (R327; assumption 8). -/
  ckAge   : Nat
  bfloor  : Nat
  owk     : List Byte
  opk     : Vector (Option OpKey) 4
  tgk     : List Byte
  stok    : Vector (Option StandTok) 32
  /-- The nonce list: nonce and TEND (R334). -/
  nonces  : List (List Byte × Nat)
  floor   : Nat
  cfloor  : Nat
  /-- DIK: its public key, and the maker certificate. -/
  dik     : List Byte
  cert    : List Byte
  /-- ISLAND = FAULT until Avhar's clock returns, and until reset (Table 16-9); ECC operations wait (TEMP). -/
  fault   : Bool
  pufBad  : Bool
  hot     : Bool
  /-- Outcome of the last P0 check: zones, item, the check code (0 passed) and TEND of an inline token with REUSE = 0 or of a
  standing token. -/
  p0      : Option (Nat × Word × Nat × Nat)
  deriving DecidableEq, Repr

/-- The life-cycle (R338–R342). -/
structure HLcs where
  st      : Nat
  pend    : Option Nat
  rmaPend : Bool
  zeroPend : Bool
  rmaCount : Nat
  tamper  : Nat
  chal    : List Byte
  dbgOpen : Bool
  testOpen : Bool
  res     : Nat
  deriving DecidableEq, Repr

/-- The MRAM (R358–R360). -/
structure HNvm where
  /-- Boot record, fault log and user area. -/
  mem   : Bytes
  /-- The 64-bit write buffer: the address of its first written half and the half. -/
  buf   : Option (Nat × Word)
  /-- Next entry of the fault log, and the tick at which each source last logged (R359). -/
  flog  : Nat
  flogT : Vector (Option (BitVec 32)) 9
  deriving DecidableEq, Repr

/-- Power, clocks and start-up (chapter 19). -/
structure HPwr where
  rcause : Nat
  booted : Bool
  zeroed : Bool
  /-- 0 AWAKE, 1 ENTERING, 2 asleep, 3 WAKING. -/
  pstate : Nat
  /-- T of an armed sleep entry (R389). -/
  slpT   : Word
  xin    : Bool
  hpll   : Bool
  cpll   : Bool
  x32    : Bool
  /-- LINK runs from the fast-start oscillator. -/
  linkOsc : Bool
  /-- TESTEN, TADDR as the pins stand (DESIGN CHOICE at reset, assumption 7). -/
  testen : Bool
  deriving DecidableEq, Repr

/-- The result of the last register access: the word read and the reason code of Table 15-3, 0 when it was not refused. -/
structure BusRes where
  data   : Word
  reason : Nat
  detail : Word
  /-- The last write of host software that landed in a zone: its offset there, the zones it reached, and the number of such
  writes (R356). -/
  wrOff  : Nat
  wrMask : Nat
  wrN    : Nat
  deriving DecidableEq, Repr

/-- The host complex. -/
structure HostC where
  regs  : RegMap
  cont  : Content
  /-- CEK, empty when none is installed. -/
  cek   : List Byte
  link  : HLink
  proto : HProto
  sec   : HSec
  lcs   : HLcs
  nvm   : HNvm
  pwr   : HPwr
  /-- Baseline records of the zones in the MRAM (R253). -/
  base  : Vector (Option BaseRec) 8
  bus   : BusRes
  /-- How many free values the host complex has drawn. -/
  draws : Nat
  deriving DecidableEq, Repr

end Sys2Proof.Machine
end

