-- ==== Sys2Proof/Machine/RealMath.lean ====
section
/-! DEFINITION. The real functions that the rules use, in fixed point with 128 fraction bits: powers, logarithms, sines,
angles; and the device's units that form them within the errors the spec states. A value that a rule rounds half up is
rounded from 128 fraction bits (assumption 17). -/

namespace Sys2Proof.Machine

/-- 1, ln 2, log2 10 and π with 128 fraction bits. -/
def fxOne : Nat := 2 ^ 128
def fxLn2 : Nat := 235865763225513294137944142764154484399
def fxLog10 : Nat := 1130393554869435518674010122299176348979
def fxPi : Nat := 1069028584064966747859680373161870783300

/-- Terms of the exponential series from the k-th on. -/
def fxExpGo (r : Nat) : Nat → Nat → Nat → Nat → Nat
  | 0, _, _, s => s
  | n + 1, k, t, s => let t' := t * r / fxOne / k; fxExpGo r n (k + 1) t' (s + t')

/-- e^r for 0 ≤ r < 1. -/
def fxExp (r : Nat) : Nat := fxExpGo r 40 1 fxOne fxOne

/-- 2^(x / 2^128) for an exponent with 128 fraction bits. -/
def exp2Fx (x : Int) : Rat :=
  let n := x / (2 ^ 128 : Int)
  let f := (x.emod (2 ^ 128)).toNat
  let v : Rat := (fxExp (f * fxLn2 / fxOne) : Nat)
  if n ≥ 0 then v * (2 ^ n.toNat : Nat) / (2 ^ 128 : Nat) else v / (2 ^ (128 + (-n).toNat) : Nat)

/-- 2^(a / b). -/
def exp2Of (a : Int) (b : Nat) : Rat := exp2Fx (a * 2 ^ 128 / b)

/-- The k digits after the point of log2 of a mantissa m in 1–2 with 128 fraction bits. -/
def fxLog2Go : Nat → Nat → Nat → Nat
  | 0, _, s => s
  | n + 1, m, s =>
    let q := m * m / fxOne
    if q ≥ 2 * fxOne then fxLog2Go n (q / 2) (2 * s + 1) else fxLog2Go n q (2 * s)

/-- log2 of a positive rational, with 96 fraction bits. -/
def log2Fx (x : Rat) : Int :=
  let a := x.num.toNat
  let e : Int := (Nat.log2 a : Int) - Nat.log2 x.den
  let m := if e ≥ 0 then a * fxOne / (x.den * 2 ^ e.toNat) else a * 2 ^ (-e).toNat * fxOne / x.den
  let (m, e) := if m < fxOne then (2 * m, e - 1) else if m ≥ 2 * fxOne then (m / 2, e + 1) else (m, e)
  e * 2 ^ 96 + fxLog2Go 96 m 0

/-- Terms of the sine series: a² in x2, the running term, its index. -/
def fxSinGo (x2 : Nat) : Nat → Nat → Int → Int → Int
  | 0, _, _, s => s
  | n + 1, k, t, s => let t' := -(t * x2 / fxOne) / ((k + 1) * (k + 2) : Nat); fxSinGo x2 n (k + 2) t' (s + t')

/-- sin of a in radians, 0 ≤ a ≤ π / 2. -/
def fxSin (a : Nat) : Int := fxSinGo (a * a / fxOne) 22 1 a a

/-- sin(2π x / 2^36) with 128 fraction bits. -/
def sinFx (x : Nat) : Int :=
  let x := x % 2 ^ 36
  let q := x / 2 ^ 34
  let u := x % 2 ^ 34
  let u := if q % 2 = 1 then 2 ^ 34 - u else u
  let v := fxSin (u * fxPi / 2 ^ 35)
  if q ≥ 2 then -v else v

/-- cos(2π x / 2^36) with 128 fraction bits. -/
def cosFx (x : Nat) : Int := sinFx (x + 2 ^ 34)

/-- 10^(d/20) for d / 65536 dB. -/
def gainReal (d : Int) : Rat := exp2Fx (d * fxLog10 / 1310720)

/-- A G36 code for a gain of d / 65536 dB: round_half_up(10^(d/20) × 2^32) (R70). -/
def gainDb (d : Int) : Int := roundHalfUp (gainReal d * (2 ^ 32 : Nat))

/-- round_half_up(2^(t/48)) (R117). -/
def envLen (t : Nat) : Nat := (roundHalfUp (exp2Of t 48)).toNat

/-- 2^x for x in 1/786432 octaves (R94, R122). -/
def exp2Pitch (x : Int) : Rat := exp2Of x 786432

/-- 10 log10 of a positive ratio in 1/256 dB (R73). -/
def levelDb (r : Rat) : Int := roundHalfUp ((2560 * (2 ^ 32 : Nat) : Rat) * log2Fx r / fxLog10)

/-- The phase increment of R90: within 2 × 10^−8 of f(p) / 96,000 × 2^48. -/
def pitchInc (p : Int) : Nat :=
  let e := exp2Pitch (p - 69 * 65536) * 440 / 96000 * (2 ^ 48 : Nat)
  let x := roundHalfUp e
  let b := (e / 50000000).floor
  (x + clampI (-b) b (Config.dev 0 [p])).toNat

/-- The sine table of R102: phase in 2^36ths of a cycle, within 3 × 10^−7 of full scale. -/
def sineTab (x : Nat) : Int :=
  clampI (-(2 ^ 35)) (2 ^ 35 - 1) (sinFx x / 2 ^ 93 + clampI (-10307) 10307 (Config.dev 1 [x]))

/-- e^(5u) for u = k / n. -/
def exp5 (k n : Nat) : Rat := let x : Rat := 5 * (k : Rat) / (n : Nat); exp2Fx (x * (2 ^ 256 : Nat) / fxLn2).floor

/-- c(k/n) of curves EXP and LOG of Table 6-2, within 2^−24 (R118). -/
def curveC (code k n : Nat) : Int :=
  let u := exp5 k n
  let v : Rat := if code = 1 then (1 - 1 / u) / (1 - 1 / exp5 1 1) else (u - 1) / (exp5 1 1 - 1)
  (v * (2 ^ 35 : Nat)).floor + clampI (-2047) 2047 (Config.dev 2 [code, k, n])

/-- The level of curve DB from l0 to l1 at k of n, within 2^−24 (Table 6-2, R118). -/
def curveDb (k n : Nat) (l0 l1 : Int) : Int :=
  let lg := fun (l : Int) => log2Fx ((max l (2 ^ 19) : Int) / (2 ^ 35 : Nat) : Rat)
  let x : Int := (lg l0 * (n - k : Nat) + lg l1 * k) / n
  (exp2Fx (x * 2 ^ 32) * (2 ^ 35 : Nat)).floor + clampI (-2047) 2047 (Config.dev 3 [k, n, l0, l1])

/-- The filter coefficients a1, a2, a3 and k of R106 as G36 codes: cutoff c on the pitch scale within 0.1 cent, k
within 2^−24. The rule states the error of the cutoff up to 20 kHz; above, the same bound is taken (assumption 17). A RES of 65536 stands for k = √2. -/
def filtCoef (c : Int) (res i : Nat) : Int :=
  let f := exp2Pitch (c + clampI (-65) 65 (Config.dev 4 [c]) - 69 * 65536) * 440
  let f := if f < 10 then 10 else if f > 40000 then 40000 else f
  let x := (f * (2 ^ 36 : Nat) / 192000).floor.toNat
  let g : Rat := (sinFx x : Rat) / (cosFx x : Int)
  let k0 : Rat := if res = 65536 then exp2Of 1 2 else 2 / exp2Fx ((fxLog10 + 3 * fxOne : Nat) * res / 65535 : Int)
  let k := if res = 65536 then k0 else k0 * (1 + ((clampI (-1024) 1024 (Config.dev 5 [res]) : Int) : Rat) / (2 ^ 34 : Nat))
  let a1 := 1 / (1 + g * (g + k))
  let v := if i = 0 then a1 else if i = 1 then g * a1 else if i = 2 then g * g * a1 else k
  roundHalfUp (v * (2 ^ 32 : Nat))

/-- The index of the largest step of a binary search that still holds. -/
def bisect (p : Nat → Bool) : Nat → Nat → Nat
  | 0, x => x
  | b + 1, x => if p (x + 2 ^ b) then bisect p b (x + 2 ^ b) else bisect p b x

/-- The phase of re + j im in 0.01° from −18000 to 18000, to the nearest (R73): the largest k whose lower half step it
reaches. -/
def angleOf (re im : Int) : Int :=
  let y := im.natAbs
  let at0 := fun (k : Nat) =>
    let x := (2 * k - 1) * 2 ^ 36 / 72000
    decide (k ≤ 18000 ∧ (k = 0 ∨ (y : Int) * cosFx x ≥ re * sinFx x))
  let k := bisect at0 15 0
  if im < 0 then -(k : Int) else k

/-- tab(i) of R270. -/
def sineQuarter (i : Nat) : Int :=
  if i ≥ 1024 then 2 ^ 19 - 1
  else roundHalfUp ((fxSin (i * fxPi / 2048) * (2 ^ 19 - 1) : Int) / (2 ^ 128 : Nat))

end Sys2Proof.Machine
end

