-- ==== Sys2Proof/Machine/Ops.lean ====
section
/-! DEFINITION. The named operations over a zone's registers, counts, flags, free draws and message queues. -/

namespace Sys2Proof.Machine

/-- The stored word of a register of a zone. -/
def Zone.reg (z : Zone) (k : Nat) : Word := smGet zoneRst z.regs k

/-- A zone with one stored register word replaced. -/
def Zone.setReg (z : Zone) (k : Nat) (v : Word) : Zone := { z with regs := smSet zoneRst z.regs k v }

/-- A zone with a field of a stored register set. -/
def Zone.putFld (z : Zone) (k hi lo v : Nat) : Zone := z.setReg k (setFld (z.reg k) hi lo v)

/-- A zone with a bit of a stored register set or cleared. -/
def Zone.putBit (z : Zone) (k i : Nat) (b : Bool) : Zone := z.setReg k (setBit (z.reg k) i b)

/-- A saturating count field of a zone register, increased by n (all counts saturate). -/
def Zone.count (z : Zone) (k hi lo n : Nat) : Zone :=
  z.putFld k hi lo (satAdd (2 ^ (hi + 1 - lo) - 1) (fld (z.reg k) hi lo) n)

/-- Sets a bit of the PG_FLT register of a page (R371). -/
def Zone.setFlt (z : Zone) (page i : Nat) : Zone := z.putBit (page + 0x00C) i true

/-- Whether the message of a PG_FLT bit is enabled (R369). -/
def Zone.fltEn (z : Zone) (page i : Nat) : Bool := bit (z.reg (page + 0x010)) i

/-- The stored word of a host-complex register. -/
def HostC.reg (h : HostC) (k : Nat) : Word := smGet hostRst h.regs k

/-- The host complex with one stored register word replaced. -/
def HostC.setReg (h : HostC) (k : Nat) (v : Word) : HostC := { h with regs := smSet hostRst h.regs k v }

/-- The host complex with a field of a stored register set. -/
def HostC.putFld (h : HostC) (k hi lo v : Nat) : HostC := h.setReg k (setFld (h.reg k) hi lo v)

/-- The host complex with a bit of a stored register set or cleared. -/
def HostC.putBit (h : HostC) (k i : Nat) (b : Bool) : HostC := h.setReg k (setBit (h.reg k) i b)

/-- A saturating count field of a host-complex register, increased by n. -/
def HostC.count (h : HostC) (k hi lo n : Nat) : HostC :=
  h.putFld k hi lo (satAdd (2 ^ (hi + 1 - lo) - 1) (fld (h.reg k) hi lo) n)

/-- A draw from the zone's noise source, S36 (R122, R126; assumption 13). -/
def Zone.draw (z : Zone) : Int × Zone :=
  ((BitVec.extractLsb' 12 36 (Config.noise z.id.val z.draws)).toInt, { z with draws := z.draws + 1 })

/-- A draw of 48 bits (R91). -/
def Zone.draw48 (z : Zone) : BitVec 48 × Zone :=
  (Config.noise z.id.val z.draws, { z with draws := z.draws + 1 })

/-- A free reading of what the spec names and does not compute (assumption 16). -/
def Zone.freeWord (z : Zone) (what : Nat) : W72 × Zone :=
  (Config.word z.id.val what z.draws, { z with draws := z.draws + 1 })

/-- A free truth value of a physical condition (assumption 16). -/
def Zone.freeCond (z : Zone) (what : Nat) : Bool × Zone :=
  (Config.cond z.id.val what z.draws, { z with draws := z.draws + 1 })

/-- Message classes of Table 15-4. -/
def clsFault : Nat := 0
def clsEvent : Nat := 1
def clsReport : Nat := 2
def clsMeasure : Nat := 3
def clsSecurity : Nat := 4

/-- Rank of a class for displacement (R316): MEASURE below REPORT below EVENT; FAULT and SECURITY are never displaced. -/
def clsRank (c : Nat) : Nat :=
  if c = clsMeasure then 0 else if c = clsReport then 1 else if c = clsEvent then 2 else 3

/-- The lowest rank of a list of records, 3 if none is below. -/
def lowRank : List Rec → Nat
  | [] => 3
  | r :: t => Nat.min (clsRank r.cls) (lowRank t)

/-- The list without its oldest record of rank k. -/
def dropRank (k : Nat) : List Rec → List Rec
  | [] => []
  | r :: t => if clsRank r.cls = k then t else r :: dropRank k t

/-- Merges into the oldest record that has another of the same code the oldest of those others (R317): the older one is
kept and its REPEAT grows by the newer one's REPEAT + 1. -/
def mergeRec : List Rec → List Rec
  | [] => []
  | r :: t =>
    match t.find? (fun x => x.code == r.code) with
    | some x => { r with rep := satAdd 255 r.rep (x.rep + 1) } :: t.erase x
    | none => r :: mergeRec t

/-- What entering a record does to a queue: 0 entered, 1 a record displaced, 2 a pair merged. -/
def MsgQ.add (m : MsgQ) (cap low : Nat) (r : Rec) : MsgQ × Nat :=
  let nlow := (m.q.filter (fun x => clsRank x.cls < 3)).length
  let room := if clsRank r.cls < 3 then nlow < low && m.q.length < cap else decide (m.q.length < cap)
  if room then ({ q := m.q ++ [r], nseq := m.nseq + 1 }, 0)
  else
    let all := m.q ++ [r]
    let k := lowRank all
    if k < 3 then ({ q := dropRank k all, nseq := m.nseq + 1 }, 1)
    else ({ q := mergeRec all, nseq := m.nseq + 1 }, 2)

/-- Creates a message record of a zone (R315–R317). -/
def Zone.send (z : Zone) (cls code : Nat) (params : List Byte) : Zone :=
  let r : Rec := { src := z.id.val, cls := cls, mseq := z.msgs.nseq, frame := z.time.frame, code := code, rep := 0,
                   flags := b2n z.time.est, params := params, sent := none }
  let (q, d) := z.msgs.add 64 56 r
  let z := { z with msgs := q }
  if d = 1 then z.count Reg.MSG_DROPPED 15 0 1 else if d = 2 then z.count Reg.MSG_DROPPED 31 16 1 else z

/-- Sets a PG_FLT bit on a page and sends ARITH if a sticky flag of the page goes from 0 to 1 and its message is enabled
(R77, R80): accumulator number, flag 0 AOV, 1 LOST, 2 SAT. -/
def Zone.arith (z : Zone) (page acc flag : Nat) : Zone :=
  let z := z.setFlt page flag
  if z.fltEn page flag then
    z.send clsReport 0x0040 [BitVec.ofNat 8 (page / 1024), BitVec.ofNat 8 acc, BitVec.ofNat 8 flag]
  else z

/-- State codes of Table 1-1. -/
def ZSt.code : ZSt → Nat
  | .off => 0 | .init => 1 | .test => 2 | .run => 3 | .hold => 4 | .fenced => 5 | .recover => 6

/-- ZCTL.STATE (Table 1-7). -/
def Zone.stateWord (z : Zone) : Word :=
  BitVec.ofNat 32 (z.ctl.st.code + 16 * b2n z.ctl.orphan + 32 * b2n z.ctl.hcloss + 256 * b2n z.ctl.initSlow +
    512 * b2n z.ctl.marchFail + 1024 * b2n z.ctl.ladFail + 2048 * b2n z.ctl.warmLost)

/-- The zone in a new state, with its ZSTATE report (Table 15-5). -/
def Zone.goto (z : Zone) (s : ZSt) : Zone :=
  let old := z.ctl.st
  let z := { z with ctl := { z.ctl with st := s } }
  z.send clsReport 0x0004 [BitVec.ofNat 8 old.code, BitVec.ofNat 8 s.code, BitVec.ofNat 8 z.stateWord.toNat]

/-- Whether the engines run and events execute (Table 1-1): RUN or HOLD, not under debug halt, not asleep, not on ZSLOW. -/
def Zone.live (z : Zone) : Bool :=
  (z.ctl.st == .run || z.ctl.st == .hold) && !z.pwr.halted && !z.pwr.asleep && !z.pwr.waking && !z.time.est

/-- TICK, 32 bits (R35). -/
def Zone.tick (z : Zone) : BitVec 32 := BitVec.ofNat 32 (z.time.frame.toNat / 96)

/-- Whether the present frame boundary is a tick boundary (R35, R49). -/
def Zone.atTick (z : Zone) : Bool := z.time.tk

/-- Signed distance a − b of two 48-bit frame numbers. -/
def fdist (a b : BitVec 48) : Int := (a - b).toInt

/-- The item with an ID, while a bundle is mounted (R162). -/
def HostC.item (h : HostC) (id : Word) : Option Item :=
  if h.cont.mstate = 2 then h.cont.items.find? (fun i => i.id == id) else none

/-- The active or inactive batten of a register of a double-banked page: Batten B lies 0x8000 above (R53). -/
def Zone.bank (z : Zone) (page : Fin 6) (inactive : Bool) (k : Nat) : Nat :=
  if xor (z.swaps[page].active) inactive then k + 0x8000 else k

/-- The active batten's word of an RWS register (R53). -/
def Zone.rws (z : Zone) (page : Fin 6) (k : Nat) : Word := z.reg (z.bank page false k)

end Sys2Proof.Machine
end

