-- ==== Sys2Proof/Machine/MemOps.lean ====
section
/-! DEFINITION. Error correction of the zone memories: bit errors, reads that meet them, writes that clear them (R81, R344,
R350). -/

namespace Sys2Proof.Machine

/-- Memory codes of Table 17-1. -/
def memCache : Nat := 0
def memDelay : Nat := 1
def memData : Nat := 2
def memProg : Nat := 3
def memVoice : Nat := 4
def memBatten : Nat := 5
def memRoute : Nat := 6
def memAec : Nat := 7

/-- Words of each memory (Table 17-1). -/
def memWords (c : Nat) : Nat :=
  match c with
  | 0 => 131072 | 1 => 131072 | 2 => 32768 | 3 => 16384 | 4 => 6144 | 5 => 6144 | 6 => 1152 | _ => 8192

/-- The key of a word of a memory. -/
def memKey (c w : Nat) : Nat := c * 2 ^ 20 + w

/-- The error a word holds. -/
def ZMem.mark (m : ZMem) (c w : Nat) : Nat := smGet (fun _ => 0) m.marks (memKey c w)

/-- A word with its error set or cleared. -/
def ZMem.setMark (m : ZMem) (c w v : Nat) : ZMem := { m with marks := smSet (fun _ => 0) m.marks (memKey c w) v }

/-- A new bit error in a word (an Upset of the frame): a second error in a word that holds one, or whose correction waits for its
write-back, makes it uncorrectable (R81; assumption 72). -/
def Zone.upset (z : Zone) (u : Upset) : Zone :=
  let c := u.mem.val
  let w := u.word % memWords c
  let v := if u.double || z.mem.mark c w != 0 then 2 else 1
  { z with mem := z.mem.setMark c w v }

/-- Adds to the corrected or uncorrectable count of a memory, saturating (MEM.ECCCNT). -/
def ZMem.tally (m : ZMem) (c : Nat) (unc : Bool) : ZMem :=
  { m with ecc := vmod m.ecc (fin 8 c) (fun p =>
      if unc then (p.1, satAdd 65535 p.2 1) else (satAdd 65535 p.1 1, p.2)) }

/-- A read of a word by an engine: whether it is uncorrectable (R350). -/
def Zone.eccRead (z : Zone) (c w : Nat) : Bool × Zone :=
  match z.mem.mark c w with
  | 0 => (false, z)
  | 2 =>
    let first := !bit (z.reg 0x680C) 0
    let z := { z with mem := z.mem.tally c true }
    let z := if first then z.setReg Reg.MEM_UADDR (BitVec.ofNat 32 (c * 2 ^ 29 + w)) else z
    (true, z.setFlt 0x6800 0)
  | _ => (false, { z with mem := (z.mem.tally c false).setMark c w 3 })

/-- A write of a word: its check bits are made anew. -/
def Zone.eccWrite (z : Zone) (c w : Nat) : Zone := { z with mem := z.mem.setMark c w 0 }

/-- Reads every word of a range that holds an error, as an engine that reads the whole range does: whether one was
uncorrectable. -/
def Zone.eccScan (z : Zone) (c lo n : Nat) : Bool × Zone :=
  (z.mem.marks.filter (fun p => memKey c lo ≤ p.1 && p.1 < memKey c lo + n)).foldl
    (fun (a : Bool × Zone) p =>
      let (b, y) := a.2.eccRead c (p.1 % 2 ^ 20)
      (a.1 || b, y)) (false, z)

/-- The memories without the errors of a range of words that has been written. -/
def ZMem.clearRange (m : ZMem) (c lo n : Nat) : ZMem :=
  { m with marks := m.marks.filter (fun p => p.1 < memKey c lo || memKey c lo + n ≤ p.1) }

/-- The zone without the errors of a memory, when it is cleared. -/
def ZMem.clearMem (m : ZMem) (c : Nat) : ZMem :=
  { m with marks := m.marks.filter (fun p => p.1 / 2 ^ 20 != c) }

/-- The corrected words that wait for their write-back (R350). -/
def ZMem.writeBack (m : ZMem) : ZMem := { m with marks := m.marks.filter (fun p => p.2 != 3) }

end Sys2Proof.Machine
end

