-- ==== Sys2Proof/Machine/Flags.lean ====
section
/-! DEFINITION. The arithmetic of chapter 4: products, accumulators with WRAP, STUCK, LDIR, AOV and LOST, reads and stores
with SAT. Values are integer codes of their formats (Table 4-1). -/

namespace Sys2Proof.Machine

/-- The A72 extremes (Table 4-1). -/
def a72Max : Int := 2 ^ 71 - 1
def a72Min : Int := -(2 ^ 71)

/-- The S36 and G36 extremes (Table 4-1). -/
def s36Max : Int := 2 ^ 35 - 1
def s36Min : Int := -(2 ^ 35)

/-- 1.0 as G36. -/
def g36One : Int := 2 ^ 32

/-- S36 entering A72 (R71). -/
def sToA (x : Int) : Int := x * 2 ^ 28

/-- G36 entering A72 (R71). -/
def gToA (x : Int) : Int := x * 2 ^ 31

/-- Products aligned to A72 (Table 4-2): S36 × S36, G36 × S36, A72 × S36, A72 × G36. -/
def mulSS (x y : Int) : Int := roundShift (x * y) 7
def mulGS (x y : Int) : Int := roundShift (x * y) 4
def mulAS (x y : Int) : Int := roundShift (x * y) 35
def mulAG (x y : Int) : Int := roundShift (x * y) 32

/-- The k of R74 for an exact sum s: s = a + k × 2^72 in A72 codes. -/
def wrapK (s : Int) : Int := (s - wrapS 72 s) / 2 ^ 72

/-- An accumulator after an exact result s is written to it (R74, R75). -/
def AccSt.put (a : AccSt) (s : Int) : AccSt :=
  let k := wrapK s
  let a := { a with val := wrapS 72 s }
  if k = 0 then a
  else if a.stuck then { a with ldir := k.sign }
  else if a.wrap + k > 7 ∨ a.wrap + k < -7 then
    { a with wrap := 7 * k.sign, stuck := true, ldir := k.sign, aov := true, lost := true }
  else { a with wrap := a.wrap + k, ldir := k.sign, aov := true }

/-- Adds an exact addend to an accumulator (R74). -/
def AccSt.add (a : AccSt) (x : Int) : AccSt := a.put (a.val + x)

/-- Loads an accumulator (R76). AOV and LOST stay. -/
def AccSt.load (a : AccSt) (x : Int) : AccSt := AccSt.put { a with val := 0, wrap := 0, stuck := false, ldir := 0 } x

/-- An accumulator at device reset. -/
def AccSt.zero : AccSt := { val := 0, wrap := 0, stuck := false, ldir := 0, aov := false, lost := false }

/-- A read of an accumulator as an A72 operand (R78). -/
def AccSt.read (a : AccSt) : Int :=
  if a.wrap = 0 ∧ a.stuck = false then a.val
  else if (if a.stuck then a.ldir else a.wrap) > 0 then a72Max else a72Min

/-- A store target of Table 4-5: shift and code range. -/
structure Target where
  shift : Nat
  lo    : Int
  hi    : Int
  deriving DecidableEq, Repr

def tgtS36 : Target := ⟨28, s36Min, s36Max⟩
def tgtG36 : Target := ⟨31, s36Min, s36Max⟩
def tgtDacB : Target := ⟨44, -(2 ^ 19), 2 ^ 19 - 1⟩
def tgtDacU : Target := ⟨43, 0, 2 ^ 20 - 1⟩
def tgtA72 : Target := ⟨0, a72Min, a72Max⟩
/-- A TO sink: round_shift by 32 and 32-bit saturation (Table 9-1). -/
def tgtTo : Target := ⟨32, -(2 ^ 31), 2 ^ 31 - 1⟩

/-- A store of an A72 operand (R79 step 3): the code and whether it saturated (R80). -/
def storeVal (t : Target) (x : Int) : Int × Bool :=
  let r := roundShift x t.shift
  if r > t.hi then (t.hi, true) else if r < t.lo then (t.lo, true) else (r, false)

/-- A store of an accumulator (R79): the code and whether SAT is set (R80). -/
def AccSt.store (t : Target) (a : AccSt) : Int × Bool :=
  if a.stuck then (if a.ldir > 0 then t.hi else t.lo, true)
  else if a.wrap > 0 then (t.hi, true)
  else if a.wrap < 0 then (t.lo, true)
  else storeVal t a.val

end Sys2Proof.Machine
end

