-- ==== Sys2Proof/Machine/Operands.lean ====
section
/-! DEFINITION. Operand forms: the fields of the voice parameter block (Tables 6-7 to 6-11), of control words, of
handles, and content bytes and headers as the oscillators read them. -/

namespace Sys2Proof.Machine

/-- The active and inactive batten of the voice blocks. -/
def Zone.battAct (z : Zone) : Mem72 := if z.swaps[(0 : Fin 6)].active then z.vox.battB else z.vox.battA
def Zone.battIn (z : Zone) : Mem72 := if z.swaps[(0 : Fin 6)].active then z.vox.battA else z.vox.battB

/-- Word i of voice v's block in a batten. -/
def blk (m : Mem72) (v i : Nat) : W72 := m72Get m (v * 32 + i)

/-- Bits hi:lo of a field, signed. -/
def wsfld (w : W72) (hi lo : Nat) : Int := wrapS (hi + 1 - lo) (wfld w hi lo)

/-- The fields of an oscillator (Tables 6-8, 6-9). -/
structure OscP where
  level : Int
  tune  : Int
  mode  : Nat
  fixed : Bool
  item  : Word
  start : Nat
  dest  : Nat
  free  : Bool
  chan  : Nat
  ntype : Bool
  fmsrc : Nat
  root  : Nat
  glen  : Nat
  grate : Nat
  ls    : Nat
  le    : Nat
  loop  : Nat
  morph : Nat
  fmidx : Int
  phase0 : Nat
  deriving DecidableEq, Repr

/-- Word X of oscillator n as a half (Table 6-7). -/
def oscX (m : Mem72) (v n : Nat) : Nat :=
  if n = 0 then wfld (blk m v 9) 71 36 else if n = 1 then wfld (blk m v 9) 35 0 else wfld (blk m v 10) 71 36

/-- Oscillator n of voice v in a batten. -/
def oscP (m : Mem72) (v n : Nat) : OscP :=
  let a := blk m v (3 * n)
  let b := blk m v (3 * n + 1)
  let c := blk m v (3 * n + 2)
  let x := oscX m v n
  { level := wsfld a 71 36, tune := wsfld a 35 4, mode := wfld a 3 1, fixed := wfld a 0 0 == 1,
    item := BitVec.ofNat 32 (wfld b 71 40), start := wfld b 39 8, dest := wfld b 7 6, free := wfld b 5 5 == 1,
    chan := wfld b 4 4, ntype := wfld b 3 3 == 1, fmsrc := wfld b 2 0,
    root := x / 2 ^ 28 % 256, glen := x / 2 ^ 15 % 8192, grate := x / 16 % 2048,
    ls := wfld c 71 40, le := wfld c 39 8, loop := wfld c 7 6, morph := wfld c 71 56, fmidx := wsfld c 71 36,
    phase0 := wfld c 35 20 }

/-- A time-code envelope word (Table 6-11). -/
structure EnvP where
  delay  : Nat
  attack : Nat
  hold   : Nat
  decay  : Nat
  rel    : Nat
  sus    : Nat
  ac     : Nat
  dc     : Nat
  rc     : Nat
  rt     : Nat
  deriving DecidableEq, Repr

/-- Envelope e of voice v. -/
def envP (m : Mem72) (v e : Nat) : EnvP :=
  let w := blk m v (26 + e)
  { delay := wfld w 71 62, attack := wfld w 61 52, hold := wfld w 51 42, decay := wfld w 41 32, rel := wfld w 31 22,
    sus := wfld w 21 10, ac := wfld w 9 8, dc := wfld w 7 6, rc := wfld w 5 4, rt := wfld w 3 2 }

/-- An LFO half (Table 6-11). -/
structure LfoP where
  shape : Nat
  sync  : Nat
  rate  : Nat
  phase : Nat
  fade  : Nat
  uni   : Bool
  deriving DecidableEq, Repr

/-- LFO l of voice v. -/
def lfoP (m : Mem72) (v l : Nat) : LfoP :=
  let x := if l = 0 then wfld (blk m v 30) 71 36 else if l = 1 then wfld (blk m v 30) 35 0 else wfld (blk m v 31) 71 36
  { shape := x / 2 ^ 33 % 8, sync := x / 2 ^ 31 % 4, rate := x / 2 ^ 16 % 2 ^ 15, phase := x / 256 % 256,
    fade := x / 16 % 16, uni := x / 8 % 2 == 1 }

/-- A modulation slot (Table 6-11): depth as a G36 code. -/
structure ModP where
  depth : Int
  src   : Nat
  dst   : Nat
  ar    : Bool
  deriving DecidableEq, Repr

/-- Modulation slot s of voice v. -/
def modP (m : Mem72) (v s : Nat) : ModP :=
  let w := blk m v (18 + s / 2)
  let x := if s % 2 = 0 then wfld w 71 36 else wfld w 35 0
  { depth := wrapS 36 (x / 2 ^ 16 * 2 ^ 16), src := x / 1024 % 64, dst := x / 8 % 128, ar := x / 4 % 2 == 1 }

/-- A filter (Table 6-10). -/
structure FltP where
  key   : Int
  cut   : Int
  mode  : Nat
  slope : Bool
  level : Int
  res   : Nat
  pgain : Int
  deriving DecidableEq, Repr

/-- Filter f of voice v. -/
def fltP (m : Mem72) (v f : Nat) : FltP :=
  let a := blk m v (11 + 2 * f)
  let b := blk m v (12 + 2 * f)
  { key := wsfld a 71 36, cut := wsfld a 35 4, mode := wfld a 3 1, slope := wfld a 0 0 == 1,
    level := wsfld b 71 36, res := wfld b 35 20, pgain := wsfld b 19 12 }

/-- VOICE half: VTUNE, TOPO, ENDMODE (Table 6-10). -/
def vTune (m : Mem72) (v : Nat) : Int := wsfld (blk m v 10) 35 4
def vTopo (m : Mem72) (v : Nat) : Bool := wfld (blk m v 10) 3 3 == 1
def vEndMode (m : Mem72) (v : Nat) : Bool := wfld (blk m v 10) 2 2 == 1

/-- AMP, PAN and SEND levels (Table 6-7). -/
def vAmp (m : Mem72) (v : Nat) : Int := hiHalf (blk m v 15)
def vPan (m : Mem72) (v : Nat) : Int := loHalf (blk m v 15)
def vSend (m : Mem72) (v s : Nat) : Int :=
  if s % 2 = 0 then hiHalf (blk m v (16 + s / 2)) else loHalf (blk m v (16 + s / 2))

/-- OUTCFG half: TAPs and CSMn (Table 6-10). -/
def vTap (m : Mem72) (v s : Nat) : Nat := wfld (blk m v 31) (29 + 2 * s) (28 + 2 * s)
def vCsm (m : Mem72) (v c : Nat) : Nat := wfld (blk m v 31) (6 + 3 * c) (4 + 3 * c)

/-! Content (chapter 8). -/

/-- The content key, as the decryption of blocks uses it (R163). -/
def HostC.keyBytes (h : HostC) : List Byte := h.cek

/-- The 16 keystream bytes of unit u of block b: AES-128-CTR under CEK with counter NONCE ‖ b ‖ u, big-endian (R163). -/
def HostC.keystream (h : HostC) (b u : Nat) : List Byte :=
  Config.crypto 1 [h.keyBytes, h.cont.nonce ++ (natLe b 4).reverse ++ (natLe u 4).reverse] 16

/-- Byte i of a block's data as decrypted (R163). -/
def HostC.plainByte (h : HostC) (enc : Bool) (b i : Nat) (x : Byte) : Byte :=
  if enc then x ^^^ ((h.keystream b (i / 16))[i % 16]?).getD 0 else x

/-- Flash address of block record b (R160). -/
def HostC.blkAddr (h : HostC) (b : Nat) : Nat := h.cont.base + h.cont.barea + b * 4112

/-- Byte i of an item, decrypted, as the mounted bundle holds it in flash. -/
def HostC.itemByte (h : HostC) (it : Item) (i : Nat) : Byte :=
  h.plainByte it.enc (it.first + i / 4096) (i % 4096)
    (byGet h.cont.flash (h.blkAddr (it.first + i / 4096) + i % 4096))

/-- A little-endian number of n bytes of an item at offset i. -/
def HostC.itemNat (h : HostC) (it : Item) (i : Nat) : Nat → Nat
  | 0 => 0
  | n + 1 => (h.itemByte it i).toNat + 256 * h.itemNat it (i + 1) n

/-- A sample-set header (Table 8-4). -/
structure SHdr where
  rate  : Nat
  width : Nat
  chans : Nat
  root  : Nat
  len   : Nat
  start : Nat
  ls    : Nat
  le    : Nat
  deriving DecidableEq, Repr

/-- The header of a sample-set item, if the item exists, is one and lies within Table 5-4. -/
def HostC.sHdr (h : HostC) (id : Word) : Option (Item × SHdr) :=
  match h.item id with
  | none => none
  | some it =>
    let d : SHdr := { rate := h.itemNat it 0 4, width := h.itemNat it 4 1, chans := h.itemNat it 5 1,
                      root := h.itemNat it 6 1, len := h.itemNat it 8 4, start := h.itemNat it 12 4,
                      ls := h.itemNat it 16 4, le := h.itemNat it 20 4 }
    if it.ty = 1 ∧ 8000 ≤ d.rate ∧ d.rate ≤ 96000 ∧ (d.width = 16 ∨ d.width = 24) ∧ (d.chans = 1 ∨ d.chans = 2) ∧
        d.root ≤ 127 ∧ d.len ≤ 2 ^ 32 - 1 ∧ 64 + d.len * d.chans * (d.width / 8) ≤ it.len
    then some (it, d) else none

/-- A wavetable-set header: N, L, width (Table 8-4), within Table 5-4. -/
def HostC.wHdr (h : HostC) (id : Word) : Option (Item × Nat × Nat × Nat) :=
  match h.item id with
  | none => none
  | some it =>
    let n := h.itemNat it 0 2
    let l := h.itemNat it 2 1
    let w := h.itemNat it 4 1
    if it.ty = 2 ∧ h.itemNat it 5 1 = 1 ∧ 1 ≤ n ∧ n ≤ 64 ∧ 1 ≤ l ∧ l ≤ 8 ∧ (w = 16 ∨ w = 24) ∧ 64 + n * l * 2048 * (w / 8) ≤ it.len
    then some (it, n, l, w) else none

/-- The cache line that holds a bundle block. -/
def ZCache.find (c : ZCache) (b : Nat) : Option CacheLine := c.lines.find? (fun l => l.blk == b)

/-- A byte of a cache line: eight bytes to a word, the lower address in the lower bits (assumption 23). -/
def ZCache.byte (c : ZCache) (line i : Nat) : Byte :=
  BitVec.ofNat 8 (wfld (m72Get c.mem (line * 512 + i / 8)) (8 * (i % 8) + 7) (8 * (i % 8)))

/-- Byte i of an item as the zone's cache holds it, none if its block is absent. -/
def Zone.cacheByte (z : Zone) (it : Item) (i : Nat) : Option Byte :=
  (z.cache.find (it.first + i / 4096)).map (fun l => z.cache.byte l.line (i % 4096))

/-- n bytes of an item from the cache, as a little-endian number. -/
def Zone.cacheNat (z : Zone) (it : Item) (i : Nat) : Nat → Option Nat
  | 0 => some 0
  | n + 1 =>
    match z.cacheByte it i, z.cacheNat it (i + 1) n with
    | some b, some r => some (b.toNat + 256 * r)
    | _, _ => none

/-- A content sample of the given width at a byte offset, as S36 (Table 5-4); none if absent. -/
def Zone.cacheSample (z : Zone) (it : Item) (off width : Nat) : Option Int :=
  (z.cacheNat it off (width / 8)).map (fun n => wrapS width n * 2 ^ (36 - width))

end Sys2Proof.Machine
end

