-- ==== Sys2Proof/Machine/RouteOps.lean ====
section
/-! DEFINITION. The Thatch program: slot words, validation, latency, splices, gain registers and the pass (chapter 9). -/

namespace Sys2Proof.Machine

/-- The fields of a slot word (Table 9-2). -/
def slotOp (w : W72) : Nat := wfld w 71 69
def slotSp (w : W72) : Bool := wfld w 68 68 == 1
def slotZ1 (w : W72) : Bool := wfld w 67 67 == 1
def slotSrc (w : W72) : Nat := wfld w 66 57
def slotDst (w : W72) : Nat := wfld w 56 47
def slotGref (w : W72) : Nat := wfld w 46 35

/-- B0–B15 (Table 9-1). -/
def isBus (c : Nat) : Bool := 0x180 ≤ c && c ≤ 0x18F

/-- Source nodes (Table 9-1). -/
def isSource (c : Nat) : Bool :=
  c ≤ 0x17F || isBus c || (0x198 ≤ c && c ≤ 0x19F) || (0x1A0 ≤ c && c ≤ 0x1A3) || c == 0x1A8 || c == 0x1A9 ||
    (0x200 ≤ c && c ≤ 0x23F) || c == 0x3FF

/-- Sink nodes of a TAP (Table 9-1). -/
def isTapSink (c : Nat) : Bool := (0x1C0 ≤ c && c ≤ 0x1C7) || (0x240 ≤ c && c ≤ 0x27F)

/-- Buses and the master bus. -/
def isBusOrMb (c : Nat) : Bool := isBus c || c == 0x190

/-- Whether a slot reads its source: SET, ADD, MAC or TAP. -/
def slotReads (w : W72) : Bool := 1 ≤ slotOp w && slotOp w ≤ 4

/-- Whether a slot writes bus b. -/
def writesBus (w : W72) (b : Nat) : Bool := 1 ≤ slotOp w && slotOp w ≤ 3 && slotDst w == b

/-- Whether a slot reads bus b without Z1. -/
def readsBus (w : W72) (b : Nat) : Bool := slotReads w && !slotZ1 w && isBus b && slotSrc w == b

/-- A version of a slot differs from another in OP, SRC, DST, Z1 or GREF (R180). -/
def slotDiffers (a b : W72) : Bool :=
  slotOp a != slotOp b || slotSrc a != slotSrc b || slotDst a != slotDst b || slotZ1 a != slotZ1 b ||
    slotGref a != slotGref b

/-- Slot i splices at a swap from old to new (R181). -/
def slotSplices (old new : W72) : Bool := (slotSp new || slotOp new == 5) && slotDiffers old new

/-- The slots of an image that are listed, in index order; unlisted slots are NOP. -/
def slotsOf (m : Mem72) : Mem72 := m.filter (fun p => p.1 < 512)

/-- The active and inactive images. -/
def Zone.routeAct (z : Zone) : Mem72 := if z.swaps[(1 : Fin 6)].active then z.route.batB else z.route.batA
def Zone.routeIn (z : Zone) : Mem72 := if z.swaps[(1 : Fin 6)].active then z.route.batA else z.route.batB

/-- The slot indices listed in either image, rising. -/
def slotKeys : Mem72 → List Nat → List Nat
  | [], l => l
  | (k, _) :: r, l => slotKeys r (l.orderedInsert (· ≤ ·) k)

/-- The indices listed in either of two images. -/
def bothKeys (a b : Mem72) : List Nat := (slotKeys (slotsOf a) (slotKeys (slotsOf b) [])).dedup

/-- The slots that would splice between two images, with their old versions, in index order (R181, R184). -/
def spliceList (old new : Mem72) : List (Nat × W72) :=
  (bothKeys old new).filterMap (fun i =>
    if slotSplices (m72Get old i) (m72Get new i) then some (i, m72Get old i) else none)

/-- The first listed slot of an image for which a check fails. -/
def firstBad (m : Mem72) (bad : Nat → W72 → Bool) : Option Nat :=
  ((slotsOf m).find? (fun p => bad p.1 p.2)).map (·.1)

/-- Check 2 of Table 9-5 for one slot. -/
def badSrc (w : W72) : Bool := slotReads w && (!isSource (slotSrc w) || (slotZ1 w && !isBus (slotSrc w)))

/-- Check 3 of Table 9-5 for one slot. -/
def badDst (w : W72) : Bool :=
  (1 ≤ slotOp w && slotOp w ≤ 3 && !isBusOrMb (slotDst w)) || (slotOp w == 4 && !isTapSink (slotDst w))

/-- Check 4 of Table 9-5 for one slot. -/
def badGref (w : W72) : Bool :=
  (slotOp w == 1 || slotOp w == 3 || slotOp w == 4) && !(slotGref w ≤ 63 || slotGref w == 0xFFF)

/-- Check 5 of Table 9-5: slot i reads a bus without Z1 and a later slot writes it. -/
def badOrder (m : Mem72) (i : Nat) (w : W72) : Bool :=
  isBus (slotSrc w) && readsBus w (slotSrc w) &&
    (slotsOf m).any (fun p => i < p.1 && writesBus p.2 (slotSrc w))

/-- Check 6 of Table 9-5 for path word k. -/
def badPath (w : W72) : Bool :=
  wfld w 20 20 == 1 && !(isSource (wfld w 19 10) && (isBusOrMb (wfld w 9 0) || isTapSink (wfld w 9 0)))

/-- The first failing path word. -/
def firstBadPath (m : Mem72) : Option Nat :=
  (m.find? (fun p => 544 ≤ p.1 && p.1 < 576 && badPath p.2)).map (·.1)

/-- Check 7 of Table 9-5: an old version run under R181 reads a bus without Z1 ahead of a writer of it in the new image. -/
def badSpliceOrder (old new : Mem72) : Option Nat :=
  ((spliceList old new).find? (fun p =>
    isBus (slotSrc p.2) && readsBus p.2 (slotSrc p.2) &&
      (slotsOf new).any (fun q => p.1 ≤ q.1 && writesBus q.2 (slotSrc p.2)))).map (·.1)

/-- Validation (R178): code and failing word; checks 7 and 8 only at an arm. -/
def validate (old new : Mem72) (arm : Bool) : Nat × Nat :=
  match firstBad new (fun _ w => 6 ≤ slotOp w) with
  | some i => (1, i)
  | none => match firstBad new (fun _ w => badSrc w) with
    | some i => (2, i)
    | none => match firstBad new (fun _ w => badDst w) with
      | some i => (3, i)
      | none => match firstBad new (fun _ w => badGref w) with
        | some i => (4, i)
        | none => match firstBad new (badOrder new) with
          | some i => (5, i)
          | none => match firstBadPath new with
            | some i => (6, i)
            | none =>
              if arm then
                match badSpliceOrder old new with
                | some i => (7, i)
                | none =>
                  match (spliceList old new)[64]? with
                  | some p => (8, p.1)
                  | none => (0, 0)
              else (0, 0)

/-! Latency (R179, Table 9-6). Nodes: 0–15 the buses, 16 a zone DSP insert, 17 the declared source, 18 the declared sink. -/

/-- Edges of one slot for a path from source s to sink t: from, to, frames. -/
def slotEdges (s t : Nat) (w : W72) : List (Nat × Nat × Nat) :=
  if slotReads w then
    let src := slotSrc w
    let d := slotDst w
    let rd := if isBus src then b2n (slotZ1 w) else 1
    let froms := (if src = s then [17] else []) ++
      (if isBus src then [src - 0x180] else if 0x200 ≤ src ∧ src ≤ 0x23F then [16] else [])
    let tos : List (Nat × Nat) := (if d = t then [(18, if isBus d then 0 else 1)] else []) ++
      (if isBus d then [(d - 0x180, 0)] else if 0x240 ≤ d ∧ d ≤ 0x27F then [(16, 1)] else [])
    froms.flatMap (fun a => tos.map (fun b => (a, b.1, rd + b.2)))
  else []

/-- One round of relaxation of the smallest distances from node 17. -/
def relaxMin (es : List (Nat × Nat × Nat)) (d : Nat → Option Nat) (v : Nat) : Option Nat :=
  es.foldl (fun acc e =>
    if e.2.1 = v then
      match d e.1, acc with
      | some x, some a => some (Nat.min a (x + e.2.2))
      | some x, none => some (x + e.2.2)
      | none, a => a
    else acc) (if v = 17 then some 0 else none)

/-- A table of values for the 19 nodes. -/
def tabulate (f : Nat → Option Nat) : List (Option Nat) := (List.range 19).map f

/-- A table's value. -/
def tabGet (l : List (Option Nat)) (v : Nat) : Option Nat := (l[v]?).join

/-- Smallest distances. -/
def minDist (es : List (Nat × Nat × Nat)) : List (Option Nat) :=
  iter 19 (fun _ l => tabulate (relaxMin es (tabGet l))) (tabulate (fun v => if v = 17 then some 0 else none))

/-- Whether node a reaches node b by one or more edges. -/
def reaches (es : List (Nat × Nat × Nat)) (a b : Nat) : Bool :=
  let step := fun (l : List Nat) => (l ++ (es.filter (fun e => l.contains e.1)).map (·.2.1)).dedup
  (iter 19 (fun _ l => step l) ((es.filter (fun e => e.1 == a)).map (·.2.1)).dedup).contains b

/-- Largest distances over edges whose target still reaches the sink, when no such cycle exists. -/
def relaxMax (es : List (Nat × Nat × Nat)) (d : Nat → Option Nat) (v : Nat) : Option Nat :=
  es.foldl (fun acc e =>
    if e.2.1 = v then
      match d e.1, acc with
      | some x, some a => some (Nat.max a (x + e.2.2))
      | some x, none => some (x + e.2.2)
      | none, a => a
    else acc) (if v = 17 then some 0 else none)

/-- The word of ROUTE.LATk for a path declaration in an image (R179, Table 9-10). -/
def latWord (m : Mem72) (p : W72) : Word :=
  if wfld p 20 20 = 0 then 0
  else
    let s := wfld p 19 10
    let t := wfld p 9 0
    let es := (slotsOf m).flatMap (fun q => slotEdges s t q.2)
    match tabGet (minDist es) 18 with
    | none => 0xC0000000
    | some mn =>
      let cyc := (List.range 17).any (fun v => reaches es 17 v && reaches es v v && reaches es v 18)
      let es' := es.filter (fun e => e.2.1 == 18 || reaches es e.2.1 18)
      let mx := if cyc then 0xFFF else
        (tabGet (iter 19 (fun _ l => tabulate (relaxMax es' (tabGet l)))
          (tabulate (fun v => if v = 17 then some 0 else none))) 18).getD 0
      BitVec.ofNat 32 (0x80000000 + (if cyc then 0x20000000 else 0) + (mx % 4096) * 4096 + mn % 4096)

/-- The latency table of an image. -/
def latTable (m : Mem72) : List Word := (List.range 32).map (fun k => latWord m (m72Get m (544 + k)))

/-- Validates the inactive image and records the result (R178). -/
def Zone.routeValidate (z : Zone) (arm : Bool) : Nat × Zone :=
  let (c, w) := validate z.routeAct z.routeIn arm
  let n := (spliceList z.routeAct z.routeIn).length
  let z := z.setReg Reg.ROUTE_VSTAT (BitVec.ofNat 32 (c * 2 ^ 28 + (w % 1024) * 2 ^ 16 + n % 1024))
  let r := { z.route with latIn := latTable z.routeIn,
                          inactOk := if c = 0 then true else z.route.inactOk }
  (c, { z with route := r })

/-! Gain registers (R185, R186). -/

/-- Whether a slot uses gain register k as SET, MAC or TAP. -/
def usesGain (w : W72) (k : Nat) : Bool :=
  (slotOp w == 1 || slotOp w == 3 || slotOp w == 4) && slotGref w == k

/-- The key slot of a gain register in an image (R186). -/
def keySlot (m : Mem72) (k : Nat) : Option Nat :=
  ((slotsOf m).find? (fun p => usesGain p.2 k)).map (·.1)

/-- A request on one gain register, with whether it has a key slot (R186). -/
def GainReg.request (g : GainReg) (keyed : Bool) (t : Int) : GainReg :=
  if g.ramp > 0 then { g with tgt := t, from0 := g.cur, ramp := 32 }
  else if t = g.cur then { g with tgt := t, pend := false, wait := 0 }
  else if !keyed then { g with tgt := t, cur := t, pend := false, wait := 0 }
  else if g.pend then { g with tgt := t }
  else { g with tgt := t, pend := true, wait := 0 }

/-- A gain request taking effect at a frame boundary (R185). -/
def Zone.gainReq (z : Zone) (k : Nat) (t : Int) : Zone :=
  if h : k < 64 then
    let keyed := (keySlot z.routeAct k).isSome
    { z with route := { z.route with g := vmod z.route.g ⟨k, h⟩ (fun g => g.request keyed t) } }
  else z.count Reg.VCTL_COUNT 7 0 1

/-- The gain-table value of register k in an image (Table 9-4). -/
def gainEntry (m : Mem72) (k : Nat) : Int :=
  let w := m72Get m (512 + k / 2)
  if k % 2 = 0 then hiHalf w else loHalf w

/-- A pending register whose key slot is gone steps at once (R186). -/
def GainReg.unkeyed (g : GainReg) : GainReg :=
  if g.pend then { g with cur := g.tgt, pend := false, wait := 0 } else g

/-- What a swap of the ROUTE page does to the sequencer, old and new image given (R180, R181, R185, R186): called with
the new image already active. -/
def Zone.routeSwapped (z : Zone) (old new : Mem72) : Zone :=
  let sp := spliceList old new
  let hard := (bothKeys old new).any (fun i =>
    slotDiffers (m72Get old i) (m72Get new i) && !slotSplices (m72Get old i) (m72Get new i))
  let w := clampN 24 768 (fld (z.reg Reg.ROUTE_CFG) 25 16)
  let z := { z with route := { z.route with splice := sp, splW := if sp = [] then 0 else w, splK := 0,
                                            latAct := latTable new } }
  let z := if hard then z.setFlt 0x2400 3 else z
  let z := iter 64 (fun k z =>
    if (keySlot new k).isNone then
      { z with route := { z.route with g := vmod z.route.g (fin 64 k) GainReg.unkeyed } } else z) z
  iter 64 (fun k z => if gainEntry new k ≠ z.route.g[fin 64 k].tgt then z.gainReq k (gainEntry new k) else z) z

/-- Whether an arm of the ROUTE page for tick t is refused by a running splice window (R183): the frames left of the window begin
with the present one until its pass is done. -/
def Zone.spliceBusy (z : Zone) (t : BitVec 32) : Bool :=
  let left := z.route.splW - z.route.splK
  if z.route.splW = 0 ∨ left = 0 then false
  else decide (tickDist t (BitVec.ofNat 32 ((z.time.frame.toNat + b2n z.route.passed + left + 95) / 96)) < 0)

/-! The pass (R176, R177, R186). -/

/-- g_d of the present frame (R152). -/
def Zone.duckGain (z : Zone) : Int :=
  let j : Nat := z.time.frame.toNat % 96
  roundHalfUp ((z.vox.duckP : Rat) + ((z.vox.duckT - z.vox.duckP : Int) : Rat) * ((j + 1 : Nat) : Rat) / 96)

/-- The duck tag of bus b: 1 or 2 when tagged (R151). -/
def Zone.duckTagged (z : Zone) (b : Nat) : Bool :=
  let t := fld (z.reg Reg.VCTL_DUCK_TAG) (2 * b + 1) (2 * b)
  t == 1 || t == 2

/-- The value of a source node that is no bus (Table 9-1), as A72. -/
def Zone.nodeVal (z : Zone) (c : Nat) : Int :=
  if c ≤ 0x17F then z.voices[fin 96 (c / 4)].sig.send[fin 4 (c % 4)]
  else if 0x198 ≤ c ∧ c ≤ 0x19F then sToA (z.out.tin[fin 8 (c - 0x198)].toInt * 16)
  else if c = 0x1A0 then (if z.dec[(0 : Fin 4)].valid then sToA z.dec[(0 : Fin 4)].out else 0)
  else if c = 0x1A1 then (if z.dec[(1 : Fin 4)].valid then sToA z.dec[(1 : Fin 4)].out else 0)
  else if c = 0x1A2 then (if z.aec.ch[(0 : Fin 2)].eOk then sToA z.aec.ch[(0 : Fin 2)].e else 0)
  else if c = 0x1A3 then (if z.aec.ch[(1 : Fin 2)].eOk then sToA z.aec.ch[(1 : Fin 2)].e else 0)
  else if c = 0x1A8 then (if z.ctl.st = .test ∨ z.ctl.st = .recover then sToA z.out.tgen else 0)
  else if c = 0x1A9 then sToA z.lim.y
  else if 0x200 ≤ c ∧ c ≤ 0x23F then z.dsp.doOut[fin 64 (c - 0x200)]
  else 0

/-- The value a slot reads, after the duck factor (R177). -/
def Zone.slotVal (z : Zone) (w : W72) : Int :=
  let c := slotSrc w
  if isBus c then
    let b := fin 16 (c - 0x180)
    let v := if slotZ1 w then z.route.z1[b] else z.route.bus[b].read
    if z.duckTagged b.val then mulAG v z.duckGain else v
  else z.nodeVal c

/-- Applies an update to the accumulator of a destination node, with its flags (R74–R77). -/
def Zone.accAt (z : Zone) (d : Nat) (f : AccSt → AccSt) : Zone :=
  let go := fun (a : AccSt) (num : Nat) (store : AccSt → ZRoute) =>
    let b := f a
    let z := { z with route := store b }
    let z := if b.aov && !a.aov then z.arith 0x2400 num 0 else z
    if b.lost && !a.lost then z.arith 0x2400 num 1 else z
  if isBus d then
    let i := fin 16 (d - 0x180)
    go z.route.bus[i] i.val (fun b => { z.route with bus := z.route.bus.set i b })
  else if d = 0x190 then go z.route.mb 16 (fun b => { z.route with mb := b })
  else if d ≤ 0x1C7 then
    let i := fin 8 (d - 0x1C0)
    go z.route.toAcc[i] (32 + i.val) (fun b => { z.route with toAcc := z.route.toAcc.set i b })
  else
    let i := fin 64 (d - 0x240)
    go z.route.diAcc[i] (64 + i.val) (fun b => { z.route with diAcc := z.route.diAcc.set i b })

/-- One slot execution (R177): r the splice factor if one applies, second whether another version of the slot that writes
the same destination has run before it (R182). -/
def Zone.runSlot (z : Zone) (w : W72) (r : Option Int) (second : Bool) : Zone :=
  if slotReads w then
    let v := z.slotVal w
    let p := if slotOp w = 2 ∨ slotGref w = 0xFFF then v else mulAG v z.route.g[fin 64 (slotGref w)].cur
    let p := match r with
      | some r => mulAG p r
      | none => p
    z.accAt (slotDst w) (fun a => if slotOp w = 1 && !second then a.load p else a.add p)
  else z

/-- The gain step of the register keyed by a slot, at its key slot (R186). -/
def Zone.keyStep (z : Zone) (i : Nat) (w : W72) : Zone :=
  let k := slotGref w
  if (slotOp w == 1 || slotOp w == 3 || slotOp w == 4) && k ≤ 63 && keySlot z.routeAct k == some i then
    let v := z.slotVal w
    let g := z.route.g[fin 64 k]
    let neg := decide (v < 0)
    let cross := v = 0 ∨ (g.neg.isSome ∧ g.neg ≠ some neg)
    let zto := clampN 48 4800 (fld (z.reg Reg.ROUTE_CFG) 12 0)
    let hit := g.pend ∧ cross
    let g' := { g with neg := some neg, cur := if hit then g.tgt else g.cur, pend := if hit then false else g.pend,
                       wait := if hit then 0 else if g.pend then satAdd zto g.wait 1 else g.wait }
    let z := { z with route := { z.route with g := z.route.g.set (fin 64 k) g' } }
    if hit then z.count Reg.ROUTE_COUNT 15 0 1 else z
  else z

/-- The old and new executions of slot i in the pass (R177, R181, R182): the two splice factors sum to 1. -/
def Zone.passSlot (z : Zone) (act : Mem72) (i : Nat) : Zone :=
  let w := m72Get act i
  let z := z.keyStep i w
  if z.route.splK < z.route.splW then
    match z.route.splice.find? (fun p => p.1 == i) with
    | some p =>
      let r := roundHalfUp ((z.route.splK + 1 : Nat) * 2 ^ 32 / (z.route.splW : Rat))
      (z.runSlot p.2 (some (g36One - r)) false).runSlot w (some r) (slotReads p.2 && slotDst p.2 == slotDst w)
    | none => z.runSlot w none false
  else z.runSlot w none false

/-- One frame of a gain ramp (R186). -/
def GainReg.rampStep (g : GainReg) : GainReg :=
  if g.ramp = 0 then g
  else
    let j := 32 - g.ramp
    { g with cur := roundHalfUp ((g.from0 : Rat) + ((g.tgt - g.from0 : Int) : Rat) * ((j + 1 : Nat) : Rat) / 32),
             ramp := g.ramp - 1 }

/-- Stores a sink accumulator at the end of the pass, with SAT (R79, R80). -/
def Zone.sinkStore (z : Zone) (t : Target) (a : AccSt) (num : Nat) : Int × Zone :=
  let (v, sat) := a.store t
  (v, if sat && !bit (z.reg 0x240C) 2 then z.arith 0x2400 num 2 else z)

/-- The end of a pass: the captures of R176. -/
def Zone.passEnd (z : Zone) : Zone :=
  let z := { z with route := { z.route with z1 := z.route.bus.map AccSt.read, mbCap := z.route.mb.read } }
  let z := iter 8 (fun i z =>
    let (v, z) := z.sinkStore tgtTo z.route.toAcc[fin 8 i] (32 + i)
    { z with route := { z.route with toOut := z.route.toOut.set (fin 8 i) v } }) z
  iter 64 (fun i z =>
    let (v, z) := z.sinkStore tgtA72 z.route.diAcc[fin 64 i] (64 + i)
    { z with route := { z.route with diOut := z.route.diOut.set (fin 64 i) v } }) z

/-- The indices executed in a pass: listed slots of the active image and slots in the splice buffer. -/
def passKeys (act : Mem72) (sp : List (Nat × W72)) : List Nat :=
  ((sp.map (·.1)).foldl (fun l k => l.orderedInsert (· ≤ ·) k) ((slotsOf act).map (·.1))).dedup

/-- A frame of the splice window has passed (R181). -/
def ZRoute.frameDone (r : ZRoute) : ZRoute := { r with splK := if r.splK < r.splW then r.splK + 1 else r.splK, passed := true }

/-- One route pass (R176): in RUN, HOLD and RECOVER the program runs; in other states every sink reads 0 and MB is 0. -/
def Zone.routePass (z : Zone) : Zone :=
  if z.ctl.st = .run ∨ z.ctl.st = .hold ∨ z.ctl.st = .recover then
    let z := { z with route := { z.route with
      bus := z.route.bus.map (fun a : AccSt => a.load 0), mb := z.route.mb.load 0,
      toAcc := z.route.toAcc.map (fun a : AccSt => a.load 0), diAcc := z.route.diAcc.map (fun a : AccSt => a.load 0),
      g := z.route.g.map GainReg.rampStep } }
    let act := z.routeAct
    let z := ((passKeys act z.route.splice).foldl (fun (y : Zone) i => y.passSlot act i) z).passEnd
    { z with route := z.route.frameDone }
  else
    { z with route := { z.route.frameDone with mbCap := 0, toOut := Vector.replicate 8 0, diOut := Vector.replicate 64 0 } }

/-- The splice window is abandoned (R183). -/
def Zone.spliceDrop (z : Zone) : Zone :=
  { z with route := { z.route with splice := [], splW := 0, splK := 0 } }

/-- Every gain register at 1.0 with no step pending (R185). -/
def Zone.gainsCold (z : Zone) : Zone :=
  { z with route := { z.route with
      g := Vector.replicate 64 { cur := g36One, tgt := g36One, pend := false, wait := 0, ramp := 0, from0 := 0, neg := none } } }

/-- Every gain register at its target with no step pending (R185, warm start). -/
def Zone.gainsWarm (z : Zone) : Zone :=
  { z with route := { z.route with
      g := z.route.g.map (fun g => { g with cur := g.tgt, pend := false, wait := 0, ramp := 0, neg := none }) } }

end Sys2Proof.Machine
end

