-- ==== Sys2Proof/Machine/VoiceCtl.lean ====
section
/-! DEFINITION. The control side of a voice: envelopes, LFOs, live controls and the modulation matrix (chapter 6). -/

namespace Sys2Proof.Machine

/-- The code that stands for level 1 (R116). -/
def lvl1 : Int := s36Max

/-- S of Table 6-1 as S36. -/
def susLevel (s : Nat) : Int := if s = 4095 then lvl1 else roundHalfUp ((s : Rat) * 2 ^ 35 / 4095)

/-- Segment length of a time code (R117). -/
def segLen (t : Nat) : Nat := if t = 0 then 0 else envLen t

/-- An envelope at the start of a segment. -/
def EnvSt.at (st n cv : Nat) (l0 l1 : Int) : EnvSt := { st := st, k := 0, n := n, l0 := l0, l1 := l1, e := l0, cv := cv }

/-- Enters SUSTAIN, or OFF if S = 0 (Table 6-1). -/
def envSustain (p : EnvP) : EnvSt :=
  let s := susLevel p.sus
  if p.sus = 0 then EnvSt.at 0 0 0 0 0 else EnvSt.at 5 0 0 s s

/-- Enters DECAY, passing it if its length is 0 (R116). -/
def envDecay (p : EnvP) : EnvSt :=
  if segLen p.decay = 0 then envSustain p else EnvSt.at 4 (segLen p.decay) p.dc lvl1 (susLevel p.sus)

/-- Enters HOLD. -/
def envHold (p : EnvP) : EnvSt :=
  if segLen p.hold = 0 then envDecay p else EnvSt.at 3 (segLen p.hold) 0 lvl1 lvl1

/-- Enters ATTACK from level l. -/
def envAttack (p : EnvP) (l : Int) : EnvSt :=
  if segLen p.attack = 0 then envHold p else EnvSt.at 2 (segLen p.attack) p.ac l lvl1

/-- Enters DELAY: voice start and HARD retrigger (R116, R121). -/
def envStart (p : EnvP) : EnvSt :=
  if segLen p.delay = 0 then envAttack p 0 else EnvSt.at 1 (segLen p.delay) 0 0 0

/-- Enters RELEASE from level l (R120). -/
def envRelease (p : EnvP) (l : Int) : EnvSt :=
  if segLen p.rel = 0 then EnvSt.at 0 0 0 0 0 else EnvSt.at 6 (segLen p.rel) p.rc l 0

/-- The next segment of a timed segment that has run its length. -/
def EnvSt.advance (s : EnvSt) (p : EnvP) : EnvSt :=
  if s.k < s.n then s
  else match s.st with
    | 1 => envAttack p 0
    | 2 => envHold p
    | 3 => envDecay p
    | 4 => envSustain p
    | 6 => EnvSt.at 0 0 0 0 0
    | _ => s

/-- The level of a timed segment (R118, Table 6-2): RELEASE begins at L_r (R120); a DB segment takes a level below 2^−16 as
2^−16. -/
def segLevel (s : EnvSt) : Int :=
  if s.cv = 3 ∧ !(s.st = 6 ∧ s.k = 0) then
    (if s.k = 0 ∨ s.l0 = s.l1 then max s.l0 (2 ^ 19) else curveDb s.k s.n s.l0 s.l1)
  else if s.k = 0 ∨ s.l0 = s.l1 then s.l0
  else if s.cv = 0 then roundHalfUp ((s.l0 : Rat) + ((s.l1 - s.l0 : Int) : Rat) * (s.k : Rat) / (s.n : Rat))
  else s.l0 + roundShift ((s.l1 - s.l0) * curveC s.cv s.k s.n) 35

/-- One frame of an envelope: its level in e, and the frame counted (R118); sus is the sustain ramp of R136. -/
def EnvSt.frame (s : EnvSt) (p : EnvP) (sus : Int × Nat) : EnvSt × (Int × Nat) :=
  let s := s.advance p
  match s.st with
  | 0 => ({ s with e := 0 }, sus)
  | 5 =>
    if sus.2 > 0 then
      let j := 96 - sus.2
      let t := susLevel p.sus
      ({ s with e := roundHalfUp ((sus.1 : Rat) + ((t - sus.1 : Int) : Rat) * ((j + 1 : Nat) : Rat) / 96) },
       (sus.1, sus.2 - 1))
    else if p.sus = 0 then (EnvSt.at 0 0 0 0 0, sus)
    else ({ s with e := susLevel p.sus }, sus)
  | _ => ({ s with e := segLevel s, k := s.k + 1 }, sus)

/-- VREL for one envelope, with its sustain ramp (R120): its present level is the level of this frame, in which a segment that
has run out has been left. E stays that of the last frame until the envelope is formed again. -/
def EnvSt.release (s : EnvSt) (p : EnvP) (sus : Int × Nat) : EnvSt :=
  let a := s.advance p
  match a.st with
  | 1 => { EnvSt.at 0 0 0 0 0 with e := s.e }
  | 2 | 3 | 4 | 5 =>
    let (f, _) := a.frame p sus
    { (if f.st = 0 then f else envRelease p f.e) with e := s.e }
  | _ => s

/-- A retrigger of one envelope under its RETRIG field (R121), from a present level. -/
def EnvSt.retrigAt (s : EnvSt) (p : EnvP) (l : Int) : EnvSt :=
  match p.rt with
  | 0 => { envStart p with e := s.e }
  | 1 => { envAttack p l with e := s.e }
  | _ => s

/-- A RETRIG control before the envelope's frame: its present level is the level of this frame (R121). -/
def EnvSt.retrig (s : EnvSt) (p : EnvP) (sus : Int × Nat) : EnvSt := s.retrigAt p (s.frame p sus).1.e

/-- A retrigger of envelope e of a voice: one that acts ends its sustain ramp (R121, R136). -/
def VSig.retrig (g : VSig) (p : EnvP) (e : Fin 4) (matrix : Bool) : VSig :=
  let s := g.env[e]
  if p.rt ≥ 2 then g
  else { g with env := g.env.set e (if matrix then s.retrigAt p s.e else s.retrig p g.sus[e]), sus := g.sus.set e (0, 0) }

/-! LFOs (R122, R123). -/

/-- The estimated position as a rational (R41). -/
def Zone.x (z : Zone) : Rat :=
  (z.pos.pos.toInt : Rat) + (z.pos.frac : Rat) / 32768

/-- A rational modulo a positive one, toward −∞. -/
def ratMod (a b : Rat) : Rat := a - b * ((a / b).floor : Rat)

/-- The fraction of a rational as a 32-bit phase. -/
def phase32 (a : Rat) : BitVec 32 := BitVec.ofInt 32 ((ratMod a 1) * 2 ^ 32).floor

/-- The start state of an LFO at voice start or a RETRIG (R122); draws from the noise source. -/
def Zone.lfoStart (z : Zone) (p : LfoP) (old : Option LfoSt) : LfoSt × Zone :=
  let (d, z) := z.draw48
  let ph : BitVec 32 := if p.sync = 1 then BitVec.ofNat 32 (p.phase * 2 ^ 24)
    else if p.sync = 0 then BitVec.extractLsb' 16 32 d
    else match old with | some o => o.ph | none => 0
  match old with
  | some o => ({ o with ph := ph, k := 0 }, z)
  | none =>
    let (c, z) := z.draw
    ({ run := false, at0 := 0, ph := ph, k := 0, cur := c, prev := c, out := 0 }, z)

/-- The step of an LFO's phase (R122): ρ is RATE plus its addend, clamped. -/
def lfoInc (rho : Int) : Nat := (roundHalfUp (2 ^ 32 / 9600000 * exp2Pitch (rho * 384))).toNat

/-- The bipolar value b of Table 6-3 for phase p in 2^32ths of a cycle, as S36; +1 is the largest code. -/
def lfoShape (shape p : Nat) (cur prev : Int) : Int :=
  let sat := fun (x : Int) => clampI s36Min s36Max x
  match shape with
  | 1 => if p < 2 ^ 31 then sat (p * 2 ^ 5 - 2 ^ 35) else sat (3 * 2 ^ 35 - p * 2 ^ 5)
  | 2 => sat (p * 2 ^ 4 - 2 ^ 35)
  | 3 => sat (2 ^ 35 - p * 2 ^ 4)
  | 4 => if p < 2 ^ 31 then s36Max else s36Min
  | 5 => cur
  | 6 => prev + roundHalfUp (((cur - prev : Int) : Rat) * (p : Rat) / 2 ^ 32)
  | _ => sineTab (p * 16)

/-- What p follows under TICK and POSITION, FRAME or x, and its period (R122). -/
def Zone.lfoRef (z : Zone) (p : LfoP) : Rat × Rat :=
  let n := if p.rate = 0 then 1 else p.rate
  if p.sync = 2 then ((z.time.frame.toNat : Nat), (96 * n : Nat)) else (z.x, (n : Nat))

/-- One frame of an LFO: its output, phase and draws (R122, R123). Under TICK and POSITION p wraps, forward or backward, where
its whole cycles change. -/
def Zone.lfoFrame (z : Zone) (p : LfoP) (l : LfoSt) (addend : Int) : LfoSt × Zone :=
  let (at0, per) := z.lfoRef p
  let off : Rat := (p.phase : Rat) / 256
  let ph : BitVec 32 := if p.sync ≥ 2 then phase32 (ratMod at0 per / per + off) else l.ph
  let wrapped := (p.sync ≥ 2) && l.run && (at0 / per + off).floor != (l.at0 / per + off).floor
  let (l, z) := if wrapped then
      let (d, z) := z.draw
      ({ l with prev := l.cur, cur := d }, z)
    else (l, z)
  let b := lfoShape p.shape ph.toNat l.cur l.prev
  let u := if p.uni then clampI s36Min s36Max (roundShift (b + 2 ^ 35) 1) else b
  let n := 2 ^ (p.fade + 6)
  let o := if p.fade = 0 ∨ l.k ≥ n then u else roundHalfUp ((u : Rat) * (l.k : Rat) / n)
  let l := { l with out := o, k := l.k + 1, ph := ph, run := decide (p.sync ≥ 2), at0 := at0 }
  if p.sync ≥ 2 then (l, z)
  else
    let rho := clampI 0 32767 (p.rate + addend)
    let nx := ph.toNat + lfoInc rho
    if nx ≥ 2 ^ 32 then
      let (d, z) := z.draw
      ({ l with ph := BitVec.ofNat 32 nx, prev := l.cur, cur := d }, z)
    else ({ l with ph := BitVec.ofNat 32 nx }, z)

/-! Live controls (R129, R130). -/

/-- Ramp length of a CSM code (R129). -/
def csmLen (c : Nat) : Nat := if c = 0 then 0 else 4 ^ c

/-- Sets the target of a live control: n the ramp length, 0 to step (R129). Of several settings in one frame the last
takes effect. -/
def CtlSt.set (c : CtlSt) (v : Int) (n : Nat) : CtlSt :=
  if n = 0 then { c with v := v, tgt := v, left := 0, len := 0, from0 := v }
  else { c with v := c.last, tgt := v, left := n, len := n, from0 := c.last }

/-- One frame of a live control's ramp. -/
def CtlSt.frame (c : CtlSt) : CtlSt :=
  let v := if c.left = 0 then c.v else if c.left = 1 then c.tgt
    else roundHalfUp ((c.from0 : Rat) + ((c.tgt - c.from0 : Int) : Rat) * ((c.len - c.left + 1 : Nat) : Rat) / (c.len : Rat))
  { c with v := v, last := v, left := c.left - 1 }

/-! The modulation matrix (R124–R127). -/

/-- Ambient level of band n at the last tick, 1/256 dB (AEC.AMBn; Table 11-7). -/
def Zone.ambLevel (z : Zone) (n : Nat) : Int := wrapS 16 (fld (z.reg (Reg.AEC_AMB n)) 15 0)

/-- A rational in 0–1 as S36, 1 as the largest code. -/
def unit36 (x : Rat) : Int := if x ≤ 0 then 0 else if x ≥ 1 then lvl1 else min lvl1 (roundHalfUp (x * 2 ^ 35))

/-- The value of a modulation source for a voice (Table 6-4), as S36. NOISE draws. -/
def Zone.modSrc (z : Zone) (v : Voice) (src : Nat) : Int × Zone :=
  let s := v.sig
  if src = 0 then (0, z)
  else if src ≤ 4 then (s.env[fin 4 (src - 1)].e, z)
  else if src ≤ 7 then (s.lfo[fin 3 (src - 5)].out, z)
  else if src = 8 then (unit36 ((min v.st.vel 127 : Nat) / 127), z)
  else if src = 9 then (clampI s36Min s36Max (((v.st.note : Int) - 60) * 2 ^ 29), z)
  else if src ≤ 17 then (s.ctl[fin 8 (src - 10)].v, z)
  else if src = 18 then (clampI 0 s36Max ((g36One - z.duckGain) * 8), z)
  else if src ≤ 25 then (unit36 (((z.ambLevel (src - 19) : Rat) / 256 + 96) / 96), z)
  else if src = 26 then
    let r := (z.reg Reg.VCTL_SREF).toNat
    (unit36 ((z.pos.speed.natAbs : Rat) / (if r = 0 then 1 else r : Nat)), z)
  else if src = 27 then
    match v.st.dl with
    | some d =>
      let q : Rat := d.q.toInt
      let r := (z.reg Reg.VCTL_DREF).toNat
      if (z.pos.speed > 0 ∧ q > z.x) ∨ (z.pos.speed < 0 ∧ q < z.x) then
        (unit36 ((if q ≥ z.x then q - z.x else z.x - q) / (if r = 0 then 1 else r : Nat)), z)
      else (0, z)
    | none => (0, z)
  else if src = 28 then z.draw
  else if src = 29 then (s.rand, z)
  else if src = 30 then (lvl1, z)
  else if src ≤ 33 then (s.osc[fin 3 (src - 31)].s, z)
  else if src = 34 then (clampI 0 s36Max (s.amp * 8), z)
  else (0, z)

/-- Whether a slot contributes (R124). -/
def ModP.live (p : ModP) : Bool := p.src != 0 && p.src ≤ 34 && p.dst != 0 && p.dst ≤ 37

/-- The contribution of slot s in this frame, with its held state (R125). At a tick boundary a control-rate slot samples
its source; one whose destination a swap has changed applies its new contribution at once (R136). -/
def Zone.modSlot (z : Zone) (v : Voice) (p : ModP) (m : ModSt) : Int × ModSt × Zone :=
  if !p.live then (0, { prev := 0, tgt := 0, fresh := false }, z)
  else if p.ar then
    let (x, z) := z.modSrc v p.src
    let w := mulGS p.depth x
    (w, { prev := w, tgt := w, fresh := false }, z)
  else
    let (m, z) := if v.sig.age = 0 ∨ m.fresh then
        let (x, z) := z.modSrc v p.src
        ({ prev := mulGS p.depth x, tgt := mulGS p.depth x, fresh := false : ModSt }, z)
      else if z.atTick then
        let (x, z) := z.modSrc v p.src
        ({ prev := m.tgt, tgt := mulGS p.depth x, fresh := false : ModSt }, z)
      else (m, z)
    let j : Nat := z.time.frame.toNat % 96
    (roundHalfUp ((m.prev : Rat) + ((m.tgt - m.prev : Int) : Rat) * ((j + 1 : Nat) : Rat) / 96), m, z)

/-- The addends of all destinations, by destination code (R124). -/
abbrev Addends := List (Nat × Int)

/-- The addend of a destination, read under R78. -/
def addend (a : Addends) (d : Nat) : Int := smGet (fun _ => 0) a d

/-- One slot of the matrix added to the accumulators of its destination. -/
def matStep (m : Mem72) (v : Nat) (s : Nat) (acc : (List (Nat × AccSt)) × Voice × Zone) :
    (List (Nat × AccSt)) × Voice × Zone :=
  let (l, vo, z) := acc
  let p := modP m v s
  let (w, st, z) := z.modSlot vo p vo.sig.mods[fin 16 s]
  let vo := { vo with sig := { vo.sig with mods := vo.sig.mods.set (fin 16 s) st } }
  if p.live then
    let a := smGet (fun _ => AccSt.zero) l p.dst
    (smSet (fun _ => AccSt.zero) l p.dst (a.add w), vo, z)
  else (l, vo, z)

/-- The matrix of a voice: its addends (R124). -/
def Zone.matrix (z : Zone) (m : Mem72) (v : Nat) (vo : Voice) : Addends × Voice × Zone :=
  let (l, vo, z) := iter 16 (matStep m v) ([], vo, z)
  (l.map (fun p => (p.1, p.2.read)), vo, z)

/-- An addend in integer units of U per 1.0 (R127). -/
def addUnits (a : Addends) (d : Nat) (u : Int) : Int := roundShift (addend a d * u) 63

/-- An addend as G36 and as S36 codes, unclamped (R127). -/
def addG (a : Addends) (d : Nat) : Int := roundShift (addend a d) 31
def addS (a : Addends) (d : Nat) : Int := roundShift (addend a d) 28

/-- Clamp to the G36 range. -/
def clampG (x : Int) : Int := clampI s36Min s36Max x

end Sys2Proof.Machine
end

