-- ==== Sys2Proof/Machine/VoiceSig.lean ====
section
/-! DEFINITION. The signal side of a voice: fetch requests, oscillators, filters and the output element (chapters 5, 8). -/

namespace Sys2Proof.Machine

/-! Fetch requests (R157, R165). -/

/-- A block present or queued is not requested twice (R165), nor one that waits already; one that waits as a prefetch only is
requested by a demand or a preset fetch. -/
def ZCache.knows (c : ZCache) (f : Fetch) : Bool :=
  (c.find f.blk).isSome || c.queue.any (fun q => q.blk == f.blk) ||
    c.wait.any (fun q => q.blk == f.blk && (decide (q.rank < 2) || f.rank == 2))

/-- A prefetch that leaves the queue to admit another waits as one not yet read. -/
def Fetch.fresh (f : Fetch) : Fetch := { f with retry := false, got := 0, hbad := false }

/-- A request enters the zone's fetch queue, or waits (R157). -/
def ZCache.request (c : ZCache) (f : Fetch) : ZCache :=
  let w := c.wait.filter (fun q => q.blk != f.blk)
  if c.knows f then c
  else if c.queue.length < 64 then { c with queue := c.queue ++ [f], wait := w }
  else if f.rank < 2 then
    match c.queue.reverse.find? (fun q => q.rank == 2) with
    | some q => { c with queue := c.queue.erase q ++ [f], wait := w ++ [q.fresh] }
    | none => { c with wait := w ++ [f] }
  else { c with wait := w ++ [f] }

/-- A request of a zone; a demand fetch of an absent block counts in ZMISSn.MISSES (Table 8-8). -/
def Zone.fetchReq (z : Zone) (f : Fetch) : Zone :=
  let n := if f.rank = 0 ∧ !z.cache.knows f then 1 else 0
  { z with cache := { z.cache.request f with misses := satAdd 65535 z.cache.misses n } }

/-- The fetches that wait in a voice end with what the voice does (R157). -/
def ZCache.unwait (c : ZCache) (v : Nat) : ZCache := { c with wait := c.wait.filter (fun f => f.voice != v) }

/-- Words of the sample cache are checked as they are read (R81, R350): a line with an uncorrectable word is invalidated, and
its block is then a miss (R13, Table 17-1). -/
def Zone.cacheCheck (z : Zone) (ws : List Nat) : Zone :=
  (ws.filter (fun w => z.mem.mark memCache w != 0)).foldl (fun (z : Zone) w =>
    let (bad, z) := z.eccRead memCache w
    if bad then { z with cache := { z.cache with lines := z.cache.lines.filter (fun (l : CacheLine) => l.line != w / 512) } }
    else z) z

/-- Whether an item is in the zone's list of fenced items (R170). -/
def Zone.itemFenced (z : Zone) (id : Word) : Bool := z.cache.fenced.contains id

/-! Read positions (R94–R98). -/

/-- What a SAMPLE or GRAIN oscillator reads: item, header and the loop fields with their defaults taken (R92, R97). -/
structure Src where
  it    : Item
  hd    : SHdr
  start : Nat
  root  : Nat
  ls    : Nat
  le    : Nat
  loop  : Nat
  chan  : Nat
  deriving DecidableEq, Repr

/-- The source of an oscillator, if its item is a valid sample set (R92, Table 5-3). -/
def HostC.src (h : HostC) (p : OscP) : Option Src :=
  match h.sHdr p.item with
  | none => none
  | some (it, d) =>
    let st := if p.start = 0xFFFFFFFF then d.start else p.start
    some { it := it, hd := d, start := min st (d.len - 1),
           root := if p.root = 255 then d.root else min p.root 127,
           ls := if p.ls = 0xFFFFFFFF then d.ls else p.ls, le := if p.le = 0xFFFFFFFF then d.le else p.le,
           loop := p.loop, chan := if d.chans = 2 then p.chan else 0 }

/-- A valid loop (R97); the condition on START is left out after a swap (R115). -/
def Src.loopOk (s : Src) (checkStart : Bool) : Bool :=
  s.loop == 0 || ((!checkStart || decide (s.start < s.le)) && decide (s.ls + 16 ≤ s.le) && decide (s.le ≤ s.hd.len) &&
    (s.loop != 2 || decide (4 ≤ s.ls)))

/-- Whether the loop is in force for a position: any loop but a FORWARD_REL that has been left. -/
def Src.looping (s : Src) (p : ReadPos) : Bool := s.loop == 1 || s.loop == 2 || (s.loop == 3 && !p.left)

/-- A read position at voice start; one that starts at or beyond LS is inside its loop (R98; assumption 69). -/
def Src.begin0 (s : Src) : ReadPos :=
  { x := s.start * 65536, back := false, inside := s.loop != 0 && decide (s.ls ≤ s.start), left := false }

/-- The advance of a read position by a step under Table 5-5 (R96). -/
def Src.advance (s : Src) (p : ReadPos) (step : Int) : ReadPos :=
  let lo : Int := s.ls * 65536
  let hi : Int := s.le * 65536
  if s.loop = 2 ∧ p.back then
    let x := p.x - step
    if x < lo then { p with x := 2 * lo - x, back := false } else { p with x := x }
  else
    let x := p.x + step
    let ins := p.inside || (s.loop != 0 && decide (lo ≤ x))
    if s.looping p ∧ x ≥ hi then
      if s.loop = 2 then { p with x := 2 * hi - x, back := true, inside := ins }
      else { p with x := x - (hi - lo), inside := ins }
    else { p with x := x, inside := ins }

/-- Whether a position has reached END going forward (R96). -/
def Src.atEnd (s : Src) (p : ReadPos) : Bool :=
  !(p.back && s.loop == 2) && decide (p.x ≥ s.hd.len * 65536)

/-- The content index that tap i reads, none for a tap that reads 0 (R98). -/
def Src.tap (s : Src) (p : ReadPos) (i : Int) : Option Nat :=
  let i := if s.looping p && p.inside then
      if s.loop = 2 then (if i ≥ s.le then 2 * s.le - 1 - i else if i < s.ls then 2 * s.ls - 1 - i else i)
      else (if i ≥ s.le then i - s.le + s.ls else if i < s.ls then i + s.le - s.ls else i)
    else i
  if i < 0 ∨ i ≥ s.hd.len then none else some i.toNat

/-- Byte offset in its item of content sample i. -/
def Src.off (s : Src) (i : Nat) : Nat := 64 + (i * s.hd.chans + s.chan) * (s.hd.width / 8)

/-- Bundle blocks of the bytes of content sample i. -/
def Src.blocks (s : Src) (i : Nat) : List Nat :=
  [s.it.first + s.off i / 4096, s.it.first + (s.off i + s.hd.width / 8 - 1) / 4096]

/-- Blocks of the eight taps at a position. -/
def Src.tapBlocks (s : Src) (p : ReadPos) : List Nat :=
  (List.range 8).flatMap (fun (j : Nat) => match s.tap p (p.x / 65536 + (j : Int) - 3) with | some i => s.blocks i | none => [])

/-- Blocks the taps can reach within the next n frames at a step (R167). -/
def Src.reach (s : Src) (step : Int) : Nat → ReadPos → List Nat
  | 0, p => s.tapBlocks p
  | n + 1, p => s.tapBlocks p ++ s.reach step n (s.advance p step)

/-- A coefficient of the table: tap 3 completes the eight of a phase to 1.0 (R95; assumption 18). -/
def sincTab (ph j : Nat) : Int :=
  if j = 3 then 2 ^ 35 - (Config.sinc ph 0 + Config.sinc ph 1 + Config.sinc ph 2 + Config.sinc ph 4 + Config.sinc ph 5 +
    Config.sinc ph 6 + Config.sinc ph 7)
  else Config.sinc ph j

/-- The coefficient of tap j (0–7 for −3 to 4) at a phase and blend. Phase 256 is phase 0 of the next index: tap 0 has no
coefficient there, and the one of the tap after the last is left out (R95; assumption 68). -/
def sincCoef (ph beta j : Nat) : Int :=
  let c0 := sincTab ph j
  let c1 := if ph = 255 then (if j = 0 then 0 else sincTab 0 (j - 1)) else sincTab (ph + 1) j
  c0 + roundShift ((c1 - c0) * beta) 8

/-- The 8-tap interpolation at a position (R95) as an A72 sum, with the number of taps in absent blocks (R167). -/
def Zone.interp (z : Zone) (s : Src) (p : ReadPos) : Int × Nat :=
  let fr := (p.x.emod 65536).toNat
  (List.range 8).foldl (fun (acc : Int × Nat) (j : Nat) =>
    match s.tap p (p.x / 65536 + (j : Int) - 3) with
    | none => acc
    | some i =>
      match z.cacheSample s.it (s.off i) s.hd.width with
      | some d => (acc.1 + mulSS (sincCoef (fr / 256) (fr % 256) j) d, acc.2)
      | none => (acc.1, acc.2 + 1)) (0, 0)

/-- The pitch step of R94 and whether it was clamped at 4.0. -/
def Src.step (s : Src) (pitch : Int) : Int × Bool :=
  let e := roundHalfUp ((s.hd.rate : Rat) / 96000 * 65536 * exp2Pitch (pitch - s.root * 65536))
  (clampI 1 262144 e, decide (e > 262144))

/-! Oscillator starts (R91, R94, R99, R100, R105). -/

/-- A read position of 0. -/
def ReadPos.zero : ReadPos := { x := 0, back := false, inside := false, left := false }

/-- An oscillator that has not started. -/
def OscSt.zero : OscSt :=
  { ph := 0, pos := ReadPos.zero, ga := ⟨ReadPos.zero, 0, false⟩, gb := ⟨ReadPos.zero, 0, false⟩, glen := 0, grate := 0,
    lvl := 255, s := 0, s1 := 0, fin := false, dis := false, s32 := 0, rows := [], cnt := 0 }

/-- GLEN and GRATE clamped to their ranges (Table 5-3); odd GLEN values act as the even value below (R101). -/
def glenOf (p : OscP) : Nat := clampN 960 7680 (p.glen - p.glen % 2)
def grateOf (p : OscP) : Nat := clampN 500 1300 p.grate

/-- One draw of the NOISE generator (R105): new state and S36 value. -/
def noiseDraw (s : BitVec 32) : BitVec 32 × Int :=
  let n := if s.getLsbD 0 then (s >>> 1) ^^^ 0x80200003#32 else s >>> 1
  (n, n.toInt * 8)

/-- k draws of the NOISE generator. -/
def noiseRows : Nat → BitVec 32 → BitVec 32 × List Int
  | 0, s => (s, [])
  | n + 1, s =>
    let (s, x) := noiseDraw s
    let (s, r) := noiseRows n s
    (s, x :: r)

/-- The start state of oscillator n of voice v, and whether it is sound (R92). -/
def Zone.oscStart (z : Zone) (h : HostC) (v n : Nat) (p : OscP) : OscSt × Bool × Zone :=
  let o := OscSt.zero
  match p.mode with
  | 1 =>
    let (d, z') := if p.free then z.draw48 else (BitVec.ofNat 48 (p.phase0 * 2 ^ 32), z)
    let ok := (h.wHdr p.item).isSome && !z.itemFenced p.item
    ({ o with ph := d, dis := !ok }, ok, z')
  | 2 =>
    match h.src p with
    | some s =>
      let ok := s.loopOk true && !z.itemFenced p.item
      ({ o with pos := s.begin0, dis := !ok, fin := !ok }, ok, z)
    | none => ({ o with dis := true, fin := true }, false, z)
  | 3 =>
    match h.src p with
    | some s =>
      let ok := s.loopOk true && !z.itemFenced p.item
      ({ o with pos := s.begin0, ga := ⟨s.begin0, 0, true⟩, gb := ⟨s.begin0, glenOf p / 2, true⟩,
                glen := glenOf p, grate := grateOf p, dis := !ok, fin := !ok }, ok, z)
    | none => ({ o with dis := true, fin := true }, false, z)
  | 7 =>
    let seed : BitVec 32 := if p.item = 0 then
        0x5EED0001#32 ^^^ BitVec.ofNat 32 (z.id.val * 65536) ^^^ BitVec.ofNat 32 (v * 256) ^^^ BitVec.ofNat 32 n
      else p.item
    ({ o with s32 := seed }, true, z)
  | 0 => (o, true, z)
  | _ =>
    let (d, z') := if p.free then z.draw48 else (BitVec.ofNat 48 (p.phase0 * 2 ^ 32), z)
    ({ o with ph := d }, true, z')

/-! One frame of an oscillator. -/

/-- What an oscillator's frame gives: state, sample, absent taps, clamp seen. -/
structure OscOut where
  o      : OscSt
  absent : Nat
  clamp  : Bool
  /-- The sample saturated in its store (R80). -/
  sat    : Bool
  deriving DecidableEq, Repr

/-- The effective pitch of an oscillator and whether it was clamped (R89). -/
def pitchOf (m : Mem72) (v : Nat) (note : Nat) (p : OscP) (add : Int) : Int × Bool :=
  let s := wrapS 34 ((if p.fixed then 0 else (note : Int) * 65536) + vTune m v + p.tune + add)
  let c := clampI 0 (135 * 65536) s
  (c, s != c)

/-- A new sample s of an oscillator (the last two are kept for FM). -/
def OscSt.put (o : OscSt) (s : Int) : OscSt := { o with s := s, s1 := o.s }

/-- The smallest sufficient band-limit level (R93 step 1). -/
def waveLevel (inc l : Nat) : Nat :=
  min (l - 1) (((List.range 11).find? (fun k => decide ((1024 / 2 ^ k) * inc * 96000 ≤ 45000 * 2 ^ 48))).getD 10)

/-- Content sample i of a wavetable set's table t at level k (Table 8-3). -/
def waveOff (l w t k i : Nat) : Nat := 64 + ((t * l + k) * 2048 + i) * (w / 8)

/-- Advances a phase; a wrap lets a change of level take effect (R90, R93). -/
def OscSt.turn (o : OscSt) (inc : Nat) : OscSt :=
  { o with ph := BitVec.ofNat 48 (o.ph.toNat + inc), lvl := if o.ph.toNat + inc ≥ 2 ^ 48 then 255 else o.lvl }

/-- The content samples that a WAVE oscillator reads at a phase and level: its two tables and the present and next sample of
each, as byte offsets in the item (R93). -/
def waveTaps (l w ta tb k ph : Nat) : List Nat :=
  let i := ph / 2 ^ 37
  [waveOff l w ta k i, waveOff l w tb k i, waveOff l w ta k ((i + 1) % 2048), waveOff l w tb k ((i + 1) % 2048)]

/-- The tables on both sides of a WAVE oscillator's position (R93). -/
def waveTables (n : Nat) (p : OscP) (morphAdd : Int) : Nat × Nat :=
  let a := (clampI 0 ((n - 1 : Nat) * 1024) (p.morph + morphAdd)).toNat / 1024
  (a, min (a + 1) (n - 1))

/-- WAVE (R93). -/
def Zone.oscWave (z : Zone) (h : HostC) (p : OscP) (o : OscSt) (pitch : Int) (morphAdd : Int) : OscOut :=
  match h.wHdr p.item with
  | none => ⟨o.put 0, 0, false, false⟩
  | some (it, n, l, w) =>
    let inc := pitchInc pitch
    let k := if o.lvl = 255 then waveLevel inc l else o.lvl
    let o := { o with lvl := k }
    let mm := (clampI 0 ((n - 1 : Nat) * 1024) (p.morph + morphAdd)).toNat
    let a := mm / 1024
    let b := min (a + 1) (n - 1)
    let mu : Int := (mm % 1024 : Nat) * 2 ^ 25
    let i := o.ph.toNat / 2 ^ 37
    let de : Int := (o.ph.toNat / 4 % 2 ^ 35 : Nat)
    let get := fun (t j : Nat) => z.cacheSample it (waveOff l w t k (j % 2048)) w
    let ab := fun (x : Option Int) => (if x.isNone then 1 else 0 : Nat)
    let w1 := fun (t : Nat) => let x := (get t i).getD 0; sToA x + mulSS de (((get t (i + 1)).getD 0) - x)
    let miss := ab (get a i) + ab (get a (i + 1)) + ab (get b i) + ab (get b (i + 1))
    let (s, sat) := storeVal tgtS36 (w1 a + mulAS (w1 b - w1 a) mu)
    ⟨(o.put s).turn inc, miss, false, sat⟩

/-- SAMPLE (R94–R96). -/
def Zone.oscSample (z : Zone) (h : HostC) (p : OscP) (o : OscSt) (pitch : Int) : OscOut :=
  match h.src p with
  | none => ⟨o.put 0, 0, false, false⟩
  | some s =>
    let (st, cl) := s.step pitch
    if o.fin then ⟨o.put 0, 0, cl, false⟩
    else
      let (y, miss) := z.interp s o.pos
      let np := s.advance o.pos st
      let (y, sat) := storeVal tgtS36 y
      ⟨{ o.put y with pos := np, fin := s.atEnd np }, miss, cl, sat⟩

/-- The window of a grain reader in the first half of its grain (R100). -/
def grainHalf (t g : Nat) : Int :=
  2 ^ 34 - roundShift (sineTab ((roundHalfUp ((t : Rat) * 2 ^ 36 / g) + 2 ^ 34).toNat % 2 ^ 36)) 1

/-- The window of a grain reader: its second half completes the first to 1 (R100). -/
def grainWin (t g : Nat) : Int := if 2 * t < g then grainHalf t g else 2 ^ 35 - grainHalf (t - g / 2) g

/-- One grain reader's frame: output, reader, absent taps; H the head, done whether H has reached END (R100, R101). -/
def Zone.grainStep (z : Zone) (s : Src) (g : Grain) (glen : Nat) (step : Int) (hd : ReadPos) (done : Bool) :
    Int × Grain × Nat :=
  if !g.on then (0, g, 0)
  else
    let (y, miss) := z.interp s g.y
    let out := mulAS y (grainWin g.t glen)
    let ny := s.advance g.y step
    if g.t + 1 ≥ glen then
      if done then (out, { g with y := ny, t := glen, on := false }, miss)
      else (out, { g with y := hd, t := 0 }, miss)
    else (out, { g with y := ny, t := g.t + 1 }, miss)

/-- The time-scale rate of a frame (R99): rate is the deadline rate, add the rate addend (A72). -/
def OscSt.rate (o : OscSt) (rate : Rat) (add : Int) : Rat :=
  let r := (o.grate : Rat) / 1000 * rate * (1 + (add : Rat) / 2 ^ 63)
  if r < 1 / 2 then 1 / 2 else if r > 13 / 10 then 13 / 10 else r

/-- The blocks that a grain reader's taps reach in the next n frames: a reader that restarts in them starts at the head, which
moves on by hstep (R99–R101, R167). -/
def Src.grainReach (s : Src) (step hstep : Int) (glen : Nat) : Nat → ReadPos → Grain → List Nat
  | 0, _, g => if g.on then s.tapBlocks g.y else []
  | n + 1, hd, g =>
    if !g.on then []
    else
      let nh := if s.atEnd hd then hd else s.advance hd hstep
      let g' : Grain := if g.t + 1 < glen then { g with y := s.advance g.y step, t := g.t + 1 }
        else if s.atEnd nh then { g with on := false } else { g with y := nh, t := 0 }
      s.tapBlocks g.y ++ s.grainReach step hstep glen n nh g'

/-- The step of the head (R99). -/
def Src.headStep (s : Src) (o : OscSt) (rate : Rat) (add : Int) : Int :=
  roundHalfUp (o.rate rate add * s.hd.rate / 96000 * 65536)

/-- GRAIN (R99–R101): rate is the deadline rate, add the rate addend (A72). A GLEN that a reader's restart takes is that of both
readers from then on (assumption 70). -/
def Zone.oscGrain (z : Zone) (h : HostC) (p : OscP) (o : OscSt) (pitch : Int) (rate : Rat) (add : Int) : OscOut :=
  match h.src p with
  | none => ⟨o.put 0, 0, false, false⟩
  | some s =>
    let (st, cl) := s.step pitch
    if o.fin then ⟨o.put 0, 0, cl, false⟩
    else
      let done := s.atEnd o.pos
      let nh := if done then o.pos else s.advance o.pos (s.headStep o rate add)
      let done' := s.atEnd nh
      let (ya, ga, ma) := z.grainStep s o.ga o.glen st nh done'
      let (yb, gb, mb) := z.grainStep s o.gb o.glen st nh done'
      let restart := (ga.on && ga.t == 0) || (gb.on && gb.t == 0)
      let (y, sat) := storeVal tgtS36 (ya + yb)
      ⟨{ o.put y with
          pos := nh, ga := ga, gb := gb, fin := !ga.on && !gb.on,
          glen := if restart then glenOf p else o.glen, grate := if restart then grateOf p else o.grate },
        ma + mb, cl, sat⟩

/-- FM (R102): m the modulation input, idx the effective index. -/
def oscFm (o : OscSt) (inc : Nat) (m idx : Int) : OscOut :=
  let ph := ((o.ph.toNat / 2 ^ 12 : Nat) + roundShift (idx * m) 31).emod (2 ^ 36)
  ⟨(o.put (sineTab ph.toNat)).turn inc, 0, false, false⟩

/-- The band-limiting residual b(t) of R103. -/
def blepB (t dt : Rat) : Rat :=
  if dt = 0 then 0
  else if t < dt then 2 * (t / dt) - (t / dt) * (t / dt) - 1
  else if t > 1 - dt then ((t - 1) / dt) * ((t - 1) / dt) + 2 * ((t - 1) / dt) + 1
  else 0

/-- A real sample as an S36 code, and whether it saturated (R73, R79, R80). -/
def s36Of (x : Rat) : Int × Bool :=
  let n := roundHalfUp (x * 2 ^ 35)
  (clampI s36Min s36Max n, n != clampI s36Min s36Max n)

/-- SAW (R103). -/
def oscSaw (o : OscSt) (inc : Nat) : OscOut :=
  let t : Rat := (o.ph.toNat : Rat) / 2 ^ 48
  let (s, sat) := s36Of (2 * t - 1 - blepB t (inc / 2 ^ 48))
  ⟨(o.put s).turn inc, 0, false, sat⟩

/-- PULSE (R103, R104): pw the width plus its addend, in 65536ths of a cycle. -/
def oscPulse (o : OscSt) (inc : Nat) (pw : Int) : OscOut :=
  let t : Rat := (o.ph.toNat : Rat) / 2 ^ 48
  let dt : Rat := inc / 2 ^ 48
  let w0 : Rat := (pw : Rat) / 65536
  let w := if w0 < dt then dt else if w0 > 1 - dt then 1 - dt else w0
  let q : Rat := if t < w then 1 else -1
  let (s, sat) := s36Of (q + blepB t dt - blepB (ratMod (t + 1 - w) 1) dt - (2 * w - 1))
  ⟨(o.put s).turn inc, 0, false, sat⟩

/-- Trailing zeros of a count, at most 12. -/
def tz12 (c : Nat) : Nat := ((List.range 12).find? (fun i => c / 2 ^ i % 2 == 1)).getD 12

/-- The rows of a pink source that took no draws at voice start, as NTYPE was 0 there: their contents are not stated
(assumption 71). -/
def Zone.noiseRows0 (z : Zone) : List Int := (List.range 13).map (fun r => (BitVec.extractLsb' 0 36 (Config.word z.id.val 17 r)).toInt)

/-- NOISE (R105): c counts the frames since voice start, whatever NTYPE is. -/
def Zone.oscNoise (z : Zone) (p : OscP) (o : OscSt) : OscOut :=
  let o' := { o with cnt := (o.cnt + 1) % 2 ^ 32 }
  if p.ntype = false then
    let (s, x) := noiseDraw o.s32
    ⟨{ o'.put x with s32 := s }, 0, false, false⟩
  else
    let (s, rows) :=
      if o.cnt = 0 ∧ o.rows = [] then noiseRows 13 o.s32
      else
        let old := if o.rows = [] then z.noiseRows0 else o.rows
        let (s, x) := noiseDraw o.s32
        if o.cnt = 0 then (s, old.set 0 x)
        else
          let (s, y) := noiseDraw s
          (s, (old.set 0 x).set (min (1 + tz12 o.cnt) 12) y)
    ⟨{ o'.put (roundHalfUp ((rows.sum : Rat) / 13)) with s32 := s, rows := rows }, 0, false, false⟩

/-- The words of the cache that hold the bytes from an offset of an item. -/
def Zone.wordsAt (z : Zone) (it : Item) (off nb : Nat) : List Nat :=
  [off, off + nb - 1].filterMap (fun o => (z.cache.find (it.first + o / 4096)).map (fun l => l.line * 512 + o % 4096 / 8))

/-- The words of the cache that the taps at a read position read. -/
def Zone.tapWords (z : Zone) (s : Src) (p : ReadPos) : List Nat :=
  (List.range 8).flatMap (fun (j : Nat) => match s.tap p (p.x / 65536 + (j : Int) - 3) with
    | some i => z.wordsAt s.it (s.off i) (s.hd.width / 8)
    | none => [])

/-- The words of the cache that oscillator n of voice v reads in a frame. -/
def Zone.oscWords (z : Zone) (h : HostC) (m : Mem72) (v n : Nat) (vo : Voice) (a : Addends) : List Nat :=
  let p := oscP m v n
  let o := vo.sig.osc[fin 3 n]
  if o.dis || o.fin then []
  else match p.mode, h.wHdr p.item, h.src p with
    | 1, some (it, nt, l, w), _ =>
      let k := if o.lvl = 255 then waveLevel (pitchInc (pitchOf m v vo.st.note p (addUnits a (1 + n) 786432)).1) l else o.lvl
      let t := waveTables nt p (addUnits a (7 + n) 65536)
      (waveTaps l w t.1 t.2 k o.ph.toNat).flatMap (fun b => z.wordsAt it b (w / 8))
    | 2, _, some s => z.tapWords s o.pos
    | 3, _, some s => (if o.ga.on then z.tapWords s o.ga.y else []) ++ (if o.gb.on then z.tapWords s o.gb.y else [])
    | _, _, _ => []

/-- The check of the words that oscillator n reads (R81, R350), where the cache holds an error at all. -/
def Zone.oscCheck (z : Zone) (h : HostC) (m : Mem72) (v n : Nat) (vo : Voice) (a : Addends) : Zone :=
  if z.mem.marks.any (fun p => p.1 / 2 ^ 20 == memCache) then z.cacheCheck (z.oscWords h m v n vo a) else z

/-- One frame of oscillator n of voice v (R90–R105). s0–s2 are this frame's samples of lower oscillators and the previous
frame's of the others (R86). -/
def Zone.oscFrame (z : Zone) (h : HostC) (m : Mem72) (v n : Nat) (vo : Voice) (a : Addends) : OscOut :=
  let p := oscP m v n
  let o := vo.sig.osc[fin 3 n]
  if o.dis ∨ p.mode = 0 then ⟨o.put 0, 0, false, false⟩
  else if p.mode = 7 then z.oscNoise p o
  else
    let (pitch, cl) := pitchOf m v vo.st.note p (addUnits a (1 + n) 786432)
    let inc := pitchInc pitch
    let r := match p.mode with
      | 1 => z.oscWave h p o pitch (addUnits a (7 + n) 65536)
      | 2 => z.oscSample h p o pitch
      | 3 => z.oscGrain h p o pitch ((vo.st.dl.map DlSt.rate).getD 1) (addend a (16 + n))
      | 4 =>
        let mi := if 1 ≤ p.fmsrc ∧ p.fmsrc ≤ 3 then vo.sig.osc[fin 3 (p.fmsrc - 1)].s
          else if p.fmsrc = 4 then roundShift (o.s + o.s1) 1 else 0
        oscFm o inc mi (clampG (p.fmidx + addG a (13 + n)))
      | 5 => oscPulse o inc ((oscP m v n).morph + addUnits a (10 + n) 32768)
      | _ => oscSaw o inc
    { r with clamp := r.clamp || cl }

/-! Filters (R106–R110). -/

/-- What the lane work of an element has raised: AOV, LOST, SAT (R77, R80, R86). -/
structure LaneFl where
  aov  : Bool
  lost : Bool
  sat  : Bool
  deriving DecidableEq, Repr

/-- What either of two pieces of lane work has raised. -/
def LaneFl.or (a b : LaneFl) : LaneFl := ⟨a.aov || b.aov, a.lost || b.lost, a.sat || b.sat⟩

/-- No flag. -/
def LaneFl.none0 : LaneFl := ⟨false, false, false⟩

/-- A sum of exact terms in a lane accumulator: the first is loaded (R74–R76). -/
def laneAcc (xs : List Int) : AccSt := xs.foldl AccSt.add AccSt.zero

/-- The flags that a lane accumulator has raised. -/
def AccSt.flags (a : AccSt) : LaneFl := ⟨a.aov, a.lost, false⟩

/-- One stage (R107): g = (a1, a2, a3, k); output by MODE; the states stored as A72 (R109); every sum is formed in a lane
accumulator and read under R78. -/
def stage (mode : Nat) (a1 a2 a3 k pk u z1 z2 : Int) : Int × Int × Int × LaneFl :=
  let w3 := laneAcc [u, -z2]
  let w1 := laneAcc [mulAG z1 a1, mulAG w3.read a2]
  let w2 := laneAcc [z2, mulAG z1 a2, mulAG w3.read a3]
  let v1 := w1.read
  let v2 := w2.read
  let b := laneAcc [mulAG v1 k]
  let y := match mode with
    | 1 => w2
    | 2 => laneAcc [u, -b.read, -v2]
    | 3 => b
    | 4 => laneAcc [u, -b.read]
    | _ => laneAcc [u, mulAG b.read pk]
  let m1 := laneAcc [2 * v1, -z1]
  let m2 := laneAcc [2 * v2, -z2]
  let (n1, s1) := m1.store tgtA72
  let (n2, s2) := m2.store tgtA72
  (y.read, n1, n2, ([w3, w1, w2, y, m1, m2].foldl (fun f a => f.or a.flags) ⟨false, false, s1 || s2⟩))

/-- A filter's frame before its LEVEL: output, states, flags of its lane work. -/
def FltSt.frame (f : FltSt) (p : FltP) (note : Nat) (cutAdd resAdd : Int) (u : Int) : Int × FltSt × LaneFl :=
  if p.mode = 0 ∨ p.mode ≥ 6 then (u, f, LaneFl.none0)
  else
    let c := p.cut + roundHalfUp ((p.key : Rat) / 2 ^ 32 * ((note : Int) * 65536 - 60 * 65536 : Int)) + cutAdd
    let q := (clampI 0 65535 (p.res + resAdd)).toNat
    let a := fun (i : Nat) => filtCoef c q i
    let pk := gainDb (p.pgain * 16384) - g36One
    let (y, n1, n2, s) := stage p.mode (a 0) (a 1) (a 2) (a 3) pk u f.z1 f.z2
    let f' := { f with z1 := n1, z2 := n2 }
    if p.slope ∧ p.mode ≠ 5 then
      let q2 := if p.mode = 1 ∨ p.mode = 2 then 65536 else q
      let b := fun (i : Nat) => filtCoef c q2 i
      let (y2, m1, m2, t) := stage p.mode (b 0) (b 1) (b 2) (b 3) pk y f.y1 f.y2
      (y2, { f' with y1 := m1, y2 := m2 }, s.or t)
    else (y, f', s)

/-! Flags of the lanes (R77, R80, R86): which lane a unit uses the spec does not give, so the number is a free value. -/

/-- Whether a lane holds a flag: 0 AOV, 1 LOST, 2 SAT. -/
def ZVox.laneHas (x : ZVox) (l : Fin 4) (i : Nat) : Bool :=
  match i with
  | 0 => x.lanes[l].aov
  | 1 => x.lanes[l].lost
  | _ => x.laneSat.getLsbD l.val

/-- A lane takes a flag. -/
def ZVox.laneMark (x : ZVox) (l : Fin 4) (i : Nat) : ZVox :=
  match i with
  | 0 => { x with lanes := vmod x.lanes l (fun a => { a with aov := true }) }
  | 1 => { x with lanes := vmod x.lanes l (fun a => { a with lost := true }) }
  | _ => { x with laneSat := x.laneSat ||| BitVec.ofNat 4 (2 ^ l.val) }

/-- A lane flag (0 AOV, 1 LOST, 2 SAT) is raised; one that the lane holds already is no news (R77). -/
def Zone.laneFlag (z : Zone) (i : Nat) : Zone :=
  let (w, z) := z.freeWord 1
  let l := fin 4 (w.toNat % 4)
  if z.vox.laneHas l i then z else { z with vox := z.vox.laneMark l i }.arith 0x1C00 l.val i

/-- The flags that an element's lane work has raised. -/
def Zone.laneFlags (z : Zone) (f : LaneFl) : Zone :=
  let z := if f.aov then z.laneFlag 0 else z
  let z := if f.lost then z.laneFlag 1 else z
  if f.sat then z.laneFlag 2 else z

/-- Loads an exact value into a lane accumulator and gives the value read from it, with its flags (R76, R78). -/
def Zone.laneLoad (z : Zone) (x : Int) : Int × Zone :=
  let a := AccSt.zero.load x
  (a.read, z.laneFlags a.flags)

/-- A sum of exact terms in a lane accumulator, read at its end (R74–R78). -/
def Zone.laneSum (z : Zone) (xs : List Int) : Int × Zone :=
  let a := laneAcc xs
  (a.read, z.laneFlags a.flags)

/-- A clamp of pitch or step is recorded (R89, R94). -/
def Zone.notePclamp (z : Zone) : Zone := z.setFlt 0x1C00 4

/-- A structural fault of an oscillator (R92): PARAM_ERR and one REPORT PARAM. -/
def Zone.paramFault (z : Zone) (item : Word) (v n : Nat) : Zone :=
  (z.setFlt 0x1C00 5).send clsReport 0x0041 (natLe item.toNat 4 ++ natLe v 1 ++ natLe n 1)

end Sys2Proof.Machine
end

