-- ==== Sys2Proof/Machine/VoiceFrame.lean ====
section
/-! DEFINITION. Deadlines, the start of a voice and one rendered frame of a voice (R65, R66, R85–R114, R134, R141, R167). -/

namespace Sys2Proof.Machine

/-- A zone with voice v changed. -/
def Zone.modVoice (z : Zone) (v : Fin 96) (f : Voice → Voice) : Zone := { z with voices := vmod z.voices v f }

/-! Deadlines (R65, R66). -/

/-- The GRAIN oscillator of a voice whose item a deadline measures, or else its SAMPLE oscillator. -/
def deadlineOsc (m : Mem72) (v : Nat) : Option Nat :=
  match (List.range 3).find? (fun n => (oscP m v n).mode == 3) with
  | some n => some n
  | none => (List.range 3).find? (fun n => (oscP m v n).mode == 2)

/-- The item that a deadline measures is still sounding: its oscillator has not set END (R66). -/
def itemSounds (m : Mem72) (v : Nat) (vo : Voice) : Bool :=
  match deadlineOsc m v with
  | some n => !vo.sig.osc[fin 3 n].fin
  | none => true

/-- D_rem in frames (R65, R99). -/
def Zone.dRem (_z : Zone) (h : HostC) (m : Mem72) (v : Nat) (vo : Voice) (d : DlSt) : Rat :=
  if d.nom ≠ 0 then (d.nom * 96 : Nat) - d.played
  else match deadlineOsc m v with
    | none => 0
    | some n =>
      match h.src (oscP m v n) with
      | none => 0
      | some s =>
        let p := vo.sig.osc[fin 3 n].pos
        let e : Rat := if s.looping p then (s.le : Nat) else (s.hd.len : Nat)
        (e - (p.x : Rat) / 65536) * 96000 / (s.hd.rate : Nat)

/-- Whether x lies at or beyond q in direction DIR (R65). -/
def Zone.beyond (z : Zone) (d : DlSt) : Bool :=
  if d.dir then decide (z.x ≤ (d.q.toInt : Rat)) else decide (z.x ≥ (d.q.toInt : Rat))

/-- DCAP of SCHED.CFG as it acts: the cap of R65. -/
def Zone.dlCap (z : Zone) : Rat := (clampN 100 130 (fld (z.reg Reg.SCHED_CFG) 15 8) : Nat) / 100

/-- r_req for a remaining duration (R65); once q has been crossed the item plays to its end at cap (R66). -/
def Zone.reqRate (z : Zone) (rem : Rat) (d : DlSt) : Rat :=
  let sp : Rat := (z.pos.speed : Rat) / 2 ^ 24
  let q : Rat := d.q.toInt
  if d.miss || z.beyond d then z.dlCap
  else if sp ≠ 0 ∧ ((sp > 0 ∧ q > z.x) ∨ (sp < 0 ∧ q < z.x)) then rem * sp / (q - z.x)
  else 1

/-- The applied deadline rate of the next tick: it moves toward the target by at most GSLEW (R65). -/
def Zone.dlRate (z : Zone) (d : DlSt) (r : Rat) : Rat :=
  let tgt := if r < 1 then 1 else if r > z.dlCap then z.dlCap else r
  let sl : Rat := (clampN 1 50 (fld (z.reg Reg.SCHED_CFG) 23 16) : Nat) / 1000
  if tgt > d.rate + sl then d.rate + sl else if tgt < d.rate - sl then d.rate - sl else tgt

/-- DEADLINE_RISK, the first time r_req reaches cap (R66). -/
def Zone.dlRisk (z : Zone) (handle : BitVec 16) (r : Rat) (d : DlSt) : Zone :=
  if decide (r ≥ z.dlCap) && !d.risk then
    (z.count Reg.SCHED_COUNT 23 16 1).send clsReport 0x0024
      (natLe handle.toNat 2 ++ natLe (clampI 0 65535 (roundHalfUp (r * 100))).toNat 2)
  else z

/-- DEADLINE_MISS with D_rem (R66). -/
def Zone.dlMiss (z : Zone) (handle : BitVec 16) (rem : Rat) : Zone :=
  (z.count Reg.SCHED_COUNT 31 24 1).send clsReport 0x0025 (natLe handle.toNat 2 ++ intLe (roundHalfUp rem) 4)

/-- The deadline at the execution of a start, before any of the item has played (R65, R66): rem is the nominal duration. -/
def Zone.dlBegin (z : Zone) (handle : BitVec 16) (rem : Rat) (d : DlSt) : DlSt × Zone :=
  let r := z.reqRate rem d
  let d' := { d with begun := true, risk := d.risk || decide (r ≥ z.dlCap), miss := d.miss || z.beyond d }
  let z' := z.dlRisk handle r d
  (d', if z.beyond d && !d.miss then z'.dlMiss handle rem else z')

/-- The deadline work of one voice at its start and at every tick boundary while it sounds (R65, R66): a voice with no GRAIN
oscillator is monitored and its rate stays 1.00. -/
def Zone.deadline (z : Zone) (h : HostC) (v : Fin 96) (first : Bool) : Zone :=
  let vo := z.voices[v]
  match vo.st.dl with
  | none => z
  | some d =>
    let m := z.battAct
    let rem := z.dRem h m v.val vo d
    if first then
      if d.begun then z
      else
        let (d', z') := z.dlBegin vo.st.handle rem d
        z'.modVoice v (fun vo => { vo with st := { vo.st with dl := some d' } })
    else
      let r := z.reqRate rem d
      let grain := (List.range 3).any (fun n => (oscP m v.val n).mode == 3)
      let d' := { d with rate := if grain then z.dlRate d r else d.rate, risk := d.risk || decide (r ≥ z.dlCap) }
      (z.modVoice v (fun vo => { vo with st := { vo.st with dl := some d' } })).dlRisk vo.st.handle r d

/-- x has crossed q while the item sounds (R66). -/
def Zone.deadlineMiss (z : Zone) (h : HostC) (v : Fin 96) : Zone :=
  let vo := z.voices[v]
  match vo.st.dl with
  | none => z
  | some d =>
    if z.beyond d && !d.miss && itemSounds z.battAct v.val vo then
      (z.modVoice v (fun vo => { vo with st := { vo.st with dl := some { d with miss := true } } })).dlMiss vo.st.handle
        (z.dRem h z.battAct v.val vo d)
    else z

/-! Voice start (R116, R122, R129, R134). -/

/-- A control at voice start. -/
def CtlSt.zero : CtlSt := { v := 0, tgt := 0, left := 0, len := 0, from0 := 0, last := 0 }

/-- The sounding side of a FREE voice. -/
def VSig.zero : VSig :=
  { env := Vector.replicate 4 (EnvSt.at 0 0 0 0 0), lfo := Vector.replicate 3 ⟨false, 0, 0, 0, 0, 0, 0⟩,
    osc := Vector.replicate 3 OscSt.zero, mods := Vector.replicate 16 ⟨0, 0, false⟩, rtg := Vector.replicate 4 0,
    ladd := Vector.replicate 3 0, ctl := Vector.replicate 8 CtlSt.zero, flt := Vector.replicate 2 ⟨0, 0, 0, 0⟩,
    amp := 0, rand := 0, age := 0, rel := false, send := Vector.replicate 4 0, sus := Vector.replicate 4 (0, 0) }

/-- No start data. -/
def Start.none0 : Start := { item := 0, cls := 0, handle := 0, note := 0, vel := 0, dl := none, held := [], cnt := false }

/-- A FREE voice. -/
def Voice.free0 : Voice :=
  { life := .free, st := Start.none0, start := 0, succ := none, fadeK := 0, fadeN := 0, ended := false, fresh := false,
    edit := false, pclamp := false, perr := false, posc := 0, starve := ⟨0, false⟩, pins := [], sig := VSig.zero }

/-- The voice becomes FREE; its EDIT bit stays (R137). -/
def Voice.toFree (vo : Voice) : Voice := { Voice.free0 with edit := vo.edit }

/-- Sets one live control or does one RETRIG of a voice: n the ramp length of the control (R121, R122, R129, R130). -/
def Zone.ctlWord (z : Zone) (v : Fin 96) (w : Word) : Zone :=
  let code := fld w 31 28
  let vo := z.voices[v]
  let m := z.battAct
  if code ≤ 7 then
    let step := bit w 27 || vo.sig.age == 0
    let n := if step then 0 else csmLen (vCsm m v.val code)
    let val : Int := wrapS 24 (fld w 23 0) * 2 ^ 12
    z.modVoice v (fun vo => { vo with sig := { vo.sig with ctl := vmod vo.sig.ctl (fin 8 code) (fun c => c.set val n) } })
  else if code = 8 then
    let z := iter 3 (fun l z =>
      if fld w (4 + l) (4 + l) = 1 then
        let (st, z) := z.lfoStart (lfoP m v.val l) (some z.voices[v].sig.lfo[fin 3 l])
        z.modVoice v (fun vo => { vo with sig := { vo.sig with lfo := vo.sig.lfo.set (fin 3 l) st } })
      else z) z
    if vo.sig.rel then (z.count Reg.VCTL_COUNT 7 0 1).setFlt 0x1C00 6
    else iter 4 (fun e z =>
      if fld w e e = 1 then
        z.modVoice v (fun vo => { vo with sig := vo.sig.retrig (envP m v.val e) (fin 4 e) false })
      else z) z
  else (z.count Reg.VCTL_COUNT 7 0 1).setFlt 0x1C00 6

/-- The 32 words of a preset from its cached block, or zero where a byte is absent (R133). -/
def Zone.presetWord (z : Zone) (it : Item) (i : Nat) : W72 :=
  BitVec.ofNat 72 ((z.cacheNat it (9 * i) 9).getD 0)

/-- Copies a preset into the block of voice v: the active batten always, the inactive one unless EDIT is set (R134). -/
def Zone.presetCopy (z : Zone) (it : Item) (v : Fin 96) : Zone :=
  let wr := fun (m : Mem72) => iter 32 (fun i m => m72Set m (v.val * 32 + i) (z.presetWord it i)) m
  let act := z.swaps[(0 : Fin 6)].active
  let ed := z.voices[v].edit
  { z with vox := { z.vox with battA := if !act || !ed then wr z.vox.battA else z.vox.battA,
                               battB := if act || !ed then wr z.vox.battB else z.vox.battB } }

/-- Starts voice v with its start data: ACTIVE with its first sample in the present frame (R134). -/
def Zone.voiceBegin (z : Zone) (h : HostC) (v : Fin 96) (st : Start) : Zone :=
  let m := z.battAct
  let (rnd, z) := z.draw
  let (l0, z) := z.lfoStart (lfoP m v.val 0) none
  let (l1, z) := z.lfoStart (lfoP m v.val 1) none
  let (l2, z) := z.lfoStart (lfoP m v.val 2) none
  let (o0, k0, z) := z.oscStart h v.val 0 (oscP m v.val 0)
  let (o1, k1, z) := z.oscStart h v.val 1 (oscP m v.val 1)
  let (o2, k2, z) := z.oscStart h v.val 2 (oscP m v.val 2)
  let bad := !k0 || !k1 || !k2
  let sig := { VSig.zero with
    env := #v[envStart (envP m v.val 0), envStart (envP m v.val 1), envStart (envP m v.val 2), envStart (envP m v.val 3)],
    lfo := #v[l0, l1, l2], osc := #v[o0, o1, o2], rand := rnd }
  let z := z.modVoice v (fun vo => { Voice.free0 with
    life := .active, st := { st with held := [] }, start := z.time.frame, fresh := true, edit := vo.edit, perr := bad,
    posc := if !k2 then 2 else if !k1 then 1 else 0, sig := sig })
  let z := if !k0 then z.paramFault (oscP m v.val 0).item v.val 0 else z
  let z := if !k1 then z.paramFault (oscP m v.val 1).item v.val 1 else z
  let z := if !k2 then z.paramFault (oscP m v.val 2).item v.val 2 else z
  let z := st.held.foldl (fun (z : Zone) w => z.ctlWord v w) z
  z.deadline h v true

/-! One rendered frame (R85, R86, R112–R114, R167). -/

/-- The blocks a voice's oscillator n reaches in the next 32 frames, and its item (R167). -/
def Zone.oscReach (_z : Zone) (h : HostC) (m : Mem72) (v n : Nat) (vo : Voice) (a : Addends) : Option (Word × List Nat) :=
  let p := oscP m v n
  let o := vo.sig.osc[fin 3 n]
  if o.dis then none
  else
    let pitch := (pitchOf m v vo.st.note p (addUnits a (1 + n) 786432)).1
    match p.mode with
    | 1 => match h.wHdr p.item with
      | none => none
      | some (it, nt, l, w) =>
        let inc := pitchInc pitch
        let t := waveTables nt p (addUnits a (7 + n) 65536)
        some (p.item, (List.range 33).flatMap (fun j =>
          let k := if o.lvl = 255 ∨ 2 ^ 48 ≤ o.ph.toNat + j * inc then waveLevel inc l else o.lvl
          (waveTaps l w t.1 t.2 k ((o.ph.toNat + j * inc) % 2 ^ 48)).flatMap (fun b =>
            [it.first + b / 4096, it.first + (b + w / 8 - 1) / 4096])))
    | 2 => match h.src p with
      | none => none
      | some s => if o.fin then none else some (p.item, s.reach (s.step pitch).1 32 o.pos)
    | 3 => match h.src p with
      | none => none
      | some s =>
        if o.fin then none
        else
          let st := (s.step pitch).1
          let hs := s.headStep o ((vo.st.dl.map DlSt.rate).getD 1) (addend a (16 + n))
          some (p.item, s.grainReach st hs o.glen 32 o.pos o.ga ++ s.grainReach st hs o.glen 32 o.pos o.gb)
    | _ => none

/-- The block ahead of a read position once the position is in the half of its block nearer to it (R165). -/
def Src.ahead (s : Src) (p : ReadPos) : List Nat :=
  let off := s.off (p.x / 65536).toNat
  let b := off / 4096
  let back := p.back && s.loop == 2
  if p.x < 0 then []
  else if back then (if off % 4096 < 2048 ∧ 0 < b then [s.it.first + b - 1] else [])
  else if off % 4096 ≥ 2048 ∧ b + 1 < s.it.nblk then [s.it.first + b + 1] else []

/-- The block ahead of a WAVE oscillator in a table: the next block of the level that it reads, or past the cycle's last sample
the block of its first (R93, R164). -/
def waveNext (it : Item) (l w t k ph : Nat) : Nat :=
  let b := waveOff l w t k (ph / 2 ^ 37) / 4096
  it.first + (if b < (waveOff l w t k 2047 + w / 8 - 1) / 4096 then b + 1 else waveOff l w t k 0 / 4096)

/-- The blocks ahead of a WAVE oscillator; half: only where its position is in the half of its block nearer to them (R165). -/
def waveAhead (h : HostC) (m : Mem72) (v n : Nat) (vo : Voice) (a : Addends) (half : Bool) : List Nat :=
  let p := oscP m v n
  let o := vo.sig.osc[fin 3 n]
  match h.wHdr p.item with
  | none => []
  | some (it, nt, l, w) =>
    let k := if o.lvl = 255 then waveLevel (pitchInc (pitchOf m v vo.st.note p (addUnits a (1 + n) 786432)).1) l else o.lvl
    let t := waveTables nt p (addUnits a (7 + n) 65536)
    [t.1, t.2].flatMap (fun t =>
      if half && decide (waveOff l w t k (o.ph.toNat / 2 ^ 37) % 4096 < 2048) then [] else [waveNext it l w t k o.ph.toNat])

/-- The blocks ahead of oscillator n's positions (R165). -/
def oscAhead (h : HostC) (m : Mem72) (v n : Nat) (vo : Voice) (a : Addends) : List Nat :=
  let p := oscP m v n
  let o := vo.sig.osc[fin 3 n]
  if o.dis || o.fin then []
  else match p.mode, h.src p with
    | 1, _ => waveAhead h m v n vo a true
    | 2, some s => s.ahead o.pos
    | 3, some s => s.ahead o.pos ++ (if o.ga.on then s.ahead o.ga.y else []) ++ (if o.gb.on then s.ahead o.gb.y else [])
    | _, _ => []

/-- The block ahead of a read position in its direction of travel (R164). -/
def Src.next (s : Src) (p : ReadPos) : List Nat :=
  let b := s.off (p.x / 65536).toNat / 4096
  if p.x < 0 then []
  else if p.back && s.loop == 2 then (if 0 < b then [s.it.first + b - 1] else [])
  else if b + 1 < s.it.nblk then [s.it.first + b + 1] else []

/-- The blocks that a read position pins: its taps, the block ahead, and the LS block of a loop it is inside (R164). -/
def Src.pins (s : Src) (p : ReadPos) : List Nat :=
  s.tapBlocks p ++ s.next p ++ (if s.looping p && p.inside then s.blocks s.ls else [])

/-- The blocks that oscillator n pins (R164). -/
def Zone.oscPins (z : Zone) (h : HostC) (m : Mem72) (v n : Nat) (vo : Voice) (a : Addends) : List Nat :=
  let p := oscP m v n
  let o := vo.sig.osc[fin 3 n]
  if o.dis || o.fin then []
  else match p.mode, h.src p with
    | 1, _ => (match z.oscReach h m v n vo a with | some (_, l) => l.take 8 | none => []) ++ waveAhead h m v n vo a false
    | 2, some s => s.pins o.pos
    | 3, some s => s.pins o.pos ++ (if o.ga.on then s.pins o.ga.y else []) ++ (if o.gb.on then s.pins o.gb.y else [])
    | _, _ => []

/-- The lines of some blocks become the most recently used (R164). -/
def ZCache.touch (c : ZCache) (bs : List Nat) : ZCache :=
  if bs.isEmpty then c
  else { c with clock := c.clock + 1
                lines := c.lines.map (fun (l : CacheLine) => if bs.contains l.blk then { l with used := c.clock + 1 } else l) }

/-- A voice's pins of the present frame (R164). -/
def Zone.pinVoice (z : Zone) (h : HostC) (v : Fin 96) (a : Addends) : Zone :=
  let vo := z.voices[v]
  let bs := ((List.range 3).flatMap (fun n => z.oscPins h z.battAct v.val n vo a)).dedup
  { (z.modVoice v (fun vo => { vo with pins := bs })) with cache := z.cache.touch bs }

/-- The starvation work of voice v in one frame: requests, factor, episode (R165, R167, R168). An oscillator whose item is fenced
starves whatever the cache holds, requests nothing, and is disabled when the factor reaches 0 (R170). -/
def Zone.starveVoice (z : Zone) (h : HostC) (v : Fin 96) (a : Addends) : Zone :=
  let z := z.pinVoice h v a
  let vo := z.voices[v]
  let m := z.battAct
  let rs := (List.range 3).filterMap (fun n => z.oscReach h m v.val n vo a)
  let absent := fun (r : Word × List Nat) => (r.2.filter (fun b => (z.cache.find b).isNone)).map (fun b => (r.1, b))
  let missing := rs.flatMap (fun r => if z.itemFenced r.1 then (r.2.take 1).map (fun b => (r.1, b)) else absent r)
  let req := fun (z : Zone) (b : Nat) => z.fetchReq (Fetch.new 0 vo.st.cls vo.start b 0 v.val)
  let z := if z.ctl.hcloss && z.ctl.st == .hold then z
    else ((missing.filter (fun r => !z.itemFenced r.1)).map (·.2) ++ (List.range 3).flatMap (fun n =>
      if z.itemFenced (oscP m v.val n).item then [] else oscAhead h m v.val n vo a)).foldl req z
  match missing with
  | [] =>
    z.modVoice v (fun vo => { vo with starve := { k := vo.starve.k - 1, open0 := vo.starve.k > 1 } })
  | (id, b) :: _ =>
    let k := satAdd 32 vo.starve.k 1
    let z := z.modVoice v (fun vo => { vo with starve := { k := k, open0 := true } })
    let z := if vo.starve.open0 then z
      else
        let first := ((h.item id).map Item.first).getD 0
        { z.send clsReport 0x0044 (natLe v.val 1 ++ natLe id.toNat 4 ++ natLe (b - first) 4) with
          cache := { z.cache with starves := satAdd 255 z.cache.starves 1 } }
    if k = 32 then
      iter 3 (fun n z =>
        let p := oscP m v.val n
        let o := z.voices[v].sig.osc[fin 3 n]
        if (1 ≤ p.mode && p.mode ≤ 3) && z.itemFenced p.item && !o.dis then
          let z := z.modVoice v (fun vo => { vo with perr := true, posc := n, sig := { vo.sig with
            osc := vmod vo.sig.osc (fin 3 n) (fun o => { o with dis := true, fin := o.fin || decide (2 ≤ p.mode) }) } })
          z.paramFault p.item v.val n
        else z) z
    else z

/-- The factor Φ of R112 as G36: steal fade times starvation fade. -/
def Voice.phi (vo : Voice) : Int :=
  let st : Rat := if vo.life = .fading ∧ vo.fadeN > 0 then ((vo.fadeN - 1 - vo.fadeK : Nat) : Rat) / (vo.fadeN : Nat) else 1
  roundHalfUp (st * ((32 - vo.starve.k : Nat) : Rat) / 32 * 2 ^ 32)

/-- The control elements of a frame: envelopes, LFOs, controls, matrix (voice cycles 4–18); gives the addends. -/
def Zone.voiceControl (z : Zone) (v : Fin 96) : Addends × Zone :=
  let m := z.battAct
  let vo := z.voices[v]
  let vo := iter 4 (fun e (vo : Voice) =>
    let (s, u) := (vo.sig.env[fin 4 e]).frame (envP m v.val e) vo.sig.sus[fin 4 e]
    { vo with sig := { vo.sig with env := vo.sig.env.set (fin 4 e) s, sus := vo.sig.sus.set (fin 4 e) u } }) vo
  let vo := { vo with sig := { vo.sig with ctl := vo.sig.ctl.map CtlSt.frame } }
  let (vo, z) := iter 3 (fun l (p : Voice × Zone) =>
    let (s, z) := p.2.lfoFrame (lfoP m v.val l) p.1.sig.lfo[fin 3 l] p.1.sig.ladd[fin 3 l]
    ({ p.1 with sig := { p.1.sig with lfo := p.1.sig.lfo.set (fin 3 l) s } }, z)) (vo, z)
  let (a, vo, z) := z.matrix m v.val vo
  let vo := iter 3 (fun l (vo : Voice) =>
    { vo with sig := { vo.sig with ladd := vo.sig.ladd.set (fin 3 l) (addUnits a (31 + l) 8192) } }) vo
  (a, { z with voices := z.voices.set v vo })

/-- The retriggers of a frame's matrix (R127, Table 6-5): it runs after the envelopes have formed their levels of the frame
(Table 5-2), so a retriggered envelope starts from the level of this frame in the next (assumption 73). -/
def Zone.voiceRetrig (z : Zone) (v : Fin 96) (a : Addends) : Zone :=
  let m := z.battAct
  z.modVoice v (fun vo => iter 4 (fun e (vo : Voice) =>
    let x := addend a (34 + e)
    let fire := decide (vo.sig.rtg[fin 4 e] < 2 ^ 62) && decide (x ≥ 2 ^ 62) && !vo.sig.rel && vo.life != .fading
    let g := if fire then vo.sig.retrig (envP m v.val e) (fin 4 e) true else vo.sig
    { vo with sig := { g with rtg := g.rtg.set (fin 4 e) x } }) vo)

/-- The oscillators of a frame in order (voice cycles 19–54), their contributions o as A72. -/
def Zone.voiceOscs (z : Zone) (h : HostC) (v : Fin 96) (a : Addends) : List Int × Zone :=
  let m := z.battAct
  iter 3 (fun n (acc : List Int × Zone) =>
    let z := acc.2.oscCheck h m v.val n acc.2.voices[v] a
    let r := z.oscFrame h m v.val n z.voices[v] a
    let z := z.modVoice v (fun vo => { vo with pclamp := vo.pclamp || r.clamp,
                                               sig := { vo.sig with osc := vo.sig.osc.set (fin 3 n) r.o } })
    let z := if r.clamp then z.notePclamp else z
    let z := if r.sat then z.laneFlag 2 else z
    let z := { z with cache := { z.cache with absents := satAdd 255 z.cache.absents r.absent } }
    (acc.1 ++ [mulGS (clampG ((oscP m v.val n).level + addG a (4 + n))) r.o.s], z)) ([], z)

/-- Filters, amplitude, pan and sends (voice cycles 55–71; R106–R113). -/
def Zone.voiceOut (z : Zone) (v : Fin 96) (a : Addends) (os : List Int) : Zone :=
  let m := z.battAct
  let vo := z.voices[v]
  let into := fun (ds : List Nat) => (List.range 3).filterMap (fun n =>
    if ds.contains (oscP m v.val n).dest then os[n]? else none)
  let par := vTopo m v.val
  let p0 := fltP m v.val 0
  let p1 := fltP m v.val 1
  let lev := fun (p : FltP) (f : Nat) (y : Int) (z : Zone) =>
    if p.mode = 0 ∨ p.mode ≥ 6 then (y, z) else z.laneLoad (mulAG y (clampG (p.level + addG a (23 + f))))
  let (u0, z) := z.laneSum (into (if par then [0, 3] else [0]))
  let (y0, f0, s0) := (vo.sig.flt[(0 : Fin 2)]).frame p0 vo.st.note (addUnits a 19 3145728) (addUnits a 21 65536) u0
  let (y0, z) := lev p0 0 y0 z
  let (u1, z) := z.laneSum (if par then into [1, 3] else y0 :: into [1])
  let (y1, f1, s1) := (vo.sig.flt[(1 : Fin 2)]).frame p1 vo.st.note (addUnits a 20 3145728) (addUnits a 22 65536) u1
  let (y1, z) := lev p1 1 y1 z
  let z := z.laneFlags (s0.or s1)
  let (fs, z) := z.laneSum ((if par then [y0, y1] else [y1]) ++ into [2])
  let amp := clampI 0 s36Max (roundShift (mulGS (vAmp m v.val) vo.sig.env[(0 : Fin 4)].e + addend a 25) 31)
  let phi := vo.phi
  let (fa, z) := z.laneLoad (mulAG fs amp)
  let mono := mulAG fa phi
  let pre := mulAG fs phi
  let pan := clampI s36Min s36Max (vPan m v.val + addS a 26)
  let ph := (roundHalfUp (((pan + 2 ^ 35 : Int) : Rat) / 4)).toNat
  let l := mulAS mono (sineTab (ph + 2 ^ 34))
  let r := mulAS mono (sineTab ph)
  let (sends, z) := iter 4 (fun s (acc : Vector Int 4 × Zone) =>
    let t := match vTap m v.val s with | 0 => mono | 1 => l | 2 => r | _ => pre
    let x := AccSt.zero.load (mulAG t (clampG (vSend m v.val s + addG a (27 + s))))
    let (e, sat) := x.store tgtA72
    let z := acc.2.laneFlags x.flags
    (acc.1.set (fin 4 s) e, if sat then z.laneFlag 2 else z)) (vo.sig.send, z)
  z.modVoice v (fun vo => { vo with sig := { vo.sig with flt := #v[f0, f1], amp := amp, send := sends } })

/-- Whether voice v ends in this frame (R114, R119): ENDMODE 1 with a SAMPLE or GRAIN oscillator looks at the END flags,
otherwise ENV0 in OFF. -/
def voiceEnds (m : Mem72) (v : Nat) (vo : Voice) : Bool :=
  let ns := (List.range 3).filter (fun n => (oscP m v n).mode == 2 || (oscP m v n).mode == 3)
  if vEndMode m v && !ns.isEmpty then ns.all (fun n => vo.sig.osc[fin 3 n].fin)
  else vo.sig.env[(0 : Fin 4)].st == 0

/-- A voice ends: zero output, handle cleared, VEND if enabled (R141). -/
def Zone.voiceEnd (z : Zone) (v : Fin 96) : Zone :=
  let vo := z.voices[v]
  let z := { z with cache := z.cache.unwait v.val }.modVoice v (fun vo => { vo with
    ended := true, st := { vo.st with handle := 0 }, sig := { vo.sig with send := Vector.replicate 4 0 } })
  if bit (z.reg Reg.VCTL_ACFG) 17 then
    z.send clsEvent 0x0032 (natLe v.val 1 ++ natLe vo.st.cls 1 ++ natLe vo.st.handle.toNat 2)
  else z

/-- One frame played: the nominal frames that the measured item runs through, at its GRAIN rate or at 1 (R65). -/
def DlSt.play (m : Mem72) (v : Nat) (vo : Voice) (a : Addends) (d : DlSt) : DlSt :=
  let n := deadlineOsc m v
  let r := match n with
    | some n => if (oscP m v n).mode = 3 then vo.sig.osc[fin 3 n].rate d.rate (addend a (16 + n)) else 1
    | none => 1
  { d with played := d.played + r }

/-- The render of voice v in one frame (R85). A voice that is not sounding produces zero. The start frame is the frame of the
first sample (R145). An oscillator that starvation disables counts as ended in that frame (R114). -/
def Zone.renderVoice (z : Zone) (h : HostC) (v : Fin 96) : Zone :=
  let vo := z.voices[v]
  if vo.life = .free ∨ vo.life = .wait ∨ vo.ended then
    z.modVoice v (fun vo => { vo with sig := { vo.sig with send := Vector.replicate 4 0 } })
  else
    let z := z.modVoice v (fun vo => { vo with start := if vo.fresh then z.time.frame else vo.start, fresh := false })
    let (a, z) := z.voiceControl v
    if voiceEnds z.battAct v.val z.voices[v] then z.voiceEnd v
    else
      let z := z.starveVoice h v a
      if voiceEnds z.battAct v.val z.voices[v] then z.voiceEnd v
      else
      let z := z.deadlineMiss h v
      let m := z.battAct
      let z := z.modVoice v (fun vo => { vo with st := { vo.st with dl := vo.st.dl.map (DlSt.play m v.val vo a) } })
      let (os, z) := z.voiceOscs h v a
      let z := (z.voiceOut v a os).voiceRetrig v a
      let z := z.modVoice v (fun vo => { vo with
        sig := { vo.sig with age := vo.sig.age + 1 } })
      if vo.life = .fading then
        if vo.fadeK + 1 ≥ vo.fadeN then z.voiceEnd v
        else z.modVoice v (fun vo => { vo with fadeK := vo.fadeK + 1 })
      else z

/-- The voice engine's render of all 96 voices (R85). -/
def Zone.renderAll (z : Zone) (h : HostC) : Zone := iter 96 (fun k z => z.renderVoice h (fin 96 k)) z

end Sys2Proof.Machine
end

