-- ==== Sys2Proof/Machine/AllocOps.lean ====
section
/-! DEFINITION. Allocation, stealing, handles, class ducking and what a VCTL swap does to a sounding voice (chapters 6
and 7). -/

namespace Sys2Proof.Machine

/-- The class a voice is held by, if any (R144): a voice that has ended is held until the next window frees it (R141). -/
def Voice.heldBy (vo : Voice) : Option Nat :=
  match vo.life with
  | .wait | .active | .released => some vo.st.cls
  | .fading => vo.succ.map (·.cls)
  | .free => none

/-- The number of voices held by class c. -/
def Zone.heldCount (z : Zone) (c : Nat) : Nat := (z.voices.toList.filter (fun vo => vo.heldBy == some c)).length

/-- The number of FREE voices. -/
def Zone.freeCount (z : Zone) : Nat := (z.voices.toList.filter (fun vo => vo.life == .free)).length

/-- The reservations in force after the 96-voice total (R144). -/
def Zone.resAt (z : Zone) (c : Nat) : Nat :=
  let before := ((List.range c).map (fun i => min 96 (z.vox.res[fin 6 i]))).sum
  min (min 96 (z.vox.res[fin 6 c])) (96 - min 96 before)

/-- The deficit d_c (R144). -/
def Zone.deficit (z : Zone) (c : Nat) : Nat := z.resAt c - z.heldCount c

/-- Whether a request of class c may take a free voice (R144). -/
def Zone.mayTake (z : Zone) (c : Nat) : Bool :=
  decide (1 ≤ z.freeCount) &&
    decide (((List.range 6).filter (· != c)).foldl (fun n c' => n + z.deficit c') 0 + 1 ≤ z.freeCount)

/-- The lowest-numbered FREE voice. -/
def Zone.firstFree (z : Zone) : Option (Fin 96) := (List.finRange 96).find? (fun v => z.voices[v].life == .free)

/-- Whether a voice is a steal candidate for class c (R145). -/
def Voice.candidate (vo : Voice) (c : Nat) : Bool :=
  !vo.ended && (vo.life == .wait || vo.life == .active || vo.life == .released) && decide (c < vo.st.cls)

/-- The ENV0 level of a voice's last rendered frame; a voice in WAIT counts as 0 (R145). -/
def Voice.loud (vo : Voice) : Int := if vo.life = .wait ∨ vo.fresh then 0 else vo.sig.env[(0 : Fin 4)].e

/-- A voice that has started and has no sample yet: its start frame lies ahead of every other (R145). -/
def Voice.unheard (vo : Voice) : Bool := vo.fresh && vo.life != .wait

/-- Whether voice a is to be stolen rather than b (R145): lower class, older, quieter; ties keep the lower number. -/
def stealBefore (a b : Voice) : Bool :=
  if a.st.cls ≠ b.st.cls then decide (a.st.cls > b.st.cls)
  else if a.unheard ≠ b.unheard then b.unheard
  else if a.start ≠ b.start then decide (fdist a.start b.start < 0)
  else decide (a.loud < b.loud)

/-- The victim for class c (R145). -/
def Zone.victim (z : Zone) (c : Nat) : Option (Fin 96) :=
  ((List.finRange 96).filter (fun v => z.voices[v].candidate c)).foldl (fun b v =>
    match b with
    | none => some v
    | some w => if stealBefore z.voices[v] z.voices[w] then some v else some w) none

/-- N of the steal and kill fade (R146). -/
def Zone.stealN (z : Zone) : Nat := clampN 24 768 (fld (z.reg Reg.VCTL_ACFG) 9 0)

/-- The preset item of a start, if it is a preset of the right length and not fenced (R133, R135, R170). -/
def Zone.presetItem (z : Zone) (h : HostC) (id : Word) : Option Item :=
  match h.item id with
  | some it => if it.ty = 3 ∧ it.len = 288 ∧ !z.itemFenced id then some it else none
  | none => none

/-- Whether the preset's block is in the cache (R135). -/
def Zone.presetHere (z : Zone) (it : Item) : Bool := (z.cache.find it.first).isSome

/-- The words of a preset in the cache are checked as its copy reads them; a block with an uncorrectable word is invalidated
(R13, R344). -/
def Zone.presetCheck (z : Zone) (it : Item) : Zone :=
  match z.cache.find it.first with
  | some l => z.cacheCheck ((List.range 36).map (fun k => l.line * 512 + k))
  | none => z

/-- A request for a preset's block (R157). -/
def Zone.presetFetch (z : Zone) (v : Fin 96) (cls : Nat) (it : Item) : Zone :=
  z.fetchReq (Fetch.new 1 cls z.time.frame it.first 0 v.val)

/-- The deadline of a start whose preset is not cached, at its execution (R65, R66): the nominal duration is NOMDUR, or lies in
the preset that is not there, which the rule leaves open (assumption 67). A successor's computation waits (R147). -/
def Zone.waitDeadline (z : Zone) (st : Start) : Start × Zone :=
  match st.dl with
  | none => (st, z)
  | some d =>
    let (w, z) := z.freeWord 18
    let rem : Rat := if d.nom ≠ 0 then (d.nom * 96 : Nat) else (w.toNat % 2 ^ 48 : Nat)
    let (d', z) := z.dlBegin st.handle rem d
    ({ st with dl := some d' }, z)

/-- A start proceeds on voice v as from a free voice: ACTIVE, or WAIT while its preset is not cached (R134, R135). succ: it is a
successor's. -/
def Zone.startOn (z : Zone) (h : HostC) (v : Fin 96) (st : Start) (succ : Bool) : Zone :=
  let z := { z with cache := z.cache.unwait v.val }
  if st.item = 0 then z.voiceBegin h v st
  else match z.presetItem h st.item with
    | none => z.modVoice v Voice.toFree
    | some it =>
      let z := z.presetCheck it
      if z.presetHere it then (z.presetCopy it v).voiceBegin h v st
      else
        let (st, z) := if succ then (st, z) else z.waitDeadline st
        let z := z.modVoice v (fun vo => { Voice.free0 with
          life := .wait, st := st, start := z.time.frame, fresh := true, edit := vo.edit })
        (z.setFlt 0x1C00 7).presetFetch v st.cls it

/-- NOVOICE (R148): class, handle, source, reason of Table 7-4. -/
def Zone.noVoice (z : Zone) (cls : Nat) (handle : BitVec 16) (src reason : Nat) : Zone :=
  let z := z.count Reg.VCTL_ACOUNT 15 8 1
  let z := if cls = 0 then z.count Reg.VCTL_ACOUNT 7 0 1 else z
  z.send (if cls = 0 then clsFault else clsReport) 0x0042
    (natLe cls 1 ++ natLe handle.toNat 2 ++ natLe src 1 ++ natLe reason 1)

/-- What became of a voice start: taken, missing preset, or the NOVOICE reason. -/
inductive VResult where
  | taken
  | noPreset
  | failed (reason : Nat)
  deriving DecidableEq, Repr

/-- A steal of voice v by a start (R146, R147, R149). -/
def Zone.steal (z : Zone) (h : HostC) (v : Fin 96) (st : Start) : Zone :=
  let vi := z.voices[v]
  let z := z.count Reg.VCTL_ACOUNT 31 16 1
  let z := if bit (z.reg Reg.VCTL_ACFG) 16 then
      z.send clsReport 0x0043 (natLe v.val 1 ++ natLe vi.st.cls 1 ++ natLe vi.st.handle.toNat 2 ++ natLe st.cls 1 ++
        natLe st.handle.toNat 2)
    else z
  if vi.life = .wait ∨ vi.fresh then z.startOn h v st false
  else
    let z := z.modVoice v (fun vo => { vo with
      life := .fading, succ := some st, fadeK := 0, fadeN := z.stealN, st := { vo.st with handle := 0 } })
    match z.presetItem h st.item with
    | some it => if z.presetHere it then z else z.presetFetch v st.cls it
    | none => z

/-- Whether the HOLD timeout refuses a start of class c (R255); HSTAT.EXP of GOV is the state of that timeout. -/
def Zone.holdRefuses (z : Zone) (c : Nat) : Bool :=
  z.ctl.st == .hold && bit (z.reg Reg.GOV_HSTAT) 31 && decide (4 ≤ c)

/-- A voice start of a class (R134, R135, R145, R148): src 0 scheduler, 1 host, 2 zone DSP; cnt: a wait for its preset counts
as lateness. -/
def Zone.vstart (z : Zone) (h : HostC) (src cls : Nat) (arg0 arg1 : Word) (dl : Option DlSt) (cnt : Bool) : VResult × Zone :=
  let hd := BitVec.extractLsb' 16 16 arg1
  let hd : BitVec 16 := if hd.toNat > 0xFEFF then 0 else hd
  let st : Start := { item := arg0, cls := cls, handle := hd, note := fld arg1 15 8, vel := fld arg1 7 0, dl := dl, held := [], cnt := cnt }
  if arg0 ≠ 0 ∧ (z.presetItem h arg0).isNone then
    let z := z.count Reg.VCTL_COUNT 15 8 1
    (.noPreset, (z.setFlt 0x1C00 5).send clsReport 0x0041 (natLe arg0.toNat 4 ++ [0xFF, 0xFF]))
  else if src = 2 ∧ cls = 0 then (.failed 2, z.noVoice cls hd src 2)
  else if z.holdRefuses cls then (.failed 3, z.noVoice cls hd src 3)
  else
    match if z.mayTake cls then z.firstFree else none with
    | some v => (.taken, z.startOn h v st false)
    | none =>
      match z.victim cls with
      | some v => (.taken, z.steal h v st)
      | none =>
        let r := if z.freeCount = 0 then 0 else 1
        (.failed r, z.noVoice cls hd src r)

/-! Addressing (Table 7-3). -/

/-- Whether a handle value addresses voice v itself, and whether its pending successor (Table 7-3). -/
def Zone.addresses (z : Zone) (hd : BitVec 16) (v : Fin 96) : Bool × Bool :=
  let vo := z.voices[v]
  let n := hd.toNat
  if vo.ended && vo.life != .fading then (false, false)
  else if 1 ≤ n ∧ n ≤ 0xFEFF then
    ((vo.life == .wait || vo.life == .active || vo.life == .released) && vo.st.handle == hd,
     vo.life == .fading && (vo.succ.map (·.handle)) == some hd)
  else if 0xFF00 ≤ n ∧ n ≤ 0xFF5F ∧ n - 0xFF00 = v.val then
    (vo.life == .wait || vo.life == .active || vo.life == .released, vo.life == .fading && vo.succ.isSome)
  else (false, false)

/-- The voices a handle addresses. -/
def Zone.addressed (z : Zone) (hd : BitVec 16) : List (Fin 96) :=
  (List.finRange 96).filter (fun v => (z.addresses hd v).1 || (z.addresses hd v).2)

/-- A voice in WAIT whose start is abandoned: FREE from the next window (R143). -/
def Voice.abandon (vo : Voice) : Voice := { vo with ended := true, st := { vo.st with handle := 0 } }

/-- VREL on one addressed voice (R120, R143, Table 5-5): without effect where every envelope is in RELEASE or OFF. -/
def Zone.vrelOne (z : Zone) (v : Fin 96) : Zone :=
  let m := z.battAct
  z.modVoice v (fun vo =>
    match vo.life with
    | .wait => vo.abandon
    | .fading => { vo with succ := none }
    | .active =>
      if (List.range 4).all (fun e => let s := ((vo.sig.env[fin 4 e]).advance (envP m v.val e)).st; s == 0 || s == 6) then vo
      else
      let env := iter 4 (fun e (l : Vector EnvSt 4) => l.set (fin 4 e) ((l[fin 4 e]).release (envP m v.val e) vo.sig.sus[fin 4 e])) vo.sig.env
      let osc := vo.sig.osc.map (fun (o : OscSt) => { o with
        pos := { o.pos with left := true }, ga := { o.ga with y := { o.ga.y with left := true } },
        gb := { o.gb with y := { o.gb.y with left := true } } })
      { vo with life := .released, sig := { vo.sig with env := env, osc := osc, rel := true, sus := Vector.replicate 4 (0, 0) } }
    | _ => vo)

/-- VKILL on one addressed voice (R143, R146). -/
def Zone.vkillOne (z : Zone) (v : Fin 96) : Zone :=
  z.modVoice v (fun vo =>
    match vo.life with
    | .wait => vo.abandon
    | .fading => { vo with succ := none }
    | .active | .released =>
      { vo with life := .fading, succ := none, fadeK := 0, fadeN := z.stealN, st := { vo.st with handle := 0 } }
    | .free => vo)

/-- VCTL on one addressed voice (R129, R143): held for a voice in WAIT and for a pending successor. -/
def Zone.vctlOne (z : Zone) (w : Word) (v : Fin 96) : Zone :=
  match z.voices[v].life with
  | .wait => z.modVoice v (fun vo => { vo with st := { vo.st with held := vo.st.held ++ [w] } })
  | .fading => z.modVoice v (fun vo => { vo with succ := vo.succ.map (fun s => { s with held := s.held ++ [w] }) })
  | .active | .released => z.ctlWord v w
  | .free => z

/-- Who commands a voice, for the protection of P0 voices (R331): a host session with P0CTL acts on all; a host command
without it skips P0 voices, each counted; the zone DSP skips them. -/
inductive P0Right where
  | full | host | dsp
  deriving DecidableEq, Repr

/-- A VREL, VKILL or VCTL to a handle (R142): a command that addresses no voice has no effect and counts in BADCTL. P0
voices are skipped as R331 says. -/
def Zone.toHandle (z : Zone) (pr : P0Right) (hd : BitVec 16) (f : Zone → Fin 96 → Zone) : Zone :=
  match z.addressed hd with
  | [] => z.count Reg.VCTL_COUNT 7 0 1
  | vs =>
    let p0 := fun v => z.voices[v].heldBy == some 0
    let act := if pr = .full then vs else vs.filter (fun v => !p0 v)
    let n := if pr = .host then (vs.filter p0).length else 0
    act.foldl f { z with sched := { z.sched with p0prot := z.sched.p0prot + n } }

/-- The handle of ARG1 (Table 3-5). -/
def handleOf (arg1 : Word) : BitVec 16 := BitVec.extractLsb' 16 16 arg1

/-- VREL (R120, R142). -/
def Zone.vrel (z : Zone) (pr : P0Right) (arg1 : Word) : Zone := z.toHandle pr (handleOf arg1) Zone.vrelOne

/-- VKILL (R142, R143). -/
def Zone.vkill (z : Zone) (pr : P0Right) (arg1 : Word) : Zone := z.toHandle pr (handleOf arg1) Zone.vkillOne

/-- VCTL (R129, R130, R142): a word whose CODE is not defined is ignored and counted. -/
def Zone.vctl (z : Zone) (pr : P0Right) (arg0 arg1 : Word) : Zone :=
  if fld arg0 31 28 ≥ 9 then (z.count Reg.VCTL_COUNT 7 0 1).setFlt 0x1C00 6
  else z.toHandle pr (handleOf arg1) (fun z v => z.vctlOne arg0 v)

/-! Completions at the start of a bookkeeping window (R150). -/

/-- A start's preset is lost: its item has gone, or is fenced for the zone (R135). -/
def Zone.presetLost (z : Zone) (h : HostC) (st : Start) : Bool := decide (st.item ≠ 0) && (z.presetItem h st.item).isNone

/-- The pending successor of a voice whose fade has ended starts (R147); one whose preset is lost is abandoned (R135). -/
def Zone.succStart (z : Zone) (h : HostC) (v : Fin 96) : Zone :=
  match z.voices[v].succ with
  | some st => if z.presetLost h st then z.modVoice v Voice.toFree else z.startOn h v st true
  | none => z

/-- A pending successor whose preset is lost is abandoned during the fade (R135). -/
def Zone.succLost (z : Zone) (h : HostC) (v : Fin 96) : Zone :=
  match z.voices[v].succ with
  | some st => if z.presetLost h st then z.modVoice v (fun vo => { vo with succ := none }) else z
  | none => z

/-- A scheduler start that has waited for its preset is late (R62, R135). -/
def Zone.lateStart (z : Zone) (vo : Voice) : Zone :=
  if vo.st.cnt ∧ 0 < fdist z.time.frame vo.start then z.count Reg.SCHED_COUNT 7 0 1 else z

/-- A voice in WAIT whose preset has arrived is copied and becomes ACTIVE; one whose preset is lost fails (R135); one whose
block has been lost from the cache or dropped asks for it again (R165). -/
def Zone.waitCopy (z : Zone) (h : HostC) (v : Fin 96) : Zone :=
  let vo := z.voices[v]
  match z.presetItem h vo.st.item with
  | some it =>
    let z := z.presetCheck it
    if z.presetHere it then ((z.lateStart vo).presetCopy it v).voiceBegin h v vo.st
    else z.presetFetch v vo.st.cls it
  | none =>
    let z := z.modVoice v Voice.toFree
    let z := z.count Reg.VCTL_COUNT 15 8 1
    (z.setFlt 0x1C00 5).send clsReport 0x0041 (natLe vo.st.item.toNat 4 ++ natLe v.val 1 ++ [0xFF])

/-- The completion due for voice v (R150). -/
def Zone.completeVoice (z : Zone) (h : HostC) (v : Fin 96) : Zone :=
  let vo := z.voices[v]
  if vo.ended then
    (if vo.life = .fading ∧ vo.succ.isSome then z.succStart h v else z.modVoice v Voice.toFree)
  else if vo.life = .wait then z.waitCopy h v
  else if vo.life = .fading then z.succLost h v
  else z

/-- All completions of a window. -/
def Zone.completeAll (z : Zone) (h : HostC) : Zone := iter 96 (fun k z => z.completeVoice h (fin 96 k)) z

/-- Every voice released without fade (R16). -/
def Zone.dropVoices (z : Zone) : Zone :=
  { z with voices := z.voices.map Voice.toFree, cache := { z.cache with wait := z.cache.wait.filter (fun f => f.rank == 2) } }

/-! Ducking (R151–R153). -/

/-- The duck update of a tick boundary (R151–R153); the DUCK_CFG of this boundary is taken. -/
def Zone.duckUpdate (z : Zone) : Zone :=
  let c := z.reg Reg.VCTL_DUCK_CFG
  let dep := min 240 (fld c 23 16)
  let step := fun (t : Nat) => (roundHalfUp ((dep : Rat) / 4 / (10 * (if t = 0 then 1 else t : Nat)) * 65536)).toNat
  let trig := (List.range 6).any (fun k => bit c (24 + k) && decide (0 < z.heldCount k))
  let a := if trig then min (dep * 16384) (z.vox.duckA + step (fld c 15 8)) else z.vox.duckA - step (fld c 7 0)
  let t := if a = 0 then g36One else gainDb (-(a : Int))
  { z with vox := { z.vox with duckA := a, duckP := z.vox.duckT, duckT := t, duckOn := trig, duckCfg := c } }

/-! A VCTL swap under a sounding voice (R115, R136). -/

/-- A position folded into a new loop (R115). -/
def Src.fold (s : Src) (p : ReadPos) : ReadPos :=
  let lo : Int := s.ls * 65536
  let hi : Int := s.le * 65536
  if p.inside ∧ s.looping p ∧ (p.x < lo ∨ hi ≤ p.x) ∧ s.ls < s.le then { p with x := lo + (p.x - lo).emod (hi - lo) } else p

/-- Oscillator n of voice v after a swap (R115), and whether it is sound. -/
def Zone.oscSwap (z : Zone) (h : HostC) (v n : Nat) (old new : OscP) (o : OscSt) : OscSt × Bool × Zone :=
  if old.mode ≠ new.mode ∨ ((1 ≤ new.mode ∧ new.mode ≤ 3) ∧ old.item ≠ new.item) then z.oscStart h v n new
  else if (new.mode = 2 ∨ new.mode = 3) ∧ !o.dis then
    match h.src new with
    | some s =>
      if s.loopOk false then
        ({ o with pos := s.fold o.pos, ga := { o.ga with y := s.fold o.ga.y }, gb := { o.gb with y := s.fold o.gb.y } },
          true, z)
      else ({ o with dis := true, fin := true }, false, z)
    | none => ({ o with dis := true, fin := true }, false, z)
  else (o, true, z)

/-- The voice-block swap seen by voice v: old and new batten (R115, R136). -/
def Zone.voiceSwap (z : Zone) (h : HostC) (old new : Mem72) (v : Fin 96) : Zone :=
  let vo := z.voices[v]
  if vo.life = .free ∨ vo.life = .wait ∨ vo.ended then z
  else
    let z := iter 3 (fun n (z : Zone) =>
      let (o, ok, z) := z.oscSwap h v.val n (oscP old v.val n) (oscP new v.val n) z.voices[v].sig.osc[fin 3 n]
      let z := z.modVoice v (fun vo => { vo with
        perr := vo.perr || !ok, posc := if ok then vo.posc else n, sig := { vo.sig with osc := vo.sig.osc.set (fin 3 n) o } })
      if ok then z else z.paramFault (oscP new v.val n).item v.val n) z
    let z := iter 3 (fun l (z : Zone) =>
      let p := lfoP old v.val l
      let q := lfoP new v.val l
      if p.sync ≠ q.sync ∨ p.shape ≠ q.shape then
        let s := z.voices[v].sig.lfo[fin 3 l]
        let (st, z) := z.lfoStart q (some s)
        z.modVoice v (fun vo => { vo with sig := { vo.sig with lfo := vo.sig.lfo.set (fin 3 l) { st with k := s.k } } })
      else z) z
    let z := iter 4 (fun e (z : Zone) =>
      let s := z.voices[v].sig.env[fin 4 e]
      if s.st = 5 ∧ (envP old v.val e).sus ≠ (envP new v.val e).sus then
        z.modVoice v (fun vo => { vo with sig := { vo.sig with sus := vo.sig.sus.set (fin 4 e) (s.e, 96) } })
      else z) z
    let z := iter 16 (fun k (z : Zone) =>
      if (modP old v.val k).dst ≠ (modP new v.val k).dst ∧ !(modP new v.val k).ar ∧ (modP new v.val k).live then
        z.modVoice v (fun vo => { vo with sig := { vo.sig with mods := vo.sig.mods.set (fin 16 k) ⟨0, 0, true⟩ } })
      else z) z
    iter 2 (fun f (z : Zone) =>
      if !(fltP old v.val f).slope && (fltP new v.val f).slope then
        z.modVoice v (fun vo => { vo with sig := { vo.sig with
          flt := vmod vo.sig.flt (fin 2 f) (fun s => { s with y1 := 0, y2 := 0 }) } })
      else z) z

/-- What a swap of the VCTL page does: every voice under R115 and R136, and the EDIT bits cleared (R134). -/
def Zone.blocksSwapped (z : Zone) (h : HostC) (old new : Mem72) : Zone :=
  let z := iter 96 (fun k (z : Zone) => z.voiceSwap h old new (fin 96 k)) z
  { z with voices := z.voices.map (fun vo => { vo with edit := false }) }

end Sys2Proof.Machine
end

