-- ==== Sys2Proof/Machine/MeasOps.lean ====
section
/-! DEFINITION. The measurement chain: decimators, coefficient banks, synchronising reset, echo canceller and band energies
(R220–R238). -/

namespace Sys2Proof.Machine

/-- The modulators and decimators run (R220): TEST, RUN, HOLD and RECOVER, with the zone's clocks running. -/
def ZSt.chain (s : ZSt) : Bool := s == .test || s == .run || s == .hold || s == .recover
def Zone.chainOn (z : Zone) : Bool := z.ctl.st.chain && !z.pwr.halted && !z.pwr.asleep && !z.pwr.waking && !z.time.est

/-- The page of a decimator, and the AEC page. -/
def decPage (n : Fin 4) : Nat := 0x3800 + 0x400 * n.val
def aecPage : Nat := 0x4800

/-- A sticky arithmetic flag set on a page: reported when it goes from 0 to 1 (R77, R80). -/
def Zone.arithOnce (z : Zone) (page acc flag : Nat) : Zone :=
  if bit (z.reg (page + 0x00C)) flag then z else z.arith page acc flag

/-- An accumulator's new sticky flags reported (R77). -/
def Zone.accFlags (z : Zone) (page num : Nat) (a b : AccSt) : Zone :=
  let z := if b.aov && !a.aov then z.arith page num 0 else z
  if b.lost && !a.lost then z.arith page num 1 else z

/-! Decimators. -/

/-- Length, decimation and shift of stage k from MA12 and MA3 (Table 11-5). -/
def maN (m12 m3 : Word) (k : Nat) : Nat := (if k = 0 then fld m12 15 10 else if k = 1 then fld m12 31 26 else fld m3 15 10) + 1
def maM (m12 m3 : Word) (k : Nat) : Nat := (if k = 0 then fld m12 9 4 else if k = 1 then fld m12 25 20 else fld m3 9 4) + 1
def maSH (m12 m3 : Word) (k : Nat) : Nat := if k = 0 then fld m12 3 0 else if k = 1 then fld m12 19 16 else fld m3 3 0

/-- Q of ORATE: frames between output instants (R223, R229); DEC2 and DEC3 run at 96 kHz. -/
def decQ (n : Fin 4) (m3 : Word) : Nat :=
  if n.val ≥ 2 then 1 else if fld m3 19 18 = 1 then 2 else if fld m3 19 18 = 2 then 4 else 1

/-- TAPS in force. -/
def ZDec.taps (d : ZDec) : Nat := fld d.fir 5 0 + 1

/-- A configuration is valid (R223). -/
def decValid (n : Fin 4) (m12 m3 : Word) : Bool :=
  decide (maM m12 m3 0 ≤ maN m12 m3 0 ∧ maM m12 m3 1 ≤ maN m12 m3 1 ∧ maM m12 m3 2 ≤ maN m12 m3 2 ∧
    maM m12 m3 0 * maM m12 m3 1 * maM m12 m3 2 = 64 * decQ n m3)

/-- The settling length S (R229). -/
def ZDec.settleLen (d : ZDec) : Nat :=
  let m := maM d.ma12 d.ma3
  let n := maN d.ma12 d.ma3
  let r : Rat := (n 0 : Rat) / (m 0 * m 1 * m 2 : Nat) + (n 1 : Rat) / (m 1 * m 2 : Nat) + (n 2 : Rat) / (m 2 : Nat)
  r.ceil.toNat + d.taps

/-- A cleared stage. -/
def MaSt.zero : MaSt := { line := [], s := 0, cnt := 0 }

/-- A synchronising reset of a decimator (R227, R228). -/
def ZDec.reset (d : ZDec) : ZDec :=
  let d := { d with ma := Vector.replicate 3 MaSt.zero, hist := [], newX := false, run2 := 0, runOk := 0, fresh := true
                    xf := 0, xk := 0, srst := false, await := false, out := 0, valid := false, outOvl := false }
  { d with srem := d.settleLen }

/-- One input of a stage: whether it puts out, the value, whether it saturated (R222). -/
def MaSt.step (m : MaSt) (n dec sh : Nat) (u : Int) : MaSt × Option (Int × Bool) :=
  let s := m.s + u - (if m.line.length ≥ n then m.line.getD (n - 1) 0 else 0)
  let line := (u :: m.line).take n
  if m.cnt + 1 < dec then ({ line := line, s := s, cnt := m.cnt + 1 }, none)
  else
    let t := roundShift s sh
    ({ line := line, s := s, cnt := 0 }, some (satS 40 t, satS 40 t != t))

/-- A value through stages k to 2: the FIR input that comes of it and whether anything saturated (R222). -/
def ZDec.stages (d : ZDec) (k : Nat) (u : Int) : Nat → ZDec × Option Int × Bool
  | 0 =>
    let x := satS 36 (u * 2 ^ 14)
    (d, some x, x != u * 2 ^ 14)
  | fuel + 1 =>
    let i := fin 3 k
    let (m, o) := d.ma[i].step (maN d.ma12 d.ma3 k) (maM d.ma12 d.ma3 k) (maSH d.ma12 d.ma3 k) u
    let d := { d with ma := d.ma.set i m }
    match o with
    | none => (d, none, false)
    | some (y, sat) =>
      let (d, x, s2) := d.stages (k + 1) y fuel
      (d, x, sat || s2)

/-- One modulator sample (R221, R222): code −2 to +2. The second and third parts tell a rise of OVL and a saturation. -/
def ZDec.sample (d : ZDec) (c : Int) : ZDec × Bool × Bool :=
  let two := c.natAbs = 2
  let run2 := if two then min 32 (d.run2 + 1) else 0
  let runOk := if two then 0 else min 32 (d.runOk + 1)
  let ovl := if run2 ≥ 32 then true else if runOk ≥ 32 then false else d.ovl
  let rise := ovl && !d.ovl
  let (d, x, sat) := { d with run2 := run2, runOk := runOk, ovl := ovl }.stages 0 (c * 2 ^ 20) 3
  let d := match x with
    | some x => { d with hist := (x :: d.hist).take 64, newX := true, outOvl := ovl }
    | none => d
  (d, rise, sat)

/-- One modulator sample into decimator n. -/
def Zone.decSample (z : Zone) (n : Fin 4) (c : Int) : Zone :=
  let (d, rise, sat) := z.dec[n].sample c
  let z := { z with dec := z.dec.set n d }
  let z := if rise then (z.count (Reg.DEC_COUNT n.val) 31 16 1).setFlt (decPage n) 3 else z
  if sat then z.arithOnce (decPage n) 0 2 else z

/-- A coefficient bank at device reset and at a cold start: h_0 = 1.25 (R224). -/
def decBankReset : Vector Int 64 := (Vector.replicate 64 (0 : Int)).set 0 0x140000000

/-- The ladder test runs (R12, R274). -/
def Zone.ladderOn (z : Zone) : Bool :=
  z.ctl.st == .test && bit (z.reg Reg.ZCTL_CFG) 2 && !z.ctl.testsOk && z.out.testTk ≥ 24

/-- DEC2 with the reset configuration and coefficients (R274). -/
def ZDec.reference (d : ZDec) : ZDec :=
  { d with
    ma12 := zoneRst (Reg.DEC_MA12 2), ma3 := zoneRst (Reg.DEC_MA3 2), fir := zoneRst (Reg.DEC_FIR 2), cfgErr := false
    bank0 := decBankReset, bank1 := decBankReset, xf := 0 }

/-- DEC2 with the configuration and coefficients of another. -/
def ZDec.settings (d o : ZDec) : ZDec :=
  { d with ma12 := o.ma12, ma3 := o.ma3, fir := o.fir, cfgErr := o.cfgErr, bank0 := o.bank0, bank1 := o.bank1, xf := o.xf, xk := o.xk }

/-- Work of the decimators, DEC2 in the hands of the ladder test while it runs (R274). -/
def Zone.underTest (z : Zone) (f : Zone → Zone) : Zone :=
  if z.ladderOn then
    let o := z.dec[(2 : Fin 4)]
    let z := f { z with dec := vmod z.dec 2 ZDec.reference }
    { z with dec := vmod z.dec 2 (fun d => d.settings o) }
  else f z

/-- The modulator samples of the frame that ends go into the decimators, before anything of the next frame: a reset at a boundary
loses those of the frame before it, none of the frame that it begins (R228, R229). -/
def Zone.decFeed (z : Zone) : Zone :=
  let z := z.underTest (fun z => (List.finRange 4).foldl (fun (z : Zone) n =>
    if z.chainOn then z.dec[n].codes.foldl (fun (z : Zone) c => z.decSample n c) z else z) z)
  { z with dec := z.dec.map (fun (d : ZDec) => { d with codes := [], fresh := false }) }

/-- The 64 modulator samples of a frame of decimator n. -/
def Zone.decIn (z : Zone) (n : Fin 4) (codes : List Int) : Zone :=
  { z with dec := vmod z.dec n (fun d => { d with codes := codes }) }

/-- The codes of a modulator's samples, −2 to +2. -/
def modCodes (v : Vector (Fin 5) 64) : List Int := v.toList.map (fun c => (c.val : Int) - 2)

/-- The SENSV modulator takes its input from the loopback switch: LOOPBK in force, in TEST or RECOVER, or the ladder test (R221,
R274). -/
def Zone.loopback (z : Zone) : Bool :=
  z.ladderOn || (bit z.dec[(2 : Fin 4)].ma3 23 && (z.ctl.st == .test || z.ctl.st == .recover))

/-- The codes of the SENSV modulator in a frame: those that the pins give, or, from the loopback switch, codes that no rule gives
(R221; assumption 16). -/
def Zone.sensCodes (z : Zone) (v : Vector (Fin 5) 64) : List Int × Zone :=
  if z.loopback then
    iter 64 (fun _ (a : List Int × Zone) =>
      let (w, z) := a.2.freeWord 21
      (((w.toNat % 5 : Nat) - 2 : Int) :: a.1, z)) ([], z)
  else (modCodes v, z)

/-- The FIR sum over the history with one bank (R224). -/
def ZDec.firSum (d : ZDec) (bank : Bool) (a : AccSt) : AccSt :=
  let h := if bank then d.bank1 else d.bank0
  iter (min d.taps d.hist.length) (fun i a => a.add (mulGS (d.hist.getD i 0) h[fin 64 i])) (a.load 0)

/-- The output sample of an instant (R224, R226, R229); the accumulator of its ARITH records is number 0 (assumption 80). -/
def Zone.decOut (z : Zone) (n : Fin 4) : Zone :=
  let d := z.dec[n]
  let d := if d.xf ≠ 0 ∧ d.xk ≥ d.xf then { d with xf := 0, xk := 0 } else d
  let z := { z with dec := z.dec.set n d }
  let z :=
    if !d.newX then z
    else if d.cfgErr ∨ d.await then { z with dec := z.dec.set n { d with newX := false, out := 0, valid := false } }
    else
      let a1 := d.firSum d.bank d.acc
      let (a, v) :=
        if d.xf = 0 then (a1, a1.store tgtS36)
        else
          let a0 := d.firSum (!d.bank) a1
          let r := roundHalfUp (((d.xk + 1 : Nat) * 2 ^ 32 : Nat) / (d.xf : Rat))
          let y := (AccSt.zero.load (mulAG a0.read (2 ^ 32 - r))).add (mulAG a1.read r)
          ({ a0 with aov := a0.aov || y.aov, lost := a0.lost || y.lost }, y.store tgtS36)
      let z := z.accFlags (decPage n) 0 d.acc a
      let z := if v.2 then z.arithOnce (decPage n) 0 2 else z
      let ok := d.srem = 0
      { z with dec := z.dec.set n { d with
        acc := a, newX := false, out := if ok then v.1 else 0, valid := ok, srem := d.srem - 1 } }
  { z with dec := vmod z.dec n (fun d => if d.xf = 0 then d else { d with xk := d.xk + 1 }) }

/-- A band's filter states cleared. -/
def BandSt.clear (b : BandSt) : BandSt := { b with a := ⟨0, 0⟩, b := ⟨0, 0⟩ }

/-- A synchronising reset of decimator n, counted once at a boundary, with its canceller channel's front decimator and the band filters of its source
(R228, R236, R237). -/
def Zone.decReset (z : Zone) (n : Fin 4) : Zone :=
  let z := if z.dec[n].fresh then z else z.count (Reg.DEC_COUNT n.val) 15 8 1
  let z := { z with dec := vmod z.dec n ZDec.reset }
  if n.val < 2 then
    { z with aec := { z.aec with
      ch := vmod z.aec.ch (fin 2 n.val) (fun c => { c with front := [], frontO := [], d := 0, dOk := false })
      bands := vmod (vmod z.aec.bands (fin 5 n.val) (fun v => v.map BandSt.clear)) (fin 5 (n.val + 2)) (fun v => v.map BandSt.clear) } }
  else z

/-- A pending bank request starts where no cross-fade runs (R226, R227). -/
def ZDec.reqStart (d : ZDec) : ZDec :=
  match d.req with
  | some (b, xf) =>
    if d.xf ≠ 0 then d
    else if b = d.bank then { d with req := none }
    else { d with req := none, bank := b, xf := xf, xk := 0 }
  | none => d

/-- Cross-fades that a load's tick boundary starts in a frame whose output sample has been formed: its frame counts (R226). -/
def Zone.fadesBegun (z : Zone) : Zone :=
  { z with dec := z.dec.map (fun (d : ZDec) => { d with xk := if d.xf ≠ 0 ∧ d.xk = 0 then 1 else d.xk }) }

/-- The synchronising reset of the load edge, at the boundary of the present frame, for decimator n (R37, R228). Where the boundary
has been a tick boundary before the load, what the tick has done to the decimator stands: a cross-fade that started at it
goes on (R227), and the two resets act as one. -/
def Zone.decLoad (z : Zone) (n : Fin 4) : Zone :=
  let d := z.dec[n]
  let z := z.decReset n
  { z with dec := vmod z.dec n (fun e =>
      (if d.xk ≤ 1 then { e with xf := d.xf, xk := d.xk } else e).reqStart) }

/-- The synchronising reset of all four decimators at a load edge (R37). -/
def Zone.decLoadAll (z : Zone) : Zone := ((List.finRange 4).foldl Zone.decLoad z).fadesBegun

/-- The modulators start (R220): outputs 0 with VALID low until the reset at the next tick boundary. -/
def Zone.chainStart (z : Zone) : Zone :=
  { z with dec := z.dec.map (fun d : ZDec => { d with await := true, out := 0, valid := false, newX := false, codes := [] }) }

/-- What a tick boundary does to decimator n (R223, R226–R228): the staged configuration, resets due, a pending bank
request. -/
def Zone.decTick (z : Zone) (n : Fin 4) : Zone :=
  let d := z.dec[n]
  let m12 := z.reg (Reg.DEC_MA12 n.val)
  let m3 := z.reg (Reg.DEC_MA3 n.val)
  let good := decValid n m12 m3
  let d := if d.xf ≠ 0 ∧ d.xk ≥ d.xf then { d with xf := 0, xk := 0 } else d
  let d' :=
    if d.staged then
      if good then { d with ma12 := m12, ma3 := m3, fir := z.reg (Reg.DEC_FIR n.val), staged := false, cfgErr := false }
      else { d with staged := false, cfgErr := true, out := 0, valid := false }
    else d
  let z := { z with dec := z.dec.set n d' }
  let z := if d.staged && !good then z.setFlt (decPage n) 4 else z
  let z := if d.srst || d.await || (d.staged && good) then z.decReset n else z
  { z with dec := vmod z.dec n ZDec.reqStart }

/-- A write of DEC.FREQ (R226, R227). -/
def Zone.decFreq (z : Zone) (n : Fin 4) (v : Word) : Zone :=
  { z with dec := vmod z.dec n (fun d => { d with req := some (bit v 16, clampN 16 1024 (fld v 10 0)) }) }

/-- The end of a cross-fade whose frames have run (R226). -/
def Zone.crossEnd (z : Zone) (n : Fin 4) : Zone :=
  { z with dec := vmod z.dec n (fun d => if d.xf ≠ 0 ∧ d.xk ≥ d.xf then { d with xf := 0, xk := 0 } else d) }

/-! Coefficient window (R225). -/

/-- A party's coefficient window. -/
def ZDec.win (d : ZDec) (p : Party) : DecWin := match p with | .host => d.winH | .prog => d.winP
def ZDec.setWin (d : ZDec) (p : Party) (w : DecWin) : ZDec :=
  match p with | .host => { d with winH := w } | .prog => { d with winP := w }

/-- The coefficient at BANK and INDEX of an address. -/
def ZDec.coef (d : ZDec) (a : Word) : Int := (if bit a 6 then d.bank1 else d.bank0)[fin 64 (fld a 5 0)]

/-- The address after an access to CDATA_LO. -/
def coefNext (a : Word) : Word := if bit a 7 then setFld a 5 0 (fld a 5 0 + 1) else a

/-- A read of CDATA_HI (R225, R82). -/
def Zone.cdataHiRead (z : Zone) (n : Fin 4) (p : Party) : Word × Zone :=
  let d := z.dec[n]
  let w := d.win p
  let c := d.coef w.addr
  (BitVec.ofInt 32 (((BitVec.ofInt 36 c).toNat / 2 ^ 32 * 2 ^ 16 : Nat)), { z with dec := z.dec.set n (d.setWin p { w with rd := c }) })

/-- A read of CDATA_LO (R225). -/
def Zone.cdataLoRead (z : Zone) (n : Fin 4) (p : Party) : Word × Zone :=
  let d := z.dec[n]
  let w := d.win p
  (wordI w.rd, { z with dec := z.dec.set n (d.setWin p { w with addr := coefNext w.addr }) })

/-- A write of CDATA_LO (R225): true if it is rejected with BANK_BUSY. -/
def Zone.cdataLoWrite (z : Zone) (n : Fin 4) (p : Party) (v : Word) : Bool × Zone :=
  let d := z.dec[n]
  let w := d.win p
  if d.xf ≠ 0 ∨ bit w.addr 6 = d.bank then
    (true, (z.count (Reg.DEC_COUNT n.val) 7 0 1).setFlt (decPage n) 5)
  else
    let c := wrapS 36 (fld w.hi 19 16 * 2 ^ 32 + v.toNat)
    let i := fin 64 (fld w.addr 5 0)
    let d := if bit w.addr 6 then { d with bank1 := d.bank1.set i c } else { d with bank0 := d.bank0.set i c }
    (false, { z with dec := z.dec.set n (d.setWin p { w with addr := coefNext w.addr }) })

/-! Echo canceller (R231–R236). -/

/-- A symmetric front filter over a history, newest first (Table 11-2, assumption 18): S36. -/
def frontFir (which taps : Nat) (h : List Int) : Int :=
  ((iter (min taps h.length) (fun i a => a.add (mulSS (h.getD i 0) (Config.coef which (min i (taps - 1 - i))))) AccSt.zero).store tgtS36).1

/-- 10^(−d/10) for a level of d dB below full scale. -/
def powDb (d : Nat) : Rat := let g := gainReal (-(d * 65536 : Nat)); g * g

/-- XMIN as it acts. -/
def Zone.aecXmin (z : Zone) : Nat := clampN 30 90 (fld (z.reg Reg.AEC_CFG) 15 8)

/-- Front samples a mic sends to its channel each frame (R231). -/
def Zone.aecFront (z : Zone) (c : Fin 2) : Zone :=
  let n := fin 4 c.val
  let q := decQ n z.dec[n].ma3
  if q ≠ 4 ∧ z.time.frame.toNat % q = 0 then
    { z with aec := { z.aec with ch := vmod z.aec.ch c (fun s => { s with
      front := (z.dec[n].out :: s.front).take 96, frontO := (z.dec[n].outOvl :: s.frontO).take 96 }) } }
  else z

/-- The mic sample d of an instant with its VALID (Table 11-2), and whether a sample of which it is formed was formed under OVL
(R221, R233). -/
def Zone.aecMic (z : Zone) (c : Fin 2) : AecCh :=
  let n := fin 4 c.val
  let s := z.aec.ch[c]
  let dec := z.dec[n]
  let q := decQ n dec.ma3
  let d := if q = 4 then dec.out else if q = 2 then frontFir 1 48 s.front else frontFir 0 96 s.front
  let settle := if q = 4 then 0 else if dec.valid then s.settle - 1 else 24
  let ok := dec.valid && (q = 4 || s.settle = 0)
  let ovl := if q = 4 then dec.outOvl else (s.frontO.take (if q = 2 then 48 else 96)).any (fun b => b)
  { s with d := if ok then d else 0, dOk := ok, dOvl := ovl, settle := settle }

/-- The reference samples x[n − D − i] for i = 0–2047. -/
def ZAec.window (a : ZAec) : List Int := ((a.x.drop a.dly) ++ List.replicate 2048 0).take 2048

/-- Σ of products of two lists as a convolution sum in A72 (R232). -/
def dotAcc (sgn : Int) : List Int → List Int → AccSt → AccSt
  | w :: ws, x :: xs, a => dotAcc sgn ws xs (a.add (sgn * mulSS w x))
  | _, _, a => a

/-- The reciprocal with its relative error of at most 2^−20 (R233, assumption 16). -/
def recipErr (w : W72) : Rat := 1 + (w.toInt : Rat) / 2 ^ 91

/-- The power P[n] of the reference over the window, as a fraction of full scale (R233). -/
def refPower (xs : List Int) : Rat := ((xs.foldl (fun (m x : Int) => m + x * x) (0 : Int) : Int) : Rat) / 2 ^ 70

/-- δ (R233). -/
def Zone.aecDelta (z : Zone) : Rat := 2048 * powDb z.aecXmin

/-- Instants of double talk left after one, with its mic sample (none where it is not valid or the channel is disabled) and the
largest reference sample of the window (R234). -/
def AecCh.talk (s : AecCh) (ad : Word) (d : Option Int) (mx : Nat) : Nat :=
  match d with
  | some d => if d.natAbs * 16 ≥ fld ad 15 12 * mx then Nat.max 1 (fld ad 7 0) * 24 else s.dt - 1
  | none => s.dt - 1

/-- The window's sums with a sample d and its residual e (R235). -/
def AecCh.energies (s : AecCh) (d e : Int) : AecCh := { s with ed := s.ed + d * d, ee := s.ee + e * e, wn := s.wn + 1 }

/-- One coefficient after an update with step g (R233): its code and whether it saturated. -/
def adaptStep (g : Rat) (w x : Int) : Int × Bool :=
  storeVal tgtS36 (sToA w + roundHalfUp (g * ((x : Int) : Rat) * ((2 ^ 28 : Int) : Rat)))

/-- The adaptation of a channel (R233). -/
def Zone.aecAdapt (z : Zone) (s : AecCh) (xs : List Int) (num : Nat) : AecCh × Zone :=
  let (err, z) := z.freeWord 4
  let g : Rat := (fld (z.reg Reg.AEC_ADAPT) 31 16 : Rat) / 65536 * ((s.e : Rat) / 2 ^ 35) / (refPower xs + z.aecDelta) * recipErr err
  let u := List.zipWith (adaptStep g) s.w xs
  let z := if u.any (fun p => p.2) then z.arithOnce aecPage num 2 else z
  ({ s with w := u.map (fun p => p.1), adapt := true, wAdapt := true }, z)

/-- One instant of a channel after its mic sample: filtering, double talk, adaptation, window sums (R232–R235). With μ below 1 the
adaptation is frozen (R263). -/
def Zone.aecChannel (z : Zone) (c : Fin 2) : Zone :=
  let cfg := z.reg Reg.AEC_CFG
  let s := z.aecMic c
  let s := if s.clr then { s with w := List.replicate 2048 0, ckpt := none, copy := none, clr := false } else s
  let en := bit cfg c.val
  let xs := z.aec.window
  let mx := xs.foldl (fun m x => max m x.natAbs) 0
  let low := decide (refPower xs < z.aecDelta)
  let dt := s.talk (z.reg Reg.AEC_ADAPT) (if en && s.dOk then some s.d else none) mx
  let s := { s with dt := dt, wDt := s.wDt || dt != 0, floor := low, adapt := false, eOk := s.dOk }
  let put := fun (s : AecCh) (z : Zone) => { z with aec := { z.aec with ch := z.aec.ch.set c s } }
  if !s.dOk then put { s with e := 0 } z
  else if !en then put ({ s with e := s.d }.energies s.d s.d) z
  else
    let (num, z) := z.freeWord 3
    let n := num.toNat % 256
    let a0 := z.aec.accs[c]
    let a := dotAcc (-1) s.w xs (a0.load (sToA s.d))
    let v := a.store tgtS36
    let z := { z with aec := { z.aec with accs := z.aec.accs.set c a } }
    let z := z.accFlags aecPage n a0 a
    let z : Zone := if v.2 then z.arithOnce aecPage n 2 else z
    let s := { s with e := v.1 }.energies s.d v.1
    if !bit cfg (2 + c.val) && !s.dOvl && dt == 0 && !low && decide (z.out.mu ≥ 768) then
      let (s, z) := z.aecAdapt s xs n
      put s z
    else put s z

/-- Restores a channel's coefficients from its checkpoint, or zeroes them (R235). -/
def AecCh.restore (s : AecCh) : AecCh := { s with w := s.ckpt.getD (List.replicate 2048 0), copy := none }

/-- A checkpoint copy completes (R235). -/
def AecCh.ckDone (s : AecCh) : AecCh := match s.copy with | some w => { s with ckpt := some w, copy := none } | none => s

/-- The end of a window of a channel (R235). -/
def Zone.erleWindow (z : Zone) (c : Fin 2) : Zone :=
  let s := z.aec.ch[c].ckDone
  let cfg := z.reg Reg.AEC_DIV
  let erle := if s.ed > 0 then
      (if s.ee = 0 then 32767 else clampI (-32767) 32767 (levelDb ((s.ed : Rat) / s.ee)))
    else s.erle
  let margin := gainReal (fld cfg 7 0 * 32768 : Nat)
  let dv := decide ((s.ee : Rat) > s.ed * margin ∧ (s.ed : Rat) / 2 ^ 70 ≥ s.wn * powDb z.aecXmin)
  let ck := min 60 (fld cfg 15 8)
  let s := { s with erle := erle }
  let s :=
    if dv then { s.restore with div := true }
    else if s.wAdapt && !s.wDt && decide (erle ≥ ck * 256) then { s with copy := some s.w } else s
  let s := { s with ed := 0, ee := 0, wn := 0, wAdapt := false, wDt := false, wEnd := false, lastDiv := dv }
  let z := { z with aec := { z.aec with ch := z.aec.ch.set c s } }
  let lo := if c.val = 0 then 0 else 16
  let z := z.setReg Reg.AEC_ERLE (setFld (z.reg Reg.AEC_ERLE) (lo + 15) lo (BitVec.ofInt 16 erle).toNat)
  if dv then
    let z := (z.setFlt aecPage (3 + c.val)).count Reg.AEC_COUNT (31 - 8 * c.val) (24 - 8 * c.val) 1
    z.send clsReport 0x0048 (natLe c.val 1 ++ intLe erle 2)
  else z

/-- Uncorrectable errors of the canceller memory (R236): which channel a word belongs to is not stated (assumption 16). -/
def Zone.aecEcc (z : Zone) : Zone :=
  (z.mem.marks.filter (fun p => p.1 / 2 ^ 20 == memAec)).foldl (fun (z : Zone) p =>
    let (bad, z) := z.eccRead memAec (p.1 % 2 ^ 20)
    if bad then
      let (b, z) := z.freeCond 5
      let c : Fin 2 := if b then 1 else 0
      let z := { z with aec := { z.aec with ch := vmod z.aec.ch c (fun s => { s with
        w := List.replicate 2048 0, ckpt := none, copy := none }) } }
      ((z.count Reg.AEC_COUNT 15 8 1).setFlt aecPage 5).eccWrite memAec (p.1 % 2 ^ 20)
    else z) z

/-! Band energies (R237, R238). -/

/-- The biquads of the seven bands (R237): b0 = −b2, a1 and a2 as G36 codes, b1 being 0. They are the two pole pairs of the
fourth-order Butterworth band-pass with −3 dB at f_n / √2 and f_n × √2, brought to 24 kHz by the bilinear transform with both
edges prewarped (assumption 18). -/
def bandCoef (band part : Nat) : Int × Int × Int :=
  match band, part with
  | 0, 0 => (49397019, -8534765118, 4242543440)
  | 0, _ => (49183440, -8495440353, 4208052710)
  | 1, 0 => (98239138, -8474782133, 4190729223)
  | 1, _ => (97343106, -8387889452, 4122926739)
  | 2, 0 => (194472086, -8340641337, 4088784460)
  | 2, _ => (190565688, -8135472330, 3958007337)
  | 3, 0 => (382555064, -8017637488, 3890683582)
  | 3, _ => (364497922, -7494290430, 3649212436)
  | 4, 0 => (752087658, -7170364814, 3510870112)
  | 4, _ => (661684422, -5767762198, 3113287434)
  | 5, 0 => (1565227362, -4842612832, 2769105221)
  | 5, _ => (1044673240, -1293277580, 2358584997)
  | 6, 0 => (13601334831, -92556685, 952854570)
  | _, _ => (362202226, 7512258366, 3359504833)

/-- One biquad step, transposed form on A72 states (R237, assumption 18). -/
def bqStep (band part : Nat) (s : BqSt) (x : Int) : Int × BqSt :=
  let (b, a1, a2) := bandCoef band part
  let y := satS 72 (mulAG x b + s.z1)
  (y, ⟨satS 72 (s.z2 - mulAG y a1), satS 72 (-(mulAG x b) - mulAG y a2)⟩)

/-- One sample of a signal through a band. -/
def BandSt.step (b : BandSt) (band : Nat) (x : Int) (ok : Bool) : BandSt :=
  if !ok then b
  else
    let (y1, sa) := bqStep band 0 b.a (sToA x)
    let (y, sb) := bqStep band 1 b.b y1
    { a := sa, b := sb, sq := b.sq + y * y, n := b.n + 1 }

/-- One sample into all seven bands of a signal. -/
def Zone.bandIn (z : Zone) (i : Fin 5) (x : Int) (ok : Bool) : Zone :=
  { z with aec := { z.aec with bands := vmod z.aec.bands i (fun v => Vector.ofFn (fun k : Fin 7 => v[k].step k.val x ok)) } }

/-- The level of a band over the tick, Q8.8 dBFS, none with fewer than 12 valid samples (R237). -/
def BandSt.level (b : BandSt) : Option Int :=
  if b.n < 12 then none
  else if b.sq = 0 then some (-30720)
  else some (clampI (-30720) 32767 (levelDb (2 * (b.sq : Rat) / (b.n : Nat) / 2 ^ 126)))

/-- A band register's new word: the level, or the old one with INV. -/
def bandWord (old : Word) (l : Option Int) : Word :=
  match l with
  | some v => BitVec.ofNat 32 (BitVec.ofInt 16 v).toNat
  | none => setBit old 31 true

/-- Whether the second of two levels is the larger, or the only one there is. -/
def louderB (a b : Option Int) : Bool :=
  match a, b with
  | some x, some y => decide (y > x)
  | none, some _ => true
  | _, none => false

/-- The band levels of a tick, in FENCED too (R237, R238; assumption 76): AMB, MIC, REF and BTICK change together. With ASEL 2 each band of AMB and of MIC is of the
microphone with the larger residual. -/
def Zone.bandTick (z : Zone) : Zone :=
  let sel := fld (z.reg Reg.AEC_CFG) 31 30
  let useB := fun (k : Fin 7) => sel = 1 || (sel = 2 && louderB (z.aec.bands[(0 : Fin 5)])[k].level (z.aec.bands[(1 : Fin 5)])[k].level)
  let pick := fun (a b : Fin 5) (k : Fin 7) => if useB k then (z.aec.bands[b])[k].level else (z.aec.bands[a])[k].level
  let z' := (List.finRange 7).foldl (fun (y : Zone) k =>
    let y := y.setReg (Reg.AEC_AMB k.val) (bandWord (z.reg (Reg.AEC_AMB k.val)) (pick 0 1 k))
    let y := y.setReg (Reg.AEC_MIC k.val) (bandWord (z.reg (Reg.AEC_MIC k.val)) (pick 2 3 k))
    y.setReg (Reg.AEC_REF k.val) (bandWord (z.reg (Reg.AEC_REF k.val)) ((z.aec.bands[(4 : Fin 5)])[k].level))) z
  let z' := z'.setReg Reg.AEC_BTICK (z.tick - 1)
  let chB := (List.finRange 7).foldl (fun (m : Nat) k => m + b2n (useB k) * 2 ^ k.val) (0 : Nat)
  { z' with aec := { z'.aec with
    sup := BitVec.ofNat 7 chB
    dly := fld (z.reg Reg.AEC_CFG) 25 16
    bands := z'.aec.bands.map (fun (v : Vector BandSt 7) => v.map (fun (b : BandSt) => { b with sq := 0, n := 0 })) } }

/-- The BANDS record of every BANDP-th tick boundary (Table 15-5). -/
def Zone.bandsMsg (z : Zone) : Zone :=
  let p := fld (z.reg Reg.MSG_CFG) 31 16
  if p ≠ 0 ∧ z.tick.toNat % p = 0 then
    z.send clsMeasure 0x0060 (natLe (z.reg Reg.AEC_BTICK).toNat 4 ++
      (List.range 7).flatMap (fun n => natLe (z.reg (Reg.AEC_AMB n)).toNat 2))
  else z

/-- The 21 band words in the order AMB, REF, MIC. -/
def Zone.bandWords (z : Zone) : List Word :=
  (List.range 7).map (fun n => z.reg (Reg.AEC_AMB n)) ++ (List.range 7).map (fun n => z.reg (Reg.AEC_REF n)) ++
    (List.range 7).map (fun n => z.reg (Reg.AEC_MIC n))

/-- A read of BTICK captures (R238). -/
def Zone.bandCapture (z : Zone) (p : Party) : Zone :=
  match p with
  | .host => { z with aec := { z.aec with capH := z.bandWords } }
  | .prog => { z with aec := { z.aec with capP := z.bandWords } }

/-- A 24 kHz instant (R231–R237), once for a frame whose number is a multiple of 4. -/
def Zone.aecInstant (z : Zone) : Zone :=
  if !z.chainOn ∨ z.time.frame.toNat % 4 ≠ 0 ∨ z.aec.last = some z.time.frame then z
  else
    let z := z.aecEcc
    let x := frontFir 0 96 z.aec.refIn
    let z := { z with aec := { z.aec with x := (x :: z.aec.x).take 3071, last := some z.time.frame } }
    let z := (List.finRange 2).foldl Zone.aecChannel z
    let a := z.aec.ch[(0 : Fin 2)]
    let b := z.aec.ch[(1 : Fin 2)]
    let z := (((z.bandIn 0 a.e a.eOk).bandIn 1 b.e b.eOk).bandIn 2 a.d a.dOk).bandIn 3 b.d b.dOk
    let z := z.bandIn 4 x true
    if z.aec.win + 1 < 1536 then { z with aec := { z.aec with win := z.aec.win + 1 } }
    else { z with aec := { z.aec with win := 0, ch := z.aec.ch.map (fun (c : AecCh) => { c with wEnd := true }) } }

/-- The end of a channel's window whose 1536 instants have run (R235). -/
def Zone.windowEnd (z : Zone) (c : Fin 2) : Zone := if z.aec.ch[c].wEnd then z.erleWindow c else z

/-- What a frame's start does in the measurement chain: output samples and the mic histories (R224, R229, R231). -/
def Zone.measStart (z : Zone) : Zone :=
  if z.chainOn then
    let z := (List.finRange 2).foldl Zone.windowEnd z
    let z := z.underTest (fun z => (List.finRange 4).foldl Zone.decOut z)
    ((List.finRange 2).foldl Zone.aecFront z).aecInstant
  else z

/-- What the end of a frame adds: its modulator codes and the Ridge output, or the test generator's
signal that takes its place (R220, R231, R254). -/
def Zone.measEnd (z : Zone) (inp : FrameIn) : Zone :=
  let c := z.reg Reg.GEN_TCFG
  let y := if z.ctl.st = .recover ∧ bit c 29 ∧ fld c 31 30 ≠ 0 then z.out.tgen else z.lim.y
  let z := { z with aec := { z.aec with refIn := (y :: z.aec.refIn).take 96 } }
  if z.chainOn then
    let (v, z) := z.sensCodes inp.senV
    (((z.decIn 0 (modCodes inp.micA)).decIn 1 (modCodes inp.micB)).decIn 2 v).decIn 3 (modCodes inp.senI)
  else z

end Sys2Proof.Machine
end

