-- ==== Sys2Proof/Machine/OutOps.lean ====
section
/-! DEFINITION. The zone's outputs: span, mute factor, amplifier enable, clear pin, sine and test generators, side-tone, code
former, deglitcher and TDM port (R191–R193, R257–R281). -/

namespace Sys2Proof.Machine

/-- A bipolar span (Table 13-1). -/
def Zone.bipolar (z : Zone) : Bool := z.out.span < 4

/-- RUN, HOLD or RECOVER. -/
def ZSt.sounds (s : ZSt) : Bool := s == .run || s == .hold || s == .recover

/-- Updates the output part of a zone. -/
def Zone.modOut (z : Zone) (f : ZOut → ZOut) : Zone := { z with out := f z.out }

/-! Amplifier enable (R275). -/

/-- Sleep entry holds ZnAMPEN low and the common mode, from T + 2 on (Table 19-7). -/
def Zone.sleepLow (z : Zone) : Bool := match z.pwr.slp with | some n => decide (2 ≤ n) | none => false

/-- The level Table 13-4 gives ZnAMPEN; sleep comes ahead of every row (Table 19-7). -/
def Zone.ampLevel (z : Zone) : Bool :=
  if z.ctl.st = .off ∨ z.pwr.asleep ∨ z.sleepLow then false
  else if z.ctl.st = .fenced then
    if bit (z.reg Reg.FENCE_CAUSE) 7 then false
    else match fld (z.reg Reg.FENCE_ACT) 2 1 with
      | 1 => z.out.ampKeep
      | 2 => true
      | _ => false
  else if z.pwr.halted then z.out.ampKeep
  else if z.gov.ampLow.isSome || z.gov.ampLock then false
  else match fld (z.reg Reg.DAC_CTL) 9 8 with
    | 1 => false
    | 2 => true
    | _ => z.out.ampAuto

/-- The zone's engines run: neither debug halt, sleep nor the wait of R392 stops them, and the core has power. -/
def Zone.enginesOn (z : Zone) : Bool := !z.pwr.halted && !z.pwr.asleep && !z.pwr.waking && !z.pwr.gated

/-- The condition of row 6 of Table 13-4. -/
def Zone.ampReady (z : Zone) : Bool := z.ctl.st.sounds && z.out.cmok && z.out.cmT == 0

/-- ZnAMPEN follows its row; the latch of row 6 falls with its condition. -/
def Zone.ampEval (z : Zone) : Zone :=
  let z := z.modOut (fun o => { o with ampAuto := o.ampAuto && z.ampReady })
  z.modOut (fun o => { o with ampen := z.ampLevel })

/-- ZnAMPEN at a tick boundary. -/
def Zone.ampTick (z : Zone) : Zone := (z.modOut (fun o => { o with ampAuto := z.ampReady })).ampEval

/-! Spans (R260–R262) and unmute (R263–R265). -/

/-- A full common mode of 2.5 V in the unit of ZOut.cm: 1639 ZSLOW periods of 750 steps (R265). -/
def cmFull : Nat := 1229250

/-- One tick's part of the common-mode ramp of a span change (R261 step 4). -/
def cmTickStep : Nat := 24585

/-- A write of DAC.SPAN_CTL (R260, R262). A request equal to the active span with no sequence running changes nothing but the
register. -/
def Zone.spanWrite (z : Zone) (v : Word) : Zone :=
  let s := fld v 2 0
  if s = 3 ∨ s ≥ 6 then z.setFlt 0x5800 0
  else
    let z := z.setReg Reg.DAC_SPAN_CTL (BitVec.ofNat 32 s)
    z.modOut (fun o => { o with spanReq := if o.seq = 0 ∧ s = o.span then o.spanReq else some s })

/-- A pilot request that starts when the output comes to carry a pilot again: an enable with PEN = 1 (R272). -/
def Zone.pilotAgain (z : Zone) : Zone :=
  let c := z.reg Reg.GEN_PCFG
  z.modOut (fun o => { o with pReq := if bit c 31 then some c else none })

/-- The span switches (R261 steps 3 to 5). -/
def Zone.spanSwitch (z : Zone) : Zone :=
  let o := z.out
  let cross := xor (decide (o.span < 4)) (decide (o.seqTgt < 4))
  let z := { z with out := { o with
    span := o.seqTgt, seqT := 0, seqDue := false, parkN := 0, seq := if cross then 3 else if o.seqCut then 0 else 5, cmT := if cross then 50 else 0, onT := none } }
  let z := z.count Reg.DAC_COUNT 15 0 1
  let z := if cross && z.bipolar && z.ctl.st.sounds then z.pilotAgain else z
  z.ampEval

/-- ONDLY. -/
def Zone.onDly (z : Zone) : Nat := fld (z.reg Reg.DAC_CTL) 23 16

/-- The unmute after ONDLY ticks with ZnAMPEN high (R261 step 5, R264, R265). -/
def Zone.unmute (z : Zone) : Zone :=
  match z.out.onT with
  | some n =>
    if n ≥ z.onDly then
      z.modOut (fun o => { o with wait := false, onT := none, seq := if o.seq = 4 then 5 else o.seq })
    else z
  | none => z

/-- The common mode after one tick of a span change's ramp, toward that of the span now active (R261 step 4). -/
def Zone.cmStep (z : Zone) : Nat :=
  if z.bipolar then min cmFull (z.out.cm + cmTickStep) else z.out.cm - cmTickStep

/-- The switch is due at this tick boundary (R261 step 3): 64 updates have passed at the old span's zero. A sequence that a
fence or a reset cut, or that runs without updates, switches at its scheduled tick (R262). -/
def Zone.switchDue (z : Zone) : Bool :=
  (z.out.seq == 1 || z.out.seq == 2) &&
    (if z.out.seqCut || z.time.est then decide (z.out.seqT ≤ 1) else decide (64 ≤ z.out.parkN))

/-- The switch that a tick boundary has found due (R261 step 3). -/
def Zone.switchAct (z : Zone) : Zone := if z.out.seqDue then z.spanSwitch else z

/-- A tick boundary of the span sequence up to its switch and its common-mode ramp (R261): a switch that is due is made before the
boundary's first update. -/
def Zone.spanTick (z : Zone) : Zone :=
  let o := z.out
  if z.sleepLow then z
  else if o.cmT > 0 then { z with out := { o with cmT := o.cmT - 1, cm := z.cmStep } }
  else if z.switchDue then { z with out := { o with seqDue := true } }
  else if o.seq = 1 ∨ o.seq = 2 then { z with out := { o with seqT := o.seqT - 1, seq := if o.mu = 0 then 2 else 1 } }
  else z

/-- A common-mode ramp that has ended gives way to ONDELAY, or to no step in a cut sequence (R261 step 5, R262). -/
def ZOut.rampEnd (o : ZOut) : ZOut := if o.seq = 3 ∧ o.cmT = 0 then { o with seq := if o.seqCut then 0 else 4 } else o

/-- ONDLY is counted from the first tick boundary with ZnAMPEN high (R261 step 5, R264, R265). -/
def Zone.delayTick (z : Zone) : Zone :=
  let counts := (z.out.seq = 4 ∨ z.out.wait ∧ z.ctl.st.sounds) ∧ z.out.ampen
  let z := z.modOut (fun o => { o with onT := if counts then some (match o.onT with | none => 0 | some n => n + 1) else none })
  z.unmute

/-- The rise of a sequence has ended, or none comes. -/
def Zone.riseDone (z : Zone) : Bool :=
  z.out.seq == 5 && (z.out.mu == 768 || bit (z.reg Reg.DAC_CTL) 0 || z.out.wait || !z.ctl.st.sounds)

/-- A held span request starts when no sequence runs (R261, R262). -/
def ZOut.spanStart (o : ZOut) : ZOut :=
  match o.spanReq with
  | some s =>
    if o.seq ≠ 0 ∨ o.cmT ≠ 0 then o
    else if s = o.span then { o with spanReq := none }
    else { o with spanReq := none, seq := 1, seqTgt := s, seqCut := false, parkN := 0, seqT := (o.mu + 64 + 383) / 384 }
  | none => o

/-- ZnAMPEN, the unmute and the span requests at a tick boundary, once the zone's state is that of this boundary (R262,
R264, R265, R275). -/
def Zone.ampOnTick (z : Zone) : Zone :=
  let z := ((z.modOut ZOut.rampEnd).ampTick).delayTick
  let z := if z.riseDone then z.modOut (fun o => { o with seq := 0 }) else z
  z.modOut ZOut.spanStart

/-- One update of the mute factor (R263). -/
def Zone.muStep (z : Zone) : Zone :=
  let o := z.out
  let down := z.pwr.slp.isSome ∨ (1 ≤ o.seq ∧ o.seq ≤ 4) ∨ o.wait ∨ bit (z.reg Reg.DAC_CTL) 0
  z.modOut (fun o => { o with
    mu := if down then o.mu - 1 else if z.ctl.st.sounds then min 768 (o.mu + 1) else o.mu
    parkN := if (o.seq = 1 ∨ o.seq = 2) ∧ o.mu = 0 then min 64 (o.parkN + 1) else o.parkN })

/-- The common mode has settled (R265 step 3). -/
def Zone.cmSettled (z : Zone) : Zone := z.modOut (fun o => { o with cmok := true })

/-- The start's common-mode ramp runs: the pins are driven, ZVA is in regulation, and the active span has a common mode
(R265 step 2). -/
def Zone.cmRamps (z : Zone) : Bool :=
  z.ctl.st != .off && !z.pwr.pinHold && z.pwr.zvaReg && z.bipolar && !z.out.cmok && z.out.cmT == 0 && !z.sleepLow

/-- n steps of the start's ramp: 750 at a ZSLOW edge, 256 in a frame from the PLL (R265, R385). -/
def Zone.cmRamp (n : Nat) (z : Zone) : Zone :=
  if z.cmRamps then z.modOut (fun o => { o with cm := min cmFull (o.cm + n) }) else z

/-- The common mode stands at that of the active span. -/
def Zone.cmReached (z : Zone) : Bool := !z.bipolar || z.out.cm == cmFull

/-- What the output carries without updates: the analog code latch in rows 2 to 5 of Table 13-3, span zero in the others
(R16, R20, R27, R266, R267). -/
def latchCode (row : Nat) (clr : Int) : Int := if 2 ≤ row ∧ row ≤ 5 then clr else 0

/-! Sine generator and pilot (R270–R272). -/

/-- The sample of R270 from a phase, S36. -/
def genSample (phi : BitVec 32) : Int :=
  let q := phi.toNat / 2 ^ 30
  let u := phi.toNat % 2 ^ 30
  let u := if q % 2 = 1 then 2 ^ 30 - u else u
  let a := sineQuarter (u / 2 ^ 20)
  let b := sineQuarter (u / 2 ^ 20 + 1)
  let m := a + roundShift ((b - a) * (u % 2 ^ 20 : Nat)) 20
  (if q ≥ 2 then -m else m) * 2 ^ 16

/-- A frequency word at 384 kHz (R270). -/
def genWord (hz : Nat) : Nat := (roundHalfUp ((hz * 2 ^ 32 : Nat) / (384000 : Rat))).toNat

/-- The pilot amplitude of a PCFG word (R271). -/
def pilotAmp (c : Word) : Nat := if bit c 31 then (gainDb (-((clampN 48 120 (fld c 23 16) * 16384 : Nat) : Int))).toNat else 0

/-- The pilot frequency of a PCFG word in Hz. -/
def pilotHz (c : Word) : Nat := clampN 14000 24000 (fld c 15 0)

/-- A write of GEN.PCFG (R271). -/
def Zone.pilotWrite (z : Zone) (v : Word) : Zone :=
  (z.setReg Reg.GEN_PCFG (v &&& 0x80FFFFFF)).modOut (fun o => { o with pReq := some (v &&& 0x80FFFFFF) })

/-- The pilot may run (R272). -/
def Zone.pilotOk (z : Zone) : Bool := z.bipolar && z.ctl.st.sounds

/-- The pilot does not run. -/
def ZOut.pilotOff (o : ZOut) : ZOut := { o with pOn := false, pAmp := 0, pRidge := 0, pStep := 0, pReq := none }

/-- The pilot at a tick boundary (R271). -/
def Zone.pilotTick (z : Zone) : Zone :=
  if !z.pilotOk then z.modOut ZOut.pilotOff
  else
    let o := z.out
    let o := match o.pStep with
      | 1 =>
        let en := bit o.pNew 31
        { o with pStep := 2, pOld := o.pAmp, pOn := o.pOn || en, phi := if !o.pOn && en then 0 else o.phi
                 pInc := if en then genWord (pilotHz o.pNew) else o.pInc }
      | 2 =>
        let a := pilotAmp o.pNew
        { o with pStep := 0, pAmp := a, pRidge := a, pOn := bit o.pNew 31 }
      | _ => o
    let o := match o.pReq with
      | some c => if o.pStep = 0 then { o with pStep := 1, pNew := c, pReq := none, pRidge := max o.pAmp (pilotAmp c) } else o
      | none => o
    { z with out := o }

/-- The pilot's amplitude in the present frame (R271 step 2). -/
def Zone.pilotNow (z : Zone) : Int :=
  let o := z.out
  if !o.pOn then 0
  else if o.pStep = 2 then
    let j := z.time.frame.toNat % 96
    roundHalfUp ((o.pOld : Rat) + ((pilotAmp o.pNew : Int) - o.pOld : Int) * ((j + 1 : Nat) : Rat) / 96)
  else o.pAmp

/-! Fallback tone (R269). -/

/-- The fallback tone's place. -/
def Zone.fallbackOn (z : Zone) : Bool :=
  z.ctl.st == .fenced && bit (z.reg Reg.FENCE_ACT) 0 && z.bipolar && !z.pwr.gated && !z.pwr.halted && z.pwr.slp.isNone && !z.pwr.asleep

/-- FON and FOFF as they act. -/
def Zone.fon (z : Zone) : Nat := atLeastOne (fld (z.reg Reg.GEN_FCAD) 31 16)
where atLeastOne (n : Nat) : Nat := if n = 0 then 1 else n
def Zone.foff (z : Zone) : Nat := fld (z.reg Reg.GEN_FCAD) 15 0

/-- Ticks into the present burst, none between bursts. -/
def Zone.burstTick (z : Zone) : Option Nat :=
  match z.out.fTicks with
  | none => none
  | some t => if z.foff = 0 then some t else let p := t % (z.fon + z.foff); if p < z.fon then some p else none

/-- A burst begins: the sine generator restarts at phase 0 (R269). -/
def Zone.burst (z : Zone) : Zone :=
  if z.burstTick = some 0 then z.modOut (fun o => { o with phi := 0, pInc := genWord (clampN 100 4000 (fld (z.reg Reg.GEN_FCFG) 15 0)) })
  else z

/-- The fallback tone at a tick boundary. -/
def Zone.fallbackTick (z : Zone) : Zone :=
  if z.fallbackOn then
    (z.modOut (fun o => { o with fTicks := some (match o.fTicks with | none => 0 | some t => t + 1) })).burst
  else z.modOut (fun o => { o with fTicks := none })

/-- The level factor λ of update u of the frame (R269). -/
def Zone.burstLevel (z : Zone) (u : Nat) : Rat :=
  match z.burstTick with
  | none => 0
  | some t =>
    let j := t * 384 + z.time.frame.toNat % 96 * 4 + u
    let up : Rat := ((j + 1 : Nat) : Rat) / 384
    let up := if up > 1 then 1 else up
    if z.foff = 0 then up
    else
      let dn : Rat := ((z.fon * 384 - j : Nat) : Rat) / 384
      if dn < up then dn else up

/-! Test generator (R273). -/

/-- The test generator restarts (R273). -/
def Zone.testRestart (z : Zone) : Zone :=
  z.modOut (fun o => { o with tgen := 0, tphi := 0, tseed := 0x7E570001#32 ^^^ BitVec.ofNat 32 (z.id.val * 65536), testTk := 0 })

/-- The test generator's sample of a frame. -/
def Zone.testFrame (z : Zone) : Zone :=
  let c := z.reg Reg.GEN_TCFG
  let shape := fld c 31 30
  if z.ctl.st ≠ .test ∧ z.ctl.st ≠ .recover then z.modOut (fun o => { o with tgen := 0 })
  else
    let p := z.out.tphi.toNat
    let (seed, n) := if shape = 3 then noiseDraw z.out.tseed else (z.out.tseed, 0)
    let b : Int := match shape with
      | 1 => if p < 2 ^ 31 then p * 2 ^ 5 - 2 ^ 35 else 3 * 2 ^ 35 - p * 2 ^ 5
      | 2 => p * 2 ^ 4 - 2 ^ 35
      | 3 => n
      | _ => 0
    let a := gainReal (-((min 96 (fld c 23 16) * 16384 : Nat) : Int))
    let inc := (roundHalfUp ((clampN 1 20000 (fld c 15 0) * 2 ^ 32 : Nat) / (96000 : Rat))).toNat
    let v := if shape = 0 ∨ z.ladderOn then 0 else satS 36 (roundHalfUp (a * b))
    z.modOut (fun o => { o with tgen := v, tphi := BitVec.ofNat 32 (p + inc), tseed := seed })

/-! Side-tone (R192, R193). -/

/-- The gain a STONE.CFG word asks for. -/
def stoneGain (c : Word) : Int :=
  let n := min 145 (fld c 15 8)
  if !bit c 0 ∨ n = 0 then 0 else gainDb (((n : Int) - 121) * 32768)

/-- A write of STONE.CFG (R193). -/
def Zone.stoneWrite (z : Zone) (v : Word) : Zone :=
  let z := z.setReg Reg.STONE_CFG (v &&& 0xFF03)
  let t := stoneGain v
  if t = z.lim.stT then z else { z with lim := { z.lim with stF := z.lim.stG, stT := t, stK := 0 } }

/-- A source change at a tick boundary (R193). -/
def Zone.stoneTick (z : Zone) : Zone :=
  if bit (z.reg Reg.STONE_CFG) 1 ≠ z.lim.stSrc ∧ z.lim.stMute ≥ 192 then { z with lim := { z.lim with stMute := 0 } } else z

/-- The side-tone sample of update u, as A72. -/
def Zone.stoneUpdate (z : Zone) (u : Nat) : Int × Zone :=
  let l := z.lim
  let g := if l.stK < 384 then roundHalfUp ((l.stF : Rat) + ((l.stT - l.stF : Int) : Rat) * ((l.stK + 1 : Nat) : Rat) / 384) else l.stT
  let l := { l with stG := g, stK := min 384 (l.stK + 1) }
  let k := l.stMute * 4 + u
  let f : Int := if l.stMute < 96 then (384 - (k + 1) : Nat) else if l.stMute < 192 then (k + 1 - 384 : Nat) else 384
  let on := z.ctl.st == .run || z.ctl.st == .hold
  let x := if on then mulGS (Config.sideDec z.out.mics) (roundHalfUp ((g * f : Int) / (384 : Rat))) else 0
  (x, { z with lim := if on then l else { l with stG := l.stT, stK := 384 } })

/-- The end of a frame of the side-tone's source change. -/
def Zone.stoneFrame (z : Zone) : Zone :=
  let m := z.lim.stMute
  if m ≥ 192 then z
  else { z with lim := { z.lim with
    stMute := m + 1, stSrc := if m + 1 = 96 then bit (z.reg Reg.STONE_CFG) 1 else z.lim.stSrc } }

/-! Code former and output (R191, R257–R259, R266). -/

/-- CLR_CODE in the coding of the active span. -/
def Zone.clrCode (z : Zone) : Int :=
  let c := fld (z.reg Reg.DAC_CLR) 19 0
  if z.bipolar then wrapS 20 c else c

/-- The row of Table 13-3 that applies. -/
def Zone.outRow (z : Zone) : Nat :=
  if z.ctl.st = .off ∨ z.pwr.pinHold then 1
  else if z.pwr.gated then 2
  else if z.out.clr then 3
  else if z.out.clrHold.isSome ∨ z.out.clrX.isSome then 4
  else if z.ctl.st = .fenced ∨ z.pwr.halted then 5
  else if z.ctl.st = .init ∨ z.ctl.st = .test then 6
  else if z.ctl.st = .recover then 7
  else 8

/-- The code target of the active span (R191). -/
def Zone.dacTarget (z : Zone) : Target := if z.bipolar then tgtDacB else tgtDacU

/-- The code of rows 5 to 8 for the A72 signal x at update u: code and whether the store saturated. -/
def Zone.liveCode (z : Zone) (x : Int) (u : Nat) : Int × Bool :=
  if z.ctl.st = .fenced ∨ z.pwr.halted then
    if z.fallbackOn then
      let a := gainReal (-((min 96 (fld (z.reg Reg.GEN_FCFG) 23 16) * 16384 : Nat) : Int))
      let t := z.dacTarget
      (clampI t.lo t.hi (z.clrCode + roundHalfUp (a * z.burstLevel u * (genSample z.out.phi : Rat) / (2 ^ 16 : Nat))), false)
    else (z.clrCode, false)
  else if z.ctl.st.sounds then storeVal z.dacTarget (roundHalfUp ((x * (z.out.mu : Int) : Int) / (768 : Rat)))
  else (0, false)

/-- Full scale of the active span in volts (Table 13-1): ±4, ±2, ±1 V, 0–4 and 0–2 V. -/
def spanVolts (span : Nat) : Rat := if span = 0 ∨ span = 4 then 4 else if span = 1 ∨ span = 5 then 2 else 1

/-- The value v in volts of a code of the active span (R258, R260, Table 13-1). -/
def Zone.outVolts (z : Zone) (code : Int) : Rat :=
  spanVolts z.out.span * (code : Rat) / ((if z.bipolar then 2 ^ 19 else 2 ^ 20 : Nat) : Rat)

/-- V_CM in volts: 2.5 V in full in a bipolar span (R260, R261, R265). -/
def Zone.vcm (z : Zone) : Rat := (5 / 2 : Rat) * (z.out.cm : Nat) / (cmFull : Nat)

/-- ZnOUTP and ZnOUTN in volts for the code driven, before the reconstruction filter: held to AGNDn in row 1 of Table 13-3;
both at V_CM while it ramps to a unipolar span (R260, R261, R266). -/
def Zone.outPins (z : Zone) (code : Int) : Rat × Rat :=
  if z.outRow = 1 then (0, 0)
  else
    let v := z.outVolts code
    if z.bipolar then (z.vcm + v / 2, z.vcm - v / 2) else (z.vcm + v, z.vcm)

/-- Elements switched by a code (R258). -/
def Zone.elems (z : Zone) (code : Int) : Nat := ((if z.bipolar then code + 2 ^ 19 else code) / 2 ^ 14).toNat

/-- The output while no updates are made (R266): the codes and the elements of the row that applies. -/
def Zone.parkCodes (z : Zone) : Zone :=
  if z.enginesOn && !z.time.est then z
  else
    let c := latchCode z.outRow z.clrCode
    z.modOut (fun o => { o with codes := Vector.replicate 4 c, elem := z.elems c })

/-- The pins go to the 10 kΩ hold and CMOK clears; the common mode is gone (R265). -/
def Zone.pinsOff (z : Zone) : Zone :=
  (({ z with pwr := { z.pwr with pinHold := true } }.modOut (fun o => { o with cmok := false, cm := 0, cmT := 0 })).ampEval).parkCodes

/-! Clear pin (R267, R268). -/

/-- ZnCLRN asserted: it acts on the code latch directly. -/
def Zone.clrAssert (z : Zone) : Zone :=
  if z.out.clr then z
  else
    let z := z.modOut (fun o => { o with clr := true, clrHold := none, clrX := none })
    ((z.count Reg.DAC_COUNT 31 16 1).setFlt 0x5800 1).parkCodes

/-- ZnCLRN released sub ZCORE cycles into the frame: the tick of the cross-fade is the first that lies more than 2 updates
after it. -/
def Zone.clrRelease (z : Zone) (sub : Nat) : Zone :=
  if !z.out.clr then z
  else
    let left := (96 - z.time.frame.toNat % 96) * 7680 - sub
    z.modOut (fun o => { o with clr := false, clrHold := some (if left > 3840 then 1 else 2) })

/-- The cross-fade starts (R268). -/
def Zone.clrFade (z : Zone) : Zone := z.modOut (fun o => { o with clrHold := none, clrX := some 0 })

/-- The cross-fade that a tick boundary has found due starts, with the boundary's first update (R268). -/
def Zone.clrAct (z : Zone) : Zone := if z.out.clrHold = some 0 then z.clrFade else z

/-- A cross-fade that no update has moved, in a zone without updates, is over after its tick (R268). -/
def Zone.clrStale (z : Zone) : Zone :=
  if !z.enginesOn || z.time.est then z.modOut (fun o => { o with clrX := none }) else z

/-- The clear pin at a tick boundary: one less to pass before that of the cross-fade. -/
def Zone.clrTick (z : Zone) : Zone := z.clrStale.modOut (fun o => { o with clrHold := o.clrHold.map (fun n => n - 1) })

/-- A tick boundary from ZSLOW (R268). -/
def Zone.clrSlowTick (z : Zone) : Zone := ((z.clrTick).clrAct).parkCodes

/-- The code former saturated: PG_FLT.SAT of the LIM page is its bit 0, reported as SAT when it goes from 0 to 1 (R80,
R191). -/
def Zone.dacSat (z : Zone) : Zone :=
  if bit (z.reg 0x2C0C) 0 then z
  else
    let z := z.setFlt 0x2C00 0
    if z.fltEn 0x2C00 0 then z.send clsReport 0x0040 [0x0B, 0, 2] else z

/-- One DAC update (R257–R259, R266). -/
def Zone.dacUpdate (u : Nat) (z : Zone) : Zone :=
  let z := z.muStep
  let (st, z) := z.stoneUpdate u
  let x := Config.interp u z.out.hist + st
  let row := z.outRow
  let (live, sat) := z.liveCode x u
  let code : Int :=
    if row = 1 then 0
    else if row = 2 ∨ row = 3 then z.clrCode
    else if row = 4 then
      match z.out.clrX with
      | some k => roundHalfUp (((383 - k : Nat) * z.clrCode + (k + 1 : Nat) * live : Int) / (384 : Rat))
      | none => z.clrCode
    else live
  let z := if sat && row ≥ 3 then z.dacSat.count Reg.LIM_COUNT 31 16 1 else z
  let e := z.elems code
  let maj := fld (z.reg Reg.DAC_DGL) 13 8
  let d := if e ≥ z.out.elem then e - z.out.elem else z.out.elem - e
  let held := maj ≠ 0 ∧ d ≥ maj
  z.modOut (fun o => { o with
    codes := o.codes.set (fin 4 u) code, elem := e
    dgHeld := o.dgHeld.set (fin 4 u) (if held then fld (z.reg Reg.DAC_DGL) 2 0 + 1 else 0)
    clrX := (match o.clrX with | some k => if k + 1 ≥ 384 then none else some (k + 1) | none => none)
    phi := o.phi + BitVec.ofNat 32 o.pInc })

/-- The signal at the pilot sum point (R257), A72. -/
def Zone.sumPoint (z : Zone) : Int :=
  let base := if z.ctl.st = .test ∨ z.ctl.st = .recover then
      (if bit (z.reg Reg.GEN_TCFG) 29 then sToA z.out.tgen else 0)
    else sToA z.lim.y
  base + mulGS (genSample z.out.phi) z.pilotNow

/-- Modulator codes of a quarter of a frame, newest first. -/
def micQuarter (m : Vector (Fin 5) 64) (u : Nat) : List Int :=
  ((m.toList.drop (16 * u)).take 16).reverse.map (fun c => (c.val : Int) - 2)

/-- The outputs of a frame: four updates. -/
def Zone.outFrame (z : Zone) (inp : FrameIn) : Zone :=
  let z := z.modOut (fun o => { o with hist := (z.sumPoint :: o.hist).take 32 })
  let z := iter 4 (fun u z =>
    let m := if z.lim.stSrc then inp.micB else inp.micA
    Zone.dacUpdate u (z.modOut (fun o => { o with mics := (micQuarter m u ++ o.mics).take 256 }))) z
  z.stoneFrame

/-! TDM port (R277–R281). -/

/-- What a clock pin of the TDM port does (Table 13-7). -/
inductive TdmClk where
  | highZ | low | running
  deriving DecidableEq, Repr

/-- The port is enabled and carries frames. -/
def Zone.tdmOn (z : Zone) : Bool :=
  let c := z.out.tcfg
  bit c 31 && z.ctl.st != .off && !z.time.est && (bit c 30 || z.out.tlock)

/-- A frame at whose boundary a TDM frame begins. -/
def Zone.tdmEdge (z : Zone) : Bool := !bit z.out.tcfg 29 || z.time.frame.toNat % 2 == 0

/-- Slots not set in a mask replaced by 0. -/
def slotMask (c : Word) (lo : Nat) (v : Vector Word 8) : Vector Word 8 :=
  Vector.ofFn (fun i : Fin 8 => if bit c (lo + i.val) then v[i] else 0)

/-- The slots that ZnDOUT drives: those set in TXEN; it is high-impedance in the others (R277). -/
def slotsDriven (c : Word) (v : Vector Word 8) : Vector (Option Word) 8 :=
  Vector.ofFn (fun i : Fin 8 => if bit c i.val then some v[i] else none)

/-- TI and the slots sent, at a frame boundary (R278, R279, Table 13-7). -/
def Zone.tdmStart (z : Zone) : Zone :=
  if !z.tdmOn then z.modOut (fun o => { o with tin := Vector.replicate 8 0, ttx := Vector.replicate 8 none })
  else if z.tdmEdge then
    let to' := if z.ctl.st.sounds then z.route.toOut.map wordI else Vector.replicate 8 0
    z.modOut (fun o => { o with tin := o.trx, ttx := slotsDriven o.tcfg to' })
  else z

/-- The slots received in a frame: all eight, or at 48 kHz slots 0–3 in the first frame of the TDM frame and 4–7 in the second
(R277, R279). -/
def Zone.tdmEnd (z : Zone) (v : Vector Word 8) : Zone :=
  if !z.tdmOn then z.modOut (fun o => { o with trx := Vector.replicate 8 0 })
  else
    let odd := z.time.frame.toNat % 2 == 1
    let now := fun (k : Nat) => !bit z.out.tcfg 29 || odd == decide (4 ≤ k)
    let v := slotMask z.out.tcfg 8 v
    z.modOut (fun o => { o with trx := Vector.ofFn (fun i : Fin 8 => if now i.val then v[i] else o.trx[i]) })

/-- TDM.CFG takes effect (R281). -/
def Zone.tdmTick (z : Zone) : Zone :=
  if z.out.tpend then
    let c := z.reg Reg.TDM_CFG
    z.modOut (fun o => { o with tcfg := c, tpend := false, tlock := false, trx := Vector.replicate 8 0, ttx := Vector.replicate 8 none })
  else z

/-- The port expects an FS edge (R280): enabled, a slave, with frame boundaries to hold the edge against (Table 13-7). -/
def Zone.tdmSlave (z : Zone) : Bool :=
  bit z.out.tcfg 31 && !bit z.out.tcfg 30 && z.ctl.st != .off && !z.time.est && z.enginesOn

/-- What ZnBCLK and ZnFS do in master mode (Table 13-7): high-impedance, driven low, running. -/
def Zone.tdmClock (z : Zone) : TdmClk :=
  if z.ctl.st = .off ∨ !(bit z.out.tcfg 31 && bit z.out.tcfg 30) then .highZ else if z.time.est then .low else .running

/-- A slip (R280). A slip with the edge in its window is a wrong BCLK count. Each is counted; the message is sent once per loss of
lock (assumption 84). -/
def Zone.tdmSlip (z : Zone) (phase : Int) : Zone :=
  if !z.tdmSlave then z
  else
    let p := satS 16 phase
    let was := z.out.tlock
    let z := z.modOut (fun o => { o with tphase := p, tlock := false, trx := Vector.replicate 8 0, ttx := Vector.replicate 8 none })
    let z := (z.setFlt 0x6000 0).count Reg.TDM_COUNT 31 16 1
    let z := if phase.natAbs ≤ 64 then z.count Reg.TDM_COUNT 15 0 1 else z
    if was then z.send clsFault 0x0051 (intLe p 2) else z

/-- The eighth consecutive correct TDM frame (R280). -/
def Zone.tdmLocked (z : Zone) (phase : Int) : Zone :=
  if z.tdmSlave && decide (phase.natAbs ≤ 64) then z.modOut (fun o => { o with tlock := true, tphase := phase }) else z

end Sys2Proof.Machine
end

