-- ==== Sys2Proof/Machine/GovOps.lean ====
section
/-! DEFINITION. The NAL bands, the Ridge limiter and the governor's records up to its verdicts (R187–R190, R239–R256). -/

namespace Sys2Proof.Machine

/-! Noise-adaptive level (R239–R245). -/

def nalPage : Nat := 0x4C00

/-- The PEAK coefficients of band n (R239): f_c = 125 × 2^n Hz, k = 1/√2. -/
def nalCoef (n i : Nat) : Int :=
  let x := 125 * 2 ^ n * 2 ^ 36 / 192000
  let g : Rat := (sinFx x : Rat) / (cosFx x : Int)
  let k := exp2Of (-1) 2
  let a1 := 1 / (1 + g * (g + k))
  roundHalfUp ((if i = 0 then a1 else if i = 1 then g * a1 else if i = 2 then g * g * a1 else k) * (2 ^ 32 : Nat))

/-- The factor 10^(G/20) − 1 of a code, G36. -/
def nalFactor (code : Nat) : Int := gainDb (code * 16384 : Nat) - g36One

/-- The 16-bit level of a band register. -/
def bandLevel (w : Word) : Int := wrapS 16 w.toNat

/-- Whether band n's ambient is trusted (R242). -/
def Zone.nalTrust (z : Zone) (n : Fin 7) : Bool :=
  let amb := z.reg (Reg.AEC_AMB n.val)
  let b := z.aec.sup.getLsbD n.val
  let ch := z.aec.ch[(if b then 1 else 0 : Fin 2)]
  let e : Int := if bit (z.reg Reg.AEC_CFG) (b2n b) then ch.erle else 0
  let margin : Int := fld (z.rws 4 Reg.NAL_CFG) 21 16
  !bit amb 31 && !ch.lastDiv &&
    (decide (bandLevel (z.reg (Reg.AEC_REF n.val)) < -(z.aecXmin * 256 : Nat)) ||
     decide (bandLevel amb ≥ bandLevel (z.reg (Reg.AEC_MIC n.val)) - e + margin * 256))

/-- The target code of the target law for a trusted band (R241). -/
def Zone.nalLaw (z : Zone) (n : Fin 7) : Nat :=
  let w := z.rws 4 (Reg.NAL_BAND n.val)
  let a := bandLevel (z.reg (Reg.AEC_AMB n.val))
  let pnom : Int := min 480 (fld w 23 15)
  let slope : Int := min 128 (fld w 14 7)
  (clampI 0 (min 72 (fld w 6 0) : Nat) (roundHalfUp ((slope * (a + wrapS 8 (fld w 31 24) * 256 + pnom * 64) : Int) / (8192 : Rat)))).toNat

/-- The zone is adapting (R243). -/
def Zone.adapting (z : Zone) : Bool :=
  let c := z.rws 4 Reg.NAL_CFG
  bit c 22 && (bit c 23 || (List.range 6).any (fun k => bit c (24 + k) && decide (0 < z.heldCount k)))

/-- s_up and s_dn of a slew field (R244). -/
def nalSlew (v : Nat) : Nat := (roundHalfUp (((if v = 0 then 1 else v) * 65536 : Nat) / (10000 : Rat))).toNat

/-- Untrusted for NAL.STALE ticks (R242). -/
def Zone.nalStale (z : Zone) (b : NalBand) : Bool :=
  let st := fld (z.rws 4 Reg.NAL_STALE) 15 0
  st != 0 && decide (b.untr ≥ st)

/-- A tick boundary of band n in RUN or HOLD (R241–R244). -/
def Zone.nalBandTick (z : Zone) (n : Fin 7) : Zone :=
  let c := z.rws 4 Reg.NAL_CFG
  let b := z.gov.nal[n]
  let tr := z.nalTrust n
  let b := { b with trust := tr, untr := if tr then 0 else satAdd 65535 b.untr 1, old := b.code }
  let tgt : Nat :=
    if !z.adapting then 0
    else if tr then z.nalLaw n * 16384
    else if z.nalStale b then 0
    else b.acc
  let acc := if tgt ≥ b.acc then min tgt (b.acc + nalSlew (fld c 15 8)) else max tgt (b.acc - nalSlew (fld c 7 0))
  let want := acc / 16384
  let code := if want > b.code then b.code + 1 else if want < b.code then b.code - 1 else b.code
  { z with gov := { z.gov with nal := z.gov.nal.set n { b with
    acc := acc, code := code, tcode := (roundHalfUp ((tgt : Rat) / 16384)).toNat } } }

/-- A tick boundary of the NAL stage (R245): it adapts in RUN and HOLD; in RECOVER its gains are held. -/
def Zone.nalTick (z : Zone) : Zone :=
  if z.ctl.st = .run ∨ z.ctl.st = .hold then (List.finRange 7).foldl Zone.nalBandTick z
  else { z with gov := { z.gov with nal := z.gov.nal.map (fun (b : NalBand) => { b with old := b.code }) } }

/-- NAL.STATn (Table 12-5). -/
def Zone.nalStat (z : Zone) (n : Fin 7) : Word :=
  let b := z.gov.nal[n]
  BitVec.ofNat 32 (b2n b.trust * 2 ^ 31 + b2n (z.nalStale b) * 2 ^ 30 + b.tcode % 128 * 2 ^ 16 + b.code % 128)

/-- One band section on a sample (R239, R240): the factor moves over the tick; the output passes through an accumulator. -/
def Zone.nalSection (a : Int × Zone) (n : Fin 7) : Int × Zone :=
  let (u, z) := a
  let b := z.gov.nal[n]
  let j := z.time.frame.toNat % 96
  let f0 := nalFactor b.old
  let pk := if b.old = b.code then f0
    else f0 + roundHalfUp (((nalFactor b.code - f0 : Int) : Rat) * ((j + 1 : Nat) : Rat) / 96)
  let k := nalCoef n.val
  let (y, z1, z2, fl) := stage 5 (k 0) (k 1) (k 2) (k 3) pk u b.z1 b.z2
  let z := { z with gov := { z.gov with nal := z.gov.nal.set n { b with z1 := z1, z2 := z2 } } }
  let z := if fl.aov then z.arithOnce nalPage n.val 0 else z
  let z := if fl.lost then z.arithOnce nalPage n.val 1 else z
  (y, if fl.sat then z.arithOnce nalPage n.val 2 else z)

/-- The NAL stage on MB of the last pass: the Ridge input. -/
def Zone.nalFrame (z : Zone) : Int × Zone := (List.finRange 7).foldl Zone.nalSection (z.route.mbCap, z)

/-! Ridge limiter (R187–R190). -/

/-- LOOK, CEIL and REL of the active batten as they act. -/
def Zone.limLook (z : Zone) : Nat := min 48 (fld (z.rws 5 Reg.LIM_CFG) 5 0)
def Zone.limCeil (z : Zone) : Int := gainDb (-(min 96 (fld (z.rws 5 Reg.LIM_CFG) 14 8) * 16384 : Nat))
def Zone.limRel (z : Zone) : Nat := clampN 10 2000 (fld (z.rws 5 Reg.LIM_CFG) 26 16)

/-- C_eff of the sample entering in this frame (R187, R188): the codes that lie within 0.25 dB of the last. -/
def Zone.limCeff (z : Zone) : Int :=
  let t := min z.limCeil (2 ^ 32 - 2 ^ 13 - (z.out.pRidge : Int))
  let c := z.lim.ceff
  if t < c then max t (-((-(c * gainDb (-16384))) / 2 ^ 32)) else min t (c * gainDb 16384 / 2 ^ 32)

/-- g_req of a sample and its ceiling (R189). -/
def gReq (p : Int × Int) : Int :=
  if (p.1.natAbs : Int) ≤ p.2 * 2 ^ 31 then g36One else p.2 * 2 ^ 63 / p.1.natAbs

/-- h of R189 for a lookahead L over the line, newest first. -/
def ridgeH (l : List (Int × Int)) (look : Nat) : Int :=
  iter (look + 1) (fun j (h : Int) =>
    let g := gReq (l.getD (look - j) (0, g36One))
    min h (g + roundHalfUp (((g36One - g : Int) : Rat) * (j : Rat) / (look + 1 : Nat)))) g36One

/-- The release step of R189. -/
def ridgeRel (g : Int) (rel : Nat) : Int :=
  let e := exp2Fx (-((2 ^ 256 : Int) / (96 * rel * fxLn2 : Nat)))
  g + roundHalfUp ((1 - e) * ((g36One - g : Int) : Rat))

/-- Attenuation of a gain in U8.8 dB. -/
def attenOf (g : Int) : Nat :=
  let r : Rat := ((2 ^ 32 : Nat) : Rat) / (max 1 g : Int)
  (clampI 0 65535 (levelDb (r * r))).toNat

/-- One frame of the limiter. -/
def Zone.ridge (z : Zone) (x : Int) : Zone :=
  let l := z.lim
  let c := z.limCeff
  let line := ((x, c) :: l.line).take 49
  let ln := z.limLook
  let busy := l.lookK < 96
  let h := if busy then min (ridgeH line l.lookO) (ridgeH line ln) else ridgeH line ln
  let g := min h (ridgeRel l.g z.limRel)
  let at0 := fun (k : Nat) => (line.getD k (0, 0)).1
  let v := if busy then
      roundHalfUp (((95 - l.lookK : Nat) * at0 l.lookO + (l.lookK + 1 : Nat) * at0 ln : Int) * (g : Rat) / (96 * 2 ^ 32 : Nat))
    else mulAG (at0 ln) g
  let y := (storeVal tgtS36 v).1
  let z := { z with lim := { l with line := line, g := g, ceff := c, y := y, lookK := min 96 (l.lookK + 1) } }
  if g < g36One then
    let z := z.count Reg.LIM_COUNT 15 0 1
    z.putFld Reg.LIM_PEAK 15 0 (max (fld (z.reg Reg.LIM_PEAK) 15 0) (attenOf g))
  else z

/-- LIM.STAT (Table 9-10). -/
def Zone.limStat (z : Zone) : Word :=
  let k := bisect (fun m => decide (gainDb (-((m - 1 : Nat) * 16384 : Nat)) > z.lim.ceff)) 8 0
  BitVec.ofNat 32 (k % 256 * 2 ^ 16 + attenOf z.lim.g)

/-- NAL and Ridge of a frame. The 96 frames of a LOOK swap are those from its tick, whether or not the limiter runs in them
(R190). -/
def Zone.limFrame (z : Zone) : Zone :=
  if z.ctl.st.sounds && !z.pwr.halted then
    let (x, z) := z.nalFrame
    z.ridge x
  else { z with lim := { z.lim with y := 0, lookK := min 96 (z.lim.lookK + 1) } }

/-! Line supervision (R246–R251). -/

def linePage : Nat := 0x5000
def govPage : Nat := 0x5400

def Zone.modGov (z : Zone) (f : ZGov → ZGov) : Zone := { z with gov := f z.gov }

/-- CAL (Table 12-5). -/
def Zone.lineCal (z : Zone) : Bool := z.reg Reg.LINE_VSCALE == 0 || z.reg Reg.LINE_ISCALE == 0

/-- LINE.STAT. -/
def Zone.lineStat (z : Zone) : Word :=
  let g := z.gov
  BitVec.ofNat 32 (g.verdict % 8 * 2 ^ 29 + b2n g.baseOk * 2 ^ 28 + b2n g.baseMis * 2 ^ 27 + b2n z.lineCal * 2 ^ 26 +
    b2n g.ampFlt * 2 ^ 25 + b2n g.ampLock * 2 ^ 24 + g.retries % 16 * 2 ^ 20 + g.runLen % 16 * 2 ^ 16)

/-- FENCE.VERDICT's action of a verdict is FENCE (Table 1-8). -/
def Zone.verdictFences (z : Zone) (v : Nat) : Bool :=
  2 ≤ v && v ≤ 6 && fld (z.reg Reg.FENCE_VERDICT) (2 * v - 3) (2 * v - 4) == 1

/-- A verdict class's message class: REPORT for DRIFT, NORMAL and NONE, FAULT for the others (R250). -/
def verdictClass (v : Nat) : Nat := if v = 0 ∨ v = 1 ∨ v = 4 then clsReport else clsFault

/-- A change of verdict (R250). -/
def Zone.verdictSet (z : Zone) (v : Nat) : Zone :=
  if v = z.gov.verdict then z
  else
    let old := z.gov.verdict
    let z := z.modGov (fun g => { g with verdict := v })
    let z := (z.count Reg.LINE_COUNT 15 8 1).setFlt linePage 0
    z.send (verdictClass v) 0x0050 (natLe old 1 ++ natLe v 1 ++ natLe (z.reg Reg.LINE_ZMAG).toNat 4 ++
      natLe (z.reg Reg.LINE_ZPH).toNat 2)

/-- What must not change throughout an interval (R246): the pilot's amplitude and frequency. -/
def Zone.lineSet (z : Zone) : List Word := [BitVec.ofNat 32 z.out.pAmp, BitVec.ofNat 32 z.out.pInc]

/-- The conditions of R246 and R263 in the present frame. -/
def Zone.lineOk (z : Zone) : Bool :=
  let a := z.dec[(2 : Fin 4)]
  let b := z.dec[(3 : Fin 4)]
  bit (z.rws 3 Reg.GOV_LCFG) 31 && z.ctl.st.sounds && z.out.pOn && z.out.pStep == 0 && z.out.ampen && z.gov.verdict != 5 &&
    a.valid && b.valid && !a.outOvl && !b.outOvl && a.ma12 == b.ma12 && a.ma3 == b.ma3 && a.fir == b.fir &&
    a.bank == b.bank && !z.lineCal && !z.pwr.halted && z.out.mu == 768

/-- Supervision runs (R246). -/
def Zone.lineRuns (z : Zone) : Bool := bit (z.rws 3 Reg.GOV_LCFG) 31 && z.ctl.st.sounds

/-- An interval begins at a tick boundary with TICK mod 250 = 0. -/
def Zone.lineBegin (z : Zone) : Zone :=
  z.modGov (fun g => { g with
    iStart := some z.tick, iOk := true, iN := 0, vRe := 0, vIm := 0, iRe := 0, iIm := 0, iSet := z.lineSet })

/-- One frame of the running interval (R246, R247): the samples of DEC2 and DEC3 against the sine generator's phase. -/
def Zone.lineFrame (z : Zone) : Zone :=
  if z.gov.iStart.isNone then z
  else
    let v := z.dec[(2 : Fin 4)].out
    let i := z.dec[(3 : Fin 4)].out
    let th := z.out.phi.toNat * 16
    let c := cosFx th
    let s := sinFx th
    z.modGov (fun g => { g with
      iOk := g.iOk && z.lineOk && z.lineSet == g.iSet, iN := g.iN + 1
      vRe := g.vRe + v * c, vIm := g.vIm - v * s, iRe := g.iRe + i * c, iIm := g.iIm - i * s })

/-- 20 log10 of a ratio given as its square, in Q8.8 dBFS; a zero reads as the least value. -/
def ampDb (sq : Rat) : Int := if sq ≤ 0 then -32768 else clampI (-32768) 32767 (levelDb sq)

/-- |V|² as a fraction of full scale squared: (2 / N)² (re² + im²) over the scale of the sums. -/
def magSq (re im : Int) (n : Nat) : Rat :=
  let d : Rat := ((2 ^ 163 : Nat) : Rat) * (n : Nat)
  4 * ((re * re + im * im : Int) : Rat) / (d * d)

/-- |X| ≥ −d dBFS for |X|² = sq, exactly: |X|^20 × 10^d ≥ 1 (R233, R247, R249). -/
def dbAtLeast (sq : Rat) (d : Nat) : Bool := decide (sq.den ^ 10 ≤ sq.num.toNat ^ 10 * 10 ^ d)

/-- √ of a rational, rounded down to 2^−40 of it or better. -/
def ratSqrt (x : Rat) : Rat :=
  if x ≤ 0 then 0 else ((Nat.sqrt ((x * (2 ^ 200 : Nat)).floor.toNat) : Nat) : Rat) / (2 ^ 100 : Nat)

/-- An angle in 0.01° brought into −18000 to 17999. -/
def angWrap (a : Int) : Int := (a + 18000).emod 36000 - 18000

/-- The measurement of an interval (R247). -/
structure LineMeas where
  vDb  : Int
  iDb  : Int
  vOk  : Bool
  iOk  : Bool
  zOhm : Rat
  ph   : Int
  deriving DecidableEq, Repr

/-- The values of the interval that ends; arg V − arg I is the argument of V times the conjugate of I. -/
def Zone.lineMeas (z : Zone) (lcfg : Word) : LineMeas :=
  let g := z.gov
  let v := magSq g.vRe g.vIm g.iN
  let i := magSq g.iRe g.iIm g.iN
  let vOk := dbAtLeast v (fld lcfg 15 8)
  let iOk := dbAtLeast i (fld lcfg 7 0)
  let zo : Rat := if i = 0 then 0 else
    ratSqrt (v / i) * ((z.reg Reg.LINE_VSCALE).toNat : Rat) * 1000 / ((max 1 (z.reg Reg.LINE_ISCALE).toNat : Nat) : Rat)
  { vDb := ampDb v, iDb := ampDb i, vOk := vOk, iOk := iOk, zOhm := zo
    ph := angWrap (angleOf (g.vRe * g.iRe + g.vIm * g.iIm) (g.vIm * g.iRe - g.vRe * g.iIm)) }

/-- |Z| as U16.16 Ω, saturating. -/
def ohmWord (x : Rat) : Nat := min (2 ^ 32 - 1) (roundHalfUp (x * (65536 : Nat))).toNat

/-- f_p in force in Hz. -/
def Zone.fp (z : Zone) : Nat := pilotHz (if z.out.pOn then z.out.pNew else z.reg Reg.GEN_PCFG)

/-- BASEMIS judged (R253). -/
def Zone.baseMisSet (z : Zone) : Zone :=
  let f := z.fp
  let b := (z.reg Reg.LINE_BFREQ).toNat
  let mis := z.gov.baseOk && decide (f > b + 1 ∨ b > f + 1)
  let rise := mis && !z.gov.baseMis
  let z := z.modGov (fun g => { g with baseMis := mis })
  if rise then z.setFlt linePage 2 else z

/-- The candidate verdict of a measured interval (Table 12-2), with the GOV settings in force during it. -/
def Zone.candidate (z : Zone) (m : LineMeas) (lcfg zlo zhi : Word) : Nat :=
  let q : Rat := m.zOhm * (65536 : Nat)
  let bm := (z.reg Reg.LINE_BMAG).toNat
  let d := clampN 1 100 (fld lcfg 23 16)
  if !m.vOk ∧ !m.iOk then 6
  else if m.iOk ∧ (!m.vOk ∨ q < (zlo.toNat : Rat)) then 3
  else if m.vOk ∧ (!m.iOk ∨ q > (zhi.toNat : Rat)) then 2
  else if z.gov.baseOk ∧ !z.gov.baseMis ∧ bm ≠ 0 ∧ m.vOk ∧ m.iOk ∧
      (q * 100 < (bm * (100 - d) : Nat) ∨ q * 100 > (bm * (100 + d) : Nat)) then 4
  else 1

/-- The results of a measured interval, before its verdict: registers, BASEMIS, candidate and run; the verdict that the run
confirms, if any (R247, R249). -/
def Zone.lineDone (z : Zone) : Option Nat × Zone :=
  let lcfg := z.rws 3 Reg.GOV_LCFG
  let m := z.lineMeas lcfg
  let rep := m.vOk && m.iOk
  let z := z.setReg Reg.LINE_AMPL (BitVec.ofInt 16 m.vDb ++ BitVec.ofInt 16 m.iDb)
  let z := z.setReg Reg.LINE_ZMAG (BitVec.ofNat 32 (if rep then ohmWord m.zOhm else 0))
  let z := if rep then (z.setReg Reg.LINE_ZPH (wordI m.ph)).modGov (fun g => { g with zRep := BitVec.ofNat 32 (ohmWord m.zOhm) }) else z
  let z := z.setReg Reg.LINE_ITICK z.tick
  let z := z.baseMisSet
  let c := z.candidate m lcfg (z.rws 3 Reg.GOV_ZLO) (z.rws 3 Reg.GOV_ZHI)
  let n := if z.gov.cand = c then min 15 (z.gov.runLen + 1) else 1
  let z := z.modGov (fun g => { g with cand := c, runLen := n, measured := true })
  let conf := fld lcfg 27 24
  (if n ≥ (if conf = 0 then 1 else conf) then some c else none, z)

/-- The verdict with supervision off is NONE (R246). -/
def Zone.lineOff (z : Zone) : Zone :=
  if !bit (z.rws 3 Reg.GOV_LCFG) 31 ∧ z.gov.verdict ≠ 5 then
    (z.modGov (fun g => { g with runLen := 0, cand := 0 })).verdictSet 0
  else z

/-! Baselines (R253). -/

/-- Loads the baseline record on leaving INIT: none in the MRAM, or one that reads and passes, or one that fails. -/
def Zone.baseLoad (z : Zone) (r : Option BaseRec) (bad : Bool) : Zone :=
  if bad then ((z.modGov (fun g => { g with baseOk := false })).setFlt linePage 4).baseMisSet
  else match r with
    | some b =>
      let z := ((z.setReg Reg.LINE_BMAG b.mag).setReg Reg.LINE_BPH b.ph).setReg Reg.LINE_BFREQ b.freq
      ((z.setReg Reg.LINE_BTICK b.tick).modGov (fun g => { g with baseOk := true })).baseMisSet
    | none => (z.modGov (fun g => { g with baseOk := false })).baseMisSet

/-- STORE_BASE (R253). -/
def Zone.storeBase (z : Zone) : Zone :=
  let v := z.gov.verdict
  if !z.gov.measured ∨ v = 2 ∨ v = 3 ∨ v = 5 ∨ v = 6 ∨ !z.ctl.st.sounds then z.setFlt linePage 3
  else z.modGov (fun g => { g with baseReq := some (some
    { mag := z.gov.zRep, ph := z.reg Reg.LINE_ZPH, freq := BitVec.ofNat 32 z.fp, tick := z.tick }) })

/-- CLEAR_BASE (R253). -/
def Zone.clearBase (z : Zone) : Zone := z.modGov (fun g => { g with baseReq := some none })

/-! Amplifier fault (R252). -/

/-- DB, RETRY and TRIES of GOV.AMP. -/
def Zone.ampDbTk (z : Zone) : Nat := let d := fld (z.rws 3 Reg.GOV_AMP) 23 16; if d = 0 then 1 else d
def Zone.ampRetry (z : Zone) : Nat := fld (z.rws 3 Reg.GOV_AMP) 15 8
def Zone.ampTries (z : Zone) : Nat := fld (z.rws 3 Reg.GOV_AMP) 7 4

/-- The reported fault's sequence begins: step 1, or step 3 with TRIES = 0; none with RETRY = 0 (R252). -/
def Zone.ampSeq (z : Zone) : Zone :=
  if z.ampRetry = 0 then z
  else if z.ampTries = 0 then (z.modGov (fun g => { g with ampLock := true, ampLow := none, ampRel := none })).ampEval
  else (z.modGov (fun g => { g with ampLow := some 0, ampRel := none })).ampEval

/-- The release of ZnAMPEN at the end of step 1 (R252). -/
def Zone.ampRelease (z : Zone) : Zone :=
  match z.gov.ampLow with
  | none => z
  | some _ =>
    let z := z.count Reg.LINE_COUNT 7 0 1
    (z.modGov (fun g => { g with ampLow := none, ampRel := some 0, retries := min 15 (g.retries + 1) })).ampEval

/-- The low time of step 1 has run. -/
def Zone.lowDone (z : Zone) : Bool := match z.gov.ampLow with | some n => decide (n ≥ z.ampRetry * 960) | none => false

/-- k frames of the retry sequence: step 1's low time, and the DB ms in which a release is judged: the pin still or again
asserted repeats step 1 up to TRIES times and then locks (R252). -/
def Zone.ampSeqRun (z : Zone) (k : Nat) : Zone :=
  match z.gov.ampLow with
  | some n => if n + k ≥ z.ampRetry * 960 then z.ampRelease else z.modGov (fun g => { g with ampLow := some (n + k) })
  | none =>
    match z.gov.ampRel with
    | some n =>
      if n + k < z.ampDbTk * 96 then z.modGov (fun g => { g with ampRel := some (n + k) })
      else if !z.gov.ampFlt then z.modGov (fun g => { g with ampRel := none })
      else if z.gov.retries ≥ z.ampTries then
        (z.modGov (fun g => { g with ampLock := true, ampRel := none })).ampEval
      else (z.modGov (fun g => { g with ampLow := some 0, ampRel := none })).ampEval
    | none => z

/-- AMP_RESET (R252): the sequence starts again while a reported AMPFAULT stands. -/
def Zone.ampReset (z : Zone) : Zone :=
  let z := z.modGov (fun g => { g with ampLock := false, retries := 0 })
  if z.gov.ampFlt && z.gov.verdict == 5 && !z.verdictFences 5 then z.ampSeq
  else (z.modGov (fun g => { g with ampLow := none, ampRel := none })).ampEval

/-! HOLD policy (R255). -/

/-- The timer of HOLD starts. -/
def Zone.holdStart (z : Zone) : Zone :=
  let n := fld (z.rws 3 Reg.GOV_HOLD) 15 0
  (z.setReg Reg.GOV_HSTAT (BitVec.ofNat 32 n)).modGov (fun g => { g with hRun := n != 0 })

/-- The timer expires. -/
def Zone.holdExpire (z : Zone) : Zone :=
  let kill := bit (z.rws 3 Reg.GOV_HOLD) 31
  let z := (z.putBit Reg.GOV_HSTAT 31 true).modGov (fun g => { g with hRun := false })
  (List.finRange 96).foldl (fun (z : Zone) v =>
    match z.voices[v].heldBy with
    | some c => if 4 ≤ c then (if kill then z.vkillOne v else z.vrelOne v) else z
    | none => z) z

/-- A tick boundary of the timer. -/
def Zone.holdTick (z : Zone) : Zone :=
  if z.ctl.st ≠ .hold ∨ !z.gov.hRun then z
  else
    let n := fld (z.reg Reg.GOV_HSTAT) 15 0
    let z := z.putFld Reg.GOV_HSTAT 15 0 (n - 1)
    if n ≤ 1 then z.holdExpire else z

end Sys2Proof.Machine
end

