-- ==== Sys2Proof/Machine/SwapOps.lean ====
section
/-! DEFINITION. Batten swaps and mode changes (R53–R58, R67–R69). -/

namespace Sys2Proof.Machine

/-- A zone with the swap control of a page changed. -/
def Zone.modSwap (z : Zone) (p : Fin 6) (f : ZSwap → ZSwap) : Zone := { z with swaps := vmod z.swaps p f }

/-- PG_SWAP of a page as it reads (Table 3-9). -/
def ZSwap.word (s : ZSwap) : Word :=
  BitVec.ofNat 32 (b2n s.active * 2 ^ 31 + b2n s.pend * 2 ^ 30 + b2n s.copying * 2 ^ 29 + s.result % 4 * 2 ^ 27 + s.tgt.toNat)

/-- The target tick of ARM at TGT: the tick nearest to the present one whose low 24 bits are TGT (R54). -/
def Zone.tgtTick (z : Zone) (tgt : BitVec 24) : BitVec 32 :=
  z.tick + ((tgt - BitVec.extractLsb' 0 24 z.tick : BitVec 24).signExtend 32)

/-- Why an arm of a page for tick t is refused (Table 3-3, R183): 0 accepted, else the reason code of Table 15-3. The
ROUTE page validates its image here. -/
def Zone.armCheck (z : Zone) (p : Fin 6) (t : BitVec 32) : Nat × Zone :=
  if z.ctl.st = .fenced then (0x07, z)
  else if z.swaps[p].pend ∨ z.swaps[p].copying then (0x09, z)
  else if p = 1 then
    if z.spliceBusy t then (0x09, z)
    else
      let (c, z) := z.routeValidate true
      (if c = 0 then 0 else if c = 8 then 0x0B else 0x0A, z)
  else (0, z)

/-- Sets PEND for target tick t (R54). -/
def Zone.armSet (z : Zone) (p : Fin 6) (t : BitVec 32) (copy owned : Bool) : Zone :=
  z.modSwap p (fun s => { s with pend := true, target := t, copy := copy, owned := owned })

/-- An arm of one page: refusal reason or 0 (R54). tgt is the TGT field that the write sets, for ARM at TGT. -/
def Zone.arm (z : Zone) (p : Fin 6) (t : BitVec 32) (tgt : Option (BitVec 24)) (copy : Bool) : Nat × Zone :=
  let (r, z) := z.armCheck p t
  if r ≠ 0 then (r, z)
  else
    let z := z.armSet p t copy false
    (0, match tgt with
      | some g => z.modSwap p (fun s => { s with tgt := g })
      | none => z)

/-- The pages of a mask, in mask-bit order. -/
def maskPages (m : BitVec 6) : List (Fin 6) := (List.finRange 6).filter (fun i => m.getLsbD i.val)

/-- Arms all pages of a mask for one tick, or none: the reason of the first refusing page in mask-bit order (R58). -/
def Zone.armMask (z : Zone) (m : BitVec 6) (t : BitVec 32) (owned : Bool) : Nat × Zone :=
  let (r, z) := (maskPages m).foldl (fun (a : Nat × Zone) p => if a.1 ≠ 0 then a else a.2.armCheck p t) (0, z)
  if r ≠ 0 then (r, z)
  else (0, (maskPages m).foldl (fun z p => z.armSet p t false owned) z)

/-- Whether a tick has been reached, by counting or by a skip (R57). -/
def Zone.reached (z : Zone) (t : BitVec 32) : Bool := decide (tickDist z.tick t ≥ 0)

/-- Records and reports the outcome of a mode change (R68, Table 3-6). -/
def Zone.modeReport (z : Zone) (mode outcome : Nat) (target applied : BitVec 32) (dev : Bool) : Zone :=
  let k := if outcome = 1 then (min 8191 (applied - target).toNat) else 0
  let z := z.setReg Reg.SCHED_MREP (BitVec.ofNat 32 (outcome * 2 ^ 29 + k * 2 ^ 16 + mode % 256))
  let z := z.setReg Reg.SCHED_MREP_TGT target
  let z := if dev then { z with sched := { z.sched with devRep := some outcome } } else z
  z.send clsReport 0x0026 (natLe mode 1 ++ natLe outcome 1 ++ natLe target.toNat 4 ++ natLe applied.toNat 4)

/-- A mode change reaching a zone (R67): refusal reason or 0. -/
def Zone.modeArm (z : Zone) (mode : Nat) (m : BitVec 6) (t : BitVec 32) (dev : Bool) : Nat × Zone :=
  if z.ctl.st = .fenced then (0x07, z.modeReport mode 2 t 0 dev)
  else if z.sched.mode.isSome then (0x0C, z.modeReport mode 3 t 0 dev)
  else
    let (r, z) := z.armMask m t true
    if r ≠ 0 then (r, z.modeReport mode 3 t 0 dev)
    else (0, { z with sched := { z.sched with mode := some { mode := mode, pages := m, target := t, dev := dev } } })

/-- Clears the swaps of a mode change with RESULT REFUSED (R57). -/
def Zone.dropOwned (z : Zone) : Zone :=
  { z with swaps := z.swaps.map (fun s => if s.owned then { s with pend := false, owned := false, result := 3 } else s) }

/-- Cancels the pending mode change with an outcome (R57, R68). -/
def Zone.modeCancel (z : Zone) (outcome : Nat) : Zone :=
  match z.sched.mode with
  | none => z
  | some m =>
    let z := { z.dropOwned with sched := { z.sched with mode := none } }
    z.modeReport m.mode outcome m.target 0 m.dev

/-- DISARM of a page (R57). -/
def Zone.disarm (z : Zone) (p : Fin 6) : Zone :=
  let s := z.swaps[p]
  if !s.pend || z.reached s.target then z
  else if s.owned then z.modeCancel 4
  else (z.modSwap p (fun s => { s with pend := false, result := 3 })).send clsReport 0x0021 (natLe p.val 1 ++ [0])

/-- What a page does when its battens have swapped; the swap control already names the new active batten. -/
def Zone.swapped (z : Zone) (h : HostC) (p : Fin 6) : Zone :=
  match p with
  | 0 => z.blocksSwapped h z.battIn z.battAct
  | 1 => z.routeSwapped z.routeIn z.routeAct
  | 5 =>
    let o := min 48 (fld (z.reg (z.bank 5 true Reg.LIM_CFG)) 5 0)
    let n := min 48 (fld (z.rws 5 Reg.LIM_CFG) 5 0)
    if o = n then z else { z with lim := { z.lim with lookO := o, lookK := 0 } }
  | _ => z

/-- Performs a pending swap at the present tick boundary (R55). -/
def Zone.swapNow (z : Zone) (h : HostC) (p : Fin 6) : Zone :=
  let s := z.swaps[p]
  let t := z.tick
  let z := z.modSwap p (fun s => { s with
    active := !s.active, pend := false, owned := false, tgt := BitVec.extractLsb' 0 24 t,
    result := if s.target = t then 1 else 2, copying := s.copy, copy := false })
  let z := z.swapped h p
  if s.target = t then z
  else z.send clsReport 0x0020 (natLe p.val 1 ++ natLe s.target.toNat 4 ++ natLe t.toNat 4)

/-- Performs every swap whose target is reached, mode changes with their swaps (R55, R67). -/
def Zone.swapsDue (z : Zone) (h : HostC) : Zone :=
  let z := (List.finRange 6).foldl (fun (z : Zone) p =>
    if z.swaps[p].pend && z.reached z.swaps[p].target then z.swapNow h p else z) z
  match z.sched.mode with
  | some m =>
    if z.reached m.target then
      let z := { z with sched := { z.sched with mode := none, cur := m.mode } }
      z.modeReport m.mode (if m.target = z.tick then 0 else 1) m.target z.tick m.dev
    else z
  | none => z

/-- What entering FENCED does to every pending swap and a pending mode change (R57, R68). -/
def Zone.swapsFenced (z : Zone) : Zone :=
  ((List.finRange 6).foldl (fun (z : Zone) p =>
    if z.swaps[p].pend then
      (z.modSwap p (fun s => { s with pend := false, owned := false, result := 3 })).send clsReport 0x0021 (natLe p.val 1 ++ [1])
    else z) z).modeCancel 2

/-- The double-banked registers of a page (Table 9-9, 12-4). -/
def bankedRegs (p : Fin 6) : List Nat :=
  (zoneRegs.filter (fun r => r.acc == .rws && r.off / 1024 == bankedPage p.val / 1024)).map (·.off)

/-- Copies the active batten of a page into its inactive one (R56). -/
def Zone.copyBatten (z : Zone) (p : Fin 6) : Zone :=
  match p with
  | 0 => { z with vox := { z.vox with battA := z.battAct, battB := z.battAct } }
  | 1 => { z with route := { z.route with batA := z.routeAct, batB := z.routeAct } }
  | 2 => { z with dsp := { z.dsp with parA := if z.swaps[(2 : Fin 6)].active then z.dsp.parB else z.dsp.parA,
                                      parB := if z.swaps[(2 : Fin 6)].active then z.dsp.parB else z.dsp.parA } }
  | p => (bankedRegs p).foldl (fun (z : Zone) k => z.setReg (z.bank p true k) (z.reg (z.bank p false k))) z

/-- The copy after a COPY swap ends (R56). -/
def Zone.copyDone (z : Zone) (p : Fin 6) : Zone :=
  (z.copyBatten p).modSwap p (fun s => { s with copying := false })

/-- The copies that a tick boundary finds running have ended: a copy finishes within 1 tick (R56). -/
def Zone.copiesDone (z : Zone) : Zone :=
  (List.finRange 6).foldl (fun (z : Zone) p => if z.swaps[p].copying then z.copyDone p else z) z

end Sys2Proof.Machine
end

