-- ==== Sys2Proof/Machine/DspEvents.lean ====
section
/-! DEFINITION. Requests that reach the zone DSP from outside: the handler queue (R206). -/

namespace Sys2Proof.Machine

/-- The zone DSP runs in the present state (R218). -/
def Zone.dspRuns (z : Zone) : Bool := z.dsp.running && z.live

/-- A HANDLER action: queued in the zone DSP, or discarded when the queue is full or the DSP is not running (R206). It
is queued in the cycle that the bookkeeping window has reached. -/
def Zone.dspHandler (z : Zone) (n : Nat) (arg : Word) : Zone :=
  if z.dsp.running && z.dsp.handlers.length < 16 then
    { z with dsp := { z.dsp with handlers := z.dsp.handlers ++ [(n % 16, arg, z.time.frame, 768 - z.vox.winLeft)] } }
  else (z.count Reg.DSP_COUNT 7 0 1).setFlt 0x3000 6

end Sys2Proof.Machine
end

