-- ==== Sys2Proof/Machine/SchedOps.lean ====
section
/-! DEFINITION. The event queue: posting, due entries, execution, prefetch (R59–R64, R166). -/

namespace Sys2Proof.Machine

/-- Fields of an entry (Table 3-4). -/
def Entry.trigK (e : Entry) : Nat := fld e.e[(0 : Fin 8)] 31 28
def Entry.act (e : Entry) : Nat := fld e.e[(0 : Fin 8)] 27 24
def Entry.cls (e : Entry) : Nat := fld e.e[(0 : Fin 8)] 23 21
def Entry.dir (e : Entry) : Bool := bit e.e[(0 : Fin 8)] 20
def Entry.lunit (e : Entry) : Bool := bit e.e[(0 : Fin 8)] 19
def Entry.dl (e : Entry) : Bool := bit e.e[(0 : Fin 8)] 18
def Entry.pastok (e : Entry) : Bool := bit e.e[(0 : Fin 8)] 17
def Entry.msg (e : Entry) : Bool := bit e.e[(0 : Fin 8)] 16
def Entry.tag (e : Entry) : BitVec 16 := BitVec.extractLsb' 0 16 e.e[(0 : Fin 8)]
def Entry.tval (e : Entry) : BitVec 48 := BitVec.extractLsb' 0 16 e.e[(2 : Fin 8)] ++ e.e[(1 : Fin 8)]
def Entry.expire (e : Entry) : Nat := fld e.e[(2 : Fin 8)] 31 16
def Entry.lead (e : Entry) : Nat := e.e[(3 : Fin 8)].toNat
def Entry.arg0 (e : Entry) : Word := e.e[(4 : Fin 8)]
def Entry.arg1 (e : Entry) : Word := e.e[(5 : Fin 8)]
def Entry.q (e : Entry) : BitVec 48 := BitVec.extractLsb' 0 16 e.e[(7 : Fin 8)] ++ e.e[(6 : Fin 8)]
def Entry.nomdur (e : Entry) : Nat := fld e.e[(7 : Fin 8)] 31 16

/-- A deadline at the execution of a VSTART (R65). -/
def DlSt.begin0 (dir : Bool) (q : BitVec 48) (nom : Nat) : DlSt :=
  { dir := dir, q := q, nom := nom, rate := 1, played := 0, risk := false, miss := false, begun := false }

/-- The lateness of a FRAME or TICK entry in frames, negative while its trigger lies ahead (R61, R62). -/
def Zone.lateness (z : Zone) (e : Entry) : Int :=
  if e.trigK = 0 then fdist z.time.frame e.tval
  else tickDist z.tick e.e[(1 : Fin 8)] * 96 + (z.time.frame.toNat % 96 : Nat)

/-- The fire point P of a POS entry (R63). The rule gives none for LUNIT = 1; there P is taken as p, for what R64 says of a
posting and of a jump (assumption 66). -/
def Entry.fireP (e : Entry) : Rat :=
  let p : Rat := e.tval.toInt
  if e.lunit then p else if e.dir then p + (e.lead : Nat) else p - (e.lead : Nat)

/-- Whether x lies at or beyond P in the entry's direction (R64). -/
def Zone.atP (z : Zone) (e : Entry) : Bool := if e.dir then decide (z.x ≤ e.fireP) else decide (z.x ≥ e.fireP)

/-- The condition of R63 at the present frame boundary, in the entry's own direction, or a SETPOS jump across P (R64). -/
def Zone.posDue (z : Zone) (e : Entry) : Bool :=
  let v : Rat := (z.pos.speed : Rat) / 2 ^ 24
  let p := e.fireP
  (z.pos.jump && z.atP e) ||
  (if e.lunit then
    decide ((if e.dir then v < 0 ∧ p < z.x else v > 0 ∧ p > z.x) ∧ (p - z.x) / v ≤ (e.lead * 96 : Nat) + 1 / 2)
  else if e.dir then decide (z.x + v / 2 ≤ p) else decide (z.x + v / 2 ≥ p))

/-- Reason code and ERR code of a refused POST (R59, R331): 0 accepted. auth tells that it carries P0 authority. -/
def Zone.postCheck (z : Zone) (e : Entry) (auth : Bool) : Nat × Nat :=
  if z.sched.queue.length ≥ 256 then (0x0E, 1)
  else if e.trigK > 3 then (0x0F, 2)
  else if e.act > 7 then (0x10, 3)
  else if e.act = 0 ∧ (6 ≤ e.cls ∨ (e.cls = 0 ∧ !auth)) then (0x11, 4)
  else if e.trigK ≤ 1 ∧ e.expire ≠ 0 ∧ z.lateness e > (e.expire * 96 : Nat) then (0x12, 5)
  else (0, 0)

/-- Posts an entry: the reason of a refusal, or 0 (R59, R64). tend is the last tick of its token. -/
def Zone.post (z : Zone) (w : Vector Word 8) (tend : Option (BitVec 48)) (p0ctl : Bool) : Nat × Zone :=
  let e : Entry := { seq := z.sched.seq, e := w, posted := z.time.frame, trig := none, before := true, past := false,
                     tend := tend, p0ctl := p0ctl }
  let (r, err) := z.postCheck e tend.isSome
  if r ≠ 0 then (r, { z with sched := { z.sched with err := err } })
  else
    let at0 := e.trigK = 2 ∧ z.atP e
    let e := { e with before := !at0, past := at0 ∧ e.pastok }
    let q := z.sched.queue ++ [e]
    (0, { z with sched := { z.sched with queue := q, seq := z.sched.seq + 1, high := max z.sched.high q.length } })

/-- Removes every entry with a nonzero TAG (R60). -/
def Zone.cancel (z : Zone) (tag : BitVec 16) : Zone :=
  if tag = 0 then z
  else { z with sched := { z.sched with queue := z.sched.queue.filter (fun e => e.tag != tag) } }

/-- Empties the queue (R60). -/
def Zone.flush (z : Zone) : Zone := { z with sched := { z.sched with queue := [] } }

/-- An entry after the due entries of a frame have been found: its trigger frame if it has one now (R61 step 3, R64). -/
def Zone.mark (z : Zone) (e : Entry) : Entry :=
  if e.trig.isSome then e
  else match e.trigK with
    | 0 | 1 =>
      let l := z.lateness e
      if l ≥ 0 then { e with trig := some (z.time.frame - BitVec.ofInt 48 l) } else e
    | 3 => { e with trig := some (e.posted + 1) }
    | _ =>
      if e.past then { e with trig := some z.time.frame }
      else
        let e := if !e.before && !z.atP e then { e with before := true } else e
        if e.before && z.posDue e then { e with trig := some z.time.frame }
        else { e with before := e.before && !(e.lunit && z.atP e) }

/-- An entry after a load of FRAME by d (R37): the frames kept for it are of the time before, so the frames that it has waited
stay what they were (R62). -/
def Entry.shift (d : BitVec 48) (e : Entry) : Entry := { e with posted := e.posted + d, trig := e.trig.map (· + d) }

/-- Finds the due entries of a frame (R61 step 3). -/
def Zone.markDue (z : Zone) : Zone :=
  { z with sched := { z.sched with queue := z.sched.queue.map z.mark }, pos := { z.pos with jump := false } }

/-- From ZSLOW, a crossing is recorded at the frame in which it is counted (R64). -/
def Zone.recordCross (z : Zone) : Zone :=
  { z with sched := { z.sched with queue := z.sched.queue.map (fun e =>
      if e.trigK = 2 ∧ e.trig = none then
        (if e.before && !e.lunit && z.atP e then { e with trig := some z.time.frame }
         else { e with before := if e.lunit then !z.atP e else e.before || !z.atP e })
      else e) } }

/-- SCHED_EVENT (R59, R62, Table 15-5): LATE and L in frames. -/
def Zone.schedEvent (z : Zone) (tag : BitVec 16) (late : Bool) (l act : Nat) (arg0 : Word) : Zone :=
  let w := b2n late * 2 ^ 31 + min l (2 ^ 31 - 1)
  z.send clsEvent 0x0030 (natLe tag.toNat 2 ++ natLe w 4 ++ natLe act 1 ++ natLe arg0.toNat 4)

/-- ACT_REFUSED (R60, R334). -/
def Zone.actRefused (z : Zone) (tag : BitVec 16) (reason : Nat) : Zone :=
  z.send clsReport 0x0023 (natLe tag.toNat 2 ++ natLe reason 1)

/-- The target tick of a SWAP or MODE action (Table 3-5): the tick after the present one with NEXT. -/
def Zone.actTick (z : Zone) (next : Bool) (arg1 : Word) : BitVec 32 := if next then z.tick + 1 else arg1

/-- A SWAP action (R58, R60). -/
def Zone.actSwap (z : Zone) (tag : BitVec 16) (arg0 arg1 : Word) : Zone :=
  let (r, z) := z.armMask (BitVec.extractLsb' 0 6 arg0) (z.actTick (bit arg0 31) arg1) false
  if r = 0 then z else z.actRefused tag r

/-- A MODE action (R60, R67). -/
def Zone.actMode (z : Zone) (tag : BitVec 16) (arg0 arg1 : Word) : Zone :=
  let (r, z) := z.modeArm (fld arg0 15 8) (BitVec.extractLsb' 0 6 arg0) (z.actTick (bit arg0 31) arg1) false
  if r = 0 then z else z.actRefused tag r

/-- A GAIN action (Table 3-5, R185). -/
def Zone.actGain (z : Zone) (arg0 arg1 : Word) : Zone :=
  z.gainReq (fld arg0 11 0) (wrapS 36 (fld arg0 19 16 * 2 ^ 32 + arg1.toNat))

/-- A voice start that the scheduler orders (R65, R145); late: it has been counted late already (R62, R135). -/
def Zone.actVstart (z : Zone) (h : HostC) (cls : Nat) (arg0 arg1 : Word) (dl : Option DlSt) (late : Bool) : Zone :=
  (z.vstart h 0 cls arg0 arg1 dl (!late)).2

/-- Cycles of a VREL, VCTL or VKILL: 4 per addressed voice (Table 7-5). -/
def Zone.addrCost (z : Zone) (arg1 : Word) : Nat := 4 * (z.addressed (handleOf arg1)).length

/-- Executes one action (Table 3-5). -/
def Zone.doAct (z : Zone) (h : HostC) (e : Entry) (late : Bool) : Zone :=
  let pr : P0Right := if e.p0ctl then .full else .host
  match e.act with
  | 0 => z.actVstart h e.cls e.arg0 e.arg1 (if e.dl then some (DlSt.begin0 e.dir e.q e.nomdur) else none) late
  | 1 => z.vrel pr e.arg1
  | 2 => z.vctl pr e.arg0 e.arg1
  | 3 => z.actSwap e.tag e.arg0 e.arg1
  | 4 => z.actMode e.tag e.arg0 e.arg1
  | 5 => z
  | 6 => z.actGain e.arg0 e.arg1
  | _ => z.dspHandler (fld e.arg0 3 0) e.arg1

/-- Executes one due entry (R61 step 4, R62, R334): it leaves the queue. -/
def Zone.execEntry (z : Zone) (h : HostC) (e : Entry) : Zone :=
  let z := { z with sched := { z.sched with queue := z.sched.queue.filter (fun x => x.seq != e.seq) } }
  let l := if e.past then 0 else (fdist z.time.frame (e.trig.getD z.time.frame)).toNat
  if e.expire ≠ 0 ∧ l > e.expire * 96 then
    (z.count Reg.SCHED_COUNT 15 8 1).send clsReport 0x0022 (natLe e.tag.toNat 2 ++ natLe l 4)
  else
    let late := decide (l > 0) || e.past
    let z := if late then z.count Reg.SCHED_COUNT 7 0 1 else z
    if e.tend.any (fun t => decide (z.time.frame.toNat / 96 > t.toNat)) then z.actRefused e.tag 0x23
    else
      let z := z.doAct h e late
      if e.msg || e.act == 5 then z.schedEvent e.tag late l e.act e.arg0 else z

/-- Cycles of a bookkeeping window left, and the zone; work that does not fit sets BOOK_LATE (R84, R138). -/
structure Window where
  left : Nat
  cut  : Bool
  z    : Zone

/-- One bookkeeping item of a given cost: executed if it fits the window, else left whole for the next, which it costs again in
full (R84; assumption 65). -/
def Window.item (w : Window) (cost : Nat) (f : Zone → Zone) : Window :=
  if w.cut then w
  else if cost ≤ w.left then
    let n := w.left - cost
    { w with left := n, z := f { w.z with vox := { w.z.vox with winLeft := n } } }
  else { w with cut := true }

/-- The cycles of the copy that a start makes now: none with ARG0 = 0 or a preset that is not cached (Table 7-5, R134). -/
def Zone.copyCost (z : Zone) (h : HostC) (item : Word) : Nat :=
  if item = 0 then 0
  else match z.presetItem h item with
    | some it => if z.presetHere it then 36 else 0
    | none => 0

/-- The cycles of a VSTART (Table 7-5): none where it takes no voice. -/
def Zone.startCost (z : Zone) (h : HostC) (cls : Nat) (item : Word) : Nat :=
  if item ≠ 0 ∧ (z.presetItem h item).isNone then 0
  else if z.mayTake cls then 12 + z.copyCost h item
  else match z.victim cls with
    | some v => 16 + (if z.voices[v].life = .wait ∨ z.voices[v].fresh then z.copyCost h item else 0)
    | none => 0

/-- The cycles an action will take, known before it is executed (Table 7-5). -/
def Zone.costOf (z : Zone) (h : HostC) (cls act : Nat) (arg0 arg1 : Word) : Nat :=
  match act with
  | 0 => z.startCost h cls arg0
  | 1 | 2 => z.addrCost arg1
  | _ => 0

/-- Executes the due entries of a frame: at most 16, in queue order, within the window (R61 step 4, R84). -/
def Window.entries (w : Window) (h : HostC) : Window :=
  let due := w.z.sched.queue.filter (fun e => e.trig.isSome)
  let n := 16 - w.z.vox.winN
  let w := if due.length > n then { w with z := w.z.putBit Reg.SCHED_STAT 1 true } else w
  (due.take n).foldl (fun (w : Window) e =>
    w.item (w.z.costOf h e.cls e.act e.arg0 e.arg1) (fun z =>
      { z with vox := { z.vox with winN := z.vox.winN + 1 } }.execEntry h e)) w

/-! Prefetch (R166). -/

/-- Whether a VSTART entry qualifies for prefetch, with the frame at which it falls due; a POS entry by the time at which its
condition of R63 is predicted, at the present speed, to hold (R166). -/
def Zone.prefQual (z : Zone) (cfg : Word) (e : Entry) : Option (BitVec 48) :=
  let hor := fld cfg 15 0
  if e.act ≠ 0 ∨ hor = 0 then none
  else if e.trig.isSome ∨ e.trigK = 3 then some z.time.frame
  else if e.trigK ≤ 1 then
    let l := z.lateness e
    if -l ≤ hor * 96 then some (z.time.frame - BitVec.ofInt 48 l) else none
  else
    let v : Rat := (z.pos.speed : Rat) / 2 ^ 24
    let on := if e.dir then decide (v < 0) else decide (0 < v)
    let t0 := if on then (e.fireP - z.x) / v else -1
    let t := if e.lunit ∧ 0 ≤ t0 then max 0 (t0 - (e.lead * 96 : Nat)) else t0
    if 0 ≤ t ∧ t ≤ (hor * 96 : Nat) then some (z.time.frame + BitVec.ofInt 48 t.floor)
    else if bit cfg 24 then some (z.time.frame + BitVec.ofNat 48 (hor * 96)) else none

/-- The blocks holding START and the eight taps after it, for the oscillators of a cached preset (R166). -/
def Zone.presetBlocks (z : Zone) (h : HostC) (it : Item) : List Nat :=
  let m := iter 32 (fun i m => m72Set m i (z.presetWord it i)) []
  (List.range 3).flatMap (fun n =>
    let p := oscP m 0 n
    match p.mode with
    | 1 => match h.wHdr p.item with
      | some (it, _, l, w) => [it.first + waveOff l w (p.morph / 1024) 0 0 / 4096]
      | none => []
    | 2 | 3 => match h.src p with
      | some s => ((List.range 9).flatMap (fun j => match s.tap s.begin0 (s.start + j : Nat) with
        | some i => s.blocks i | none => [])).dedup
      | none => []
    | _ => [])

/-- Prefetch lines in use: lines held, and prefetches queued or waiting for the queue (R157, R166). -/
def ZCache.prefUse (c : ZCache) : Nat :=
  (c.lines.filter (fun l => !l.held.isEmpty)).length + ((c.queue ++ c.wait).filter (fun f => f.rank == 2)).length

/-- The prefetch requests of one entry (R166). -/
def Zone.prefEntry (z : Zone) (h : HostC) (cfg : Word) (e : Entry) : Zone :=
  match z.prefQual cfg e with
  | none => z
  | some due =>
    match z.presetItem h e.arg0 with
    | none => z
    | some it =>
      let bs := if z.presetHere it then z.presetBlocks h it else [it.first]
      bs.foldl (fun (z : Zone) b =>
        if z.cache.prefUse < min 128 (fld cfg 23 16) then
          z.fetchReq (Fetch.new 2 e.cls due b e.seq 96)
        else z) z

/-- The scheduler's prefetches of a frame; holds and waiting prefetches of entries that have left are given up (R157,
R166). -/
def Zone.prefetch (z : Zone) (h : HostC) : Zone :=
  let here := fun (s : BitVec 32) => z.sched.queue.any (fun e => e.seq == s)
  let c := { z.cache with
    lines := z.cache.lines.map (fun l => { l with held := l.held.filter here }),
    wait := z.cache.wait.filter (fun f => if f.rank = 2 then here f.entry
      else z.voices[fin 96 f.voice].life != .free && !z.voices[fin 96 f.voice].ended) }
  let cfg := h.reg (Reg.CONT_ZCFG z.id.val)
  z.sched.queue.foldl (fun (z : Zone) e => z.prefEntry h cfg e) { z with cache := c }

end Sys2Proof.Machine
end

