-- ==== Sys2Proof/Machine/EngineHooks.lean ====
section
/-! DEFINITION. What a change of the zone's state does to the zone DSP, the measurement chain, the governor, the outputs and
the memories. -/

namespace Sys2Proof.Machine

/-- A pointer with all fields 0. -/
def Ptr.zero : Ptr := { y := false, base := 0, len := 0, a := 0, lnext := 0 }

/-- The zone DSP after a zone-local reset with its memories cleared (R10, R213, R218). -/
def ZDsp.zero : ZDsp :=
  { g := Vector.replicate 64 0, acc := Vector.replicate 4 AccSt.zero, accOld := Vector.replicate 4 AccSt.zero
    pt := Vector.replicate 8 Ptr.zero, lc := 0, ro := 0, ix := 0, q := 1, pc := 0, loop := none, pend := []
    prog := [], data := [], parA := [], parB := [], dly := [], stale := []
    diIn := Vector.replicate 64 0, doReg := Vector.replicate 64 0, doOut := Vector.replicate 64 0
    rqA := 0, rqB := 0, reqs := [], late := [], rqFull := false, rtn := none, hnum := 0, harg := 0, tcause := 0, tpc := 0
    sat := false, tapclamp := false, wcoll := false, regdeny := false, raddr := 0, handlers := [], timerEv := 0
    running := false, loaded := false, abandoned := false, dead := false, cycle := 0, delay := 0, lastEnd := 0, met := 0 }

/-- The zone DSP stops (R16, R218): results under way and the running routine are lost. -/
def Zone.dspStop (z : Zone) : Zone :=
  { z with dsp := { z.dsp with pend := [], rtn := none, loop := none, doOut := Vector.replicate 64 0, reqs := [], late := [] } }

/-- A fence or a zone-local reset during a span sequence: the switch and the common-mode ramp complete, the rise does not
come (R262). -/
def ZOut.cutSeq (o : ZOut) : ZOut := { o with seqCut := o.seqCut || o.seq != 0, seq := if o.seq ≥ 4 then 0 else o.seq }

/-- The output on entry to FENCED (R16, R264). -/
def Zone.outFence (z : Zone) : Zone := (z.modOut (fun o => { o.cutSeq with mu := 0, wait := true, onT := none, fTicks := none })).ampEval.parkCodes

/-- The output on any change of state from old (R261–R265, R269, R272, R273, R275). -/
def Zone.outState (z : Zone) (old : ZSt) : Zone :=
  let z := z.modOut (fun o => { o with ampKeep := o.ampen })
  let z := match z.ctl.st with
    | .off =>
      { z with
        out := { z.out with
          mu := 0, wait := true, cmok := false, seq := 0, seqT := 0, seqDue := false, spanReq := none, cmT := 0, onT := none, fTicks := none
          codes := Vector.replicate 4 0, cm := 0, parkN := 0 }
        pwr := { z.pwr with pinHold := true } }.modOut ZOut.pilotOff
    | .init =>
      let z := z.modOut (fun o => { o.cutSeq with
        mu := 0, wait := true, onT := none, fTicks := none, span := if old == ZSt.off then 1 else o.span
        cmok := o.cmok || (old != ZSt.off && 4 ≤ o.span && z.pwr.zvaReg && !z.pwr.pinHold) })
      z.modOut ZOut.pilotOff
    | .fenced => z.modOut ZOut.pilotOff
    | .test => (z.modOut ZOut.pilotOff).testRestart
    | .recover => (z.modOut (fun o => { o with fTicks := none })).testRestart.pilotAgain
    | _ => if old.sounds then z else z.pilotAgain
  ((z.modOut (fun o => if z.ctl.st.sounds && o.mu == 0 then { o with wait := true, onT := none } else o)).ampEval).parkCodes

/-- The governor after a zone-local reset (R245, R249, R252, R253, R255). -/
def Zone.govReset (z : Zone) : Zone :=
  let z := z.verdictSet 0
  let z := z.modGov (fun g => { g with
    ampLock := false, retries := 0, ampLow := none, ampRel := none, measured := false, iStart := none, cand := 0, runLen := 0
    hRun := false })
  z.putBit Reg.GOV_HSTAT 31 false

/-- What leaving INIT starts: NAL and Ridge cleared (R190, R245). -/
def Zone.initEnd (z : Zone) : Zone :=
  { z with
    lim := { z.lim with line := [], g := g36One, y := 0, lookK := 96 }
    gov := { z.gov with nal := z.gov.nal.map (fun (b : NalBand) => { b with
      acc := 0, code := 0, old := 0, z1 := 0, z2 := 0, untr := 0, tcode := 0 }) } }

/-- The measurement chain and the governor on a change of state from old (R19, R220, R245, R251, R255). -/
def Zone.govState (z : Zone) (old : ZSt) : Zone :=
  let z := if old = .init ∧ z.ctl.st ≠ .init then z.initEnd else z
  let z := if old = .hold ∧ z.ctl.st ≠ .hold then z.modGov (fun g => { g with hRun := false }) else z
  let z := if z.ctl.st.chain && !old.chain then z.chainStart else z
  match z.ctl.st with
  | .init => z.govReset
  | .hold => z.holdStart
  | .recover => (z.modGov (fun g => { g with iStart := none, cand := 0, runLen := 0 })).verdictSet 0
  | .fenced | .off => z.modGov (fun g => { g with iStart := none })
  | _ => z

/-- The synchronising reset of the measurement chain falls on a tick boundary that a load makes (R37, R228). -/
def Zone.syncDue (z : Zone) : Zone :=
  if z.chainOn then { z with dec := z.dec.map (fun (d : ZDec) => { d with srst := true }) } else z

/-- The synchronising reset of the measurement chain in a frame that was a tick boundary before its load (R37, R228). -/
def Zone.syncReset (z : Zone) : Zone := if z.chainOn then z.decLoadAll else z

/-- Whether the condition of cause VERDICT has cleared (R251, Table 1-4). -/
def Zone.verdictClear (z : Zone) : Bool := z.gov.fenceV != 5 || !z.gov.ampFlt

/-- An echo-canceller channel with its memory cleared. -/
def AecCh.zero : AecCh :=
  { w := List.replicate 2048 0, ckpt := none, copy := none, front := [], frontO := [], settle := 24, d := 0, dOk := false, dOvl := false
    e := 0, eOk := false, dt := 0, adapt := false, floor := false, div := false, erle := 0, ed := 0, ee := 0, wn := 0
    wAdapt := false, wDt := false, wEnd := false, lastDiv := false, clr := false }

/-- Memories cleared by a cold start, or by a warm start, which keeps the batten, route and DSP program memories (R10,
R218). -/
def Zone.memClear (z : Zone) (keep : Bool) : Zone :=
  let d := z.dsp
  let dsp := if keep then { ZDsp.zero with prog := d.prog, loaded := d.loaded } else ZDsp.zero
  let marks := if keep then
      z.mem.marks.filter (fun p => p.2 == 2 && [memProg, memBatten, memRoute].contains (p.1 / 2 ^ 20))
    else []
  { z with
    dsp := dsp
    cache := { z.cache with mem := [] }
    vox := if keep then z.vox else { z.vox with battA := [], battB := [] }
    route := if keep then z.route else { z.route with batA := [], batB := [], inactOk := false, latAct := [], latIn := [] }
    dec := if keep then z.dec else z.dec.map (fun (d : ZDec) => { d with bank0 := decBankReset, bank1 := decBankReset })
    aec := { z.aec with ch := Vector.replicate 2 AecCh.zero, x := [], refIn := [], win := 0, bands := z.aec.bands.map (fun (v : Vector BandSt 7) => v.map BandSt.clear) }
    mem := { z.mem with marks := marks } }.putBit Reg.DSP_CTL 0 false

/-- A word of the batten, route or DSP program memory is uncorrectable (R10). -/
def Zone.badKept (z : Zone) : Bool :=
  z.mem.marks.any (fun p => p.2 == 2 && [memProg, memBatten, memRoute].contains (p.1 / 2 ^ 20))

end Sys2Proof.Machine
end

