-- ==== Sys2Proof/Machine/CtlOps.lean ====
section
/-! DEFINITION. Zone states: fence causes, entering FENCED, starts, the watchdog, orphan and heartbeat (chapter 1). -/

namespace Sys2Proof.Machine

/-- FENCE.EN as it acts: the bits for ECC, ROUTER, REGC, REGA, SELFTEST and HOST are fixed at 1 (R13). -/
def Zone.fenceEn (z : Zone) : Nat := (z.reg Reg.FENCE_EN).toNat ||| 0x3E2

/-- Causes as a set of bit numbers, rising. -/
def causeList (m : Nat) : List Nat := (List.range 10).filter (fun i => m / 2 ^ i % 2 == 1)

/-- A change of state with what it does to the engines (chapters 10–13). -/
def Zone.enter (z : Zone) (s : ZSt) : Zone :=
  let old := z.ctl.st
  ((z.goto s).outState old).govState old

/-- Discards every queued message that is not of class FAULT (R16 step 4). -/
def Zone.dropMsgs (z : Zone) : Zone :=
  let keep := z.msgs.q.filter (fun r => r.cls == clsFault)
  let n := z.msgs.q.length - keep.length
  { z with msgs := { z.msgs with q := keep } }.count Reg.MSG_DROPPED 15 0 n

/-- The FENCE message of a cause (Table 15-5). -/
def Zone.fenceMsg (z : Zone) (c : Nat) : Zone :=
  z.send clsFault 0x0001 (natLe c 1 ++ natLe (z.reg Reg.FENCE_CAUSE).toNat 2)

/-- The fence's own registers and what a fence ends of the zone's control (R13, R15, R6). -/
def Zone.fenceMark (z : Zone) (causes : Nat) : Zone :=
  let z := z.setReg Reg.FENCE_CAUSE (BitVec.ofNat 32 causes)
  let z := z.setReg Reg.FENCE_FIRST (BitVec.ofNat 32 ((causeList causes).headD 0 + 1))
  let z := z.setReg Reg.FENCE_FIRST_FRAME (BitVec.extractLsb' 0 32 z.time.frame)
  let z := z.count Reg.FENCE_COUNT 15 0 1
  { z with ctl := { z.ctl with runHeld := false, testsOk := false, resume := false } }

/-- The engines stop at a fence (R16, R153, R183, R218). -/
def Zone.fenceStop (z : Zone) : Zone :=
  let z := ((z.outFence).dropVoices.dspStop).spliceDrop
  { z with vox := { z.vox with duckA := 0, duckP := g36One, duckT := g36One, duckOn := false } }

/-- Entry into FENCED with a set of causes (R15, R16, R20, R57, R153, R183, R218). -/
def Zone.fenceNow (z : Zone) (causes : Nat) : Zone :=
  let z := ((z.fenceMark causes).dropMsgs).fenceMsg ((causeList causes).headD 0)
  ((z.enter .fenced).fenceStop).swapsFenced

/-- The causes that can arise in the present state (R13; assumption 82): in INIT only ROUTER, REGC, REGA and HOST, and SELFTEST in TEST
alone. -/
def Zone.arising (z : Zone) (causes : Nat) : Nat :=
  if z.ctl.st = .off then 0 else if z.ctl.st = .init then causes &&& 0x2E0 else causes

/-- Causes detected in the same cycle (R13, R15): enabled ones fence the zone, disabled ones set PEND with a FENCE_PEND
message; in FENCED the bits are set and one FAULT message each is sent. -/
def Zone.raise (z : Zone) (causes : Nat) : Zone :=
  let causes := z.arising causes
  if causes = 0 then z
  else
    let en := causes &&& z.fenceEn
    let dis := (causeList causes).filter (fun i => z.fenceEn / 2 ^ i % 2 == 0)
    let z := dis.foldl (fun z i => (z.putBit Reg.FENCE_PEND i true).send clsFault 0x0002 (natLe i 1)) z
    if en = 0 then z
    else if z.ctl.st = .fenced then
      (causeList en).foldl (fun z i => (z.putBit Reg.FENCE_CAUSE i true).fenceMsg i) z
    else z.fenceNow en

/-- A command that has no effect in the present state is counted (R6). -/
def Zone.reject (z : Zone) : Zone := z.count Reg.FENCE_COUNT 31 16 1

/-- Whether every cause bit of the present fence has its condition cleared (Table 1-4). -/
def Zone.causesClear (z : Zone) : Bool :=
  let c := z.reg Reg.FENCE_CAUSE
  (!bit c 0 || z.pll.lock) && (!bit c 4 || z.verdictClear) && (!bit c 7 || z.pwr.regaOk)

/-- A cold start of the zone's memories, gain registers and content list (R10, R170, R185). -/
def Zone.coldMem (z : Zone) : Zone :=
  let z := (z.memClear false).gainsCold
  { z with cache := { z.cache with lines := [], queue := [], wait := [], fenced := [] } }

/-- A warm start of the memories (R10): the batten, route and DSP program memories are kept if every word reads
correctable, or else the zone continues as a cold start with WARM_LOST. -/
def Zone.warmMem (z : Zone) : Zone :=
  if z.badKept then { z.coldMem with ctl := { z.coldMem.ctl with warmLost := true } }
  else
    let z := (z.memClear true).gainsWarm
    { z with cache := { z.cache with lines := [], queue := [], wait := [] }, ctl := { z.ctl with warmLost := false } }

/-- The counters stop following the PLL and run from ZSLOW (R32, R49): a free-running interval opens if they followed a
locked PLL, a stop by DISABLE or a reset among them (R34; assumption 77). -/
def Zone.toSlow (z : Zone) : Zone :=
  let opens := z.pll.lock && !z.time.free
  { z with
    pll := { z.pll with lock := false, hold := false, slewing := false, small := 0, valid := 0, big := 0 }
    pos := { z.pos with frac := 0 }
    time := { z.time with
      est := true, slowAcc := 0, subf := 0
      free := z.time.free || z.pll.lock || z.pll.hold
      hFr := if opens then 0 else z.time.hFr
      sFr := if opens then 0 else z.time.sFr } }.parkCodes

/-- A zone-local reset restarts the PLL only if it is unlocked or FENCE.CAUSE.PLL is set (R11). -/
def Zone.initPll (z : Zone) : Zone := if !z.pll.lock || bit (z.reg Reg.FENCE_CAUSE) 0 then z.toSlow else z

/-- Entry into INIT clears the fence causes and begins its own counts (R10–R12). -/
def Zone.initMark (z : Zone) (warm : Bool) : Zone :=
  let z := (z.setReg Reg.FENCE_CAUSE 0).setReg Reg.FENCE_FIRST 0
  { z with ctl := { z.ctl with
    runHeld := false, testsOk := false, resume := false, warm := warm, initTicks := 0, initSlow := false,
    marchFail := false, ladFail := false } }

/-- The queue is emptied, voices free, the engines stopped (R10, R60). -/
def Zone.initStop (z : Zone) : Zone := ((z.flush.dropVoices).dspStop).spliceDrop

/-- The memories of a start (R10). -/
def Zone.initMem (z : Zone) (warm : Bool) : Zone := if warm then z.warmMem else z.coldMem

/-- The core regulator of a start (R20): a core that was gated has power again. ZVA comes into regulation by its own event
(R265). -/
def Zone.initPower (z : Zone) : Zone := { z with pwr := { z.pwr with gated := false, zvcLim := false, zvcReg := true } }

/-- Entry into INIT (R10–R12, R60): fence causes cleared, queue emptied, voices free, swaps and modes as they are. -/
def Zone.toInit (z : Zone) (warm : Bool) : Zone :=
  ((((z.initPll.initMark warm).initStop).initMem warm).initPower).enter .init

/-- Reset values of the zone's pages at ENABLE (Table 18-6): RW, RWS, RC and W1C fields of every page but ZCTL and FENCE. -/
def enableReg (k : Nat) (v : Word) : Word :=
  let off := if k ≥ 0x8000 then k - 0x8000 else k
  if off < 0x0800 then v
  else match zoneSpec off with
    | some r =>
      let m : Word := if r.acc = .rc then 0xFFFFFFFF else BitVec.ofNat 32 (r.rw ||| r.w1c)
      (v &&& ~~~m) ||| (BitVec.ofNat 32 r.reset &&& m)
    | none => if off % 1024 = 0x018 then v else 0

/-- A register map with a function applied to every stored word, in canonical form. -/
def mapRegs (f : Nat → Word → Word) (m : RegMap) : RegMap :=
  (m.map (fun p => (p.1, f p.1 p.2))).filter (fun p => p.2 != zoneRst p.1)

/-- The watchdog is suspended: HOLD with the host as source (R14). -/
def Zone.wdSuspended (z : Zone) : Bool := z.ctl.st == .hold && z.ctl.wdHost

/-- A watchdog period starts (R411): the PERIOD and SRC then in force. -/
def Zone.wdStart (z : Zone) : Zone :=
  let w := z.reg Reg.ZCTL_WDOG
  { z with ctl := { z.ctl with wdLen := fld w 15 0, wdHost := bit w 16, wdRun := 0 } }

/-- A suspended watchdog restarts with a full period as the zone leaves HOLD for RUN (R14); one that the zone program kicks
runs on. -/
def Zone.wdRestart (z : Zone) : Zone := if z.wdSuspended ∧ z.ctl.wdLen ≠ 0 then z.wdStart else z

/-- The resume of RUN or HOLD at a tick boundary that TEST or HOLD waits for (R7). -/
def Zone.toRun (z : Zone) : Zone :=
  if bit (z.reg Reg.ZCTL_CFG) 3 && (z.ctl.orphan || z.ctl.hcloss) && z.ctl.st != .hold then z.enter .hold
  else z.enter .run

/-- The state work of a tick boundary: RUN from TEST (R6, R7), RESUME from HOLD. -/
def Zone.stateTick (z : Zone) : Zone :=
  if z.ctl.st = .test ∧ z.ctl.testsOk ∧ (z.ctl.runHeld ∨ bit (z.reg Reg.ZCTL_CFG) 0) then
    { z with ctl := { z.ctl with runHeld := false, testsOk := false } }.toRun
  else if z.ctl.st = .hold ∧ z.ctl.resume then
    let z := { z with ctl := { z.ctl with resume := false } }
    if z.ctl.orphan || z.ctl.hcloss then z
    else z.wdRestart.enter .run
  else z

/-! Orphan and host-complex loss (R22, R23). -/

/-- A WHY condition arises: RUN with HOLD_EN = 1 enters HOLD (R22, R23). -/
def Zone.whyHold (z : Zone) : Zone :=
  if z.ctl.st = .run ∧ bit (z.reg Reg.ZCTL_CFG) 3 then z.enter .hold else z

/-- ORPHAN_TO as it acts (R22). -/
def Zone.orphanTo (z : Zone) : Nat := let t := fld (z.reg Reg.ZCTL_CFG) 31 16; if t = 0 then 1 else t

/-! Watchdog (R411, R14) and trap bucket (R13). -/

/-- The watchdog's count at a tick boundary. -/
def Zone.wdTick (z : Zone) : Zone :=
  if z.ctl.wdLen = 0 ∨ z.wdSuspended then z else { z with ctl := { z.ctl with wdRun := z.ctl.wdRun + 1 } }

/-- The expiry of a watchdog period that has run out (R411). -/
def Zone.wdExpire (z : Zone) : Zone := (z.wdStart).raise 0x08

/-- A zone DSP trap adds 1 to the trap bucket; reaching LIMIT raises STORM (R13, Table 1-8). -/
def Zone.bucketAdd (z : Zone) : Zone :=
  let b := satAdd 255 z.ctl.bucket 1
  let l := fld (z.reg Reg.FENCE_STORM) 7 0
  let z := { z with ctl := { z.ctl with bucket := b } }
  if b ≥ (if l = 0 then 1 else l) then z.raise 0x04 else z

/-- WINDOW as it acts. -/
def Zone.leakWindow (z : Zone) : Nat := let w := fld (z.reg Reg.FENCE_STORM) 15 8; if w = 0 then 1 else w

/-- The trap bucket loses 1 (R13). -/
def Zone.bucketLeak (z : Zone) : Zone :=
  { z with ctl := { z.ctl with bucket := z.ctl.bucket - 1, leakTicks := z.ctl.leakTicks - z.leakWindow } }

end Sys2Proof.Machine
end

