-- ==== Sys2Proof/Machine/TimeOps.lean ====
section
/-! DEFINITION. Frame counting, the PLL, track position, speed and timers (R28–R51, R410). -/

namespace Sys2Proof.Machine

/-! Frame reference and PLL. -/

/-- D of an FREF_RATE code: frames per FREF period (Table 2-1). -/
def frefD (rate : Nat) : Nat := if rate = 0 then 1 else if rate = 1 then 2 else if rate = 2 then 12 else 96

/-- The PLL takes FREF edges: the zone is on, its core is powered, and neither sleep nor debug halt stops the PLL. -/
def Zone.pllRuns (z : Zone) : Bool := z.ctl.st != .off && !z.pwr.gated && !z.pwr.asleep && !z.pwr.halted

/-- An interval within ±500 ppm of nominal (R29). -/
def frefValid (rate interval : Nat) : Bool :=
  let p := frefD rate * 7680
  decide ((interval - p) * 2000 ≤ p ∧ (p - interval) * 2000 ≤ p)

/-- HPPM or SPPM as it acts: 0 acts as 1 (Table 2-7). -/
def atLeast1 (n : Nat) : Nat := if n = 0 then 1 else n

/-- The drift budget of the free-running interval exceeds 1 (R34). -/
def Zone.driftOver (z : Zone) : Bool :=
  let c := z.reg Reg.PLL_CFG
  decide (z.time.hFr * atLeast1 (fld c 23 16) + z.time.sFr * atLeast1 (fld c 31 24) > frefD z.pll.rate * 500000)

/-- Judges NUM_DOUBT at the lock that ends a free-running interval (R34). -/
def Zone.judge (z : Zone) : Zone :=
  let doubt := z.time.free && z.driftOver
  let z := { z with time := { z.time with free := false, hFr := 0, sFr := 0 } }
  if doubt then (z.putBit Reg.TIME_STAT 1 true).send clsReport 0x0012 [] else z

/-- RELOCK with e, counted (R33, R51). -/
def Zone.relock (z : Zone) (e : Int) : Zone :=
  (z.count Reg.PLL_COUNT 15 0 1).send clsReport 0x0011 (intLe e 4)

/-- FRAME at the nearest boundary whose number is a multiple of D: e is the signed distance from the FREF edge to it (R29,
R30). After the last such number comes 0, at the wrap of FRAME (assumption 79). -/
def Zone.aligned (z : Zone) (e : Int) : BitVec 48 :=
  let d := frefD z.pll.rate
  let n := (z.time.frame.toNat / d + if e ≤ 0 then 0 else 1) * d
  BitVec.ofNat 48 (if n < 2 ^ 48 then n else 0)

/-- A lock that aligns by a step (R30, R51). -/
def Zone.lockStep (z : Zone) (e : Int) : Zone :=
  let z := { z with
    time := { z.time with frame := z.aligned e, subf := 0, est := false, slowAcc := 0 }
    pll := { z.pll with lock := true, hold := false, slewing := false, everLock := true, slewE := e } }
  let z := if z.ctl.st = .init then z else z.relock e
  z.judge

/-- Entry into holdover or, from a slew, the return to it (R31, R33): at the entry the frequency word freezes at the average
over the last good edges, which PLL.FOFS then shows (assumption 15); the return keeps that word. -/
def Zone.holdEnter (z : Zone) : Zone :=
  if z.pll.slewing then { z with pll := { z.pll with slewing := false, valid := 0, small := 0, big := 0, bad := 0 } }
  else
    let z := { z with
      pll := { z.pll with hold := true, lock := false, valid := 0, small := 0, big := 0, bad := 0, holdTk := 0
                          fofs := Config.fofs z.id.val z.draws }
      draws := z.draws + 1
      time := { z.time with free := true
                            hFr := if z.time.free then z.time.hFr else 0
                            sFr := if z.time.free then z.time.sFr else 0 } }
    (z.count Reg.PLL_COUNT 31 16 1).send clsFault 0x0010 []

/-- Whether a condition of R31 holds for a zone that is locked or slews, elapsed ZCORE cycles after the last valid edge. Until
16 edges at a new rate have arrived only the missing edge counts (R30). The e that a slew is removing is none of its
conditions (assumption 61). -/
def Zone.holdDue (z : Zone) (elapsed : Nat) : Bool :=
  (z.pll.lock || z.pll.slewing) &&
    (decide (elapsed * 2 > frefD z.pll.rate * 7680 * 3) ||
      (!z.pll.rateChg && (z.pll.bad ≥ 2 || (!z.pll.slewing && z.pll.big ≥ 4))))

/-- HOLDOVER (R31): an edge that has been missing for 1.5 periods leaves no valid last interval (FREF_OK). -/
def Zone.holdover (z : Zone) (elapsed : Nat) : Zone :=
  if z.pllRuns && z.holdDue elapsed then
    let gone := decide (elapsed * 2 > frefD z.pll.rate * 7680 * 3)
    { z with pll := { z.pll with frefOk := z.pll.frefOk && !gone } }.holdEnter
  else z

/-- What an FREF edge does to the PLL's judgement of its edges (R29, R31, R37). sync: level of SYNC sampled at a valid
edge. -/
def Zone.edgeSeen (z : Zone) (interval : Nat) (e : Int) (sync : Bool) : Zone :=
  let ok := frefValid z.pll.rate interval
  let p := z.pll
  let near := decide (0 < p.small ∧ (e - p.ref).natAbs ≤ 4)
  let valid := if ok then min 16 (p.valid + 1) else 0
  { z with
    pll := { p with
      phase := satS 32 e
      frefOk := ok && p.valid ≥ 1
      valid := valid
      small := if !ok then 0 else if near then min 16 (p.small + 1) else 1
      ref := if ok && !near then e else p.ref
      bad := if ok then 0 else min 2 (p.bad + 1)
      big := if e.natAbs > 64 then min 4 (p.big + 1) else 0
      rateChg := p.rateChg && valid < 16 }
    time := { z.time with
      syncHi := if ok then sync else z.time.syncHi } }

/-- An FREF edge (R28–R34, R51): every lock reached in INIT aligns by a step (R30). -/
def Zone.frefEdge (z : Zone) (interval : Nat) (e : Int) (sync : Bool) : Zone :=
  if !z.pllRuns then z
  else
    let z := z.edgeSeen interval e sync
    if z.pll.lock then z
    else if z.pll.hold && z.ctl.st != .init then
      if !z.pll.slewing && z.pll.valid ≥ 16 then { z with pll := { z.pll with slewing := true, slewE := e, slewN := 0 } } else z
    else if z.pll.small ≥ 16 then z.lockStep e
    else z

/-- PLL.HOLD.SLEW as it acts. -/
def Zone.slewPpm (z : Zone) : Nat := atLeast1 (fld (z.reg Reg.PLL_HOLD) 15 8)

/-- An offset of no more than SLEW ppm can have removed e to within 4 cycles in the frames since step 1, the present one
included (R33 step 2). -/
def Zone.slewRun (z : Zone) : Bool :=
  decide ((z.pll.slewE.natAbs - 4) * 1000000 ≤ (z.pll.slewN + 1) * 7680 * z.slewPpm)

/-- PLL.FOFS: the frozen word in holdover, offset by no more than SLEW ppm while it slews; else as the PLL measures it (R31,
R33; assumption 15). -/
def Zone.fofsRead (z : Zone) : Word × Zone :=
  let m := Config.fofs z.id.val z.draws
  let d : Int := z.slewPpm * 1000
  let w := if !z.pll.hold then m
    else if z.pll.slewing then BitVec.ofInt 32 (z.pll.fofs.toInt + clampI (-d) d m.toInt) else z.pll.fofs
  (w, { z with draws := z.draws + 1 })

/-- The end of a slew (R33 steps 3 and 4). -/
def Zone.slewDone (z : Zone) : Zone :=
  if z.pll.slewing && decide (z.pll.phase.natAbs ≤ 4) && z.slewRun then
    let e := z.pll.slewE
    let z := { z with pll := { z.pll with slewing := false, hold := false, lock := true, everLock := true } }
    (z.relock e).judge
  else z

/-- The holdover limit is exceeded (R32). -/
def Zone.holdOver (z : Zone) : Bool :=
  let l := fld (z.reg Reg.PLL_HOLD) 31 16
  z.pll.hold && !z.pll.slewing && l != 0 && z.pll.holdTk > l

/-- The limit is to be acted on: with the cause disabled FENCE.PEND already tells that it has been (R13). -/
def Zone.limitDue (z : Zone) : Bool := z.holdOver && !(z.fenceEn % 2 == 0 && bit (z.reg Reg.FENCE_PEND) 0)

/-- Causes raised together, PLL among them or not (R13, R15): with cause PLL taken the held frequency word is dropped
(R32). -/
def Zone.raiseTick (z : Zone) (causes : Nat) : Zone :=
  let on := z.arising causes % 2 == 1 && z.fenceEn % 2 == 1
  let z := z.raise causes
  if on then z.toSlow else z

/-- Fence cause PLL at the limit (R32). -/
def Zone.holdLimit (z : Zone) : Zone := if z.limitDue then z.raiseTick 1 else z

/-- FREF_RATE takes effect at a tick boundary (R30). -/
def Zone.rateTick (z : Zone) : Zone :=
  let r := fld (z.reg Reg.PLL_CFG) 1 0
  if r = z.pll.rate then z
  else { z with pll := { z.pll with rate := r, rateChg := z.pll.lock || z.pll.hold, valid := 0, small := 0, bad := 0, big := 0 } }

/-! Epoch (R36, R37). -/

/-- E of TIME.EPOCH_HI and EPOCH_LO. -/
def Zone.epochE (z : Zone) : BitVec 48 := BitVec.extractLsb' 0 16 (z.reg Reg.TIME_EPOCH_HI) ++ z.reg Reg.TIME_EPOCH_LO

/-- An ARM write (R36). -/
def Zone.epochArm (z : Zone) (check : Bool) : Zone :=
  if bit (z.reg Reg.TIME_EPOCH_CTL) 0 then z
  else if z.epochE.toNat % 96 = 0 then (z.putBit Reg.TIME_EPOCH_CTL 1 check).putBit Reg.TIME_EPOCH_CTL 0 true
  else (z.putBit Reg.TIME_EPOCH_CTL 1 check).putBit Reg.TIME_STAT 3 true

/-- A load or check that takes place (R37): EPOCH_DIFF, EPOCH_DONE, ARM, and the EPOCH report. -/
def Zone.epochDone (z : Zone) (d : Int) (check : Bool) : Zone :=
  let z := (z.setReg Reg.TIME_EPOCH_DIFF (wordI d)).putBit Reg.TIME_STAT 2 true
  (z.putBit Reg.TIME_EPOCH_CTL 0 false).send clsReport 0x0013 (intLe d 4 ++ natLe (b2n check) 1)

/-! Timers (R44–R46). -/

/-- A timer's CTL.EN. -/
def Zone.tmrEn (z : Zone) (n : Fin 4) : Bool := bit (z.reg (Reg.TMR_CTL n.val)) 0

/-- Counts boundaries of a unit on every running timer of that unit (R44). -/
def Zone.tmrCount (z : Zone) (unit : Bool) (k : Nat) : Zone :=
  { z with tmr := Vector.ofFn (fun i : Fin 4 =>
      let t := z.tmr[i]
      if z.tmrEn i && t.unit == unit then { t with count := t.count + k } else t) }

/-- A forced end at a frame boundary: the running period has run out (R46). -/
def Zone.tmrForce (z : Zone) : Zone :=
  { z with tmr := Vector.ofFn (fun i : Fin 4 =>
      let t := z.tmr[i]
      if t.force then { t with force := false, count := if z.tmrEn i then max t.count t.period else t.count } else t) }

/-- Whether a timer's period has run out. -/
def Zone.tmrDue (z : Zone) (n : Fin 4) : Bool := z.tmrEn n && z.tmr[n].count ≥ z.tmr[n].period

/-- The end of a period (R44, R49). -/
def Zone.tmrEnd (z : Zone) (n : Fin 4) : Zone :=
  let ctl := z.reg (Reg.TMR_CTL n.val)
  let st := z.reg (Reg.TMR_STAT n.val)
  let z := if bit st 0 then z.putBit (Reg.TMR_STAT n.val) 1 true else z
  let z := z.putBit (Reg.TMR_STAT n.val) 0 true
  let t := { z.tmr[n] with count := if z.time.est && !z.tmr[n].unit then z.tmr[n].count - z.tmr[n].period else 0 }
  let t := if t.pend then { t with period := (z.reg (Reg.TMR_NEXT n.val)).toNat, unit := bit ctl 1, oneshot := bit ctl 2, pend := false } else t
  let stop := t.oneshot || t.period == 0
  let z := { z with tmr := vmod z.tmr n (fun _ => t) }
  let z := if stop then z.putBit (Reg.TMR_CTL n.val) 0 false else z
  let z := if bit ctl 3 && z.ctl.st != .fenced then z.send clsEvent 0x0031 (natLe n.val 1) else z
  if bit ctl 4 then { z with dsp := { z.dsp with timerEv := z.dsp.timerEv ||| BitVec.ofNat 4 (2 ^ n.val) } } else z

/-- A write of TMRn.NEXT (R45). -/
def Zone.tmrNextWrite (z : Zone) (n : Fin 4) (v : Word) : Zone :=
  let z := z.setReg (Reg.TMR_NEXT n.val) v
  if z.tmrEn n then { z with tmr := vmod z.tmr n (fun t => { t with pend := true }) } else z

/-- A write of TMRn.CTL (R45, R46). -/
def Zone.tmrCtlWrite (z : Zone) (n : Fin 4) (v : Word) : Zone :=
  let was := z.tmrEn n
  let old := z.reg (Reg.TMR_CTL n.val)
  let z := z.setReg (Reg.TMR_CTL n.val) (v &&& 0x1F)
  if was then
    let chg := bit v 1 != bit old 1 || bit v 2 != bit old 2
    { z with tmr := vmod z.tmr n (fun t => { t with pend := t.pend || chg, force := t.force || bit v 7 }) }
  else if bit v 0 then
    let p := (z.reg (Reg.TMR_NEXT n.val)).toNat
    let z := { z with tmr := vmod z.tmr n (fun t => { t with
      period := p, unit := bit v 1, oneshot := bit v 2, count := 0, pend := false, force := bit v 7 }) }
    if p = 0 then z.putBit (Reg.TMR_CTL n.val) 0 false else z
  else z

/-! Track position (R39–R43, R410). -/

/-- STOP_TO as it acts, in frames. -/
def Zone.stopFrames (z : Zone) : Nat := atLeast1 (fld (z.reg Reg.POS_CFG) 31 16) * 96

/-- The speed of R42 from the intervals collected, Q8.24. -/
def Zone.speedOf (z : Zone) (p : ZPos) : Int :=
  let n := 2 ^ min 6 (fld (z.reg Reg.POS_CFG) 14 12)
  let l := p.hist.take n
  if l.isEmpty then 0
  else
    let v : Rat := ((l.length * 7680 * 2 ^ 24 : Nat) : Rat) / (max 1 l.sum : Nat)
    satS 32 (roundHalfUp (if p.neg then -v else v))

/-- The estimate while no edge arrives (R42): |v| = 7680 / t once t exceeds the mean interval. -/
def Zone.speedNow (z : Zone) (p : ZPos) : Int :=
  let n := 2 ^ min 6 (fld (z.reg Reg.POS_CFG) 14 12)
  let l := p.hist.take n
  match p.last with
  | none => 0
  | some (f, s) =>
    let t := (fdist z.time.frame f * 7680 + z.time.slowAcc * 60 - s).toNat
    if l.isEmpty then 0
    else if t * l.length > l.sum then
      let v : Rat := ((7680 * 2 ^ 24 : Nat) : Rat) / (max 1 t : Nat)
      satS 32 (roundHalfUp (if p.neg then -v else v))
    else z.speedOf p

/-- The direction of a level change and whether it is counted: some true is −1 (R39); INV negates. None in mode HOST and
OFF. -/
def tachSign (mode : Nat) (a0 b0 a b inv : Bool) : Option Bool :=
  if mode = 0 then
    if a != a0 && b == b0 then some (xor (a == b) inv)
    else if a == a0 && b != b0 then some (xor (a != b) inv)
    else none
  else if mode = 1 then (if a && !a0 then some (xor (!b) inv) else none)
  else none

/-- One counted edge at a frame and sub-frame time, which is stamped to a resolution of 30 cycles (R39, R41, R42;
assumption 14). -/
def Zone.countEdge (z : Zone) (neg : Bool) (f : BitVec 48) (s : Nat) : Zone :=
  let s := s / 30 * 30
  let p := z.pos
  let fresh := p.stopped || p.last.isNone || p.neg != neg
  let hist := if fresh then [] else match p.last with
    | some (f0, s0) => ((fdist f f0 * 7680 + s - s0).toNat :: p.hist).take 64
    | none => []
  let p := { p with
    pos := if neg then p.pos - 1 else p.pos + 1
    frac := 0, hist := hist, last := some (f, s), since := f, neg := neg, stopped := false }
  { z with pos := { p with speed := z.speedOf p } }

/-- Accepted levels of TACHA and TACHB (R39, R40): s is the sub-frame time. After QERR the estimate has no interval, so SPEED
is 0 (assumption 74). -/
def Zone.tach (z : Zone) (a b : Bool) (s : Nat) : Zone :=
  let p := z.pos
  let inv := bit (z.reg Reg.POS_CFG) 2
  let z' := { z with pos := { p with lvlA := a, lvlB := b } }
  if p.mode = 0 ∧ a ≠ p.lvlA ∧ b ≠ p.lvlB then
    let z' := (z'.putBit Reg.POS_STAT 0 true).count Reg.POS_COUNT 15 0 1
    { z' with pos := { z'.pos with hist := [], last := none, speed := 0 } }
  else match tachSign p.mode p.lvlA p.lvlB a b inv with
    | some neg => z'.countEdge neg z.time.frame s
    | none => z'

/-- FRAC stays within an edge (R41). -/
def fracClamp (x : Int) : Int := clampI (-32767) 32767 x

/-- A change of the position mode (R410). -/
def Zone.posModeTo (z : Zone) (m : Nat) : Zone :=
  let p := z.pos
  let cleared := { p with mode := m, hist := [], last := none, speed := 0, vel := 0 }
  let p' :=
    if m = 2 then
      let t : Int := p.pos.toInt * 2 ^ 24 + p.frac * 512
      { cleared with pos := BitVec.ofInt 48 (t / 2 ^ 24), acc := (t % 2 ^ 24).toNat, frac := t % 2 ^ 24 / 512
                     since := z.time.frame }
    else if m = 3 then { cleared with stale := false }
    else { cleared with frac := 0, stale := false, stopped := true, since := z.time.frame }
  { z with pos := p' }

/-- The position at n frame boundaries taken together: n = 1 from the PLL, 2 or 3 from ZSLOW (R41, R43, R50). -/
def Zone.posFrame (z : Zone) (n : Nat) : Zone :=
  let m := fld (z.reg Reg.POS_CFG) 1 0
  let z := if m = z.pos.mode then z else z.posModeTo m
  let p := z.pos
  if p.mode = 2 then
    let t : Int := p.pos.toInt * 2 ^ 24 + p.acc + p.vel * n
    { z with pos := { p with pos := BitVec.ofInt 48 (t / 2 ^ 24), acc := (t % 2 ^ 24).toNat
                             frac := if z.time.est then 0 else t % 2 ^ 24 / 512, speed := p.vel } }
  else if p.mode = 3 then { z with pos := { p with frac := if z.time.est then 0 else p.frac } }
  else
    let v := z.speedNow p
    let f := if z.time.est then 0 else fracClamp (p.frac + roundHalfUp ((v : Rat) / 512))
    { z with pos := { p with speed := v, frac := f } }

/-- Standstill (R42). -/
def Zone.standstill (z : Zone) : Zone :=
  let p := z.pos
  if z.atTick && p.mode ≤ 1 && !p.stopped && decide (fdist z.time.frame p.since ≥ z.stopFrames) then
    { z with pos := { p with speed := 0, stopped := true, hist := [], last := none } }
  else z

/-- STALE (R43). -/
def Zone.staleSet (z : Zone) : Zone :=
  let p := z.pos
  if z.atTick && p.mode == 2 && !p.stale && decide (fdist z.time.frame p.since ≥ z.stopFrames) then
    let v := if bit (z.reg Reg.POS_CFG) 15 then 0 else p.vel
    { z with pos := { p with stale := true, vel := v, speed := v } }
  else z

/-- A write of POS.HCMD (R43). -/
def Zone.hcmdWrite (z : Zone) (setpos setvel atTick : Bool) : Zone :=
  { z with pos := { z.pos with hcmd := some { setpos := setpos, setvel := setvel, atTick := atTick
                                              pos := BitVec.extractLsb' 0 16 (z.reg Reg.POS_HSET_HI) ++ z.reg Reg.POS_HSET_LO
                                              vel := (z.reg Reg.POS_HSET_VEL).toInt } } }

/-- Applies a pending host position command whose boundary has come (R43). -/
def Zone.hcmdApply (z : Zone) : Zone :=
  match z.pos.hcmd with
  | none => z
  | some c =>
    if c.atTick && !z.atTick then z
    else
      let p := { z.pos with hcmd := none }
      let p := if c.setpos then { p with pos := c.pos, frac := 0, acc := 0, jump := true } else p
      let p := if c.setvel && p.mode == 2 then { p with vel := c.vel, speed := c.vel, stale := false, since := z.time.frame } else p
      { z with pos := p }

/-! Coherent reads (R47). -/

/-- The live words of FRAME_HI, SUBF and TICK. -/
def Zone.timeCap (z : Zone) : Cap3 :=
  { a := BitVec.setWidth 32 (BitVec.extractLsb' 32 16 z.time.frame), b := BitVec.ofNat 32 z.time.subf, c := z.tick }

/-- The live words of POS_HI, FRAC and SPEED. -/
def Zone.posCap (z : Zone) : Cap3 :=
  { a := (BitVec.extractLsb' 32 16 z.pos.pos).signExtend 32, b := wordI z.pos.frac, c := wordI z.pos.speed }

/-- SUBF at a register access: later than any time of this frame already seen, within the frame (assumption 14); 0 from
ZSLOW (R49). -/
def Zone.drawSubf (z : Zone) : Zone :=
  if z.time.est then { z with time := { z.time with subf := 0 } }
  else { z with
    time := { z.time with subf := z.time.subf + Config.subf z.id.val z.draws % (7680 - z.time.subf) }
    draws := z.draws + 1 }

/-- A read of FRAME_LO in LATCH mode captures for the reader (R47). -/
def Zone.latchTime (z : Zone) (p : Party) : Zone :=
  let z := z.drawSubf
  match p with
  | .host => { z with time := { z.time with capHost := z.timeCap } }
  | .prog => { z with time := { z.time with capProg := z.timeCap } }

/-- A read of POS_LO in LATCH mode captures for the reader (R47). -/
def Zone.latchPos (z : Zone) (p : Party) : Zone :=
  match p with
  | .host => { z with pos := { z.pos with capHost := z.posCap } }
  | .prog => { z with pos := { z.pos with capProg := z.posCap } }

/-! Boundaries. -/

/-- Zone-local ticks that run whatever clocks the counters: INIT time, watchdog, trap bucket, heartbeat (R12, R23, R13,
R411), holdover (R32). -/
def Zone.slowTick (z : Zone) : Zone :=
  let z := z.tmrCount true 1
  let z := if z.pwr.asleep then z else z.wdTick
  let z := if z.pll.hold && !z.pll.slewing then { z with pll := { z.pll with holdTk := satAdd (2 ^ 32 - 1) z.pll.holdTk 1 } } else z
  { z with ctl := { z.ctl with leakTicks := z.ctl.leakTicks + b2n (!z.pwr.asleep)
                               initTicks := if z.ctl.st = .init then z.ctl.initTicks + 1 else z.ctl.initTicks } }

/-- R61 step 1 at a frame boundary from the PLL. -/
def Zone.advance (z : Zone) : Zone :=
  let f := z.time.frame + 1
  let k := if z.time.free && z.pll.hold then 1 else 0
  let z := { z with
    pll := { z.pll with slewN := if z.pll.slewing then z.pll.slewN + 1 else z.pll.slewN }
    time := { z.time with frame := f, subf := 0, tk := f.toNat % 96 == 0, hFr := z.time.hFr + k } }
  let z := ((z.tmrCount false 1).tmrForce).posFrame 1
  if z.atTick then z.slowTick else z

/-- A ZSLOW edge (R49, R50): 2 or 3 frames. -/
def Zone.slowEdge (z : Zone) (a b : Bool) : Zone :=
  let sum := z.time.slowAcc + 375
  let n := sum / 128
  let f0 := z.time.frame.toNat
  let f := BitVec.ofNat 48 (f0 + n)
  let t := (f0 + n) / 96 > f0 / 96 || f.toNat < f0
  let z := { z with time := { z.time with
    frame := f, subf := 0, slowAcc := sum % 128, tk := t, began := false, sFr := if z.time.free then z.time.sFr + n else z.time.sFr } }
  let z := ((z.tmrCount false n).tmrForce).posFrame n
  let z := (z.tach a b (60 * z.time.slowAcc)).recordCross
  if z.atTick then z.slowTick else z

end Sys2Proof.Machine
end

