-- ==== Sys2Proof/Machine/DspOps.lean ====
section
/-! DEFINITION. The zone DSP below its instruction slots: registers, memories, pointers, delay segments, traps, requests
(R194–R196, R206, R209, R211–R218). -/

namespace Sys2Proof.Machine

/-! Registers (R195). -/

/-- The physical register of a name. -/
def ZDsp.phys (d : ZDsp) (n : Fin 64) : Fin 64 :=
  if n.val < 32 then n else fin 64 (32 + (n.val - 32 + d.ro.toNat) % 32)

/-- The value a name shows at issue. -/
def ZDsp.rd (d : ZDsp) (n : Fin 64) : W72 := d.g[d.phys n]

/-- A half of a register (false H, true L) as a signed 36-bit code. -/
def halfOf (w : W72) (l : Bool) : Int := if l then loHalf w else hiHalf w

/-- A word with one half replaced (false H, true L). -/
def withHalf (w : W72) (l : Bool) (v : Int) : W72 := setHalf w (!l) v

/-- A result on its way to a register (R201). -/
def ZDsp.issueRes (d : ZDsp) (dly : Nat) (n : Fin 64) (part : Nat) (v : W72) : ZDsp :=
  { d with pend := d.pend ++ [{ dly := dly, reg := d.phys n, part := part, val := v }] }

/-- A result lands: the whole register, or one half of it. -/
def ZDsp.land (d : ZDsp) (r : DspRes) : ZDsp :=
  { d with g := vmod d.g r.reg (fun w =>
      if r.part = 1 then withHalf w false (hiHalf r.val) else if r.part = 2 then withHalf w true (loHalf r.val) else r.val) }

/-- Of several results that land in one cycle on one register, that of the bundle issued last stands for the whole
register (R201). -/
def lastOnly : List DspRes → List DspRes
  | [] => []
  | r :: t => if t.any (fun (x : DspRes) => x.reg == r.reg) then lastOnly t else r :: lastOnly t

/-- One bundle has been issued: results whose latency has run land (R201). -/
def ZDsp.tickRes (d : ZDsp) : ZDsp :=
  let l := d.pend.map (fun r : DspRes => { r with dly := r.dly - 1 })
  { ((lastOnly (l.filter (fun r => r.dly == 0))).foldl ZDsp.land d) with pend := l.filter (fun r => r.dly != 0) }

/-- Everything issued completes (R207, R214): no latency exceeds 2. -/
def ZDsp.drain (d : ZDsp) : ZDsp := { d.tickRes.tickRes with pend := [], accOld := d.acc }

/-! Memories (R196, R213). -/

/-- Elements of a space. -/
def spaceSize (y : Bool) : Nat := if y then 262144 else 65536

/-- The active parameter batten. -/
def Zone.parAct (z : Zone) : Mem72 := if z.swaps[(2 : Fin 6)].active then z.dsp.parB else z.dsp.parA
def Zone.parIn (z : Zone) : Mem72 := if z.swaps[(2 : Fin 6)].active then z.dsp.parA else z.dsp.parB

/-- The memory word (code 2) that a D-space word address names: the two parameter battens lie at 30,720 and 31,744. -/
def Zone.dPhys (z : Zone) (w : Nat) : Nat :=
  if w < 30720 ∨ !z.swaps[(2 : Fin 6)].active then w else if w < 31744 then w + 1024 else w - 1024

/-- A word of D space as it reads. -/
def Zone.dWord (z : Zone) (w : Nat) : W72 :=
  if w < 30720 then m72Get z.dsp.data w
  else if w < 31744 then m72Get z.parAct (w - 30720)
  else m72Get z.parIn (w - 31744)

/-- Whether a delay segment is stale. -/
def ZDsp.isStale (d : ZDsp) (seg : Nat) : Bool := smGet (fun _ => false) d.stale seg

/-- A word of Y space as it reads: 0 from a stale segment (R213). -/
def ZDsp.yWord (d : ZDsp) (w : Nat) : W72 := if d.isStale (w / 64) then 0 else m72Get d.dly w

/-- A word read by LDW, LDE or TAP: whether it is uncorrectable (R214). -/
def Zone.spaceRead (z : Zone) (y : Bool) (w : Nat) : Bool × W72 × Zone :=
  if y then
    if z.dsp.isStale (w / 64) then (false, 0, z)
    else
      let (b, z) := z.eccRead memDelay w
      (b, m72Get z.dsp.dly w, z)
  else
    let (b, z) := z.eccRead memData (z.dPhys w)
    (b, z.dWord w, z)

/-- The words of a delay segment zeroed and its freshness restored. -/
def ZDsp.freshen (d : ZDsp) (seg : Nat) : ZDsp :=
  { d with dly := d.dly.filter (fun p => p.1 / 64 != seg), stale := smSet (fun _ => false) d.stale seg false }

/-- The zeroing of a delay segment writes its words, with fresh check bits (R81, R213). -/
def Zone.freshen (z : Zone) (seg : Nat) : Zone :=
  { z with dsp := z.dsp.freshen seg, mem := z.mem.clearRange memDelay (64 * seg) 64 }

/-- A write of a delay word: the first write into a stale segment zeroes the rest of it (R213). True if it did. -/
def Zone.yWrite (z : Zone) (w : Nat) (f : W72 → W72) : Bool × Zone :=
  let st := z.dsp.isStale (w / 64)
  let z := if st then z.freshen (w / 64) else z
  let z := { z with dsp := { z.dsp with dly := m72Set z.dsp.dly w (f (m72Get z.dsp.dly w)) } }
  (st, z.eccWrite memDelay w)

/-- A write of a general data word. -/
def Zone.dWrite (z : Zone) (w : Nat) (f : W72 → W72) : Zone :=
  ({ z with dsp := { z.dsp with data := m72Set z.dsp.data w (f (m72Get z.dsp.data w)) } }).eccWrite memData w

/-! Pointers (R200, R211, R212). -/

/-- BASE as it acts: aligned to a segment in Y space and to a word in D space. -/
def Ptr.baseOf (p : Ptr) : Nat := if p.y then p.base / 128 * 128 else p.base / 2 * 2

/-- Whether a circular buffer reaches beyond its space. -/
def Ptr.beyond (p : Ptr) : Bool := p.len != 0 && p.baseOf + p.len > spaceSize p.y

/-- The element address of an access, none outside the space (R211). -/
def Ptr.addr (p : Ptr) : Option Nat :=
  let e := p.baseOf + p.a
  if p.beyond ∨ e ≥ spaceSize p.y then none else some e

/-- The element address of a TAP and whether its delay was clamped (R211). -/
def Ptr.tap (p : Ptr) (d0 : Nat) : Option Nat × Bool :=
  let d1 := if d0 = 0 then 1 else d0
  let cl := p.len ≠ 0 ∧ d1 ≥ p.len
  let d := if cl then p.len - 1 else d1
  let e : Int := if p.len ≠ 0 then (p.baseOf : Int) + ((p.a : Int) - d).emod p.len else (p.baseOf : Int) + p.a - d
  (if p.beyond ∨ e < 0 ∨ e ≥ spaceSize p.y then none else some e.toNat, cl)

/-- Post-modification (R211). -/
def Ptr.move (p : Ptr) (m : Int) : Ptr :=
  { p with a := (((p.a : Int) + m).emod (if p.len = 0 then 2 ^ 18 else p.len)).toNat }

/-- A write of a pointer field (R200): 0 A, 1 BASE, 2 LEN, 3 SPACE. -/
def Ptr.put (p : Ptr) (field v : Nat) : Ptr :=
  if field = 0 then { p with a := if p.len = 0 then v % 2 ^ 18 else v % p.len }
  else if field = 1 then { p with base := v }
  else if field = 2 then { p with lnext := v }
  else { p with y := v % 2 == 1 }

/-- A pointer field as read (R200). -/
def Ptr.get (p : Ptr) (field : Nat) : Nat :=
  if field = 0 then p.a else if field = 1 then p.base else if field = 2 then p.len else b2n p.y

/-- Elements lo to hi of delay memory zeroed, word by word, with fresh check bits (R81, R213). -/
def Zone.zeroElems (z : Zone) (lo hi : Nat) : Zone :=
  { z with
    dsp := { z.dsp with dly := (List.range (hi - lo)).foldl (fun m i =>
      m72Set m ((lo + i) / 2) (setHalf (m72Get m ((lo + i) / 2)) ((lo + i) % 2 == 0) 0)) z.dsp.dly }
    mem := z.mem.clearRange memDelay (lo / 2) ((hi + 1) / 2 - lo / 2) }

/-- What a growing Y buffer of pointer p does to delay memory, its new length being n (R213): the exposed elements of the segment
of offset L_old are zeroed if the segment has live offsets, a word a cycle before the frame entry; the whole segments beyond
become stale. Elements beyond the space are none (assumption 83). -/
def Zone.expose (z : Zone) (p : Ptr) (n : Nat) : Zone :=
  let n := min n (spaceSize true - p.baseOf)
  if n ≤ p.len then z
  else
    let edge := if p.len % 128 = 0 then p.len else min n ((p.len / 128 + 1) * 128)
    let z := z.zeroElems (p.baseOf + p.len) (p.baseOf + edge)
    { z with dsp := { z.dsp with
        stale := (List.range ((n - edge) / 128)).foldl
          (fun s j => smSet (fun _ => false) s ((p.baseOf + edge) / 128 + j) true) z.dsp.stale
        delay := z.dsp.delay + ((edge + 1) / 2 - p.len / 2) } }

/-- One pointer's length change (R212). -/
def Zone.lenChange (z : Zone) (i : Fin 8) : Zone :=
  let p := z.dsp.pt[i]
  let n := p.lnext
  if n = p.len then z
  else
    let a := if n ≠ 0 ∧ n < p.len ∨ p.len = 0 then p.a % n else p.a
    let z := { z with dsp := { z.dsp with pt := vmod z.dsp.pt i (fun p => { p with len := n, a := a }) } }
    if p.y ∧ p.len ≠ 0 then z.expose p n else z

/-- Every pending length change, in index order, at a tick boundary (R212). -/
def Zone.lenChanges (z : Zone) : Zone := (List.finRange 8).foldl Zone.lenChange z

/-! Requests and traps. -/

/-- A request of the zone program (R209). -/
def Zone.dspReq (z : Zone) (act cls : Nat) : Zone :=
  if z.dsp.reqs.length < 16 then
    { z with dsp := { z.dsp with reqs := z.dsp.reqs ++ [{ act := act, cls := cls, a := z.dsp.rqA, b := z.dsp.rqB }] } }
  else
    let z := { z with dsp := { z.dsp with rqFull := true } }
    (z.count Reg.DSP_RCOUNT 15 8 1).setFlt 0x3000 7

/-- Stall cycles (R201). -/
def Zone.dspStall (z : Zone) (n : Nat) : Zone :=
  ({ z with dsp := { z.dsp with cycle := z.dsp.cycle + n } }).count Reg.DSP_RCOUNT 31 16 n

/-- Stall cycles that a command brings: between the runs that the model makes whole at a frame boundary they count in the next
run (R201, R208; assumption 33). -/
def Zone.dspHold (z : Zone) (n : Nat) : Zone :=
  if z.dsp.rtn.isSome then z.dspStall n
  else ({ z with dsp := { z.dsp with delay := z.dsp.delay + n } }).count Reg.DSP_RCOUNT 31 16 n

/-- An access to delay or data memory waits at most 2 cycles for round robin, which count as conflicts and as stalls (R201, R347,
R348, R349): how many is free (assumption 32). -/
def Zone.dspArb (z : Zone) : Zone :=
  let (w, z) := z.freeWord 20
  let n := w.toNat % 3
  (z.dspStall n).count (Reg.MEM_CONF 3) 31 0 n

/-- A routine begins at its vector (R204). -/
def ZDsp.enter (d : ZDsp) (vec hnum : Nat) (harg : Word) : ZDsp :=
  { d with pc := vec, rtn := some hnum, hnum := hnum, harg := harg, loop := none }

/-- A trap (R214, R215). HARG of the trap handler is not stated (assumption 16). -/
def Zone.dspTrap (z : Zone) (cause : Nat) : Zone :=
  let tpc := z.dsp.pc
  let inTrap := z.dsp.rtn == some 18
  let z := { z with dsp := { z.dsp.drain with tcause := cause, tpc := tpc, loop := none } }
  let z := z.setReg Reg.DSP_TRAP (BitVec.ofNat 32 (cause * 2 ^ 28 + z.dsp.hnum % 32 * 2 ^ 16 + tpc % 2 ^ 14))
  let z := z.setReg Reg.DSP_TRAP_FRAME (BitVec.extractLsb' 0 32 z.time.frame)
  let z := (z.setFlt 0x3000 8).count Reg.DSP_COUNT 23 16 1
  let z := if cause = 1 then (z.setFlt 0x3000 9).count Reg.DSP_COUNT 31 24 1 else z
  let z := if z.fltEn 0x3000 8 then z.send clsReport 0x0047 (natLe cause 1 ++ natLe tpc 2) else z
  let z :=
    if cause ≠ 1 ∧ bit (z.reg Reg.DSP_CTL) 2 ∧ !inTrap then
      let (w, z) := z.freeWord 2
      { z with dsp := z.dsp.enter 3 18 (BitVec.extractLsb' 0 32 w) }
    else { z with dsp := { z.dsp with rtn := none, dead := true, abandoned := true } }
  z.bucketAdd

/-- BUDGET as it acts (Table 10-13). -/
def Zone.dspBudget (z : Zone) : Nat := clampN 1024 7664 (fld (z.reg Reg.DSP_CFG) 12 0)

/-- RUNNING follows RUN at a tick boundary, then the length changes (R212, R218). -/
def Zone.dspTick (z : Zone) : Zone :=
  let r := bit (z.reg Reg.DSP_CTL) 0
  let z := if z.dsp.running then z else { z with dsp := { z.dsp with delay := 0 } }
  let z := z.lenChanges
  { z with dsp := { z.dsp with running := r } }

/-- A program word written through DWIN or LOAD. -/
def Zone.progWrite (z : Zone) (w : Nat) (v : W72) : Zone :=
  ({ z with dsp := { z.dsp with prog := m72Set z.dsp.prog w v, loaded := true } }).eccWrite memProg w

end Sys2Proof.Machine
end

