-- ==== Sys2Proof/Machine/GovRun.lean ====
section
/-! DEFINITION. The governor's verdicts as they act: intervals, amplifier fault, and the governor's tick (R246–R252). -/

namespace Sys2Proof.Machine

/-- A verdict is issued (R250, R251): the fence cause that it raises, VERDICT for a changed one whose action is FENCE. -/
def Zone.verdictNew (z : Zone) (v : Nat) : Nat × Zone :=
  if v = z.gov.verdict then (0, z)
  else
    let z := z.verdictSet v
    if z.verdictFences v && z.ctl.st.sounds then (0x10, z.modGov (fun g => { g with fenceV := v })) else (0, z)

/-- A verdict is issued and acts. -/
def Zone.verdictIssue (z : Zone) (v : Nat) : Zone := (z.verdictNew v).2.raise (z.verdictNew v).1

/-- AMPFAULT is issued while the pin counts as asserted in RUN, HOLD or RECOVER (R249, R252). -/
def Zone.ampCheck (z : Zone) : Zone :=
  if z.ctl.st.sounds && z.gov.ampFlt && z.gov.verdict != 5 then
    let z := z.setFlt linePage 5
    let fences := z.verdictFences 5
    let z := z.verdictIssue 5
    if fences then z
    else match z.gov.ampLow, z.gov.ampRel with
      | some _, _ => z
      | none, some _ =>
        if z.ampRetry = 0 then z
        else if z.gov.retries ≥ z.ampTries then (z.modGov (fun g => { g with ampLock := true, ampRel := none })).ampEval
        else (z.modGov (fun g => { g with ampLow := some 0, ampRel := none })).ampEval
      | none, none => if z.gov.ampLock then z else z.ampSeq
  else z

/-- The AMPFLT pin counts as asserted or deasserted after its debounce (R252). -/
def Zone.ampPin (z : Zone) (a : Bool) : Zone :=
  let z := z.modGov (fun g => { g with ampFlt := a })
  let z := z.modOut (fun o => { o with ampPin := a == bit (z.rws 3 Reg.GOV_AMP) 31 })
  if a then z.ampCheck
  else
    let z := z.modGov (fun g => { g with retries := 0 })
    if z.gov.verdict = 5 then z.verdictSet 0 else z

/-- An interval boundary that has not been acted on: a tick boundary with TICK mod 250 = 0 (R246). -/
def Zone.intervalDue (z : Zone) : Bool := z.atTick && z.tick.toNat % 250 == 0 && z.gov.iStart != some z.tick

/-- The end of a supervision interval (R246, R247, R249): the fence cause that its verdict raises. -/
def Zone.intervalDone (z : Zone) : Nat × Zone :=
  let g := z.gov
  if !z.intervalDue ∨ !z.lineRuns then (0, z)
  else if g.iStart = some (z.tick - 250) ∧ g.iOk ∧ g.iN = 24000 then
    let (v, z) := z.lineDone
    let z := if bit (z.reg Reg.MSG_CFG) 0 then
        z.send clsMeasure 0x0061 (natLe (z.reg Reg.LINE_ITICK).toNat 4 ++ natLe (z.reg Reg.LINE_ZMAG).toNat 4 ++
          natLe (z.reg Reg.LINE_ZPH).toNat 2 ++ natLe (z.reg Reg.LINE_AMPL).toNat 4)
      else z
    match v with
    | some v => if z.gov.verdict = 5 then (0, z) else z.verdictNew v
    | none => (0, z)
  else (0, (z.count Reg.LINE_COUNT 31 16 1).setFlt linePage 1)

/-- The next supervision interval begins, with the settings in force after the boundary's changes (R246). -/
def Zone.intervalNext (z : Zone) : Zone := if z.intervalDue then z.lineBegin else z

/-- INTERVAL_END: the end of an interval, what its verdict raises, and the beginning of the next. -/
def Zone.intervalEnd (z : Zone) : Zone := ((z.intervalDone).2.raise (z.intervalDone).1).intervalNext

/-- The governor's work of a tick boundary after the swaps (R241–R246). -/
def Zone.govTick (z : Zone) : Zone := (z.lineOff).nalTick

end Sys2Proof.Machine
end

