-- ==== Sys2Proof/Machine/WinOps.lean ====
section
/-! DEFINITION. The indirect windows of a zone (R82, R137, R175, R219, R378, R412): each party has its own address and staging
registers. -/

namespace Sys2Proof.Machine

/-- A party's window registers. -/
def Zone.win (z : Zone) (p : Party) : WinSet := match p with | .host => z.winH | .prog => z.winP

/-- A zone with a party's window registers changed. -/
def Zone.modWin (z : Zone) (p : Party) (f : WinSet → WinSet) : Zone :=
  match p with
  | .host => { z with winH := f z.winH }
  | .prog => { z with winP := f z.winP }

/-- PART as it acts: 3 acts as 0. -/
def winPart (a : Word) (lo : Nat) : Nat := let p := fld a (lo + 1) lo; if p = 3 then 0 else p

/-- WORD after part 2: advanced by 1 with AINC, wrapping at the end of the memory; a WORD beyond it wraps at the end of its
field. -/
def winNext (w size field : Nat) (ainc : Bool) : Nat :=
  if ainc then (if w + 1 = size then 0 else (w + 1) % field) else w

/-- An address register after an access (R137): the fields lie at the bits given. -/
def winAdvance (a : Word) (part hi ainc size : Nat) : Word :=
  let p := winPart a part
  if p = 2 then setFld (setFld a (part + 1) part 0) hi 0 (winNext (fld a hi 0) size (2 ^ (hi + 1)) (bit a ainc))
  else setFld a (part + 1) part (p + 1)

/-- The staging of a write of a part (R137): parts 0 and 1 are held. -/
def Win.stage (w : Win) (part : Nat) (v : Word) : Win :=
  if part = 0 then { w with p0 := v } else if part = 1 then { w with p1 := v } else w

/-- A window's read of a word and its check (R344): an uncorrectable word of memories 4–6 is fence cause ECC, by whichever
master it is read (R13, Table 1-3), and one of the sample cache invalidates its line. -/
def Zone.winCheck (z : Zone) (code w : Nat) : Bool × Zone :=
  let (bad, z) := z.eccRead code w
  (bad, if bad && 4 ≤ code && code ≤ 6 then z.raise 0x02
    else if bad && code == 0 then
      { z with cache := { z.cache with lines := z.cache.lines.filter (fun (l : CacheLine) => l.line != w / 512) } }
    else z)

/-- A word as a window delivers it: what an uncorrectable word holds is not stated (R344; assumption 16). -/
def Zone.winFetch (z : Zone) (code w : Nat) (v : W72) : W72 × Zone :=
  let (bad, z) := z.winCheck code w
  if bad then z.freeWord 5 else (v, z)

/-! VWIN (R137). -/

/-- Whether a swap holds the page against writes into its inactive batten (R53). -/
def Zone.swapHolds (z : Zone) (p : Fin 6) : Bool := z.swaps[p].pend || z.swaps[p].copying

/-- The place in the batten memory of a word of the active or inactive batten (Table 17-1). -/
def Zone.battWord (z : Zone) (p : Fin 6) (size : Nat) (inactive : Bool) (w : Nat) : Nat :=
  if xor z.swaps[p].active inactive then size + w else w

/-- A read of VWIN.DATA. -/
def Zone.vwinRead (z : Zone) (p : Party) : Word × Zone :=
  let a := (z.win p).vaddr
  let part := winPart a 12
  let w := fld a 11 0
  let inact := bit a 16
  let (v, z) :=
    if part ≠ 0 then ((z.win p).v.rd, z)
    else if w ≥ 3072 then (0, z)
    else z.winFetch memBatten (z.battWord 0 3072 inact w) (m72Get (if inact then z.battIn else z.battAct) w)
  (partOf v part, z.modWin p (fun s => { s with vaddr := winAdvance a 12 11 17 3072, v := { s.v with rd := v } }))

/-- A word of the inactive voice block batten written, with EDIT of its voice. -/
def Zone.vwinCommit (z : Zone) (w : Nat) (v : W72) : Zone :=
  if w ≥ 3072 then z
  else
    let z := if z.swaps[(0 : Fin 6)].active then { z with vox := { z.vox with battA := m72Set z.vox.battA w v } }
      else { z with vox := { z.vox with battB := m72Set z.vox.battB w v } }
    (z.modVoice (fin 96 (w / 32)) (fun vo => { vo with edit := true })).eccWrite memBatten (z.battWord 0 3072 true w)

/-- A write of VWIN.DATA: the reason of a refusal, or 0. -/
def Zone.vwinWrite (z : Zone) (p : Party) (v : Word) : Nat × Zone :=
  if z.swapHolds 0 then (0x09, z)
  else
    let a := (z.win p).vaddr
    let part := winPart a 12
    let s := (z.win p).v
    let z := if part = 2 then z.vwinCommit (fld a 11 0) (ofParts s.p0 s.p1 v) else z
    (0, z.modWin p (fun t => { t with vaddr := winAdvance a 12 11 17 3072, v := t.v.stage part v }))

/-! RWIN (R175). -/

/-- A read of RWIN.DATA. -/
def Zone.rwinRead (z : Zone) (p : Party) : Word × Zone :=
  let a := (z.win p).raddr
  let part := winPart a 12
  let w := fld a 11 0
  let inact := bit a 16
  let (v, z) :=
    if part ≠ 0 then ((z.win p).r.rd, z)
    else if w ≥ 576 then (0, z)
    else z.winFetch memRoute (z.battWord 1 576 inact w) (m72Get (if inact then z.routeIn else z.routeAct) w)
  (partOf v part, z.modWin p (fun s => { s with raddr := winAdvance a 12 11 17 576, r := { s.r with rd := v } }))

/-- A word of the inactive route image written: it is no longer validated. -/
def Zone.rwinCommit (z : Zone) (w : Nat) (v : W72) : Zone :=
  if w ≥ 576 then z
  else
    let z := if z.swaps[(1 : Fin 6)].active then { z with route := { z.route with batA := m72Set z.route.batA w v, inactOk := false } }
      else { z with route := { z.route with batB := m72Set z.route.batB w v, inactOk := false } }
    z.eccWrite memRoute (z.battWord 1 576 true w)

/-- A write of RWIN.DATA. -/
def Zone.rwinWrite (z : Zone) (p : Party) (v : Word) : Nat × Zone :=
  if z.swapHolds 1 then (0x09, z)
  else
    let a := (z.win p).raddr
    let part := winPart a 12
    let s := (z.win p).r
    let z := if part = 2 then z.rwinCommit (fld a 11 0) (ofParts s.p0 s.p1 v) else z
    (0, z.modWin p (fun t => { t with raddr := winAdvance a 12 11 17 576, r := t.r.stage part v }))

/-! DWIN (R219). -/

/-- Words of a SPACE (Table 10-13). -/
def dwinSize (sp : Nat) : Nat := match sp with | 0 => 16384 | 1 => 30720 | 2 => 1024 | _ => 131072

/-- A word of a space as DWIN fetches it. -/
def Zone.dwinFetch (z : Zone) (sp w : Nat) (inact : Bool) : W72 × Zone :=
  if w ≥ dwinSize sp then (0, z)
  else match sp with
    | 0 => z.winFetch memProg w (m72Get z.dsp.prog w)
    | 1 => z.winFetch memData w (m72Get z.dsp.data w)
    | 2 => z.winFetch memData (30720 + z.battWord 2 1024 inact w) (m72Get (if inact then z.parIn else z.parAct) w)
    | _ => if z.dsp.isStale (w / 64) then (0, z) else z.winFetch memDelay w (m72Get z.dsp.dly w)

/-- A read of DWIN.DATA. -/
def Zone.dwinRead (z : Zone) (p : Party) : Word × Zone :=
  let a := (z.win p).daddr
  let part := winPart a 26
  let sp := fld a 31 30
  let (v, z) := if part ≠ 0 then ((z.win p).d.rd, z) else z.dwinFetch sp (fld a 16 0) (bit a 28)
  (partOf v part, z.modWin p (fun s => { s with daddr := winAdvance a 26 16 29 (dwinSize sp), d := { s.d with rd := v } }))

/-- A parameter word written into the inactive batten. -/
def Zone.parWrite (z : Zone) (w : Nat) (v : W72) : Zone :=
  let z := if z.swaps[(2 : Fin 6)].active then { z with dsp := { z.dsp with parA := m72Set z.dsp.parA w v } }
    else { z with dsp := { z.dsp with parB := m72Set z.dsp.parB w v } }
  z.eccWrite memData (30720 + z.battWord 2 1024 true w)

/-- A word of a space written. -/
def Zone.dwinCommit (z : Zone) (sp w : Nat) (v : W72) : Zone :=
  if w ≥ dwinSize sp then z
  else match sp with
    | 0 => z.progWrite w v
    | 1 => z.dWrite w (fun _ => v)
    | 2 => z.parWrite w v
    | _ => (z.yWrite w (fun _ => v)).2

/-- A write of DWIN.DATA. -/
def Zone.dwinWrite (z : Zone) (p : Party) (v : Word) : Nat × Zone :=
  let a := (z.win p).daddr
  let sp := fld a 31 30
  if sp = 0 ∧ (z.dsp.running ∨ bit (z.reg Reg.DSP_CTL) 0) then (0x15, z)
  else if sp = 2 ∧ z.swapHolds 2 then (0x09, z)
  else
    let part := winPart a 26
    let s := (z.win p).d
    let z := if part = 2 then z.dwinCommit sp (fld a 16 0) (ofParts s.p0 s.p1 v) else z
    (0, z.modWin p (fun t => { t with daddr := winAdvance a 26 16 29 (dwinSize sp), d := t.d.stage part v }))

/-! MEM (R412). -/

/-- A word of a memory as the MEM window fetches it: the sample cache; the voice state and the canceller memory have no
layout in the spec (assumption 16). -/
def Zone.memFetch (z : Zone) (code w : Nat) : W72 × Zone :=
  if w ≥ memWords code then (0, z)
  else match code with
    | 0 => z.winFetch memCache w (m72Get z.cache.mem w)
    | 4 => ((z.winCheck memVoice w).2).freeWord 6
    | 7 => ((z.winCheck memAec w).2).freeWord 7
    | _ => (0, z)

/-- A read of MEM.WDATA. -/
def Zone.memRead (z : Zone) (p : Party) : Word × Zone :=
  let a := (z.win p).maddr
  let part := winPart a 18
  let code := fld a 31 29
  let (v, z) := if part ≠ 0 then ((z.win p).m.rd, z) else z.memFetch code (fld a 16 0)
  (partOf v part, z.modWin p (fun s => { s with maddr := winAdvance a 18 16 17 (memWords code), m := { s.m with rd := v } }))

end Sys2Proof.Machine
end

