-- ==== Sys2Proof/Machine/CrcOps.lean ====
section
/-! DEFINITION. The check-value units (R361–R364) as functions of their parameters, and the fixed checks of the device that
follow the same model (R160, R291, R299). -/

namespace Sys2Proof.Machine

/-- The parameters of a unit (R361): width, polynomial, INIT, REFIN, REFOUT, XOROUT. -/
structure CrcP where
  w      : Nat
  poly   : Nat
  init   : Nat
  refin  : Bool
  refout : Bool
  xorout : Nat
  deriving DecidableEq, Repr

/-- One bit into the state. -/
def crcBit (p : CrcP) (s b : Nat) : Nat :=
  let top := (s / 2 ^ (p.w - 1) + b) % 2
  let s := s * 2 % 2 ^ p.w
  if top = 1 then s ^^^ (p.poly % 2 ^ p.w) else s

/-- One byte into the state (R361). -/
def crcByte (p : CrcP) (s b : Nat) : Nat :=
  iter 8 (fun k s => crcBit p s (if p.refin then b / 2 ^ k % 2 else b / 2 ^ (7 - k) % 2)) s

/-- The w low bits of a state in reverse order. -/
def reflect (s w : Nat) : Nat := iter w (fun k a => a + s / 2 ^ k % 2 * 2 ^ (w - 1 - k)) 0

/-- The result of a state (R361). -/
def crcResult (p : CrcP) (s : Nat) : Nat := (if p.refout then reflect s p.w else s) ^^^ p.xorout

/-- Bytes into a state. -/
def crcBytes (p : CrcP) (s : Nat) (l : List Byte) : Nat := l.foldl (fun (s : Nat) b => crcByte p s b.toNat) s

/-- The check of a byte string. -/
def crcOf (p : CrcP) (l : List Byte) : Nat := crcResult p (crcBytes p (p.init % 2 ^ p.w) l)

/-- The parameters that CFG, POLY, INIT and XOROUT words name (Table 17-4). -/
def crcParams (cfg poly init xorout : Word) : CrcP :=
  { w := fld cfg 4 0 + 1, poly := poly.toNat, init := init.toNat, refin := bit cfg 8, refout := bit cfg 9
    xorout := xorout.toNat }

/-- The check of content data (R160): the reset configuration of ZCRC and HCRC1. -/
def crc32 : CrcP :=
  { w := 32, poly := 0x04C11DB7, init := 0xFFFFFFFF, refin := true, refout := true, xorout := 0xFFFFFFFF }

/-- CHECK of a native frame (R291). -/
def crc16 : CrcP := { w := 16, poly := 0x1021, init := 0xFFFF, refin := false, refout := false, xorout := 0 }

/-- CHK of a compatibility frame (R299). -/
def crc8 : CrcP := { w := 8, poly := 0x07, init := 0, refin := false, refout := false, xorout := 0 }

end Sys2Proof.Machine
end

