-- ==== Sys2Proof/Machine/ZoneRead.lean ====
section
/-! DEFINITION. Reads of a zone's registers (R307, R368–R375): what every register shows, and what a read does. -/

namespace Sys2Proof.Machine

/-- The page of an offset in a zone's block. -/
def pageOf (off : Nat) : Nat := off / 0x400 * 0x400

/-- Block type of a zone page (Table 18-5). -/
def zonePageType (page : Nat) : Nat :=
  let i := page / 0x400
  if i ≤ 13 then 0x101 + i else if i ≤ 17 then 0x10F else 0x110 + (i - 18)

/-- PG_ID of a zone page (R370). -/
def Zone.pgId (z : Zone) (page : Nat) : Word :=
  let i := page / 0x400
  BitVec.ofNat 32 (zonePageType page * 2 ^ 16 + 0x100 + z.id.val * 16 + (if 14 ≤ i ∧ i ≤ 17 then i - 14 else 0))

/-- PG_LOCK of a page: none on ZCTL and FENCE (R372). -/
def Zone.lockB (z : Zone) (page : Nat) : Bool := page ≥ 0x800 && bit (z.reg (page + 0x018)) 1
def Zone.lockH (z : Zone) (page : Nat) : Bool := page ≥ 0x800 && bit (z.reg (page + 0x018)) 0

/-- PG_FLT of a page. -/
def Zone.pgFlt (z : Zone) (page : Nat) : Word := z.reg (page + 0x00C) &&& BitVec.ofNat 32 (fltMask true page)

/-- PG_STAT (Table 18-3). -/
def Zone.pgStat (z : Zone) (page : Nat) : Word :=
  BitVec.ofNat 32 (z.ctl.st.code * 256 + 4 * b2n (z.lockB page) + 2 * b2n (z.lockH page) + b2n (z.pgFlt page != 0))

/-- A header register as it reads (Table 18-2). -/
def Zone.header (z : Zone) (page o : Nat) : Word :=
  match o with
  | 0x000 => z.pgId page
  | 0x004 => if (bankOf page).isSome then z.reg (page + 4) &&& 2 else 0
  | 0x008 => z.pgStat page
  | 0x00C => z.pgFlt page
  | 0x010 => z.reg (page + 0x010) &&& BitVec.ofNat 32 (fltMask true page)
  | 0x014 => match bankOf page with
    | some p => z.swaps[p].word
    | none => 0
  | 0x018 => if page ≥ 0x800 then z.reg (page + 0x018) &&& 3 else 0
  | _ => 0

/-! Status registers that show the machine's state. -/

/-- ZCTL.REG_STAT (Table 1-5). -/
def Zone.regStat (z : Zone) : Word :=
  BitVec.ofNat 32 (b2n z.pwr.zvcReg + 2 * b2n z.pwr.zvaReg + 4 * b2n z.pwr.zvcLim + 8 * b2n z.pwr.zvaLim)

/-- PLL.STAT (Table 2-7). -/
def Zone.pllStat (z : Zone) : Word :=
  BitVec.ofNat 32 (b2n z.pll.frefOk + 2 * b2n z.pll.lock + 4 * b2n z.pll.hold + 8 * b2n z.pll.slewing)

/-- POS.STAT (Table 2-9). -/
def Zone.posStat (z : Zone) : Word :=
  BitVec.ofNat 32 (b2n (bit (z.reg Reg.POS_STAT) 0) + 2 * b2n z.pos.stopped + 4 * b2n z.pos.neg + 8 * b2n z.pos.stale)

/-- SCHED.STAT and SCHED.FILL (Tables 3-8, 3-9). -/
def Zone.schedStat (z : Zone) : Word :=
  BitVec.ofNat 32 (z.sched.err * 2 ^ 12 + 2 * b2n (bit (z.reg Reg.SCHED_STAT) 1) + b2n (decide (z.sched.queue.length ≥ 256)))
def Zone.schedFill (z : Zone) : Word := BitVec.ofNat 32 (z.sched.high * 2 ^ 16 + z.sched.queue.length)

/-- The voice that VCTL.VSEL selects. -/
def Zone.vsel (z : Zone) : Fin 96 := fin 96 (min 95 (fld (z.reg Reg.VCTL_VSEL) 6 0))

/-- VCTL.VSTAT (Table 6-13). -/
def Voice.stat (v : Voice) : Word :=
  BitVec.ofNat 32 (
    b2n v.edit * 2 ^ 31 + b2n (v.life == .wait) * 2 ^ 30 +
    b2n v.sig.osc[(2 : Fin 3)].fin * 2 ^ 29 + b2n v.sig.osc[(1 : Fin 3)].fin * 2 ^ 28 + b2n v.sig.osc[(0 : Fin 3)].fin * 2 ^ 27 +
    b2n v.pclamp * 2 ^ 26 + v.posc % 4 * 2 ^ 24 + b2n v.perr * 2 ^ 23 +
    v.sig.env[(3 : Fin 4)].st % 8 * 2 ^ 20 + v.sig.env[(2 : Fin 4)].st % 8 * 2 ^ 17 +
    v.sig.env[(1 : Fin 4)].st % 8 * 2 ^ 14 + v.sig.env[(0 : Fin 4)].st % 8 * 2 ^ 11)

/-- Codes of Table 7-2. -/
def Life.code : Life → Nat
  | .free => 0 | .wait => 1 | .active => 2 | .released => 3 | .fading => 4

/-- VCTL.VINFO (Table 7-8). -/
def Voice.info (v : Voice) : Word :=
  let cls := if v.life = .free then 0 else v.st.cls
  let hd := match v.succ with | some s => s.handle.toNat | none => if v.life = .free then 0 else v.st.handle.toNat
  let sc := match v.succ with | some s => s.cls | none => 0
  BitVec.ofNat 32 (v.life.code * 2 ^ 29 + cls % 8 * 2 ^ 26 + b2n v.succ.isSome * 2 ^ 25 + sc % 8 * 2 ^ 22 + hd)

/-- VCTL.OCC_LO and OCC_HI (Table 7-7). -/
def Zone.occLo (z : Zone) : Word :=
  BitVec.ofNat 32 (z.heldCount 0 + z.heldCount 1 * 2 ^ 8 + z.heldCount 2 * 2 ^ 16 + z.heldCount 3 * 2 ^ 24)
def Zone.occHi (z : Zone) : Word :=
  let fading := (z.voices.toList.filter (fun (v : Voice) => v.life == .fading)).length
  BitVec.ofNat 32 (z.heldCount 4 + z.heldCount 5 * 2 ^ 8 + z.freeCount * 2 ^ 16 + fading * 2 ^ 24)

/-- VCTL.DUCK_STAT (Table 7-8). -/
def Zone.duckStat (z : Zone) : Word := BitVec.ofNat 32 (b2n z.vox.duckOn * 2 ^ 31 + z.vox.duckA / 256 % 2 ^ 16)

/-- ROUTE.STAT (Table 9-10). -/
def Zone.routeStat (z : Zone) : Word :=
  let left := z.route.splW - z.route.splK
  BitVec.ofNat 32 (left % 1024 * 2 ^ 16 + 2 * b2n z.route.inactOk + b2n (left != 0))

/-- ROUTE.GCUR_HI and GCUR_LO (Table 9-9). -/
def Zone.gsel (z : Zone) : GainReg := z.route.g[fin 64 (fld (z.reg Reg.ROUTE_GSEL) 5 0)]
def GainReg.hi (g : GainReg) : Word :=
  BitVec.ofNat 32 (b2n g.pend * 2 ^ 31 + b2n (decide (0 < g.ramp)) * 2 ^ 30 + (BitVec.ofInt 36 g.cur).toNat / 2 ^ 32 * 2 ^ 16)

/-- ROUTE.LATk: of the active image, or of the last validated inactive one (Table 9-10). -/
def Zone.lat (z : Zone) (k : Nat) : Word :=
  ((if bit (z.reg Reg.ROUTE_CFG) 31 then z.route.latIn else z.route.latAct)[k]?).getD 0

/-- STONE.STAT (Table 9-11). -/
def Zone.stoneStat (z : Zone) : Word :=
  let on := bit (z.reg Reg.STONE_CFG) 0 && (z.ctl.st == .run || z.ctl.st == .hold)
  BitVec.ofNat 32 (2 * b2n on + b2n (decide (z.lim.stK < 384)))

/-- DSP.STAT (Table 10-13) but IN_RUN. -/
def Zone.dspStat (z : Zone) : Nat := 8 * b2n z.dsp.loaded + 4 * b2n z.dsp.running + 2 * b2n z.dsp.abandoned

/-- DEC.STAT (Table 11-5). -/
def ZDec.stat (d : ZDec) : Word :=
  let pb := match d.req with | some (b, _) => b | none => false
  BitVec.ofNat 32 (
    b2n d.valid * 2 ^ 31 + b2n (d.xf != 0) * 2 ^ 30 + b2n d.req.isSome * 2 ^ 29 + b2n d.bank * 2 ^ 28 + b2n pb * 2 ^ 27 +
    b2n d.cfgErr * 2 ^ 26 + b2n d.ovl * 2 ^ 25 + (d.xf - d.xk) % 2048 * 2 ^ 11 + min 2047 d.srem)

/-- One channel of AEC.STAT (Table 11-7). -/
def AecCh.stat (c : AecCh) (ovl : Bool) : Nat :=
  32 * b2n c.ckpt.isSome + 16 * b2n c.div + 8 * b2n ovl + 4 * b2n c.floor + 2 * b2n (decide (0 < c.dt)) + b2n c.adapt

/-- AEC.STAT and AEC.ERLE. -/
def Zone.aecStat (z : Zone) : Word :=
  BitVec.ofNat 32 (z.aec.ch[(1 : Fin 2)].stat z.dec[(1 : Fin 4)].ovl * 256 +
    z.aec.ch[(0 : Fin 2)].stat z.dec[(0 : Fin 4)].ovl)
def Zone.aecErle (z : Zone) : Word :=
  wordI (z.aec.ch[(1 : Fin 2)].erle * 65536 + z.aec.ch[(0 : Fin 2)].erle.emod 65536)

/-- A band value from a party's capture set (R238). -/
def Zone.bandCap (z : Zone) (p : Party) (i : Nat) : Word :=
  ((match p with | .host => z.aec.capH | .prog => z.aec.capP)[i]?).getD 0

/-- DAC.STAT (Table 13-9). -/
def Zone.dacStat (z : Zone) : Word :=
  let o := z.out
  BitVec.ofNat 32 (
    (z.outRow - 1) % 8 * 2 ^ 16 + b2n o.ampPin * 2 ^ 14 + b2n o.ampen * 2 ^ 13 + b2n o.clrX.isSome * 2 ^ 12 +
    b2n o.clrHold.isSome * 2 ^ 11 + b2n o.clr * 2 ^ 10 + b2n (o.mu == 0) * 2 ^ 9 + b2n o.cmok * 2 ^ 8 +
    b2n o.spanReq.isSome * 2 ^ 7 + o.seq % 8 * 2 ^ 4 + o.span % 8)

/-- GEN.STAT (Table 13-9). -/
def Zone.genStat (z : Zone) : Word :=
  let t := fld (z.reg Reg.GEN_TCFG) 31 30 != 0 && (z.ctl.st == .test || z.ctl.st == .recover) && !z.ladderOn
  BitVec.ofNat 32 (8 * b2n t + 4 * b2n z.burstTick.isSome + 2 * b2n (z.out.pStep != 0 || z.out.pReq.isSome) + b2n z.out.pOn)

/-- TDM.STAT (Table 13-8). -/
def Zone.tdmStat (z : Zone) : Word :=
  wordI (z.out.tphase * 65536 + 2 * b2n z.out.tpend + b2n z.out.tlock)

/-- Segments of each memory, and the memory and segment of a segment counted over all memories in code order (R352). -/
def segLoc (n : Nat) : Nat × Nat :=
  iterFrom (fun c (a : Nat × Nat) => if a.1 < 8 then a else
    if a.2 < memWords c / 64 then (c, a.2) else (8, a.2 - memWords c / 64)) 0 8 (8, n)

/-- MEM.BT_STAT (Table 17-4): a borrow is one command, so that no read falls within one. -/
def Zone.btStat (z : Zone) : Word := let s := segLoc z.mem.seg; BitVec.ofNat 32 (s.1 % 8 * 2 ^ 24 + s.2)

/-- MEM.ECCCNT of the memory that ECCSEL selects. -/
def Zone.eccSel (z : Zone) : Fin 8 := fin 8 (fld (z.reg Reg.MEM_ECCSEL) 2 0)
def Zone.eccCnt (z : Zone) : Word := let e := z.mem.ecc[z.eccSel]; BitVec.ofNat 32 (e.1 % 65536 * 2 ^ 16 + e.2 % 65536)

/-- MSG.STAT (Table 15-7). -/
def Zone.msgStat (z : Zone) : Word :=
  let f := (z.msgs.q.filter (fun (r : Rec) => r.cls == clsFault)).length
  BitVec.ofNat 32 (f * 2 ^ 16 + z.msgs.q.length)

/-- The parameters of ZCRC. -/
def Zone.crcP (z : Zone) : CrcP :=
  crcParams (z.reg Reg.ZCRC_CFG) (z.reg Reg.ZCRC_POLY) (z.reg Reg.ZCRC_INIT) (z.reg Reg.ZCRC_XOROUT)

/-- A register that the zone holds as a whole word: RWS registers read the active batten unless RDINACT (R53, R373). -/
def Zone.stored (z : Zone) (r : RegSpec) : Word :=
  if r.acc = .rws then
    match bankOf (pageOf r.off) with
    | some p => z.reg (z.bank p (bit (z.reg (pageOf r.off + 4)) 1) r.off)
    | none => z.reg r.off
  else z.reg r.off

/-- Registers of pages ZCTL to SCHED that show the machine's state. -/
def Zone.viewA (z : Zone) (off : Nat) : Option Word :=
  if off = Reg.ZCTL_STATE then some z.stateWord
  else if off = Reg.ZCTL_REG_STAT then some z.regStat
  else if off = Reg.FENCE_EN then some (BitVec.ofNat 32 z.fenceEn)
  else if off = Reg.FENCE_STORM then some (setFld (z.reg off) 31 24 z.ctl.bucket)
  else if off = Reg.PLL_STAT then some z.pllStat
  else if off = Reg.PLL_PHASE then some (wordI z.pll.phase)
  else if off = Reg.PLL_HOLD_TICKS then some (BitVec.ofNat 32 z.pll.holdTk)
  else if off = Reg.TIME_FRAME_LO then some (BitVec.extractLsb' 0 32 z.time.frame)
  else if off = Reg.TIME_STAT then some (setBit (z.reg off) 0 z.time.est)
  else if off = Reg.POS_POS_LO then some (BitVec.extractLsb' 0 32 z.pos.pos)
  else if off = Reg.POS_STAT then some z.posStat
  else if off = Reg.SCHED_STAT then some z.schedStat
  else if off = Reg.SCHED_FILL then some z.schedFill
  else if off = Reg.SCHED_MODE then some (BitVec.ofNat 32 z.sched.cur)
  else none

/-- TMR registers that show the machine's state. -/
def Zone.viewTmr (z : Zone) (off : Nat) : Option Word :=
  if off < 0x1420 ∨ 0x14A0 ≤ off then none
  else
    let n := fin 4 ((off - 0x1420) / 0x20)
    let t := z.tmr[n]
    match (off - 0x1420) % 0x20 with
    | 0x08 => some (BitVec.ofNat 32 t.period)
    | 0x0C => some (BitVec.ofNat 32 t.count)
    | 0x10 => some (BitVec.ofNat 32 (4 * b2n t.pend + fld (z.reg off) 1 0))
    | _ => none

/-- Registers of pages VCTL to STONE and DSP that show the machine's state. -/
def Zone.viewB (z : Zone) (off : Nat) : Option Word :=
  if off = Reg.VCTL_VSTAT then some z.voices[z.vsel].stat
  else if off = Reg.VCTL_VINFO then some z.voices[z.vsel].info
  else if off = Reg.VCTL_VAGE then
    some (if z.voices[z.vsel].life = .free then 0 else BitVec.extractLsb' 0 32 z.voices[z.vsel].start)
  else if off = Reg.VCTL_OCC_LO then some z.occLo
  else if off = Reg.VCTL_OCC_HI then some z.occHi
  else if off = Reg.VCTL_DUCK_STAT then some z.duckStat
  else if off = Reg.ROUTE_STAT then some z.routeStat
  else if off = Reg.ROUTE_GCUR_HI then some z.gsel.hi
  else if off = Reg.ROUTE_GCUR_LO then some (wordI z.gsel.cur)
  else if 0x2480 ≤ off ∧ off < 0x2500 then some (z.lat ((off - 0x2480) / 4))
  else if off = Reg.LIM_STAT then some z.limStat
  else if off = Reg.STONE_STAT then some z.stoneStat
  else none

/-- Registers of the measurement, governor, output and memory pages that show the machine's state. -/
def Zone.viewC (z : Zone) (off : Nat) : Option Word :=
  if 0x3800 ≤ off ∧ off < 0x4800 ∧ off % 0x400 = 0x3C then some z.dec[fin 4 ((off - 0x3800) / 0x400)].stat
  else if off = Reg.AEC_ERLE then some z.aecErle
  else if 0x4C44 ≤ off ∧ off < 0x4C60 then
    let k := (off - 0x4C44) / 4
    if h : k < 7 then some (z.nalStat ⟨k, h⟩) else none
  else if off = Reg.LINE_STAT then some z.lineStat
  else if off = Reg.DAC_STAT then some z.dacStat
  else if off = Reg.GEN_STAT then some z.genStat
  else if off = Reg.TDM_STAT then some z.tdmStat
  else if off = Reg.ZCRC_RES then some (BitVec.ofNat 32 (crcResult z.crcP (z.reg Reg.ZCRC_CUR).toNat))
  else if off = Reg.MEM_BT_STAT then some z.btStat
  else if off = Reg.MEM_ECCCNT then some z.eccCnt
  else if off = Reg.MSG_STAT then some z.msgStat
  else if off = Reg.MSG_NSEQ then some (BitVec.setWidth 32 z.msgs.nseq)
  else none

/-- What a register shows, where a read of it does nothing. -/
def Zone.view (z : Zone) (r : RegSpec) : Word :=
  match z.viewA r.off with
  | some w => w
  | none => match z.viewTmr r.off with
    | some w => w
    | none => match z.viewB r.off with
      | some w => w
      | none => match z.viewC r.off with
        | some w => w
        | none => z.stored r

/-- The words of a party's TIME and POS capture sets, or the live ones in DOUBLE mode (R47, R48). -/
def Zone.timeSet (z : Zone) (p : Party) : Cap3 :=
  if bit (z.reg Reg.TIME_CTL) 0 then z.timeCap else match p with | .host => z.time.capHost | .prog => z.time.capProg
def Zone.posSet (z : Zone) (p : Party) : Cap3 :=
  if bit (z.reg Reg.TIME_CTL) 1 then z.posCap else match p with | .host => z.pos.capHost | .prog => z.pos.capProg

/-- The address registers of the windows: each party has its own (R378). -/
def Zone.winAddr (z : Zone) (p : Party) (off : Nat) : Option Word :=
  if off = Reg.VWIN_ADDR then some (z.win p).vaddr
  else if off = Reg.RWIN_ADDR then some (z.win p).raddr
  else if off = Reg.DWIN_ADDR then some (z.win p).daddr
  else if off = Reg.MEM_WADDR then some (z.win p).maddr
  else if 0x3800 ≤ off ∧ off < 0x4800 ∧ off % 0x400 = 0x30 then some (z.dec[fin 4 ((off - 0x3800) / 0x400)].win p).addr
  else none

/-- CONFm of the masters whose requests the model grants at once (R346–R349): what they have waited beside the yields that are
counted is free (assumption 32). -/
def Zone.confRead (z : Zone) (off : Nat) : Word × Zone :=
  let (w, y) := z.freeWord 22
  (BitVec.ofNat 32 (satAdd (2 ^ 32 - 1) (z.reg off).toNat (w.toNat % 2 ^ 32)), y.setReg off 0)

/-- Registers whose read differs by party or does something (R47, R82, R137, R219, R225, R238, R412, Table 11-7). -/
def Zone.readSpecial (z : Zone) (p : Party) (off : Nat) : Option (Word × Zone) :=
  match z.winAddr p off with
  | some w => some (w, z)
  | none =>
    if off = Reg.PLL_FOFS then some z.fofsRead
    else if off = Reg.MEM_CONF 0 ∨ off = Reg.MEM_CONF 4 ∨ off = Reg.MEM_CONF 5 ∨ off = Reg.MEM_CONF 6 then some (z.confRead off)
    else if off = Reg.TIME_FRAME_LO then
      some (BitVec.extractLsb' 0 32 z.time.frame, if bit (z.reg Reg.TIME_CTL) 0 then z else z.latchTime p)
    else if off = Reg.TIME_FRAME_HI then some ((z.timeSet p).a, z)
    else if off = Reg.TIME_SUBF then
      let z := if bit (z.reg Reg.TIME_CTL) 0 then z.drawSubf else z
      some ((z.timeSet p).b, z)
    else if off = Reg.TIME_TICK then some ((z.timeSet p).c, z)
    else if off = Reg.POS_POS_LO then
      some (BitVec.extractLsb' 0 32 z.pos.pos, if bit (z.reg Reg.TIME_CTL) 1 then z else z.latchPos p)
    else if off = Reg.POS_POS_HI then some ((z.posSet p).a, z)
    else if off = Reg.POS_FRAC then some ((z.posSet p).b, z)
    else if off = Reg.POS_SPEED then some ((z.posSet p).c, z)
    else if off = Reg.VWIN_DATA then some (z.vwinRead p)
    else if off = Reg.RWIN_DATA then some (z.rwinRead p)
    else if off = Reg.DWIN_DATA then some (z.dwinRead p)
    else if off = Reg.MEM_WDATA then some (z.memRead p)
    else if off = Reg.DSP_STAT then
      match p with
      | .prog => some (BitVec.ofNat 32 (z.dspStat + 1), z)
      | .host =>
        let (c, z) := z.freeCond 7
        some (BitVec.ofNat 32 (z.dspStat + b2n (c && z.dspRuns)), z)
    else if 0x3800 ≤ off ∧ off < 0x4800 ∧ off % 0x400 = 0x34 then some (z.cdataHiRead (fin 4 ((off - 0x3800) / 0x400)) p)
    else if 0x3800 ≤ off ∧ off < 0x4800 ∧ off % 0x400 = 0x38 then some (z.cdataLoRead (fin 4 ((off - 0x3800) / 0x400)) p)
    else if off = Reg.AEC_STAT then
      some (z.aecStat, { z with aec := { z.aec with ch := z.aec.ch.map (fun (c : AecCh) => { c with div := false }) } })
    else if 0x4840 ≤ off ∧ off < 0x485C then some (z.bandCap p ((off - 0x4840) / 4), z)
    else if 0x4860 ≤ off ∧ off < 0x487C then some (z.bandCap p (7 + (off - 0x4860) / 4), z)
    else if 0x4880 ≤ off ∧ off < 0x489C then some (z.bandCap p (14 + (off - 0x4880) / 4), z)
    else if off = Reg.AEC_BTICK then some (z.reg off, z.bandCapture p)
    else none

/-- An RC register cleared by its read (R373). -/
def Zone.rcClear (z : Zone) (off : Nat) : Zone :=
  if off = Reg.MEM_ECCCNT then { z with mem := { z.mem with ecc := z.mem.ecc.set z.eccSel (0, 0) } } else z.setReg off 0

/-- PG_CTL.CLRCNT: every RC register of a page cleared (Table 18-3). -/
def Zone.clrCnt (z : Zone) (page : Nat) : Zone :=
  (zoneRegs.filter (fun r => r.acc == .rc && pageOf r.off == page)).foldl (fun (z : Zone) r => z.rcClear r.off) z

/-- What a read gives: reason code (0 readable), word, and the zone after it. -/
structure RdRes where
  why  : Nat
  data : Word
  z    : Zone

/-- Whether the page router answers for the zone (R18). -/
def Zone.covered (z : Zone) : Bool := z.ctl.st == .fenced && (bit (z.reg Reg.FENCE_CAUSE) 5 || z.pwr.gated)

/-- A read of the zone register at an offset of its block (R307, R368, R373). -/
def Zone.regRead (z : Zone) (p : Party) (off : Nat) : RdRes :=
  let page := pageOf off
  let o := off % 0x400
  if o = 0 then ⟨0, z.pgId page, z⟩
  else if page ≥ 0x800 ∧ z.ctl.st = .off then ⟨0x08, 0, z⟩
  else if page ≥ 0x800 ∧ z.covered then ⟨0x07, 0, z⟩
  else if o < 0x20 then ⟨0, z.header page o, z⟩
  else match zoneSpec off with
    | none => ⟨0, 0, z⟩
    | some r =>
      if r.acc = .wo then ⟨0x06, 0, z⟩
      else match z.readSpecial p off with
        | some (w, z) => ⟨0, w, z⟩
        | none =>
          let w := z.view r
          ⟨0, w, if r.acc = .rc then z.rcClear off else z⟩

end Sys2Proof.Machine
end

