-- ==== Sys2Proof/Machine/BackOps.lean ====
section
/-! DEFINITION. Events that end a wait inside a zone, and the background work of its memories: gain ramps and the splice
window (R181, R186), the scrubber and the background test (R350–R355). -/

namespace Sys2Proof.Machine

/-! Gain ramps and splices. -/

/-- ZTO as it acts. -/
def Zone.zto (z : Zone) : Nat := clampN 48 4800 (fld (z.reg Reg.ROUTE_CFG) 12 0)

/-- A pending gain register that has waited ZTO frames ramps over the next 32 (R186). -/
def Zone.gramp (z : Zone) (k : Fin 64) : Zone :=
  let g := z.route.g[k]
  if g.pend && decide (g.wait ≥ z.zto) then
    let g' := { g with pend := false, wait := 0, ramp := 32, from0 := g.cur }
    let z := { z with route := { z.route with g := z.route.g.set k g' } }
    (z.count Reg.ROUTE_COUNT 31 16 1).setFlt 0x2400 4
  else z

/-- The gain registers whose wait has run out in this pass. -/
def Zone.gramps (z : Zone) : Zone := (List.finRange 64).foldl Zone.gramp z

/-- The end of the splice window after SPLW frames (R181): only the new versions run. -/
def Zone.spliceEnd (z : Zone) : Zone :=
  if z.route.splW ≠ 0 ∧ z.route.splK ≥ z.route.splW then z.spliceDrop else z

/-! Scrubber (R351). -/

/-- The zone's memories are powered and clocked. -/
def Zone.memOn (z : Zone) : Bool := z.ctl.st != .off && !z.pwr.gated && !z.pwr.asleep && !z.pwr.halted

/-- SCRUB and SEGS as they act. -/
def Zone.scrubEvery (z : Zone) : Nat := Nat.max 1 (fld (z.reg Reg.MEM_BT_CFG) 15 0)
def Zone.btSegs (z : Zone) : Nat := Nat.max 1 (fld (z.reg Reg.MEM_BT_CFG) 23 16)

/-- A tick of the scrubber's count, which runs from the last pass that fell due and was begun: a pass that falls due while the one
before has not been done sets SCRUBLATE. The borrows of a tick begin anew (R352). -/
def Zone.memTick (z : Zone) : Zone :=
  if !z.memOn then z
  else
    let n := z.mem.scrub + 1
    let e := z.scrubEvery
    let z := { z with mem := { z.mem with scrub := if n ≥ 3 * e then 2 * e else n, borrows := 0 } }
    if n = 2 * e ∨ n ≥ 3 * e then z.setFlt 0x6800 1 else z

/-- One memory of a scrub pass: errors in memories 4–6 fence (R351, Table 17-1). -/
def Zone.scrubMem (z : Zone) (c : Nat) : Zone :=
  let (bad, z) := z.eccScan c 0 (memWords c)
  if bad && 4 ≤ c && c ≤ 6 then z.raise 0x02 else z

/-- A scrub pass that is due reads every word, in code order. -/
def Zone.scrubPass (z : Zone) : Zone :=
  if !z.memOn ∨ z.mem.scrub < z.scrubEvery then z
  else iter 8 (fun c z => z.scrubMem c) { z with mem := { z.mem with scrub := z.mem.scrub - z.scrubEvery } }

/-! Background test (R352–R355). -/

/-- Segments of all memories. -/
def allSegs : Nat := 5202

/-- The next segment; a pass ends after the last. -/
def Zone.segNext (z : Zone) : Zone :=
  let n := z.mem.seg + 1
  let z := { z with mem := { z.mem with seg := if n ≥ allSegs then 0 else n, yields := 0 } }
  if n ≥ allSegs then z.count Reg.MEM_BTCNT 7 0 1 else z

/-- Whether BT borrows from a segment (R353): no cache line that holds a block, no program memory while the DSP runs. -/
def Zone.borrowable (z : Zone) (c seg : Nat) : Bool :=
  if c = 0 then !z.cache.lines.any (fun l => l.line == seg / 8)
  else if c = 3 then !z.dsp.running
  else true

/-- The master whose request ends a borrow: the one that works in the memory, host access where the zone DSP does not
(assumption 29). -/
def yieldMaster (c : Nat) (dsp : Bool) : Nat :=
  match c with
  | 1 | 2 | 3 => if dsp then 3 else 5
  | 5 => 5
  | 6 => 1
  | 7 => 2
  | _ => 0

/-- A yield (R354): the stall of 16 to 24 cycles is free (assumption 16). -/
def Zone.btYield (z : Zone) (c : Nat) : Zone :=
  let (w, z) := z.freeWord 9
  let n := 16 + w.toNat % 9
  let m := yieldMaster c z.dsp.running
  let z := (z.count Reg.MEM_BTCNT 31 24 1).count (Reg.MEM_CONF m) 31 0 n
  let z := if m = 3 then z.dspHold n else z
  let y := z.mem.yields + 1
  let z := { z with mem := { z.mem with yields := y, borrows := z.btSegs } }
  if y ≥ 4 then (z.segNext).count Reg.MEM_BTCNT 23 16 1 else z

/-- A march that fails (R355). -/
def Zone.btFail (z : Zone) (c seg : Nat) : Zone :=
  let z := z.setReg Reg.MEM_BTFAIL (BitVec.ofNat 32 (c % 8 * 2 ^ 24 + seg % 2 ^ 12))
  let z := (z.count Reg.MEM_BTCNT 15 8 1).setFlt 0x6800 2
  if 4 ≤ c ∧ c ≤ 6 then z.raise 0x02 else z

/-- The words of a segment after its restore: single errors are gone with the fresh check bits, uncorrectable words read as
uncorrectable (R352, R355). -/
def ZMem.restored (m : ZMem) (c seg : Nat) : ZMem :=
  { m with marks := m.marks.filter (fun p => p.1 < memKey c (64 * seg) || memKey c (64 * seg + 64) ≤ p.1 || p.2 == 2) }

/-- One borrow (R352): save, march and restore of the next segment, or its yield. -/
def Zone.borrow (z : Zone) (marchFail yielded : Bool) : Zone :=
  if !bit (z.reg Reg.MEM_BT_CFG) 31 ∨ !(z.ctl.st == .run || z.ctl.st == .hold || z.ctl.st == .recover) ∨ !z.memOn ∨
      z.mem.borrows ≥ z.btSegs then z
  else
    let (c, seg) := segLoc z.mem.seg
    if !z.borrowable c seg then z.segNext
    else
      let (bad, z) := z.eccScan c (64 * seg) 64
      let z := if bad && 4 ≤ c && c ≤ 6 then z.raise 0x02 else z
      let z := { z with mem := { z.mem.restored c seg with borrows := z.mem.borrows + 1 } }
      if yielded then z.btYield c
      else
        let z := z.segNext
        if marchFail then z.btFail c seg else z

end Sys2Proof.Machine
end

