-- ==== Sys2Proof/Machine/Reset.lean ====
section
/-! DEFINITION. A zone and the host complex as a device reset leaves them (R9, R375, R385, R388). Where the spec states no
value, the value here is the model's choice (assumption 7). -/

namespace Sys2Proof.Machine

/-- One party's window registers at their reset values. -/
def WinSet.zero : WinSet :=
  let w : Win := { p0 := 0, p1 := 0, rd := 0 }
  { vaddr := 0x20000, raddr := 0x20000, daddr := 0x20000000, maddr := 0x20000, v := w, r := w, d := w, m := w }

/-- A decimator after device reset: the configuration registers' reset values and a bank of one coefficient (R224). -/
def ZDec.atReset (n : Nat) : ZDec :=
  let m12 := zoneRst (Reg.DEC_MA12 n)
  let m3 := zoneRst (Reg.DEC_MA3 n)
  let f := zoneRst (Reg.DEC_FIR n)
  let w : DecWin := { addr := 0x80, hi := 0, rd := 0 }
  { ma := Vector.replicate 3 MaSt.zero, ma12 := m12, ma3 := m3, fir := f, staged := false, cfgErr := false
    bank0 := decBankReset, bank1 := decBankReset, bank := false, xf := 0, xk := 0, req := none, hist := [], newX := false, acc := AccSt.zero
    out := 0, valid := false, outOvl := false, srem := 0, ovl := false, run2 := 0, runOk := 0, codes := [], fresh := false, srst := false, await := false
    winH := w, winP := w }

/-- A zone at device reset: OFF, FRAME 0 running from ZSLOW with FRAME_EST set (R385). -/
def Zone.reset (id : ZoneId) : Zone :=
  { id := id
    ctl := { st := .off, runHeld := false, testsOk := false, resume := false, warm := false, initTicks := 0, initSlow := false
             marchFail := false, ladFail := false, warmLost := false, orphan := false, hcloss := false, wdLen := 0
             wdHost := false, wdRun := 0, bucket := 0, leakTicks := 0, hbMiss := 0 }
    pwr := { vanaGood := true, zvcReg := false, zvaReg := false, zvcLim := false, zvaLim := false, gated := false
             regaOk := false, pinHold := true, halted := false, slp := none, asleep := false, waking := false }
    regs := []
    time := { frame := 0, subf := 0, est := true, syncHi := false, free := false, hFr := 0, sFr := 0, slowAcc := 0
              capHost := ⟨0, 0, 0⟩, capProg := ⟨0, 0, 0⟩, tk := false, began := false }
    pll := { lock := false, hold := false, slewing := false, frefOk := false, everLock := false, small := 0, valid := 0
             bad := 0, big := 0, phase := 0, slewE := 0, rate := 0, rateChg := false, holdTk := 0, slewN := 0, ref := 0, fofs := 0 }
    pos := { pos := 0, frac := 0, acc := 0, speed := 0, vel := 0, mode := fld (zoneRst Reg.POS_CFG) 1 0, hist := []
             last := none, since := 0, neg := false, stopped := true, stale := false, lvlA := false, lvlB := false
             hcmd := none, capHost := ⟨0, 0, 0⟩, capProg := ⟨0, 0, 0⟩, jump := false }
    tmr := Vector.replicate 4 { period := 0, count := 0, unit := false, oneshot := false, force := false, pend := false }
    sched := { queue := [], seq := 0, high := 0, err := 0, mode := none, cur := 0, devRep := none, p0prot := 0 }
    swaps := Vector.replicate 6 { active := false, pend := false, copying := false, result := 0, tgt := 0, target := 0
                                  copy := false, owned := false }
    msgs := { q := [], nseq := 0 }
    voices := Vector.replicate 96 Voice.free0
    vox := { battA := [], battB := [], lanes := Vector.replicate 4 AccSt.zero, laneSat := 0
             res := Vector.replicate 6 0, winLeft := 0, winN := 0, hostq := [], ans := none, duckA := 0, duckP := g36One, duckT := g36One, duckOn := false
             duckCfg := zoneRst Reg.VCTL_DUCK_CFG }
    winH := WinSet.zero, winP := WinSet.zero
    cache := { lines := [], mem := [], queue := [], wait := [], clock := 0, fenced := [], starves := 0, chks := 0
               refets := 0, fences := 0, misses := 0, nolines := 0, absents := 0 }
    route := { batA := [], batB := []
               g := Vector.replicate 64 { cur := g36One, tgt := g36One, pend := false, wait := 0, ramp := 0
                                          from0 := g36One, neg := none }
               reqH := [], bus := Vector.replicate 16 AccSt.zero, mb := AccSt.zero
               toAcc := Vector.replicate 8 AccSt.zero, diAcc := Vector.replicate 64 AccSt.zero
               z1 := Vector.replicate 16 0, mbCap := 0, toOut := Vector.replicate 8 0, diOut := Vector.replicate 64 0
               splice := [], splW := 0, splK := 0, passed := false, inactOk := false, latAct := [], latIn := [] }
    lim := { line := [], g := g36One, ceff := 2 ^ 32 - 2 ^ 13, y := 0, lookO := 48, lookK := 96, stG := 0, stF := 0
             stT := 0, stK := 384, stSrc := false, stMute := 192 }
    dsp := ZDsp.zero
    dec := Vector.ofFn (fun n : Fin 4 => ZDec.atReset n.val)
    aec := { ch := Vector.replicate 2 AecCh.zero, accs := Vector.replicate 2 AccSt.zero, refIn := [], x := [], dly := 0
             win := 0, last := none
             bands := Vector.replicate 5 (Vector.replicate 7 { a := ⟨0, 0⟩, b := ⟨0, 0⟩, sq := 0, n := 0 })
             sup := 0, capH := List.replicate 21 0x80008800, capP := List.replicate 21 0x80008800 }
    gov := { nal := Vector.replicate 7 { acc := 0, code := 0, old := 0, z1 := 0, z2 := 0, untr := 0, trust := false, tcode := 0 }
             iStart := none, iOk := false, iN := 0, vRe := 0, vIm := 0, iRe := 0, iIm := 0, iSet := [], verdict := 0
             cand := 0, runLen := 0, measured := false, fenceV := 0, zRep := 0, baseOk := false, baseMis := false, baseReq := none
             ampFlt := false, ampLow := none, ampRel := none, retries := 0, ampLock := false, hRun := false }
    out := { span := 1, seq := 0, seqT := 0, seqTgt := 1, seqCut := false, seqDue := false, spanReq := none, parkN := 0, cm := 0, cmT := 0, onT := none, cmok := false
             wait := true, mu := 0, ampen := false, ampKeep := false, ampAuto := false, ampPin := true, clr := false, clrHold := none
             clrX := none, phi := 0, pOn := false, pAmp := 0, pInc := 0, pRidge := 0, pStep := 0, pNew := 0, pOld := 0
             pReq := none, fTicks := none, tgen := 0, tphi := 0, tseed := 0, testTk := 0, hist := [], mics := []
             codes := Vector.replicate 4 0, elem := 32, dgHeld := Vector.replicate 4 0, tcfg := 0, tlock := false, tphase := 0, tpend := false
             trx := Vector.replicate 8 0, tin := Vector.replicate 8 0, ttx := Vector.replicate 8 none }
    mem := { marks := [], ecc := Vector.replicate 8 (0, 0), scrub := 0, seg := 0, yields := 0, borrows := 0 }
    draws := 0 }

/-- The content port after device reset: no bundle (R388); the flash lists nothing. -/
def Content.reset : Content :=
  { mstate := 0, job := none, mfail := 0, lres := 0, nb := 0, serial := 0, nonce := [], base := 0, barea := 0, harea := 0, items := []
    groups := [], hash := [], slot := 0, rr := 0, flash := [] }

/-- The host complex after a first device reset (R375, R385, R388); shipped in life-cycle state MAKER (assumption 7). -/
def HostC.reset : HostC :=
  { regs := [], cont := Content.reset, cek := []
    link := { lmode := 0, rx := 6, tx := 6, heard := none, ta := 0, slow := false, rxBusy := false, silence := 0, taconf := false
              txfault := false, oweTx := false, txq := [], lastRx := 0, lastTx := 0, ltxd := [], lsw := [], sgArm := none }
    proto := { vwait := none, wait := [], held := [], kept := [], bulk := [], msgs := { q := [], nseq := 0 }, last := 7 }
    sec := { open0 := none, stored := none, shake := none, tagRun := 0, ckAge := 251, bfloor := 0, owk := []
             opk := Vector.replicate 4 none, tgk := [], stok := Vector.replicate 32 none, nonces := [], floor := 0
             cfloor := 0, dik := (List.range 64).map (Config.shipped 0), cert := (List.range 136).map (Config.shipped 1)
             fault := false, pufBad := false, hot := false, p0 := none }
    lcs := { st := 1, pend := none, rmaPend := false, zeroPend := false, rmaCount := 0, tamper := 0, chal := []
             dbgOpen := false, testOpen := false, res := 0 }
    nvm := { mem := [], buf := none, flog := 0, flogT := Vector.replicate 9 none }
    pwr := { rcause := 0, booted := false, zeroed := false, pstate := 0, slpT := 0, xin := false, hpll := false, cpll := false, x32 := false
             linkOsc := false, testen := false }
    base := Vector.replicate 8 none
    bus := { data := 0, reason := 0, detail := 0, wrOff := 0, wrMask := 0, wrN := 0 }
    draws := 0 }

end Sys2Proof.Machine
end

