-- ==== Sys2Proof/Machine/State.lean ====
section
/-! DEFINITION. The state of the device, its faults and refusals, and the state after reset. -/

namespace Sys2Proof.Machine

/-- Why a command stops the model: none does. The spec gives every command an effect from every state. -/
inductive Fault where
  deriving DecidableEq, Repr

/-- Why the model refuses a command. -/
inductive Refusal where
  /-- Raised by no arm of exec: every command has its meaning. It would name a command without one. Safe: the model stops. -/
  | notModelled (mnemonic : String)
  deriving DecidableEq, Repr

/-- The device: eight zones, the host complex, and the queue of the commands that wait, first in, first out. -/
structure State where
  zones   : Vector Zone 8
  host    : HostC
  pending : List Instr
  deriving DecidableEq, Repr

/-- The device right after a power-on reset and start-up without a boot record (R385, R388; assumption 7). -/
def State.reset : State :=
  { zones := Vector.ofFn (fun i : Fin 8 => Zone.reset i)
    host := HostC.reset
    pending := [] }

end Sys2Proof.Machine
end

