-- ==== Sys2Proof/Machine/ZoneCmd.lean ====
section
/-! DEFINITION. The commands of ZCTL and the zone-level operations that other events share (Table 1-2, R6–R12, R20–R27,
R36–R37, R411). -/

namespace Sys2Proof.Machine

/-- The zone's pages restored to their reset values (R375), with what stands in force of them. -/
def Zone.enableRegs (z : Zone) : Zone :=
  { z with
    regs := mapRegs enableReg z.regs
    dec := Vector.ofFn (fun n : Fin 4 => ZDec.atReset n.val)
    winH := WinSet.zero, winP := WinSet.zero
    aec := { z.aec with dly := fld (zoneRst Reg.AEC_CFG) 25 16 }
    out := { z.out with tcfg := zoneRst Reg.TDM_CFG, tlock := false, tpend := false }
    lim := { z.lim with stT := 0, stF := z.lim.stG, stK := 384 } }

/-- ENABLE (R9, R10, R375). A zone cannot leave OFF in DEAD (R340). -/
def Zone.cmdEnable (z : Zone) (h : HostC) : Zone :=
  if z.ctl.st = .off ∧ z.pwr.vanaGood ∧ h.lcs.st ≠ 5 then
    let z := z.enableRegs
    let z := { z with pll := { z.pll with rate := 0, everLock := false } }
    z.toInit false
  else z.reject

/-- DISABLE: the zone enters OFF. -/
def Zone.toOff (z : Zone) : Zone :=
  if z.ctl.st = .off then z
  else
    let z := (z.enter .off).toSlow
    let z := ((z.dropVoices).dspStop).spliceDrop
    { z with
      pwr := { z.pwr with zvcReg := false, zvaReg := false, zvcLim := false, zvaLim := false, gated := false, halted := false
                          slp := none, asleep := false, waking := false, regaOk := false }
      ctl := { z.ctl with runHeld := false, testsOk := false, resume := false } }

/-- DISABLE (Table 1-2). -/
def Zone.cmdDisable (z : Zone) : Zone := if z.ctl.st = .off then z.reject else z.toOff

/-- RESET_WARM and RESET_COLD (R10, R11). -/
def Zone.cmdReset (z : Zone) (warm : Bool) : Zone := if z.ctl.st = .off then z.reject else z.toInit warm

/-- RUN (R6). -/
def Zone.cmdRun (z : Zone) : Zone :=
  if z.ctl.st = .test then { z with ctl := { z.ctl with runHeld := true } } else z.reject

/-- RESUME (Table 1-2, R25). -/
def Zone.cmdResume (z : Zone) : Zone :=
  if z.ctl.st = .hold ∧ !z.ctl.orphan ∧ !z.ctl.hcloss then { z with ctl := { z.ctl with resume := true } } else z.reject

/-- FENCE (R13, cause HOST). -/
def Zone.cmdFence (z : Zone) : Zone :=
  if z.ctl.st = .off ∨ z.ctl.st = .fenced then z.reject else z.raise 0x200

/-- RECOVER (Table 1-2): a core that was gated restarts (Table 1-4). -/
def Zone.cmdRecover (z : Zone) : Zone :=
  if z.ctl.st = .fenced ∧ z.causesClear then
    let z := { z with pwr := { z.pwr with gated := false, zvcReg := true, zvcLim := false } }
    z.enter .recover
  else z.reject

/-- ZCTL.CMD (Table 1-6). -/
def Zone.zctlCmd (z : Zone) (h : HostC) (v : Word) : Zone :=
  if fld v 15 8 ≠ 0xA5 then z.reject
  else match fld v 3 0 with
    | 1 => z.cmdEnable h
    | 2 => z.cmdDisable
    | 3 => z.cmdReset true
    | 4 => z.cmdReset false
    | 5 => z.cmdRun
    | 6 => z.cmdResume
    | 7 => z.cmdFence
    | 8 => z.cmdRecover
    | _ => z

/-- A write of ZCTL.WDOG_KICK (R411). -/
def Zone.wdogKick (z : Zone) (p : Party) (v : Word) : Zone :=
  let host := p == .host
  if v.toNat = 0x5A ∧ z.ctl.wdHost = host ∧ z.ctl.wdLen ≠ 0 then z.wdStart
  else if v.toNat = 0x5A ∧ z.ctl.wdLen = 0 ∧ bit (z.reg Reg.ZCTL_WDOG) 16 = host then z
  else z.reject

/-- A write of ZCTL.WDOG (R411). -/
def Zone.wdogWrite (z : Zone) (v : Word) : Zone :=
  let z := z.setReg Reg.ZCTL_WDOG (v &&& 0x1FFFF)
  if fld v 15 0 = 0 then { z with ctl := { z.ctl with wdLen := 0 } }
  else if z.ctl.wdLen = 0 then z.wdStart
  else z

/-- INIT is complete when the PLL is locked and CMOK is set (R12, R265); the memories are prepared within ENABLE or reset. -/
def Zone.initDone (z : Zone) : Bool := z.ctl.st == .init && z.pll.lock && z.out.cmok

/-- INIT_COMPLETE. -/
def Zone.initComplete (z : Zone) : Zone :=
  if z.initDone then { z with ctl := { z.ctl with testsOk := false } }.enter .test else z

/-- INIT_SLOW (R12). -/
def Zone.initSlowEv (z : Zone) : Zone :=
  if z.ctl.st = .init ∧ !z.ctl.initSlow ∧ z.ctl.initTicks ≥ 500 then
    { z with ctl := { z.ctl with initSlow := true } }.send clsFault 0x0003 []
  else z

/-- DEC2 returns to its own configuration, with a synchronising reset at the next tick boundary, after the ladder test (R274). -/
def Zone.ladderEnd (z : Zone) : Zone :=
  if bit (z.reg Reg.ZCTL_CFG) 2 then { z with dec := vmod z.dec 2 (fun d => { d with srst := true }) } else z

/-- TEST_COMPLETE (R12): a failed test fences with cause SELFTEST. The ladder test is judged only if it is selected. -/
def Zone.testComplete (z : Zone) (march ladder : Bool) : Zone :=
  if z.ctl.st ≠ .test ∨ z.ctl.testsOk then z
  else
    let ladder := ladder && bit (z.reg Reg.ZCTL_CFG) 2
    let z := z.ladderEnd
    let z := { z with ctl := { z.ctl with marchFail := march, ladFail := ladder, testsOk := !march && !ladder } }
    if march || ladder then z.raise 0x100 else z

/-- The watchdog's period has run out (R411). -/
def Zone.wdDue (z : Zone) : Bool := z.ctl.wdLen != 0 && !z.wdSuspended && decide (z.ctl.wdRun ≥ z.ctl.wdLen)

/-- The zone acts on a watchdog period that has run out. -/
def Zone.wdCheck (z : Zone) : Zone := if z.wdDue then z.wdExpire else z

/-- The trap bucket's leak when a WINDOW of ticks has passed (R13). -/
def Zone.leakCheck (z : Zone) : Zone := if z.ctl.leakTicks ≥ z.leakWindow then z.bucketLeak else z

/-- The orphan condition is judged against the link-silence count (R22). -/
def Zone.orphanSet (z : Zone) (silence : Nat) : Zone :=
  if z.ctl.st = .off then z
  else
    let on := decide (silence > z.orphanTo)
    let rise := on && !z.ctl.orphan
    let z := { z with ctl := { z.ctl with orphan := on } }
    if rise then z.whyHold else z

/-- The host-complex loss condition arises or ends (R23). -/
def Zone.hclossSet (z : Zone) (on : Bool) : Zone :=
  if z.ctl.st = .off then z
  else
    let rise := on && !z.ctl.hcloss
    let z := { z with ctl := { z.ctl with hcloss := on } }
    if rise then z.whyHold else z

/-- The trip timers are armed: not in the first 1 ms of the regulators' ramp in INIT (R21; assumption 82). -/
def Zone.tripArmed (z : Zone) : Bool :=
  z.ctl.st != .off && !(z.ctl.st == .init && z.ctl.initTicks == 0 && !z.pwr.zvaReg)

/-- A regulator stays in limit for 20 µs (R20, R21, Table 1-4). -/
def Zone.regTrip (z : Zone) (core analog : Bool) : Zone :=
  if !z.tripArmed then z
  else
    let z := { z with pwr := { z.pwr with
      zvcLim := z.pwr.zvcLim || core, zvaLim := z.pwr.zvaLim || analog
      zvcReg := z.pwr.zvcReg && !core, zvaReg := z.pwr.zvaReg && !analog, regaOk := z.pwr.regaOk && !analog } }
    let z := z.raise ((if core then 0x40 else 0) + (if analog then 0x80 else 0))
    let z := if core then { z.toSlow with pwr := { z.toSlow.pwr with gated := true } } else z
    if analog then z.pinsOff else z.ampEval

/-- VANAn falls below 4.70 V (R382). -/
def Zone.vanaFail (z : Zone) : Zone :=
  let z := { z with pwr := { z.pwr with vanaGood := false } }
  if z.ctl.st = .off then z
  else
    let z := { z with pwr := { z.pwr with zvaReg := false, regaOk := false } }
    (z.raise 0x80).pinsOff

/-- ZVA comes into regulation (R265, Table 1-4): the hold is released; a unipolar span needs no ramp. -/
def Zone.zvaGood (z : Zone) : Zone :=
  let z := { z with pwr := { z.pwr with vanaGood := true } }
  if z.ctl.st = .off then z
  else
    let z := { z with pwr := { z.pwr with zvaReg := true, zvaLim := false, regaOk := true, pinHold := z.pwr.asleep } }
    let z := if !z.bipolar && !z.pwr.asleep then z.cmSettled else z
    z.ampEval.parkCodes

/-- The common-mode ramp has ended (R265, R392): ZVA is in regulation and V_CM stands at that of the active span. -/
def Zone.cmokEv (z : Zone) : Zone :=
  if z.ctl.st = .off ∨ z.pwr.pinHold ∨ z.pwr.asleep ∨ z.sleepLow ∨ !z.pwr.zvaReg ∨ !z.cmReached then z else z.cmSettled.ampEval

/-- Debug halt begins (R27, R49). -/
def Zone.haltOn (z : Zone) : Zone :=
  if z.ctl.st = .off ∨ z.pwr.halted then z
  else
    let z := z.modOut (fun o => { o with ampKeep := o.ampen })
    let z := z.toSlow
    { z with pwr := { z.pwr with halted := true } }.dspStop.ampEval.parkCodes

/-- Debug halt ends: the PLL locks by a step with e (R51). -/
def Zone.haltOff (z : Zone) (e : Int) : Zone :=
  if !z.pwr.halted then z
  else ({ z with pwr := { z.pwr with halted := false } }.lockStep e).ampEval

/-- Sleep entry begins in the zone (row T of Table 19-7): μ falls with the updates, and a fallback tone stops. -/
def Zone.sleepStart (z : Zone) : Zone :=
  { z with pwr := { z.pwr with slp := some 0 }, out := { z.out with fTicks := none } }

/-- The zone stops (row T + 52 of Table 19-7): μ and the common mode stand at 0. -/
def Zone.sleepNow (z : Zone) : Zone :=
  if z.ctl.st = .off then z
  else
    let z := z.toSlow
    let z := z.modOut (fun o =>
      { o with mu := 0, wait := true, onT := none, fTicks := none, cmok := false, cm := 0, cmT := 0, ampAuto := false })
    let z := { z with pwr := { z.pwr with slp := none, asleep := true, waking := false, pinHold := true, zvaReg := false } }
    (z.dspStop).modOut (fun o => { o with ampen := false })

/-- A tick boundary of the sequence of Table 19-7: at T + 2 μ is 0 and ZnAMPEN low; from there the common mode of a bipolar span
ramps to 0 over 50 ticks, in place of any other ramp of it; at T + 52 the zone stops. -/
def Zone.sleepTick (z : Zone) : Zone :=
  match z.pwr.slp with
  | none => z
  | some n =>
    if n ≥ 51 then z.sleepNow
    else
      let z := { z with pwr := { z.pwr with slp := some (n + 1) } }
      if n = 0 then z
      else if n = 1 then (z.modOut (fun o => { o with mu := 0, wait := true, onT := none, cmT := 0 })).ampEval
      else if z.bipolar then z.modOut (fun o => { o with cm := o.cm - cmTickStep })
      else z

/-- A zone whose entry is abandoned before it has stopped (R391): the common mode ramps back from its present level, and
ZnAMPEN and μ follow their rules. -/
def Zone.sleepBack (z : Zone) : Zone :=
  let z := { z with pwr := { z.pwr with slp := none } }
  (z.modOut (fun o => { o with cmok := o.cmok && (!z.bipolar || o.cm == cmFull) })).ampEval

/-- The zone wakes (R392): its regulators ramp, its PLL locks again, and its engines wait for lock and CMOK. The watchdog
restarts with a full period (R390). -/
def Zone.wakeNow (z : Zone) : Zone :=
  if z.pwr.slp.isSome then z.sleepBack
  else if !z.pwr.asleep then z
  else
    let z := { z with pwr := { z.pwr with asleep := false, waking := true } }
    if z.ctl.wdLen = 0 then z else { z with ctl := { z.ctl with wdRun := 0 } }

/-- The engines restart at the first tick boundary with lock and CMOK (R392). -/
def Zone.wakeTick (z : Zone) : Zone :=
  if z.pwr.waking ∧ z.pll.lock ∧ z.out.cmok then { z with pwr := { z.pwr with waking := false } } else z

/-- Whether sleep cannot proceed: 3 P0ACTIVE, 4 ZBUSY, 0 it can (R389). -/
def Zone.sleepBar (z : Zone) : Nat :=
  if z.ctl.st = .off then 0
  else if 0 < z.heldCount 0 then 3
  else if z.ctl.st = .init ∨ z.ctl.st = .test then 4
  else 0

end Sys2Proof.Machine
end

