-- ==== Sys2Proof/Machine/ZoneWrite.lean ====
section
/-! DEFINITION. Writes of a zone's registers (R17, R53, R54, R210, R306, R307, R364, R368–R374): the reason of a refusal, and
what an accepted write does. -/

namespace Sys2Proof.Machine

/-- The sticky flags of an accumulator cleared (R76). -/
def AccSt.unflag (a : AccSt) (aov lost : Bool) : AccSt := { a with aov := a.aov && !aov, lost := a.lost && !lost }

/-- A W1C write of PG_FLT clears the flags of the units that own the page (R76, R80). -/
def Zone.fltClear (z : Zone) (page : Nat) (v : Word) : Zone :=
  let f := fun (a : AccSt) => a.unflag (bit v 0) (bit v 1)
  match page with
  | 0x1C00 => { z with vox := { z.vox with lanes := z.vox.lanes.map f, laneSat := if bit v 2 then 0 else z.vox.laneSat } }
  | 0x2400 => { z with route := { z.route with
      bus := z.route.bus.map f, mb := f z.route.mb, toAcc := z.route.toAcc.map f, diAcc := z.route.diAcc.map f } }
  | 0x3000 => { z with dsp := { z.dsp with
      acc := z.dsp.acc.map f, sat := z.dsp.sat && !bit v 2, tapclamp := z.dsp.tapclamp && !bit v 3
      wcoll := z.dsp.wcoll && !bit v 4, regdeny := z.dsp.regdeny && !bit v 5 } }
  | 0x3800 | 0x3C00 | 0x4000 | 0x4400 =>
    { z with dec := vmod z.dec (fin 4 ((page - 0x3800) / 0x400)) (fun (d : ZDec) => { d with acc := f d.acc }) }
  | 0x4800 => { z with aec := { z.aec with accs := z.aec.accs.map f } }
  | _ => z

/-- A write of PG_FLT (R369, Table 18-4). -/
def Zone.pgFltWrite (z : Zone) (page : Nat) (v : Word) : Zone :=
  (z.setReg (page + 0x00C) (z.reg (page + 0x00C) &&& ~~~v)).fltClear page v

/-- A write of PG_SWAP (R54, R57, Table 3-9). -/
def Zone.pgSwapWrite (z : Zone) (p : Fin 6) (v : Word) : Nat × Zone :=
  let g := BitVec.extractLsb' 0 24 v
  match fld v 26 24 with
  | 1 => z.arm p (z.tgtTick g) (some g) false
  | 2 => z.arm p (z.tick + 1) none false
  | 3 => (0, z.disarm p)
  | 4 => z.arm p (z.tgtTick g) (some g) true
  | 5 => z.arm p (z.tick + 1) none true
  | _ => (0, z)

/-- A write of PG_LOCK (R372, Table 18-3). -/
def Zone.pgLockWrite (z : Zone) (page : Nat) (v : Word) : Zone :=
  if page ≥ 0x800 ∧ fld v 15 8 = 0xA5 then z.setReg (page + 0x018) (v &&& 3) else z

/-- A write of a header register (R369). -/
def Zone.headerWrite (z : Zone) (page o : Nat) (v : Word) : Nat × Zone :=
  match o with
  | 0x004 =>
    let z := if bit v 0 then z.clrCnt page else z
    (0, if (bankOf page).isSome then z.setReg (page + 4) (v &&& 2) else z)
  | 0x00C => (0, z.pgFltWrite page v)
  | 0x010 => (0, z.setReg (page + 0x010) (v &&& BitVec.ofNat 32 (fltMask true page)))
  | 0x014 => match bankOf page with
    | some p => z.pgSwapWrite p v
    | none => (0, z)
  | 0x018 => (0, z.pgLockWrite page v)
  | 0x01C => (0x05, z)
  | _ => (0x06, z)

/-- A write of TIME.EPOCH_CTL (R36, Table 2-8). -/
def Zone.epochCtl (z : Zone) (v : Word) : Zone :=
  if bit v 0 then z.epochArm (bit v 1)
  else if bit (z.reg Reg.TIME_EPOCH_CTL) 0 then z.putBit Reg.TIME_EPOCH_CTL 0 false
  else z.putBit Reg.TIME_EPOCH_CTL 1 (bit v 1)

/-- The entry staged in SCHED.E0–E7. -/
def Zone.staged (z : Zone) : Vector Word 8 := Vector.ofFn (fun i : Fin 8 => z.reg (Reg.SCHED_E0 + 4 * i.val))

/-- A write of SCHED.CMD (R59, R60). -/
def Zone.schedCmd (z : Zone) (p0 : Bool) (v : Word) : Nat × Zone :=
  match fld v 3 0 with
  | 1 => z.post z.staged none p0
  | 2 => (0, z.cancel (BitVec.extractLsb' 16 16 v))
  | 3 => (0, z.flush)
  | _ => (0, z)

/-- A write of SCHED.SWAPSET (R58). A refused write leaves the register as it is. -/
def Zone.swapsetWrite (z : Zone) (v : Word) : Nat × Zone :=
  let put := fun (z : Zone) => z.setReg Reg.SCHED_SWAPSET (v &&& 0x4000003F)
  if bit v 31 then
    let t := if bit v 30 then z.tick + 1 else z.reg Reg.SCHED_SWAPTGT
    let (r, z) := z.armMask (BitVec.extractLsb' 0 6 v) t false
    (r, if r = 0 then put z else z)
  else (0, put z)

/-- A write of ROUTE.GREQ_LO: the request waits for the next frame boundary (R185). -/
def Zone.greqWrite (z : Zone) (v : Word) : Zone :=
  let hi := z.reg Reg.ROUTE_GREQ_HI
  { z with route := { z.route with reqH := z.route.reqH ++ [(fld hi 11 0, wrapS 36 (fld hi 19 16 * 2 ^ 32 + v.toNat))] } }

/-- A write of DSP.CTL: RUN = 1 without a program is ignored (R218). -/
def Zone.dspCtlWrite (z : Zone) (v : Word) : Zone :=
  let run := if bit v 0 && !z.dsp.loaded then bit (z.reg Reg.DSP_CTL) 0 else bit v 0
  z.setReg Reg.DSP_CTL (setBit (v &&& 7) 0 run)

/-- A write of DEC.MA12, MA3 or FIR is staged (R223). ORATE reads 0b00 in DEC2 and DEC3, and LOOPBK exists in DEC2. -/
def Zone.decStage (z : Zone) (n : Fin 4) (off : Nat) (v : Word) : Zone :=
  let m : Word := if off = Reg.DEC_MA3 n.val then
      (if n.val = 2 then 0x80FFFF else if n.val = 3 then 0xFFFF else 0xCFFFF)
    else if off = Reg.DEC_FIR n.val then 0x3F else 0xFFFFFFFF
  let z := z.setReg off (v &&& m)
  { z with dec := vmod z.dec n (fun (d : ZDec) => { d with staged := true }) }

/-- A write of DEC.CMD (R228): the reset is due at the next tick boundary. -/
def Zone.decCmd (z : Zone) (n : Fin 4) (v : Word) : Zone :=
  if bit v 0 then { z with dec := vmod z.dec n (fun (d : ZDec) => { d with srst := true }) } else z

/-- Changes a party's coefficient window of a decimator. -/
def Zone.modDecWin (z : Zone) (n : Fin 4) (p : Party) (f : DecWin → DecWin) : Zone :=
  { z with dec := vmod z.dec n (fun (d : ZDec) => d.setWin p (f (d.win p))) }

/-- A write of a DEC register. -/
def Zone.decWrite (z : Zone) (n : Fin 4) (p : Party) (off : Nat) (v : Word) : Nat × Zone :=
  match off % 0x400 with
  | 0x20 | 0x24 | 0x28 => (0, z.decStage n off v)
  | 0x2C => (0, z.decFreq n v)
  | 0x30 => (0, z.modDecWin n p (fun w => { w with addr := v &&& 0xFF }))
  | 0x34 => (0, z.modDecWin n p (fun w => { w with hi := v &&& 0xF0000 }))
  | 0x38 =>
    let (busy, z) := z.cdataLoWrite n p v
    (if busy then 0x14 else 0, z)
  | _ => (0, z.decCmd n v)

/-- A write of AEC.CMD (R236). -/
def Zone.aecCmd (z : Zone) (v : Word) : Zone :=
  { z with aec := { z.aec with ch := Vector.ofFn (fun i : Fin 2 =>
      let c := z.aec.ch[i]
      { c with clr := c.clr || bit v i.val }) } }

/-- A write of LINE.CMD (Table 12-5). -/
def Zone.lineCmd (z : Zone) (v : Word) : Zone :=
  if fld v 15 8 ≠ 0xA5 then z
  else match fld v 3 0 with
    | 1 => z.storeBase
    | 2 => z.clearBase
    | 3 => z.ampReset
    | _ => z

/-! ZCRC (R361–R364). -/

/-- Whether a party owns the unit. -/
def Zone.crcOwner (z : Zone) (p : Party) : Bool := bit (z.reg Reg.ZCRC_CFG) 31 == (p == .host)

/-- Feeds the n low bytes of a word. -/
def Zone.crcFeed (z : Zone) (n : Nat) (v : Word) : Zone :=
  z.setReg Reg.ZCRC_CUR (BitVec.ofNat 32 (crcBytes z.crcP (z.reg Reg.ZCRC_CUR).toNat (natLe v.toNat n)))

/-- A write of a ZCRC register by the owner. -/
def Zone.crcOwned (z : Zone) (p : Party) (off : Nat) (v : Word) : Zone :=
  if off = Reg.ZCRC_CFG then
    z.setReg off (setBit (v &&& 0x31F) 31 (if p = .host then bit v 31 else bit (z.reg off) 31))
  else if off = Reg.ZCRC_CMD then
    if bit v 0 then z.setReg Reg.ZCRC_CUR (BitVec.ofNat 32 (z.crcP.init % 2 ^ z.crcP.w)) else z
  else if off = Reg.ZCRC_DATA8 then z.crcFeed 1 v
  else if off = Reg.ZCRC_DATA16 then z.crcFeed 2 v
  else if off = Reg.ZCRC_DATA32 then z.crcFeed 4 v
  else if off = Reg.ZCRC_CUR then z.setReg off (BitVec.ofNat 32 (v.toNat % 2 ^ z.crcP.w))
  else z.setReg off v

/-- A write of a ZCRC register (R364): only host software writes OWN; a write by the party that does not own the unit is
otherwise ignored and sets NOTOWN. -/
def Zone.crcWrite (z : Zone) (p : Party) (off : Nat) (v : Word) : Zone :=
  if z.crcOwner p then z.crcOwned p off v
  else
    let z := if off = Reg.ZCRC_CFG ∧ p = .host then z.putBit off 31 (bit v 31) else z
    z.setFlt 0x6400 0

/-! The rest. -/

/-- A write of FENCE.STORM (R13): the leak interval counts from a change of the register. -/
def Zone.stormWrite (z : Zone) (v : Word) : Zone :=
  let old := z.reg Reg.FENCE_STORM
  let new := v &&& 0xFFFF
  let z := z.setReg Reg.FENCE_STORM new
  if new = old &&& 0xFFFF then z else { z with ctl := { z.ctl with leakTicks := 0 } }

/-- The default write of a register: RW bits set, W1C bits cleared where a 1 is written (Table 18-4). -/
def Zone.plainWrite (z : Zone) (r : RegSpec) (v : Word) : Zone :=
  let rw := BitVec.ofNat 32 r.rw
  let w1 := BitVec.ofNat 32 r.w1c
  z.setReg r.off ((z.reg r.off &&& ~~~rw &&& ~~~(w1 &&& v)) ||| (v &&& rw))

/-- Registers of pages ZCTL to SCHED whose write does more than store. -/
def Zone.writeA (z : Zone) (h : HostC) (p : Party) (p0 : Bool) (off : Nat) (v : Word) : Option (Nat × Zone) :=
  if off = Reg.ZCTL_CMD then some (0, z.zctlCmd h v)
  else if off = Reg.ZCTL_WDOG then some (0, z.wdogWrite v)
  else if off = Reg.ZCTL_WDOG_KICK then some (0, z.wdogKick p v)
  else if off = Reg.FENCE_ACT then some (0, (z.setReg off (v &&& 7)).ampEval)
  else if off = Reg.FENCE_STORM then some (0, z.stormWrite v)
  else if (off = Reg.TIME_EPOCH_LO ∨ off = Reg.TIME_EPOCH_HI) ∧ bit (z.reg Reg.TIME_EPOCH_CTL) 0 then some (0, z)
  else if off = Reg.TIME_EPOCH_CTL then some (0, z.epochCtl v)
  else if off = Reg.POS_HCMD then
    some (0, z.hcmdWrite (bit v 0) (bit v 1) (bit v 2))
  else if 0x1420 ≤ off ∧ off < 0x14A0 ∧ (off - 0x1420) % 0x20 = 0 then some (0, z.tmrCtlWrite (fin 4 ((off - 0x1420) / 0x20)) v)
  else if 0x1420 ≤ off ∧ off < 0x14A0 ∧ (off - 0x1420) % 0x20 = 4 then some (0, z.tmrNextWrite (fin 4 ((off - 0x1420) / 0x20)) v)
  else if off = Reg.SCHED_CMD then some (z.schedCmd p0 v)
  else if off = Reg.SCHED_SWAPSET then some (z.swapsetWrite v)
  else none

/-- Registers of pages VCTL to MSG whose write does more than store. -/
def Zone.writeB (z : Zone) (p : Party) (off : Nat) (v : Word) : Option (Nat × Zone) :=
  if off = Reg.VWIN_ADDR then some (0, z.modWin p (fun s => { s with vaddr := v &&& 0x33FFF }))
  else if off = Reg.VWIN_DATA then some (z.vwinWrite p v)
  else if off = Reg.ROUTE_CMD then some (0, if bit v 0 then (z.routeValidate false).2 else z)
  else if off = Reg.ROUTE_GREQ_LO then some (0, z.greqWrite v)
  else if off = Reg.RWIN_ADDR then some (0, z.modWin p (fun s => { s with raddr := v &&& 0x33FFF }))
  else if off = Reg.RWIN_DATA then some (z.rwinWrite p v)
  else if off = Reg.STONE_CFG then some (0, z.stoneWrite v)
  else if off = Reg.DSP_CTL then some (0, z.dspCtlWrite v)
  else if off = Reg.DWIN_ADDR then some (0, z.modWin p (fun s => { s with daddr := v &&& 0xFC01FFFF }))
  else if off = Reg.DWIN_DATA then some (z.dwinWrite p v)
  else if 0x3800 ≤ off ∧ off < 0x4800 then some (z.decWrite (fin 4 ((off - 0x3800) / 0x400)) p off v)
  else if off = Reg.AEC_CMD then some (0, z.aecCmd v)
  else if off = Reg.LINE_CMD then some (0, z.lineCmd v)
  else if off = Reg.DAC_SPAN_CTL then some (0, z.spanWrite v)
  else if off = Reg.DAC_CTL then some (0, (z.setReg off (v &&& 0xFF0301)).ampEval)
  else if off = Reg.GEN_PCFG then some (0, z.pilotWrite v)
  else if off = Reg.TDM_CFG then some (0, (z.setReg off (v &&& 0xFE00FFFF)).modOut (fun o => { o with tpend := true }))
  else if 0x6420 ≤ off ∧ off < 0x6444 then some (0, z.crcWrite p off v)
  else if off = Reg.MEM_WADDR then some (0, z.modWin p (fun s => { s with maddr := v &&& 0xE00FFFFF }))
  else none

/-- A write of a block register that the page accepts. -/
def Zone.blockWrite (z : Zone) (h : HostC) (p : Party) (p0 : Bool) (r : RegSpec) (v : Word) : Nat × Zone :=
  match r.acc with
  | .ro | .rc => (0x06, z)
  | .rws =>
    match bankOf (pageOf r.off) with
    | some g => if z.swapHolds g then (0x09, z) else (0, z.setReg (z.bank g true r.off) (v &&& BitVec.ofNat 32 r.rw))
    | none => (0, z)
  | _ =>
    match z.writeA h p p0 r.off v with
    | some a => a
    | none => match z.writeB p r.off v with
      | some a => a
      | none => (0, z.plainWrite r v)

/-- Whether the register bridge denies a write (R210, R372). -/
def Zone.bridgeDenies (z : Zone) (off : Nat) : Bool :=
  let page := pageOf off
  off == Reg.ZCTL_CMD || page == 0x400 || off == Reg.DSP_CTL || off == Reg.DSP_CFG || off % 0x400 == 0x018 || z.lockB page

/-- A denied bridge write sets REGDENY (R210). -/
def Zone.regDeny (z : Zone) : Zone := { z with dsp := { z.dsp with regdeny := true } }.setFlt 0x3000 5

/-- A write to a zone register: the reason of a refusal (Table 15-3), or 0. p0: the writer's session holds P0CTL. -/
def Zone.regWrite (z : Zone) (h : HostC) (p : Party) (p0 : Bool) (off : Nat) (v : Word) : Nat × Zone :=
  let page := pageOf off
  let o := off % 0x400
  if page ≥ 0x800 ∧ z.ctl.st = .off then (0x08, z)
  else if page ≥ 0x800 ∧ z.ctl.st = .fenced then (0x07, z)
  else if p = .prog ∧ z.bridgeDenies off then (0x06, z.regDeny)
  else if p = .host ∧ z.lockH page ∧ o ≠ 0x018 then (0x06, z)
  else if o < 0x20 then z.headerWrite page o v
  else match zoneSpec off with
    | none => (0x05, z)
    | some r => z.blockWrite h p p0 r v

/-- A read by the zone program through the register bridge (R210). -/
def Zone.bridgeRead (z : Zone) (off : Nat) : Word × Zone :=
  if off ≥ 0x7400 then (0, z) else let r := z.regRead .prog off; (r.data, r.z)

/-- The zone program's write may meet the last write of host software: to the same register of the zone, since the zone's last
run ended, and met by none before (R356; assumption 32). -/
def Zone.mayMeet (z : Zone) (h : HostC) (off : Nat) : Bool :=
  h.bus.wrN != z.dsp.met && h.bus.wrOff == off && h.bus.wrMask / 2 ^ z.id.val % 2 == 1 && !z.bridgeDenies off

/-- A write of the zone program that met a host write is discarded (R210, R356). -/
def Zone.collide (z : Zone) (h : HostC) : Zone :=
  (({ z with dsp := { z.dsp with wcoll := true, met := h.bus.wrN } }).setFlt 0x3000 4).count Reg.DSP_RCOUNT 7 0 1

/-- A write by the zone program through the register bridge (R210, R356): whether it falls in the cycle of a host write that it
may meet is free. -/
def Zone.bridgeWrite (z : Zone) (h : HostC) (off : Nat) (v : Word) : Zone :=
  if off ≥ 0x7400 then z
  else if z.mayMeet h off then
    let (c, z) := z.freeCond 12
    if c then z.collide h else (z.regWrite h .prog false off v).2
  else (z.regWrite h .prog false off v).2

end Sys2Proof.Machine
end

