-- ==== Sys2Proof/Machine/DspExec.lean ====
section
/-! DEFINITION. The bundles of the zone DSP: slots, legality, loops, routines and the run of a frame (R197–R215). -/

namespace Sys2Proof.Machine

/-- The fields of a bundle (Table 10-2). -/
structure Bundle where
  gm   : Nat
  ga   : Nat
  ge   : Nat
  mop  : Nat
  ma   : Nat
  mx   : Nat
  my   : Nat
  hx   : Bool
  hy   : Bool
  aop  : Nat
  /-- ALU bits 34:20. -/
  aarg : Nat
  eop  : Nat
  ereg : Nat
  en   : Nat
  eaux : Nat
  deriving DecidableEq, Repr

/-- The fields of a bundle word. -/
def bundleOf (w : W72) : Bundle :=
  { gm := wfld w 71 68, ga := wfld w 67 64, ge := wfld w 63 60, mop := wfld w 59 56, ma := wfld w 55 54, mx := wfld w 53 48
    my := wfld w 47 42, hx := wfld w 41 41 == 1, hy := wfld w 40 40 == 1, aop := wfld w 39 35, aarg := wfld w 34 20
    eop := wfld w 19 17, ereg := wfld w 16 11, en := wfld w 10 8, eaux := wfld w 7 0 }

/-- A bundle that does nothing. -/
def Bundle.empty : Bundle :=
  { gm := 0, ga := 0, ge := 0, mop := 0, ma := 0, mx := 0, my := 0, hx := false, hy := false, aop := 0, aarg := 0
    eop := 0, ereg := 0, en := 0, eaux := 0 }

/-- A bundle with one MAC slot. -/
def Bundle.ofMac (op : Nat) (f : MacF) : Bundle :=
  { Bundle.empty with gm := f.g.val, mop := op, ma := f.a.val, mx := f.x.val, my := f.y.val, hx := f.hx, hy := f.hy }

/-- A bundle with one ALU slot. -/
def Bundle.ofAlu (op : Nat) (f : AluF) : Bundle := { Bundle.empty with ga := f.g.val, aop := op, aarg := f.arg.toNat }

/-- A bundle with one MEM slot. -/
def Bundle.ofMem (op : Nat) (f : MemF) : Bundle :=
  { Bundle.empty with ge := f.g.val, eop := op, ereg := f.reg.val, en := f.n.toNat, eaux := f.aux.toNat }

/-- A bundle with one MEM slot of op 6 and a direction. -/
def Bundle.ofIo (wr : Bool) (f : IoF) : Bundle :=
  { Bundle.empty with ge := f.g.val, eop := 6, ereg := f.reg.val, en := 2 * f.nHi.toNat + b2n wr, eaux := f.aux.toNat }

/-- The ALU operands d, s, x and imm9. -/
def Bundle.d (b : Bundle) : Nat := b.aarg / 512 % 64
def Bundle.s (b : Bundle) : Nat := b.aarg / 8 % 64
def Bundle.x (b : Bundle) : Nat := b.aarg % 8
def Bundle.imm (b : Bundle) : Nat := b.aarg % 512

/-- R, DRN and BL of a LOOP. -/
def Bundle.loopR (b : Bundle) : Bool := b.aarg / 2 ^ 14 % 2 == 1
def Bundle.drn (b : Bundle) : Nat := b.aarg / 2 ^ 11 % 8
def Bundle.bl (b : Bundle) : Nat := b.aarg % 2 ^ 11

/-- Post-modification m of a MEM access. -/
def Bundle.m (b : Bundle) : Int := wrapS 7 (b.eaux % 128 : Nat)

/-! Legality (R197–R200, R202, Table 10-7). -/

/-- Forbidden fields of the MAC slot (R198, Table 10-3). -/
def Bundle.macBad (b : Bundle) : Bool :=
  if b.mop = 0 then b.ma != 0 || b.mx != 0 || b.my != 0 || b.hx || b.hy
  else if 6 ≤ b.mop ∧ b.mop ≤ 8 then b.hx || b.hy
  else if 9 ≤ b.mop ∧ b.mop ≤ 11 then b.hx
  else if b.mop = 12 then b.my != 0 || b.hy
  else if b.mop = 15 then b.mx != 0 || b.my != 0 || b.hx || b.hy
  else false

/-- Forbidden fields of the ALU slot (R199, R202, Table 10-4) of the bundle at an address. -/
def Bundle.aluBad (b : Bundle) (pc : Nat) : Bool :=
  if b.aop = 0 then b.aarg != 0
  else if 16 ≤ b.aop ∧ b.aop ≤ 18 then b.x == 7
  else if 19 ≤ b.aop ∧ b.aop ≤ 21 then decide (b.s ≥ 4)
  else if b.aop = 24 then decide (b.aarg ≥ 2 ^ 14)
  else if b.aop = 25 then b.bl == 0 || decide (pc + b.bl > 16383) || (!b.loopR && b.drn != 0)
  else decide (b.aop ≥ 27)

/-- I/O addresses that can be read and written (Table 10-7). -/
def ioReads (a : Nat) : Bool :=
  a < 0x80 || a == 0x83 || (0x88 ≤ a && a ≤ 0x8E) || (0x90 ≤ a && a ≤ 0x94) || a == 0x98 || a == 0x99
def ioWrites (a : Nat) : Bool :=
  (0x40 ≤ a && a < 0x80) || (0x80 ≤ a && a ≤ 0x82) || (0x90 ≤ a && a ≤ 0x92) || a == 0x98 || a == 0x99

/-- Forbidden fields of the MEM slot (R200, Tables 10-5 and 10-7). -/
def Bundle.memBad (b : Bundle) : Bool :=
  match b.eop with
  | 0 => b.ereg != 0 || b.en != 0 || b.eaux != 0
  | 1 | 2 => decide (b.eaux ≥ 128)
  | 5 => b.eaux / 64 % 2 == 1
  | 6 => decide (b.en ≥ 2) || !(if b.en = 1 then ioWrites b.eaux else ioReads b.eaux)
  | 7 => decide (b.eaux ≥ 8)
  | _ => false

/-- A guard at issue (R197). -/
def ZDsp.guard (d : ZDsp) (g : Nat) : Bool := g == 0 || d.q.toNat / 2 ^ g % 2 == 1

/-- The bundle is illegal where it stands: by its fields, or a LOOP issued inside a loop body (R202). -/
def Bundle.illegal (b : Bundle) (d : ZDsp) : Bool :=
  b.macBad || b.aluBad d.pc || b.memBad || (b.aop == 25 && d.guard b.ga && d.loop.isSome)

/-! The slots. Each reads its operands from d0, the core at issue (R201). -/

/-- A result on its way to the register that a name denoted at issue (R195, R201). -/
def Zone.dspRes (z : Zone) (d0 : ZDsp) (dly name part : Nat) (v : W72) : Zone :=
  { z with dsp := { z.dsp with
      pend := z.dsp.pend ++ [{ dly := dly, reg := d0.phys (fin 64 name), part := part, val := v }] } }

/-- A result for one half of a register (false H, true L). -/
def Zone.dspHalf (z : Zone) (d0 : ZDsp) (dly name : Nat) (l : Bool) (v : Int) : Zone :=
  z.dspRes d0 dly name (if l then 2 else 1) (withHalf 0 l v)

/-- An update of an accumulator, with its sticky flags (R74–R77). -/
def Zone.dspAcc (z : Zone) (a : Nat) (f : AccSt → AccSt) : Zone :=
  let i := fin 4 a
  let o := z.dsp.acc[i]
  let n := f o
  ({ z with dsp := { z.dsp with acc := z.dsp.acc.set i n } }).accFlags 0x3000 i.val o n

/-- SAT of the zone DSP (R80, R199), by an accumulator store. -/
def Zone.dspSat (z : Zone) (num : Nat) : Zone :=
  if z.dsp.sat then z.setFlt 0x3000 2
  else ({ z with dsp := { z.dsp with sat := true } }).arith 0x3000 num 2

/-- SAT by an ALU result: which accumulator number its message carries is not stated (assumption 16). -/
def Zone.dspSatAlu (z : Zone) : Zone :=
  let (w, z) := z.freeWord 8
  z.dspSat (w.toNat % 4)

/-- The MAC slot (R198, Table 10-3). -/
def Zone.macSlot (z : Zone) (d0 : ZDsp) (b : Bundle) : Zone :=
  let x := d0.rd (fin 64 b.mx)
  let y := d0.rd (fin 64 b.my)
  let xh := halfOf x b.hx
  let yh := halfOf y b.hy
  let two := mulSS (halfOf x false) (halfOf y false) + mulSS (halfOf x true) (halfOf y true)
  match b.mop with
  | 0x1 => z.dspAcc b.ma (fun a => a.load (mulSS xh yh))
  | 0x2 => z.dspAcc b.ma (fun a => a.add (mulSS xh yh))
  | 0x3 => z.dspAcc b.ma (fun a => a.add (-(mulSS xh yh)))
  | 0x4 => z.dspAcc b.ma (fun a => a.load (mulGS xh yh))
  | 0x5 => z.dspAcc b.ma (fun a => a.add (mulGS xh yh))
  | 0x6 => z.dspAcc b.ma (fun a => a.load two)
  | 0x7 => z.dspAcc b.ma (fun a => a.add two)
  | 0x8 => (z.dspAcc b.ma (fun a => a.add (mulSS (halfOf x false) (halfOf y false)))).dspAcc (if b.ma % 2 = 0 then b.ma + 1 else b.ma - 1)
      (fun a => a.add (mulSS (halfOf x true) (halfOf y true)))
  | 0x9 => z.dspAcc b.ma (fun a => a.load (mulAS x.toInt yh))
  | 0xA => z.dspAcc b.ma (fun a => a.add (mulAS x.toInt yh))
  | 0xB => z.dspAcc b.ma (fun a => a.add (mulAG x.toInt yh))
  | 0xC => z.dspAcc b.ma (fun a => a.load x.toInt)
  | 0xD => z.dspAcc b.ma (fun a => a.add x.toInt)
  | 0xE => z.dspAcc b.ma (fun a => a.add (-x.toInt))
  | 0xF => z.dspAcc b.ma (fun a => a.load 0)
  | _ => z

/-- An ALU result that saturates to A72 (R199). -/
def Zone.aluSatRes (z : Zone) (d0 : ZDsp) (b : Bundle) (v : Int) : Zone :=
  let c := clampI a72Min a72Max v
  let z := z.dspRes d0 1 b.d 0 (BitVec.ofInt 72 c)
  if c = v then z else z.dspSatAlu

/-- A compare sets a predicate (Table 10-4). -/
def Zone.setPred (z : Zone) (k : Nat) (v : Bool) : Zone :=
  { z with dsp := { z.dsp with q := BitVec.ofNat 16 (z.dsp.q.toNat - z.dsp.q.toNat / 2 ^ k % 2 * 2 ^ k + b2n v * 2 ^ k) } }

/-- FCLR: the flags of the accumulators whose bit is set, and SAT (R76, R199). -/
def Zone.fclr (z : Zone) (s x : Nat) : Zone :=
  let acc := Vector.ofFn (fun (i : Fin 4) =>
    if s / 2 ^ i.val % 2 = 1 then { z.dsp.acc[i] with aov := false, lost := false } else z.dsp.acc[i])
  { z with dsp := { z.dsp with acc := acc, sat := z.dsp.sat && x % 2 == 0 } }

/-- The ALU slot but FCLR, BR, LOOP and END (R199, Table 10-4). -/
def Zone.aluSlot (z : Zone) (d0 : ZDsp) (b : Bundle) : Zone :=
  let dw := d0.rd (fin 64 b.d)
  let sw := d0.rd (fin 64 b.s)
  let dv := dw.toInt
  let sv := sw.toInt
  let res := fun (v : W72) => z.dspRes d0 1 b.d 0 v
  match b.aop with
  | 1 => res sw
  | 2 => z.aluSatRes d0 b (dv + sv)
  | 3 => z.aluSatRes d0 b (dv - sv)
  | 4 => z.aluSatRes d0 b (-sv)
  | 5 => z.aluSatRes d0 b (if sv < 0 then -sv else sv)
  | 6 => res (if dv ≤ sv then dw else sw)
  | 7 => res (if dv ≤ sv then sw else dw)
  | 8 => res (dw &&& sw)
  | 9 => res (dw ||| sw)
  | 10 => res (dw ^^^ sw)
  | 11 => res (BitVec.ofInt 72 (roundShift sv (b.x + 1)))
  | 12 => res (BitVec.ofInt 72 (roundShift sv (8 * (b.x + 1))))
  | 13 => z.aluSatRes d0 b (sv * 2 ^ (b.x + 1))
  | 14 => res (BitVec.ofInt 72 (wrapS 9 b.imm))
  | 15 => res ((dw <<< 9) ||| BitVec.ofNat 72 b.imm)
  | 16 => z.setPred (b.x + 1) (dv == sv)
  | 17 => z.setPred (b.x + 1) (decide (dv < sv))
  | 18 => z.setPred (b.x + 1) (decide (dv ≤ sv))
  | 19 => res (BitVec.ofInt 72 d0.accOld[fin 4 b.s].read)
  | 20 =>
    let v := d0.accOld[fin 4 b.s].store tgtS36
    let z := z.dspHalf d0 1 b.d (b.x % 2 == 1) v.1
    if v.2 then z.dspSat (b.s % 4) else z
  | 21 =>
    let v := d0.accOld[fin 4 b.s].store tgtG36
    let z := z.dspHalf d0 1 b.d (b.x % 2 == 1) v.1
    if v.2 then z.dspSat (b.s % 4) else z
  | 23 => z.dspHalf d0 1 b.d (b.x / 2 % 2 == 1) (halfOf sw (b.x % 2 == 1))
  | _ => z

/-- A pointer after an access (R211). -/
def Zone.ptMove (z : Zone) (n : Nat) (m : Int) : Zone :=
  { z with dsp := { z.dsp with pt := vmod z.dsp.pt (fin 8 n) (fun p => p.move m) } }

/-- LDW and LDE: a trap cause, or the zone with the load issued (R200, R214). -/
def Zone.memLoad (z : Zone) (d0 : ZDsp) (b : Bundle) (elem : Bool) : Option Nat × Zone :=
  let p := d0.pt[fin 8 b.en]
  match p.addr with
  | none => (some 4, z)
  | some e =>
    let (bad, w, z) := z.spaceRead p.y (e / 2)
    if bad then (some 2, z)
    else
      let z := z.dspArb
      let z := if elem then z.dspHalf d0 2 b.ereg (b.eaux ≥ 128) (halfOf w (e % 2 == 1)) else z.dspRes d0 2 b.ereg 0 w
      (none, z.ptMove b.en b.m)

/-- STW and STE (R196, R200, R213). -/
def Zone.memStore (z : Zone) (d0 : ZDsp) (b : Bundle) (elem : Bool) : Option Nat × Zone :=
  let p := d0.pt[fin 8 b.en]
  let g := d0.rd (fin 64 b.ereg)
  match p.addr with
  | none => (some 4, z)
  | some e =>
    let put := fun (w : W72) => if elem then withHalf w (e % 2 == 1) (halfOf g (b.eaux ≥ 128)) else g
    if p.y then
      let (st, z) := z.yWrite (e / 2) put
      let z := if st then z.dspStall 8 else z
      (none, (z.dspArb).ptMove b.en b.m)
    else if e / 2 ≥ 30720 then (some 4, z)
    else (none, ((z.dWrite (e / 2) put).dspArb).ptMove b.en b.m)

/-- TAP (R211). -/
def Zone.memTap (z : Zone) (d0 : ZDsp) (b : Bundle) : Option Nat × Zone :=
  let p := d0.pt[fin 8 b.en]
  let t := p.tap ((d0.rd (fin 64 (b.eaux % 64))).toNat % 2 ^ 18)
  match t.1 with
  | none => (some 4, z)
  | some e =>
    let (bad, w, z) := z.spaceRead p.y (e / 2)
    if bad then (some 2, z)
    else
      let z := z.dspArb
      let z := if t.2 then ({ z with dsp := { z.dsp with tapclamp := true } }).setFlt 0x3000 3 else z
      (none, z.dspHalf d0 2 b.ereg (b.eaux ≥ 128) (halfOf w (e % 2 == 1)))

/-- DFLAGS (Table 10-7): AOV and LOST of ACC3–ACC0. -/
def ZDsp.dflags (d : ZDsp) : Nat :=
  (List.finRange 4).foldl (fun n i => n + b2n d.acc[i].aov * 2 ^ i.val + b2n d.acc[i].lost * 2 ^ (4 + i.val)) 0 +
    256 * b2n d.sat + 512 * b2n d.tapclamp + 1024 * b2n d.wcoll + 2048 * b2n d.regdeny

/-- A read of an I/O register (Table 10-7, R210). -/
def Zone.ioRead (z : Zone) (d0 : ZDsp) (a : Nat) : W72 × Zone :=
  let n := fun (v : Nat) => (BitVec.ofNat 72 v, z)
  if a < 0x40 then (BitVec.ofInt 72 d0.diIn[fin 64 a], z)
  else if a < 0x80 then (BitVec.ofInt 72 d0.doReg[fin 64 (a - 0x40)], z)
  else match a with
    | 0x83 => n (d0.reqs.length % 32 + 32 * b2n d0.rqFull)
    | 0x88 => n d0.hnum
    | 0x89 => n d0.harg.toNat
    | 0x8A => n (z.time.frame.toNat % 2 ^ 32)
    | 0x8B => n (z.time.frame.toNat / 2 ^ 32)
    | 0x8C => n d0.cycle
    | 0x8D => n d0.tcause
    | 0x8E => n d0.tpc
    | 0x90 => n d0.lc.toNat
    | 0x91 => n d0.ro.toNat
    | 0x92 => n (d0.q.toNat / 2 * 2 + 1)
    | 0x93 => n d0.dflags
    | 0x94 => n d0.ix.toNat
    | 0x98 => n d0.raddr.toNat
    | 0x99 =>
      let (w, z) := z.bridgeRead d0.raddr.toNat
      (w.setWidth 72, z.dspStall 6)
    | _ => (0, z)

/-- A write of an I/O register (Table 10-7, R209, R210): a trap cause, or the zone after it. -/
def Zone.ioWrite (z : Zone) (d0 : ZDsp) (h : HostC) (a : Nat) (g : W72) : Option Nat × Zone :=
  let v : Word := BitVec.extractLsb' 0 32 g
  let set := fun (f : ZDsp → ZDsp) => ((none : Option Nat), { z with dsp := f z.dsp })
  if 0x40 ≤ a ∧ a < 0x80 then set (fun d => { d with doReg := d.doReg.set (fin 64 (a - 0x40)) g.toInt })
  else match a with
    | 0x80 => set (fun d => { d with rqA := v })
    | 0x81 => set (fun d => { d with rqB := v })
    | 0x82 => if fld v 3 0 > 5 then (some 3, z) else (none, z.dspReq (fld v 3 0) (fld v 6 4))
    | 0x90 => set (fun d => { d with lc := BitVec.ofNat 16 v.toNat })
    | 0x91 => set (fun d => { d with ro := BitVec.ofNat 5 v.toNat })
    | 0x92 => set (fun d => { d with q := BitVec.ofNat 16 (v.toNat / 2 * 2 + 1) })
    | 0x98 => set (fun d => { d with raddr := BitVec.ofNat 15 v.toNat })
    | 0x99 => (none, (z.bridgeWrite h d0.raddr.toNat v).dspStall 6)
    | _ => (none, z)

/-- PTS (R200, R212): a pointer field written, or read with the latency of a load. -/
def Zone.ptsSlot (z : Zone) (d0 : ZDsp) (b : Bundle) : Zone :=
  let f := b.eaux % 4
  if b.eaux / 4 % 2 = 1 then z.dspRes d0 2 b.ereg 0 (BitVec.ofNat 72 (d0.pt[fin 8 b.en].get f))
  else
    let v := (d0.rd (fin 64 b.ereg)).toNat % 2 ^ 19
    { z with dsp := { z.dsp with pt := vmod z.dsp.pt (fin 8 b.en) (fun p => p.put f v) } }

/-- The MEM slot (R200, Table 10-5): a trap cause, or the zone after it. -/
def Zone.memSlot (z : Zone) (d0 : ZDsp) (h : HostC) (b : Bundle) : Option Nat × Zone :=
  match b.eop with
  | 1 => z.memLoad d0 b false
  | 2 => z.memStore d0 b false
  | 3 => z.memLoad d0 b true
  | 4 => z.memStore d0 b true
  | 5 => z.memTap d0 b
  | 6 =>
    if b.en = 1 then z.ioWrite d0 h b.eaux (d0.rd (fin 64 b.ereg))
    else
      let (w, z) := z.ioRead d0 b.eaux
      (none, z.dspRes d0 2 b.ereg 0 w)
  | 7 => (none, z.ptsSlot d0 b)
  | _ => (none, z)

/-! Control (R201–R203, R207). -/

/-- The stage predicates Q8–Q15 at the start of an iteration (R203). -/
def ZDsp.stages (d : ZDsp) (trip : Nat) : ZDsp :=
  let i := d.ix.toNat
  let hi := (List.range 8).foldl (fun n s => n + (if s ≤ i ∧ i - s < trip then 2 ^ (8 + s) else 0)) 0
  { d with q := BitVec.ofNat 16 (d.q.toNat % 256 + hi) }

/-- LOOP (R202, R203): the body runs, or is skipped with LC = 0. -/
def ZDsp.loopStart (d : ZDsp) (lc : Nat) (b : Bundle) : ZDsp :=
  let d := if b.loopR then { d with ix := 0 } else d
  if lc = 0 then { d with pc := (d.pc + b.bl + 1) % 2 ^ 14 }
  else
    let l : DspLoop := { first := d.pc + 1, last := d.pc + b.bl, left := if b.loopR then lc + b.drn else lc
                         rot := b.loopR, trip := lc }
    let d := { d with loop := some l, pc := (d.pc + 1) % 2 ^ 14 }
    if b.loopR then d.stages lc else d

/-- The next bundle without a branch: the end of a loop body ends its iteration (R202, R203). -/
def ZDsp.next (d : ZDsp) : ZDsp :=
  match d.loop with
  | some l =>
    if d.pc = l.last then
      let d := if l.rot then { d with ro := d.ro + 1, ix := d.ix + 1 } else { d with lc := d.lc - 1 }
      if l.left ≤ 1 then { d with loop := none, pc := (d.pc + 1) % 2 ^ 14 }
      else
        let d := { d with loop := some { l with left := l.left - 1 }, pc := l.first }
        if l.rot then d.stages l.trip else d
    else { d with pc := (d.pc + 1) % 2 ^ 14 }
  | none => { d with pc := (d.pc + 1) % 2 ^ 14 }

/-- What follows a bundle: a taken BR squashes the two bundles after it; END ends the routine (R201, R207). d0: the core at
issue. -/
def ZDsp.control (d d0 : ZDsp) (b : Bundle) : ZDsp :=
  if !d0.guard b.ga then d.next
  else match b.aop with
    | 24 => { d.tickRes.tickRes with pc := b.aarg % 2 ^ 14, loop := none, accOld := d.acc, cycle := d.cycle + 2 }
    | 25 => d.loopStart d0.lc.toNat b
    | 26 => { d.drain with rtn := none, loop := none, lastEnd := d.cycle }
    | _ => d.next

/-- One bundle issued at PC (R197, R201, R214): a trap leaves it without effect. -/
def Zone.issue (z : Zone) (h : HostC) (b : Bundle) : Zone :=
  let d0 := z.dsp
  if b.illegal d0 then z.dspTrap 3
  else
    match (if d0.guard b.ge then z.memSlot d0 h b else (none, z)) with
    | (some t, z) => z.dspTrap t
    | (none, z) =>
      let z := if b.aop = 22 ∧ d0.guard b.ga then z.fclr b.s b.x else z
      let z := if d0.guard b.gm then z.macSlot d0 b else z
      let z := if d0.guard b.ga then z.aluSlot d0 b else z
      let d := z.dsp.tickRes
      { z with dsp := ({ d with accOld := d0.acc, cycle := d.cycle + 1 } : ZDsp).control d0 b }

/-- The bundle at PC fetched and issued (R214). -/
def Zone.fetchIssue (z : Zone) (h : HostC) : Zone :=
  let (bad, z) := z.eccRead memProg z.dsp.pc
  if bad then z.dspTrap 2 else z.issue h (bundleOf (m72Get z.dsp.prog z.dsp.pc))

/-! The run of a frame (R205–R208). -/

/-- A routine entered. -/
def Zone.dspEnter (z : Zone) (vec hnum : Nat) (harg : Word) : Zone := { z with dsp := z.dsp.enter vec hnum harg }

/-- The dispatcher's next routine after the frame entry, none if nothing waits (R205): timers before handlers. A handler that the
bookkeeping window of the frame queues later is waited for (assumption 33). -/
def Zone.dspNext (z : Zone) : Option Zone :=
  if z.dsp.timerEv ≠ 0 then
    let m := z.dsp.timerEv
    some (({ z with dsp := { z.dsp with timerEv := 0 } }).dspEnter 2 17 (m.setWidth 32))
  else match z.dsp.handlers with
    | (n, arg, f, c) :: r =>
      let now := f == z.time.frame
      let z := { z with dsp := { z.dsp with handlers := r, cycle := if now then Nat.max z.dsp.cycle c else z.dsp.cycle } }
      let z := if now then z else z.count Reg.DSP_COUNT 15 8 1
      some (z.dspEnter (16 + n) n arg)
    | [] => none

/-- OVERRUN (R208). -/
def Zone.dspOver (z : Zone) : Bool := decide (z.dsp.cycle ≥ z.dspBudget)

/-- The run of a frame, bundle by bundle; todo: the routines that the frame still begins with. -/
def dspGo (h : HostC) : Nat → List (Nat × Nat) → Zone → Zone
  | 0, _, z => z
  | n + 1, todo, z =>
    if z.dsp.dead ∨ !z.dspRuns then z
    else match z.dsp.rtn with
      | some _ => if z.dspOver then z.dspTrap 1 else dspGo h n todo (z.fetchIssue h)
      | none =>
        match todo with
        | (v, k) :: r => if z.dspOver then z.dspTrap 1 else dspGo h n r (z.dspEnter v k 0)
        | [] =>
          match z.dspNext with
          | some z' => if z.dspOver then z.dspTrap 1 else dspGo h n [] z'
          | none => z

/-- The end of a run: LOAD, PEAK and ABANDONED of a complete one (Table 10-12, R215). -/
def Zone.dspEnd (z : Zone) : Zone :=
  if z.dsp.dead ∨ !z.dspRuns then z
  else
    let n := z.dsp.lastEnd
    let z := z.setReg Reg.DSP_LOAD (BitVec.ofNat 32 (n % 2 ^ 13))
    let z := z.setReg Reg.DSP_PEAK (BitVec.ofNat 32 (Nat.max (fld (z.reg Reg.DSP_PEAK) 12 0) (n % 2 ^ 13)))
    { z with dsp := { z.dsp with abandoned := false } }

/-- The most bundles and dispatches that a run can hold: each bundle takes a cycle of the largest BUDGET. -/
def dspFuel : Nat := 7664 + 64

/-- The zone DSP in one frame (R205). DI is presented as the route pass of the last frame stored it. -/
def Zone.dspFrame (z : Zone) (h : HostC) : Zone :=
  if !z.dspRuns then { z with dsp := { z.dsp with met := h.bus.wrN } }
  else
    let z := { z with dsp := { z.dsp with
      diIn := z.route.diOut, dead := false, rtn := none, loop := none, cycle := z.dsp.delay, delay := 0
      lastEnd := 0, rqFull := false } }
    let todo := (if z.atTick && bit (z.reg Reg.DSP_CTL) 1 then [(1, 16)] else []) ++ [(0, 31)]
    let z := (dspGo h dspFuel todo z).dspEnd
    { z with dsp := { z.dsp with met := h.bus.wrN } }

/-- OVERRUN as its own event: CYCLE reaches BUDGET in a run that has not ended (R208). -/
def Zone.overrun (z : Zone) : Zone :=
  if z.dspRuns && !z.dsp.dead && (z.dsp.rtn.isSome || z.dsp.timerEv != 0 || !z.dsp.handlers.isEmpty)
  then ({ z with dsp := { z.dsp with cycle := Nat.max z.dsp.cycle z.dspBudget } }).dspTrap 1 else z

/-- DO as latched at the boundary that ends a frame; 0 from a DSP that does not run (R205, R218). -/
def Zone.dspLatch (z : Zone) : Zone :=
  { z with dsp := { z.dsp with doOut := if z.dspRuns then z.dsp.doReg else Vector.replicate 64 0 } }

end Sys2Proof.Machine
end

