-- ==== Sys2Proof/Machine/HostBase.lean ====
section
/-! DEFINITION. Operations over the whole device: its zones, the host complex's records and fault log, and what the host
complex takes from a zone after each thing that happens there (R69, R253, R302, R315–R317, R331, R359, R391). -/

namespace Sys2Proof.Machine

/-! Free values and cryptographic results of the host complex. -/

/-- A free reading of the host complex (assumption 16). -/
def HostC.freeWord (h : HostC) (what : Nat) : W72 × HostC :=
  (Config.word 16 what h.draws, { h with draws := h.draws + 1 })

/-- A free truth value of a physical condition of the host complex (assumption 16). -/
def HostC.freeCond (h : HostC) (what : Nat) : Bool × HostC :=
  (Config.cond 16 what h.draws, { h with draws := h.draws + 1 })

/-- A byte list brought to a length. -/
def fitLen (n : Nat) (l : List Byte) : List Byte := (l ++ List.replicate n 0).take n

/-- The n bytes of a cryptographic function (Table 16-1; assumption 21): 1 AES-CTR, 2 SHA-256, 3 CMAC, 4 key unwrap, 5 TRNG,
6 ECDH x-coordinate, 7 public key of a new key pair, 8 ECDSA signature. -/
def cryptoB (fn : Nat) (args : List (List Byte)) (n : Nat) : List Byte := fitLen n (Config.crypto fn args n)

/-- SHA-256. -/
def sha (m : List Byte) : List Byte := cryptoB 2 [m] 32

/-- AES-CMAC (SP 800-38B). -/
def cmac (k m : List Byte) : List Byte := cryptoB 3 [k, m] 16

/-- ECDSA verification of a signature over SHA-256 of a message. -/
def ecdsaOk (key msg sig : List Byte) : Bool := Config.verify 1 [key, sha msg, sig]

/-- n bytes from the TRNG. -/
def HostC.random (h : HostC) (n : Nat) : List Byte × HostC :=
  (cryptoB 5 [natLe h.draws 8] n, { h with draws := h.draws + 1 })

/-! Records (R315) and the fault log (R359). -/

/-- The 14 header bytes of a record (Table 15-4). -/
def Rec.head (r : Rec) : List Byte :=
  natLe (r.src * 16 + r.cls) 1 ++ natLe r.params.length 1 ++ natLe r.mseq.toNat 2 ++ natLe r.frame.toNat 6 ++
    natLe r.code 2 ++ natLe r.rep 1 ++ natLe r.flags 1

/-- A record as a MESSAGE frame carries it. -/
def Rec.bytes (r : Rec) : List Byte := r.head ++ r.params

/-- A FAULT record enters the fault log, at most one per source and tick; others are counted in SKIPPED. -/
def HostC.faultLog (h : HostC) (r : Rec) : HostC :=
  let src := fin 9 r.src
  let t : BitVec 32 := BitVec.ofNat 32 (r.frame.toNat / 96)
  if h.nvm.flogT[src] = some t then h.count Reg.NVM_FLOG 31 16 1
  else { h with nvm := { h.nvm with
    mem := byWrite h.nvm.mem (0x21000 + 16 * h.nvm.flog) (r.head ++ fitLen 2 r.params)
    flog := (h.nvm.flog + 1) % 8192
    flogT := h.nvm.flogT.set src (some t) } }

/-! Zones of the device. -/

/-- A state with the host complex changed. -/
def State.modHost (s : State) (f : HostC → HostC) : State := { s with host := f s.host }

/-- A state with one zone replaced. -/
def State.putZone (s : State) (i : ZoneId) (z : Zone) : State := { s with zones := s.zones.set i z }

/-- The lowest-numbered zone whose PLL is locked (R315). -/
def State.stampZone (s : State) : Option ZoneId := (List.finRange 8).find? (fun (i : ZoneId) => s.zones[i].pll.lock)

/-- Ticks of a zone over all 48 bits of FRAME (R332). -/
def Zone.tick48 (z : Zone) : Nat := z.time.frame.toNat / 96

/-- A record of the host complex as it is created (R315). -/
def State.hostRec (s : State) (cls code : Nat) (params : List Byte) : Rec :=
  { src := 8, cls := cls, mseq := s.host.proto.msgs.nseq
    frame := match s.stampZone with | some i => s.zones[i].time.frame | none => 0
    code := code, rep := 0
    flags := match s.stampZone with | some i => b2n s.zones[i].time.est | none => 4
    params := params, sent := none }

/-- A record enters the host-complex queue (R316, R317). -/
def HostC.enqueue (h : HostC) (r : Rec) : HostC :=
  let (q, d) := h.proto.msgs.add 32 24 r
  let h := { h with proto := { h.proto with msgs := q } }
  let h := if d = 1 then h.count Reg.MSGQ_DROPPED 15 0 1 else if d = 2 then h.count Reg.MSGQ_DROPPED 31 16 1 else h
  if r.cls = clsFault then h.faultLog r else h

/-- Creates a host-complex record. -/
def State.hsend (s : State) (cls code : Nat) (params : List Byte) : State :=
  s.modHost (fun h => h.enqueue (s.hostRec cls code params))

/-- Creates a SECURITY record (Table 16-10). -/
def State.secMsg (s : State) (code : Nat) (params : List Byte) : State := s.hsend clsSecurity code params

/-! What the host complex takes from a zone. -/

/-- The FAULT records that a zone has created since an earlier state go to the fault log. -/
def HostC.takeFaults (h : HostC) (old new : Zone) : HostC :=
  (new.msgs.q.filter (fun (r : Rec) => r.cls == clsFault &&
    decide ((r.mseq - old.msgs.nseq).toNat < (new.msgs.nseq - old.msgs.nseq).toNat))).foldl HostC.faultLog h

/-- A baseline record written or erased (R253). -/
def HostC.takeBase (h : HostC) (i : ZoneId) (z : Zone) : HostC :=
  match z.gov.baseReq with
  | none => h
  | some r => { h with base := h.base.set i r }

/-- A zone's outcome of the device mode change that is being collected (R69, Table 3-10). -/
def HostC.takeMode (h : HostC) (i : ZoneId) (z : Zone) : HostC :=
  match z.sched.devRep with
  | none => h
  | some o =>
    let st := h.reg Reg.DEV_MODE_STATE
    if fld st 1 0 ≠ 1 ∨ !bit st (8 + i.val) ∨ bit st (16 + i.val) then h
    else
      let h := h.putBit Reg.DEV_MODE_STATE (16 + i.val) true
      let h := if o ≤ 1 then h.putBit Reg.DEV_MODE_OK i.val true else h
      let h := if o = 1 then h.putBit Reg.DEV_MODE_OK (8 + i.val) true else h
      let st := h.reg Reg.DEV_MODE_STATE
      if fld st 23 16 = fld st 15 8 then
        h.putFld Reg.DEV_MODE_STATE 1 0 (if fld (h.reg Reg.DEV_MODE_OK) 7 0 = fld st 15 8 then 2 else 3)
      else h

/-- The voices skipped under R331. -/
def HostC.takeP0 (h : HostC) (z : Zone) : HostC :=
  if z.sched.p0prot = 0 then h else h.count Reg.SEC_COUNT 7 0 z.sched.p0prot

/-- The armed SYNC generator's source zone has lost lock (R302). -/
def HostC.takeLock (h : HostC) (i : ZoneId) (old new : Zone) : HostC :=
  if old.pll.lock && !new.pll.lock && h.link.sgArm.isSome && fld (h.reg Reg.TRUSS_SG_CTL) 2 0 == i.val then
    { h with link := { h.link with sgArm := none } }.putBit Reg.TRUSS_SG_STAT 2 true
  else h

/-- Reason and DETAIL of a zone's outcome of the VOICE command under way, of which the lowest refusing zone's are kept (R308). -/
def VoiceWait.take (w : VoiceWait) (i : ZoneId) (why detail : Nat) : VoiceWait :=
  if w.left / 2 ^ i.val % 2 = 0 then w
  else
    let w := { w with left := w.left - 2 ^ i.val }
    if why = 0 then w
    else
      let w := { w with zfail := w.zfail + 2 ^ i.val }
      if i.val < w.low then { w with low := i.val, why := why, detail := detail } else w

/-- A zone's outcome of the VOICE command under way (R308, R312). -/
def HostC.takeVoice (h : HostC) (i : ZoneId) (z : Zone) : HostC :=
  match z.vox.ans with
  | none => h
  | some (why, d) => { h with proto := { h.proto with vwait := h.proto.vwait.map (fun w => w.take i why d) } }

/-- A zone whose pending notices to the host complex have been taken. -/
def Zone.taken (z : Zone) : Zone :=
  { z with gov := { z.gov with baseReq := none }, sched := { z.sched with devRep := none, p0prot := 0 }
           vox := { z.vox with ans := none } }

/-- A sleep entry is abandoned: every zone that had stopped wakes (R391). -/
def State.abandonSleep (s : State) (res : Nat) : State :=
  { s with
    zones := s.zones.map Zone.wakeNow
    host := { s.host with pwr := { s.host.pwr with pstate := 0 } }.putFld Reg.DEV_SLEEP 26 24 res }.modHost
      (fun h => h.putBit Reg.DEV_SLEEP 31 false)

/-- The device after a zone has changed from an earlier state: the host complex takes the zone's notices. -/
def State.gather (s : State) (i : ZoneId) (old new : Zone) : State :=
  let h := (((((s.host.takeFaults old new).takeBase i new).takeMode i new).takeP0 new).takeLock i old new).takeVoice i new
  let s := { s with zones := s.zones.set i new.taken, host := h }
  if h.pwr.pstate = 1 ∧ new.heldCount 0 > old.heldCount 0 then s.abandonSleep 2 else s

/-- A zone that has left INIT loads the baseline record that the MRAM holds for it (R253). That a record fails its check is a
free condition (assumption 16). -/
def Zone.leaveInit (z old : Zone) (r : Option BaseRec) : Zone :=
  if old.ctl.st ≠ .init ∨ z.ctl.st = .init ∨ z.ctl.st = .off then z
  else match r with
    | none => z.baseLoad none false
    | some b =>
      let (bad, z) := z.freeCond 6
      z.baseLoad (some b) bad

/-- Why a zone refuses a VOICE command in its state (R308), or 0. -/
def Zone.voiceBar (z : Zone) : Nat :=
  match z.ctl.st with
  | .off => 0x08
  | .fenced => 0x07
  | .init | .test | .recover => 0x18
  | _ => 0

/-- A zone's outcome of the voice commands that it holds, where its engines do not take them up: a state that refuses them
answers so (R308); one that carries no frames takes them, and they wait (assumption 9). -/
def Zone.hostqSettle (z : Zone) : Zone :=
  let asked := z.vox.hostq.any (fun c => c.asked)
  if z.voiceBar ≠ 0 then
    { z with vox := { z.vox with hostq := [], ans := if asked then some (z.voiceBar, 0) else z.vox.ans } }
  else if !z.live && asked then
    { z with vox := { z.vox with hostq := z.vox.hostq.map (fun c => { c with asked := false }), ans := some (0, 0) } }
  else z

/-- A zone after what has happened to it: a baseline loaded on leaving INIT, an amplifier fault that stands judged, voice
commands that its state answers (R252, R253, R308). -/
def Zone.settle (z old : Zone) (r : Option BaseRec) : Zone := ((z.leaveInit old r).ampCheck).hostqSettle

/-- Something happens in a zone, which then settles. -/
def State.onZone (s : State) (i : ZoneId) (f : Zone → HostC → Zone) : State :=
  s.gather i s.zones[i] ((f s.zones[i] s.host).settle s.zones[i] s.host.base[i])

/-- Something happens in a zone and answers a value. -/
def State.onZoneR {α : Type} (s : State) (i : ZoneId) (f : Zone → HostC → α × Zone) : α × State :=
  let r := f s.zones[i] s.host
  (r.1, s.gather i s.zones[i] (r.2.settle s.zones[i] s.host.base[i]))

/-- Something happens in every zone, in zone order. -/
def State.onAll (s : State) (f : Zone → HostC → Zone) : State :=
  (List.finRange 8).foldl (fun (s : State) (i : ZoneId) => s.onZone i f) s

/-- The tick of the lowest-numbered locked zone, over 48 bits; none when no zone is locked. -/
def State.hostTick (s : State) : Option Nat := (s.stampZone).map (fun i => s.zones[i].tick48)

end Sys2Proof.Machine
end

