-- ==== Sys2Proof/Machine/CacheOps.lean ====
section
/-! DEFINITION. The sample cache and the fetch queue of a zone (R157, R164), and the check of a block record against its CRC
and the Merkle tree of the mounted bundle (R160, R161, R163, R169, R337). -/

namespace Sys2Proof.Machine

/-! Records and hash blocks in the flash. -/

/-- A little-endian number of n bytes in the flash. -/
def HostC.flashNat (h : HostC) (a n : Nat) : Nat := leNat (byRead h.cont.flash a n)

/-- The 4096 data bytes and the 16 trailer bytes of block record b (R160). -/
def HostC.recData (h : HostC) (b : Nat) : List Byte := byRead h.cont.flash (h.blkAddr b) 4096
def HostC.recTrail (h : HostC) (b : Nat) : List Byte := byRead h.cont.flash (h.blkAddr b + 4096) 16

/-- The CRC of block idx of an item matches, and its trailer names its place (R160). -/
def HostC.crcMatch (h : HostC) (it : Item) (idx : Nat) : Bool :=
  let t := h.recTrail (it.first + idx)
  leNat (t.take 4) == crcOf crc32 (h.recData (it.first + idx) ++ t.drop 4) &&
    leNat ((t.drop 4).take 4) == it.id.toNat && leNat ((t.drop 8).take 4) == idx

/-- The leaf of block b (R161). -/
def HostC.leaf (h : HostC) (b : Nat) : List Byte := sha (0 :: (h.recData b ++ (h.recTrail b).drop 4))

/-- The nodes one level above a list of nodes (R161). -/
def pairUp : List (List Byte) → List (List Byte)
  | a :: b :: r => sha (1 :: (a ++ b)) :: pairUp r
  | l => l

/-- The node over 2^n leaves. -/
def merkle (n : Nat) (l : List (List Byte)) : List Byte := (iter n (fun _ l => pairUp l) l).headD []

/-- The 128 leaves of a hash block's data. -/
def hashLeaves (d : List Byte) : List (List Byte) := (List.range 128).map (fun i => (d.drop (32 * i)).take 32)

/-- The data of hash block g as the flash holds it. -/
def HostC.hashData (h : HostC) (g : Nat) : List Byte :=
  byRead h.cont.flash (h.cont.base + h.cont.harea + g * 4112) 4096

/-- The CRC of hash block g matches, and its trailer names its place (R160, R161). -/
def HostC.hashCrc (h : HostC) (g : Nat) : Bool :=
  let t := byRead h.cont.flash (h.cont.base + h.cont.harea + g * 4112 + 4096) 16
  leNat (t.take 4) == crcOf crc32 (h.hashData g ++ t.drop 4) && leNat ((t.drop 4).take 4) == 0xFFFFFFFF &&
    leNat ((t.drop 8).take 4) == g

/-- Hash block g is among the 64 kept (R169). -/
def HostC.hashKept (h : HostC) (g : Nat) : Bool := h.cont.hash.any (fun p => p.1 == g)

/-- A hash block read from the flash is the one of its group node (R169). -/
def HostC.hashGood (h : HostC) (g : Nat) : Bool := h.cont.groups[g]? == some (merkle 7 (hashLeaves (h.hashData g)))

/-- Hash block g fetched and kept, newest use first. -/
def HostC.hashFetch (h : HostC) (g : Nat) : HostC :=
  { h with cont := { h.cont with hash := ((g, h.hashData g) :: h.cont.hash.filter (fun p => p.1 != g)).take 64 } }

/-- The leaf of block b matches the leaf stored in its hash block, which is kept, checked (R169). -/
def HostC.hashMatch (h : HostC) (b : Nat) : Bool :=
  match h.cont.hash.find? (fun p => p.1 == b / 128) with
  | some p => (p.2.drop (32 * (b % 128))).take 32 == h.leaf b
  | none => false

/-- CONT.CFG.VERIFY as it acts (R169). -/
def HostC.verifyOn (h : HostC) : Bool := bit (h.reg Reg.CONT_CFG) 1 || h.lcs.st == 3

/-- Whether the check of a block consults its hash block. -/
def HostC.needsHash (h : HostC) (it : Item) (idx : Nat) (cdqs : Bool) : Bool :=
  h.verifyOn || !(cdqs && h.crcMatch it idx)

/-- The outcome of Table 8-6: 0 used, 1 used with CHKFIELD, 2 hash mismatch. A read without CDQS delivers no data. -/
def HostC.blockOutcome (h : HostC) (it : Item) (idx : Nat) (cdqs : Bool) : Nat :=
  let crc := cdqs && h.crcMatch it idx
  if crc && !h.verifyOn then 0
  else if !(cdqs && h.hashMatch (it.first + idx)) then 2
  else if crc then 0 else 1

/-- An encrypted item without a CEK is not used (R337). -/
def HostC.noKey (h : HostC) (it : Item) : Bool := it.enc && (h.cek.isEmpty || h.sec.pufBad)

/-- The item that holds a bundle block. -/
def HostC.itemOfBlk (h : HostC) (b : Nat) : Option Item :=
  if h.cont.mstate = 2 then h.cont.items.find? (fun (i : Item) => decide (i.first ≤ b) && decide (b < i.first + i.nblk)) else none

/-! The fetch queue (R157). -/

/-- A request is served before another: rank, then class and age of a demand, then age. -/
def Fetch.before (a b : Fetch) : Bool :=
  if a.rank ≠ b.rank then a.rank < b.rank
  else if a.rank = 0 ∧ a.cls ≠ b.cls then a.cls < b.cls
  else decide (fdist a.age b.age < 0)

/-- The first request in the order of service. -/
def firstFetch : List Fetch → Option Fetch
  | [] => none
  | f :: r => match firstFetch r with
    | some g => if g.before f then some g else some f
    | none => some f

/-- Waiting requests enter the queue while it has room: demand and preset fetches first (R157). -/
def ZCache.letIn : Nat → ZCache → ZCache
  | 0, c => c
  | n + 1, c =>
    if c.queue.length ≥ 64 then c
    else match (c.wait.find? (fun (f : Fetch) => f.rank < 2)).or (firstFetch c.wait) with
      | some f => ZCache.letIn n { c with queue := c.queue ++ [f], wait := c.wait.erase f }
      | none => c

/-- A request that has been served or given up leaves the queue. -/
def ZCache.done (c : ZCache) (f : Fetch) : ZCache := ZCache.letIn 64 { c with queue := c.queue.erase f }

/-- The request a slot serves: one that waits for its hash block; then in the zone's own slot a refetch, which waits for it
(R169). In HOLD with HCLOSS none is served (R24). -/
def Zone.nextFetch (z : Zone) (own : Bool) : Option Fetch :=
  if z.ctl.st = .off ∨ (z.ctl.st = .hold ∧ z.ctl.hcloss) then none
  else match z.cache.queue.find? (fun (f : Fetch) => f.got != 0) with
    | some f => some f
    | none => match z.cache.queue.find? (fun (f : Fetch) => f.retry) with
      | some f => if own then some f else firstFetch (z.cache.queue.filter (fun (f : Fetch) => !f.retry))
      | none => firstFetch z.cache.queue

/-! Lines (R164). -/

/-- Blocks that pin their lines: those of the oscillators and of presets waited for. -/
def Zone.pinned (z : Zone) (h : HostC) : List Nat :=
  z.voices.toList.flatMap (fun (v : Voice) =>
    v.pins ++ (if v.life = .wait then (match h.item v.st.item with | some it => [it.first] | none => []) else []))

/-- The least recently used line of a list. -/
def lruLine : List CacheLine → Option CacheLine
  | [] => none
  | l :: r => match lruLine r with
    | some m => if m.used < l.used then some m else some l
    | none => some l

/-- The line that a fetch of a rank takes. -/
def Zone.chooseLine (z : Zone) (h : HostC) (rank : Nat) : Option Nat :=
  match (List.range 256).find? (fun n => !z.cache.lines.any (fun (l : CacheLine) => l.line == n)) with
  | some n => some n
  | none =>
    let pins := z.pinned h
    let loose := z.cache.lines.filter (fun (l : CacheLine) => !pins.contains l.blk)
    match lruLine (loose.filter (fun (l : CacheLine) => l.held.isEmpty)) with
    | some l => some l.line
    | none => if rank < 2 then (lruLine loose).map (fun (l : CacheLine) => l.line) else none

/-- Words lo to lo + n − 1 of a memory are written: they hold no error. -/
def ZMem.fresh (m : ZMem) (c lo n : Nat) : ZMem :=
  { m with marks := m.marks.filter (fun p => !(decide (memKey c lo ≤ p.1) && decide (p.1 < memKey c lo + n))) }

/-- A line takes the decrypted data of a block. -/
def Zone.fillLine (z : Zone) (h : HostC) (it : Item) (idx line : Nat) (f : Fetch) : Zone :=
  let w := fun k => BitVec.ofNat 72 (leNat ((List.range 8).map (fun j => h.itemByte it (idx * 4096 + 8 * k + j))))
  let m := iter 512 (fun k m => m72Set m (line * 512 + k) (w k)) z.cache.mem
  let c := z.cache
  let l : CacheLine := { line := line, blk := it.first + idx, used := c.clock + 1, held := if f.rank = 2 then [f.entry] else [] }
  { z with
    cache := ({ c with mem := m, clock := c.clock + 1, lines := c.lines.filter (fun (x : CacheLine) => x.line != line) ++ [l] } : ZCache).done f
    mem := z.mem.fresh memCache (line * 512) 512 }

/-- CHKFIELD counted and reported (Table 8-6). -/
def Zone.chkField (z : Zone) (it : Item) (idx : Nat) : Zone :=
  { z with cache := { z.cache with chks := satAdd 255 z.cache.chks 1 } }.send clsReport 0x0045
    (natLe it.id.toNat 4 ++ natLe idx 4)

/-- The item of a bad block is fenced for the zone; a full list takes no more (R170). -/
def Zone.fenceItem (z : Zone) (it : Item) (idx : Nat) : Zone :=
  if z.itemFenced it.id ∨ z.cache.fenced.length ≥ 32 then z
  else { z with cache := { z.cache with fenced := z.cache.fenced ++ [it.id], fences := satAdd 255 z.cache.fences 1 } }.send
    clsFault 0x0046 (natLe it.id.toNat 4 ++ natLe idx 4)

/-- A queued request replaced by what it has become. -/
def ZCache.turn (c : ZCache) (f g : Fetch) : ZCache := { c with queue := c.queue.map (fun x => if x = f then g else x) }

/-- A request that leaves the queue without data. -/
def Zone.fetchDrop (z : Zone) (f : Fetch) : Zone := { z with cache := z.cache.done f }

/-- A request's record has been read and checked, with outcome o of Table 8-6 (R164, R170); one that finds no line stays
queued. -/
def Zone.fetched (z : Zone) (h : HostC) (f : Fetch) (it : Item) (o : Nat) : Zone :=
  let idx := f.blk - it.first
  if o = 2 then
    if f.retry then (z.fetchDrop f).fenceItem it idx
    else { z with cache := z.cache.turn f { f.fresh with retry := true } }
  else match z.chooseLine h f.rank with
    | none => { z with cache := { z.cache.turn f { f.fresh with retry := f.retry } with nolines := satAdd 255 z.cache.nolines 1 } }
    | some line =>
      let z := z.fillLine h it idx line f
      let z := if f.retry then { z with cache := { z.cache with refets := satAdd 255 z.cache.refets 1 } } else z
      if o = 1 then z.chkField it idx else z

/-- The cache, its requests and holds are discarded (R162). -/
def Zone.cacheDrop (z : Zone) (unfence : Bool) : Zone :=
  { z with cache := { z.cache with lines := [], queue := [], wait := [], fenced := if unfence then [] else z.cache.fenced } }

end Sys2Proof.Machine
end

