-- ==== Sys2Proof/Machine/ContentOps.lean ====
section
/-! DEFINITION. The content port: mount, unmount, load, raw flash commands and fetch slots (R154–R163, R169–R171, R174, R216,
R217, R256). -/

namespace Sys2Proof.Machine

/-- Whether MOUNT, UNMOUNT and XCMD are refused with CONT_BUSY: a zone is in RUN or HOLD, or a mount or a LOAD is running
(R162). -/
def State.contBusy (s : State) : Bool :=
  s.zones.toList.any (fun (z : Zone) => z.ctl.st == .run || z.ctl.st == .hold) || s.host.cont.job.isSome

/-! Mounting. -/

/-- The fields of a manifest (Table 8-1). -/
structure Manifest where
  len    : Nat
  nitems : Nat
  nb     : Nat
  itab   : Nat
  barea  : Nat
  harea  : Nat
  serial : Nat

/-- The manifest at the base of the bundle being mounted. -/
def HostC.manifest (h : HostC) : Manifest :=
  let b := h.cont.base
  { len := h.flashNat (b + 8) 4, nitems := h.flashNat (b + 12) 4, nb := h.flashNat (b + 16) 4, itab := h.flashNat (b + 20) 4
    barea := h.flashNat (b + 24) 4, harea := h.flashNat (b + 28) 4, serial := h.flashNat (b + 40) 4 }

/-- An item table entry (Table 8-2), and whether its fixed fields are 0. -/
def HostC.itemEntry (h : HostC) (a : Nat) : Item × Bool :=
  ({ id := BitVec.ofNat 32 (h.flashNat a 4), ty := h.flashNat (a + 4) 1, enc := h.flashNat (a + 5) 1 % 2 == 1
     first := h.flashNat (a + 8) 4, nblk := h.flashNat (a + 12) 4, len := h.flashNat (a + 16) 4 },
   h.flashNat (a + 5) 1 ≤ 1 && h.flashNat (a + 6) 2 == 0 && h.flashNat (a + 20) 4 == 0)

/-- The item table of a manifest. -/
def HostC.itemTable (h : HostC) (m : Manifest) : List (Item × Bool) :=
  (List.range m.nitems).map (fun k => h.itemEntry (h.cont.base + m.itab + 24 * k))

/-- The entries lie within Table 8-2, with IDs rising from prev. -/
def itemsOk (nb : Nat) : Nat → List (Item × Bool) → Bool
  | _, [] => true
  | prev, (i, ok) :: r =>
    ok && decide (prev < i.id.toNat) && i.id != 0xFFFFFFFF && decide (1 ≤ i.nblk) && decide (i.first + i.nblk ≤ nb) &&
      decide (i.len ≤ i.nblk * 4096) && itemsOk nb i.id.toNat r

/-- Two areas do not overlap. -/
def apart (a la b lb : Nat) : Bool := a + la ≤ b || b + lb ≤ a

/-- Number of hash blocks. -/
def hashBlocks (nb : Nat) : Nat := (nb + 127) / 128

/-- The ranges of Tables 8-1 and 8-2 hold (R162 step 1). -/
def HostC.rangesOk (h : HostC) (m : Manifest) : Bool :=
  let b := h.cont.base
  let size := fld (h.reg Reg.CONT_FSIZE) 30 20 * 2 ^ 20
  let lb := m.nb * 4112
  let lh := hashBlocks m.nb * 4112
  m.len % 4 == 0 && decide (1 ≤ m.nitems) && decide (m.nitems ≤ 8192) && decide (1 ≤ m.nb) && decide (m.nb ≤ 262144) &&
    m.barea % 16 == 0 && m.harea % 16 == 0 && h.flashNat (b + 6) 2 ≤ 1 && h.flashNat (b + 44) 4 == 0 &&
    decide (80 ≤ m.itab) && decide (m.itab + 24 * m.nitems + 64 ≤ m.len) &&
    apart 0 m.len m.barea lb && apart 0 m.len m.harea lh && apart m.barea lb m.harea lh &&
    decide (b + m.len ≤ size) && decide (b + m.barea + lb ≤ size) && decide (b + m.harea + lh ≤ size) &&
    itemsOk m.nb 0 (h.itemTable m)

/-- The manifest's signature verifies under OWK, or is not checked (R158, R162 step 2). -/
def HostC.sigOk (h : HostC) (m : Manifest) : Bool :=
  let b := h.cont.base
  (bit (h.reg Reg.CONT_CFG) 2 && h.lcs.st != 3) ||
    (!h.sec.owk.isEmpty && !h.sec.pufBad && ecdsaOk h.sec.owk (byRead h.cont.flash b (m.len - 64)) (byRead h.cont.flash (b + m.len - 64) 64))

/-- The group nodes as the flash gives them (R161). -/
def HostC.groupNodes (h : HostC) (m : Manifest) : List (List Byte) :=
  (List.range (hashBlocks m.nb)).map (fun g => merkle 7 (hashLeaves
    (byRead h.cont.flash (h.cont.base + m.harea + g * 4112) 4096)))

/-- The smallest k with n ≤ 2^k. -/
def clog2 (n : Nat) : Nat := ((List.range 33).find? (fun k => decide (n ≤ 2 ^ k))).getD 33

/-- The root over the group nodes, the groups beyond NB being of zero leaves (R161). -/
def rootOf (gs : List (List Byte)) : List Byte :=
  let k := clog2 gs.length
  let pad := merkle 7 (List.replicate 128 (List.replicate 32 (0 : Byte)))
  merkle k (gs ++ List.replicate (2 ^ k - gs.length) pad)

/-- The MFAIL code of steps 1 to 3 of a mount, 0 when they pass (R162, Table 8-5). -/
def HostC.mountCheck (h : HostC) (m : Manifest) : Nat :=
  let b := h.cont.base
  if byRead h.cont.flash b 4 ≠ [0x4B, 0x52, 0x4E, 0x48] ∨ h.flashNat (b + 4) 2 ≠ 0x0100 then 1
  else if !h.rangesOk m then 2
  else if !h.sigOk m then 3
  else if m.serial < h.sec.floor then 4
  else 0

/-- The root computed over the hash blocks is ROOT of the manifest (R162 step 4). -/
def HostC.rootOk (h : HostC) (m : Manifest) : Bool := rootOf (h.groupNodes m) == byRead h.cont.flash (h.cont.base + 48) 32

/-- No bundle is mounted. -/
def Content.unmounted (c : Content) (mstate mfail : Nat) : Content :=
  { c with mstate := mstate, mfail := mfail, nb := 0, serial := 0, nonce := [], items := [], groups := [], hash := [], job := none }

/-- The mount's outcome enters the content port. -/
def HostC.mountEnd (h : HostC) (m : Manifest) (fail : Nat) : HostC :=
  if fail ≠ 0 then { h with cont := h.cont.unmounted 3 fail }
  else
    { h with cont := { h.cont with
      mstate := 2, mfail := 0, nb := m.nb, serial := m.serial, nonce := byRead h.cont.flash (h.cont.base + 32) 8
      barea := m.barea, harea := m.harea, items := (h.itemTable m).map (fun p => p.1), groups := h.groupNodes m, hash := []
      job := none } }

/-- Steps 1 to 3 of a mount at CONT.BASE; step 4 then waits for the hash blocks. -/
def HostC.mountBegin (h : HostC) : HostC :=
  let h := { h with cont := { h.cont.unmounted 1 0 with base := (h.reg Reg.CONT_BASE).toNat } }
  let m := h.manifest
  let f := h.mountCheck m
  if f ≠ 0 then h.mountEnd m f
  else { h with cont := { h.cont with
    harea := m.harea
    job := some { load := none, todo := List.range (hashBlocks m.nb), bad := [], lost := [], again := false, got := 0, hbad := false, seen := false } } }

/-- MOUNT (R162): the reason of a refusal, or 0. -/
def State.mount (s : State) : Nat × State :=
  if s.contBusy then (0x13, s)
  else
    let s := { s with zones := s.zones.map (fun (z : Zone) => z.cacheDrop true) }
    (0, { s with host := s.host.mountBegin })

/-- A pass over the hash blocks has ended (R162 step 4): mounted, a second pass over those whose CRC failed, or failed. -/
def HostC.mountPass (h : HostC) (j : PortJob) : HostC :=
  let m := h.manifest
  if j.lost.isEmpty && h.rootOk m then h.mountEnd m 0
  else if !j.again && !j.bad.isEmpty then
    { h with cont := { h.cont with job := some { j with todo := j.bad, bad := [], again := true } } }
  else h.mountEnd m (if j.seen then 5 else 6)

/-- A slot of the mount: the next hash block is read. -/
def HostC.mountSlot (h : HostC) (j : PortJob) (cdqs : Bool) : HostC :=
  match j.todo with
  | [] => h.mountPass j
  | k :: r =>
    let lost := j.lost.filter (fun x => x != k)
    let j := { j with
      todo := r
      bad := if j.again || (cdqs && h.hashCrc k) then j.bad else j.bad ++ [k]
      lost := if cdqs then lost else lost ++ [k], seen := j.seen || cdqs }
    if r.isEmpty then h.mountPass j else { h with cont := { h.cont with job := some j } }

/-- UNMOUNT (R162). -/
def State.unmount (s : State) : Nat × State :=
  if s.contBusy then (0x13, s)
  else (0, { s with zones := s.zones.map (fun (z : Zone) => z.cacheDrop false)
                    host := { s.host with cont := s.host.cont.unmounted 0 0 } })

/-! Loading (R171). -/

/-- Word k of a table of 9-byte words that starts at byte o of an item. -/
def HostC.itemW72 (h : HostC) (it : Item) (o k : Nat) : W72 := BitVec.ofNat 72 (h.itemNat it (o + 9 * k) 9)

/-- Words 0 to n − 1 of a memory replaced. -/
def m72Load (m : Mem72) (n : Nat) (f : Nat → W72) : Mem72 :=
  ((List.range n).map (fun k => (k, f k))).filter (fun p => p.2 != 0) ++ m.filter (fun p => decide (n ≤ p.1))

/-- Whether a zone refuses window writes of a target's page: its state, or a swap (R17, R53, R307). -/
def Zone.loadBarred (z : Zone) (p : Fin 6) : Bool := z.ctl.st == .off || z.ctl.st == .fenced || z.swapHolds p

/-- A Thatch program into the inactive route batten, then its validation (R174, R178): whether it is accepted. -/
def Zone.loadRoute (z : Zone) (h : HostC) (it : Item) : Bool × Zone :=
  if z.loadBarred 1 ∨ it.len ≠ 5184 then (false, z)
  else
    let z := iter 576 (fun k (z : Zone) => z.rwinCommit k (h.itemW72 it 0 k)) z
    let (c, z) := z.routeValidate false
    (c == 0, z)

/-- The END bundle of Table 10-8. -/
def endBundle : W72 := 0xD000000000

/-- A zone DSP program (R216, R217): whether it is accepted. -/
def Zone.loadDsp (z : Zone) (h : HostC) (it : Item) : Bool × Zone :=
  let nb := h.itemNat it 8 4
  let np := h.itemNat it 12 4
  let nd := h.itemNat it 16 4
  if z.loadBarred 2 ∨ z.dsp.running ∨ bit (z.reg Reg.DSP_CTL) 0 ∨ h.itemNat it 0 4 ≠ 0x5053445A ∨ h.itemNat it 4 2 ≠ 0x0100 ∨
      nb = 0 ∨ nb > 16384 ∨ np > 1024 ∨ nd > 30720 ∨ it.len ≠ 32 + 9 * (nb + np + nd) then (false, z)
  else
    let par := fun k => h.itemW72 it (32 + 9 * nb) k
    let d := { z.dsp with
      prog := m72Load [] 16384 (fun k => if k < nb then h.itemW72 it 32 k else endBundle)
      parA := m72Load z.dsp.parA np par, parB := m72Load z.dsp.parB np par
      data := m72Load z.dsp.data nd (fun k => h.itemW72 it (32 + 9 * (nb + np)) k), loaded := true }
    let m := (((z.mem.fresh memProg 0 16384).fresh memData 0 nd).fresh memData 30720 np).fresh memData 31744 np
    (true, { z with dsp := d, mem := m })

/-- A governor or NAL table into the inactive batten (R256): whether it is accepted. -/
def Zone.loadTable (z : Zone) (h : HostC) (it : Item) (tgt : Nat) : Bool × Zone :=
  let ne := h.itemNat it 8 4
  let (p, page) : Fin 6 × Nat := if tgt = 2 then (3, 0x5400) else (4, 0x4C00)
  let off := fun e => page + h.itemNat it (16 + 8 * e) 2
  let isRws := fun e => decide (off e < page + 0x400) && (match zoneSpec (off e) with | some r => r.acc == .rws | none => false)
  if z.loadBarred p ∨ h.itemNat it 0 4 ≠ 0x4C425447 ∨ h.itemNat it 4 2 ≠ 0x0100 ∨ h.itemNat it 6 1 ≠ tgt ∨ ne = 0 ∨ ne > 64 ∨
      it.len ≠ 16 + 8 * ne ∨ !(List.range ne).all isRws then (false, z)
  else (true, iter ne (fun e (z : Zone) =>
    match zoneSpec (off e) with
    | some r => z.setReg (z.bank p true r.off) (BitVec.ofNat 32 (h.itemNat it (20 + 8 * e) 4) &&& BitVec.ofNat 32 r.rw)
    | none => z) z)

/-- The outcomes of an item's blocks (R169); a mismatch that stays after the refetch is 2. -/
def HostC.itemOutcomes (h : HostC) (it : Item) : List Nat :=
  (List.range it.nblk).map (fun k => h.blockOutcome it k true)

/-- A target takes a checked item. -/
def Zone.loadInto (z : Zone) (h : HostC) (it : Item) (tgt : Nat) : Bool × Zone :=
  match tgt with
  | 0 => z.loadRoute h it
  | 1 => z.loadDsp h it
  | _ => z.loadTable h it tgt

/-- The item type that a target takes (R171). -/
def loadType (tgt : Nat) : Nat := match tgt with | 0 => 4 | 1 => 5 | _ => 6

/-- LOAD (R171): the reason of a refusal, or 0. A missing item, a wrong type and a missing key end it at once; otherwise its
blocks are read in slots. -/
def State.load (s : State) : Nat × State :=
  let d := s.host.reg Reg.CONT_LOAD_DST
  let tgt := fld d 5 4
  let put := fun (s : State) (r : Nat) => s.modHost (fun h => { h with cont := { h.cont with lres := r } })
  if s.host.cont.job.isSome then (0x13, s)
  else match s.host.item (s.host.reg Reg.CONT_LOAD_ITEM) with
  | none => (0, put s 1)
  | some it =>
    if it.ty ≠ loadType tgt then (0, put s 2)
    else if s.host.noKey it then (0, put s 3)
    else (0, s.modHost (fun h => { h with cont := { h.cont with
      job := some { load := some (it.id, fin 8 (fld d 2 0), tgt), todo := List.range it.nblk, bad := [], lost := [], again := false
                    got := 0, hbad := false, seen := true } } }))

/-- A LOAD ends with an LRES code. -/
def HostC.loadEnd (h : HostC) (r : Nat) : HostC := { h with cont := { h.cont with job := none, lres := r } }

/-- A block of a LOAD has been read and checked, with outcome o of Table 8-6: a mismatch is read once more; after the last block
the target takes the item (R169, R171). -/
def State.loadBlock (s : State) (j : PortJob) (it : Item) (k : Nat) (r : List Nat) (i : ZoneId) (tgt o : Nat) : State :=
  let put := fun (s : State) (j : PortJob) => s.modHost (fun h => { h with cont := { h.cont with job := some j } })
  if o = 2 then
    if j.again then s.modHost (fun h => h.loadEnd 3) else put s { j with again := true, got := 0, hbad := false }
  else
    let s := s.onZone i (fun z _ =>
      let z := if j.again then { z with cache := { z.cache with refets := satAdd 255 z.cache.refets 1 } } else z
      if o = 1 then z.chkField it k else z)
    if r.isEmpty then
      let (ok, s) := s.onZoneR i (fun z h => z.loadInto h it tgt)
      s.modHost (fun h => h.loadEnd (if ok then 0 else 4))
    else put s { j with todo := r, again := false, got := 0, hbad := false }

/-- A slot of a LOAD: the next block of the item is read; where its check needs a hash block that is not kept, that is read in the
next slot, once more if it fails (R169, R171). -/
def State.loadSlot (s : State) (j : PortJob) (id : Word) (i : ZoneId) (tgt : Nat) (cdqs : Bool) : State :=
  match s.host.item id, j.todo with
  | none, _ => s.modHost (fun h => h.loadEnd 1)
  | some _, [] => s.modHost (fun h => h.loadEnd 0)
  | some it, k :: r =>
    let g := (it.first + k) / 128
    let put := fun (j : PortJob) => s.modHost (fun h => { h with cont := { h.cont with job := some j } })
    if j.got = 0 then
      if s.host.needsHash it k cdqs ∧ !s.host.hashKept g then put { j with got := if cdqs then 2 else 1 }
      else s.loadBlock j it k r i tgt (s.host.blockOutcome it k cdqs)
    else if cdqs ∧ s.host.hashGood g then
      let s := s.modHost (fun h => h.hashFetch g)
      s.loadBlock j it k r i tgt (s.host.blockOutcome it k (j.got = 2))
    else if !j.hbad then put { j with hbad := true }
    else s.loadBlock j it k r i tgt 2

/-- A slot given to the host complex's work (R156 step 1). -/
def State.jobSlot (s : State) (j : PortJob) (cdqs : Bool) : State :=
  match j.load with
  | none => s.modHost (fun h => h.mountSlot j cdqs)
  | some (id, i, tgt) => s.loadSlot j id i tgt cdqs

/-- UNFENCE (R170). -/
def State.unfence (s : State) (i : ZoneId) : State :=
  s.onZone i (fun z _ => { z with cache := { z.cache with fenced := [] } })

/-! Raw flash commands and fetch slots. -/

/-- XCMD (R154, R162, R310): the data read reaches the bulk buffer from byte 0, and the flash may change from some address on;
both are the flash's own (assumption 22). -/
def State.xcmd (s : State) (v : Word) : Nat × State :=
  if s.contBusy then (0x13, s)
  else
    let h := s.host
    let a := (h.reg Reg.CONT_XADDR).toNat
    let b := byRead h.proto.bulk 0 4096
    let rd := (Config.flash (4 * h.draws) v.toNat a b).take 4096
    let at0 := leNat (Config.flash (4 * h.draws + 1) v.toNat a b) % 2 ^ 30
    let wr := (Config.flash (4 * h.draws + 2) v.toNat a b).take (2 ^ 30 - at0)
    (0, { s with host := { h with
      proto := { h.proto with bulk := byWrite h.proto.bulk 0 rd }
      cont := { h.cont with flash := byWrite h.cont.flash at0 wr }
      draws := h.draws + 1 } })

/-- A write of CONT.CMD (Table 8-9). -/
def State.contCmd (s : State) (v : Word) : Nat × State :=
  match fld v 3 0 with
  | 1 => s.mount
  | 2 => s.unmount
  | 3 => s.load
  | 4 => (0, s.unfence (fin 8 (fld v 10 8)))
  | _ => (0, s)

/-- The zone that owns a slot of the round (R155). -/
def slotOwner (k : Nat) : Option ZoneId := if k % 12 = 11 then none else some (fin 8 (k - k / 12))

/-- The zone that owns the slot and has a request for it (R156). -/
def State.slotOwn (s : State) : Option ZoneId :=
  (slotOwner s.host.cont.slot).filter (fun i => (s.zones[i].nextFetch true).isSome)

/-- The zone that a slot without an owner's request serves, in turn after the zone last served so (R156 step 2). -/
def State.slotTurn (s : State) : Option ZoneId :=
  ((List.range 8).map (fun k => fin 8 (s.host.cont.rr + 1 + k))).find? (fun i => (s.zones[i].nextFetch false).isSome)

/-- A zone's request in its slot: its record is read; where its check needs a hash block that is not kept, that is read in the
zone's next slot, once more if it fails (R169). An encrypted item without a key is not used (R337). -/
def State.slotServe (s : State) (i : ZoneId) (own cdqs : Bool) : State :=
  match s.zones[i].nextFetch own with
  | none => s
  | some f =>
    match s.host.itemOfBlk f.blk with
    | none => s.onZone i (fun z _ => z.fetchDrop f)
    | some it =>
      let k := f.blk - it.first
      let g := f.blk / 128
      if s.host.noKey it then s.onZone i (fun z _ => (z.fetchDrop f).fenceItem it k)
      else if f.got = 0 then
        if s.host.needsHash it k cdqs ∧ !s.host.hashKept g then
          s.onZone i (fun z _ => { z with cache := z.cache.turn f { f with got := if cdqs then 2 else 1 } })
        else s.onZone i (fun z h => z.fetched h f it (h.blockOutcome it k cdqs))
      else if cdqs ∧ s.host.hashGood g then
        (s.modHost (fun h => h.hashFetch g)).onZone i (fun z h => z.fetched h f it (h.blockOutcome it k (f.got = 2)))
      else if !f.hbad then s.onZone i (fun z _ => { z with cache := z.cache.turn f { f with hbad := true } })
      else s.onZone i (fun z h => z.fetched h f it 2)

/-- The slot counter and the turn after a slot. -/
def State.slotNext (s : State) (turn : Option ZoneId) : State :=
  s.modHost (fun h => { h with cont := { h.cont with
    slot := (h.cont.slot + 1) % 96, rr := match turn with | some i => i.val | none => h.cont.rr } })

/-- FETCH_SLOT (R155, R156): the owner's request, else the host complex's work, else the zones in turn. In 1S-1S-1S mode
there are no slots, and the port only reads for the host complex's work, without CDQS. -/
def State.fetchSlot (s : State) (cdqs : Bool) : State :=
  if s.host.pwr.pstate = 2 then s
  else if !bit (s.host.reg Reg.CONT_CFG) 0 then
    match s.host.cont.job with
    | some j => s.jobSlot j true
    | none => s
  else match s.slotOwn, s.host.cont.job, s.slotTurn with
    | some i, _, _ => (s.slotServe i true cdqs).slotNext none
    | none, some j, _ => (s.jobSlot j cdqs).slotNext none
    | none, none, some i => (s.slotServe i false cdqs).slotNext (some i)
    | none, none, none => s.slotNext none

end Sys2Proof.Machine
end

