-- ==== Sys2Proof/Machine/SecOps.lean ====
section
/-! DEFINITION. Avhar: identity, sessions, rights, operator authority, key commands, life-cycle, tamper and debug access
(chapter 16). -/

namespace Sys2Proof.Machine

/-! Constants of the device (assumption 16). -/

/-- SERIAL, 8 bytes of IDENT_DATA. -/
def devSerial : List Byte := natLe (Config.word 16 100 0).toNat 8

/-- REV and ROMVER of IDENT_DATA. -/
def devRev : List Byte := natLe (Config.word 16 101 0).toNat 1
def devRom : List Byte := natLe (Config.word 16 102 0).toNat 2

/-- MKP, the maker public key in ROM (Table 16-2). -/
def mkp : List Byte := cryptoB 9 [] 64

/-- The device's truss address as one byte. -/
def HostC.taByte (h : HostC) : List Byte := natLe h.link.ta.toNat 1

/-- Avhar is not in FAULT (Table 16-9). -/
def HostC.islandOk (h : HostC) : Bool := !h.sec.fault && !h.sec.pufBad

/-- An ECDSA check under OWK; without a usable OWK it fails. -/
def HostC.ownerOk (h : HostC) (msg sig : List Byte) : Bool :=
  !h.sec.owk.isEmpty && !h.sec.pufBad && ecdsaOk h.sec.owk msg sig

/-- n bytes of the bulk buffer from an offset. -/
def HostC.bulkAt (h : HostC) (o n : Nat) : List Byte := byRead h.proto.bulk o n

/-! Sessions (R322–R329). -/

/-- A session ends: keys, TGK and stored record erased, bulk buffer cleared (R328, R310). -/
def HostC.dropSession (h : HostC) : HostC :=
  { h with
    sec := { h.sec with open0 := none, stored := none, tgk := [], tagRun := 0 }
    proto := { h.proto with bulk := [] } }

/-- The open session ends with a CLOSED message (R328). -/
def State.closeSession (s : State) (reason : Nat) : State :=
  match s.host.sec.open0 with
  | none => s
  | some x => { s with host := s.host.dropSession }.secMsg 0x0091 (natLe x.sid.toNat 4 ++ natLe reason 1)

/-- A checkpoint sets the three ceilings (R327): hs the host SEQ and bs the broadcast SEQ being accepted. -/
def Session.checkpoint (x : Session) (bfloor hs bs : Nat) : Session :=
  { x with hc := max x.hfloor hs + 65536, bc := max bfloor bs + 65536, dc := x.dseq + 65536 }

/-- The parts of a host certificate (R322). -/
def certRoles (c : List Byte) : Nat := leNat ((c.drop 64).take 4)
def certSer (c : List Byte) : Nat := leNat ((c.drop 68).take 4)

/-- A host certificate is valid (R322). -/
def HostC.certOk (h : HostC) (c : List Byte) : Bool :=
  h.ownerOk (c.take 72) (c.drop 72) && decide (h.sec.cfloor ≤ certSer c) && decide (certRoles c < 16)

/-- Sessions can be opened in this life-cycle state (R323). -/
def HostC.sessionState (h : HostC) : Bool := h.lcs.st == 2 || h.lcs.st == 3

/-- The DEVHELLO body and the handshake kept for AUTH (R323, R324). -/
def HostC.hello (h : HostC) (qh nh : List Byte) : List Byte × HostC :=
  let (seed, h) := h.random 32
  let (nd, h) := h.random 16
  let qd := cryptoB 7 [seed] 64
  let t := sha (qh ++ nh ++ qd ++ nd ++ devSerial ++ h.taByte)
  let k0 := (sha (cryptoB 6 [seed, qh] 32 ++ nh ++ nd)).take 16
  let sig := cryptoB 8 [h.sec.dik, t, natLe h.draws 8] 64
  (2 :: (qd ++ nd ++ sig), { h with sec := { h.sec with shake := some { t := t, k0 := k0, age := 0 } } })

/-- CONF (R323). -/
def Session.conf (x : Session) : List Byte :=
  (cmac x.kconf (natLe x.sid.toNat 4 ++ natLe x.hfloor 4 ++ natLe x.dseq 4)).take 8

/-- The OPENED body (Table 16-3). -/
def Session.opened (x : Session) : List Byte :=
  4 :: (natLe x.sid.toNat 4 ++ natLe x.hfloor 4 ++ natLe x.dseq 4 ++ x.conf)

/-- The MAC of CLOSE and RESUME (R323). -/
def Session.mac (x : Session) (op : Byte) (hfloor : Nat) : List Byte :=
  (cmac x.kh2d (op :: (natLe x.sid.toNat 4 ++ natLe hfloor 4))).take 8

/-- The session a handshake opens. The first DSEQ is the device's choice (assumption 16). -/
def HostC.newSession (h : HostC) (k : Shake) (roles : Nat) : Session × HostC :=
  let (sid, h) := h.random 4
  let (d, h) := h.freeWord 5
  let x : Session := { sid := BitVec.ofNat 32 (leNat sid), roles := BitVec.ofNat 32 roles, kh2d := cmac k.k0 (1 :: k.t)
                       kd2h := cmac k.k0 (2 :: k.t), kconf := cmac k.k0 (3 :: k.t), hfloor := 0, dseq := d.toNat % 2 ^ 31
                       hc := 0, bc := 0, dc := 0, rekey := false }
  (x.checkpoint 0 0 0, h)

/-- What AUTH refuses: 0, or the check code of reason AUTHORITY (R324); a missing handshake has no transcript to sign. -/
def HostC.authCheck (h : HostC) (hcert sigh : List Byte) : Nat :=
  if !h.islandOk then 13
  else if !h.certOk hcert then 12
  else match h.sec.shake with
    | none => 9
    | some k => if ecdsaOk (hcert.take 64) (k.t ++ hcert) sigh then 0 else 9

/-- A session opens and replaces the one open (R324). -/
def State.openSession (s : State) (hcert : List Byte) : List Byte × State :=
  match s.host.sec.shake with
  | none => ([], s)
  | some k =>
    let (x, h) := s.host.newSession k (certRoles hcert)
    let s := { s with host := h }.closeSession 5
    let h := s.host.dropSession
    let s := { s with host := { h with sec := { h.sec with open0 := some x, shake := none, bfloor := 0, ckAge := 0 } } }
    (x.opened, s.secMsg 0x0090 (natLe x.sid.toNat 4 ++ natLe x.roles.toNat 4))

/-- RESUME reopens the stored session (R327). -/
def State.resumeSession (s : State) (x : Session) : List Byte × State :=
  let y := { x with hfloor := x.hc, dseq := x.dc + 1 }
  let bf := x.bc
  let y := y.checkpoint bf 0 0
  let h := { s.host with
    sec := { s.host.sec with open0 := some y, stored := none, bfloor := bf, tagRun := 0, ckAge := 0 }
    proto := { s.host.proto with bulk := [] } }
  (y.opened, { s with host := h }.secMsg 0x0092 (natLe y.sid.toNat 4 ++ natLe y.hfloor 4))

/-- The STATUS body (Table 16-3). -/
def HostC.statusBody (h : HostC) : List Byte :=
  let f := b2n h.sec.open0.isSome + 2 * b2n h.sec.stored.isSome
  match h.sec.open0, h.sec.stored with
  | some x, _ => 8 :: (natLe f 1 ++ natLe x.sid.toNat 4 ++ natLe x.roles.toNat 4 ++ natLe x.hfloor 4 ++ natLe x.dseq 4)
  | none, some x => 8 :: (natLe f 1 ++ natLe x.sid.toNat 4 ++ natLe x.roles.toNat 4 ++ natLe x.hc 4 ++ natLe (x.dc + 1) 4)
  | none, none => 8 :: (natLe f 1 ++ natLe 0 16)

/-! Rights (R330). -/

/-- A session that holds a role is needed: reason and check code. -/
def HostC.needRole (h : HostC) (role : Option Nat) : Nat × Nat :=
  match h.sec.open0 with
  | none => (0x20, 0)
  | some x => match role with
    | none => (0, 0)
    | some r => if bit x.roles r then (0, 0) else (0x23, 12)

/-- LCSTATE with its DETAIL. -/
def HostC.lcState (h : HostC) : Nat × Nat := (0x24, h.lcs.st)

/-- SEC.CFG.OPENW as it acts: in OWNER only (R330). -/
def HostC.openW (h : HostC) : Bool := h.lcs.st == 2 && bit (h.reg Reg.SEC_CFG) 0

/-- The right to write a register (Table 16-4). -/
def HostC.writeRight (h : HostC) (a : Nat) : Nat × Nat :=
  if h.lcs.st = 5 then h.lcState
  else if a = Reg.LCS_CMD then (0, 0)
  else if a = Reg.LCS_TCFG then (if h.lcs.st = 2 then h.needRole (some 3) else h.lcState)
  else if a / 0x400 * 0x400 = 0x2000 then (if h.sessionState then h.needRole (some 3) else h.lcState)
  else if h.lcs.st = 2 then (if h.openW then (0, 0) else h.needRole (some 0))
  else if h.lcs.st = 3 then h.needRole (some 0)
  else (0, 0)

/-- The right to a REG_READ or MSGACK; pgId tells a one-word read of a PG_ID register (Table 16-4). -/
def HostC.readRight (h : HostC) (pgId : Bool) : Nat × Nat :=
  if h.lcs.st = 5 then h.lcState
  else if h.lcs.st = 3 ∧ !pgId then h.needRole none
  else (0, 0)

/-- The right to BULK_WR and BULK_RD. -/
def HostC.bulkRight (h : HostC) : Nat × Nat := if h.lcs.st = 5 then h.lcState else (0, 0)

/-- The right to VOICE and EVENT_POST (Table 16-4); authority for P0 comes after it. -/
def HostC.voiceRight (h : HostC) (p0 : Bool) : Nat × Nat :=
  if h.lcs.st = 5 then h.lcState
  else if p0 then (if h.sessionState then h.needRole (some 1) else h.lcState)
  else if h.lcs.st = 2 then (if h.openW then (0, 0) else h.needRole (some 1))
  else if h.lcs.st = 3 then h.needRole (some 1)
  else (0, 0)

/-- The right of a session operation (R323, Table 16-4): GETCERT and STATUS are open but in DEAD. -/
def HostC.sessionRight (h : HostC) (openOp : Bool) : Nat × Nat :=
  if h.lcs.st = 5 then h.lcState
  else if h.sessionState || openOp then (0, 0) else h.lcState

/-- The session holds P0CTL (R331). -/
def HostC.p0ctl (h : HostC) : Bool := match h.sec.open0 with | some x => bit x.roles 2 | none => false

/-! Operator authority (R332–R336). -/

/-- The fields of a token (R332). -/
def tokNat (t : List Byte) (o n : Nat) : Nat := leNat ((t.drop o).take n)

/-- FORMAT (Table 16-5). -/
def tokFormat (t : List Byte) (standing : Bool) : Bool :=
  t.length == 108 && tokNat t 0 1 == 1 && decide (tokNat t 1 1 < 8) && decide (tokNat t 2 1 < 4) && tokNat t 3 1 == 0 &&
    tokNat t 9 7 == 0 && (!standing || tokNat t 1 1 % 2 == 1)

/-- The operator key that a token names. -/
def HostC.tokKey (h : HostC) (t : List Byte) : Option OpKey := h.sec.opk[fin 4 (tokNat t 2 1)]

/-- SERIAL (Table 16-5). -/
def HostC.tokSerial (h : HostC) (t : List Byte) : Bool :=
  (t.drop 28).take 8 == devSerial ||
    (tokNat t 28 8 == 0 && tokNat t 1 1 / 4 % 2 == 1 && (match h.tokKey t with | some k => k.anySer | none => false))

/-- SIGNATURE (Table 16-5). -/
def HostC.tokSig (h : HostC) (t : List Byte) : Bool :=
  match h.tokKey t with
  | some k => ecdsaOk k.key (t.take 44) (t.drop 44)
  | none => false

/-- The zone whose tick judges the window: the lowest-numbered addressed zone in RUN or HOLD with LOCK or HOLDOVER
(NOTIME). -/
def State.refZone (s : State) (zmask : Nat) : Option ZoneId :=
  (List.finRange 8).find? (fun (i : ZoneId) =>
    zmask / 2 ^ i.val % 2 == 1 && (s.zones[i].ctl.st == .run || s.zones[i].ctl.st == .hold) &&
      (s.zones[i].pll.lock || s.zones[i].pll.hold))

/-- WINDOW fails at a reference tick, for the zone that gives it. -/
def State.windowFails (s : State) (t : List Byte) (inline : Bool) (i : ZoneId) : Bool :=
  let k := s.zones[i].tick48
  let a := tokNat t 16 6
  let b := tokNat t 22 6
  k < a || b < k || (inline && decide (b - a > (s.host.reg Reg.SEC_MAXWIN).toNat)) ||
    (bit (s.zones[i].reg Reg.TIME_STAT) 1 && !bit (s.host.reg Reg.SEC_CFG) 2)

/-- The standing token installed from an item. -/
def HostC.standing (h : HostC) (item : Word) : Option StandTok :=
  (h.sec.stok.toList.filterMap id).find? (fun (k : StandTok) => k.item == item)

/-- The checks ITEM, ZONES, NOTIME and WINDOW. -/
def State.useCheck (s : State) (t : List Byte) (inline : Bool) (zmask : Nat) (item : Word) : Nat :=
  if tokNat t 4 4 ≠ item.toNat ∨ item = 0 then 4
  else if (List.range 8).any (fun i => zmask / 2 ^ i % 2 == 1 && tokNat t 8 1 / 2 ^ i % 2 == 0) then 5
  else match s.refZone zmask with
    | none => 11
    | some i => if s.windowFails t inline i then 6 else 0

/-- The check code of an inline token, 0 when it passes (Table 16-5 in row order). -/
def State.inlineCheck (s : State) (t : List Byte) (zmask : Nat) (item : Word) : Nat :=
  let h := s.host
  if !tokFormat t false then 1
  else if (h.tokKey t).isNone then 2
  else if !h.tokSerial t then 3
  else
    let u := s.useCheck t true zmask item
    if u ≠ 0 then u
    else if tokNat t 1 1 / 2 % 2 = 0 ∧ h.sec.nonces.any (fun p => p.1 == (t.drop 36).take 8) then 7
    else if tokNat t 1 1 / 2 % 2 = 0 ∧ h.sec.nonces.length ≥ 256 then 8
    else if !h.tokSig t then 9 else 0

/-- The authority check of a P0 command (R333): the check code, 0 when it passes, and the token. -/
def State.authorityOf (s : State) (zmask : Nat) (item : Word) (a : Auth) : Nat × List Byte :=
  let h := s.host
  if !h.islandOk then (13, [])
  else if (h.needRole (some 1)).1 ≠ 0 then (12, [])
  else match a with
    | .none | .other _ => (10, [])
    | .inline t => (s.inlineCheck t zmask item, t)
    | .standing id => match h.standing id with
      | none => (10, [])
      | some k =>
        if (h.tokKey k.tok).isNone ∨ k.revoked then (2, k.tok) else (s.useCheck k.tok false zmask item, k.tok)

/-- Nonces whose TEND has passed leave the list (R334). -/
def State.nonceExpiry (s : State) : State :=
  match s.hostTick with
  | none => s
  | some t => s.modHost (fun h => { h with sec := { h.sec with nonces := h.sec.nonces.filter (fun p => decide (t ≤ p.2)) } })

/-- What a passed check does: the nonce list, AUTH_DOUBT and P0_ACCEPTED (R333, R334). -/
def State.p0Pass (s : State) (zmask : Nat) (item : Word) (inline : Bool) (t : List Byte) : State :=
  let s := if inline && tokNat t 1 1 / 2 % 2 == 0 then
      s.modHost (fun h => { h with sec := { h.sec with nonces := h.sec.nonces ++ [((t.drop 36).take 8, tokNat t 22 6)] } })
    else s
  let s := match s.refZone zmask with
    | some i => if bit (s.zones[i].reg Reg.TIME_STAT) 1 then
        s.secMsg 0x0096 (natLe i.val 1 ++ natLe s.zones[i].tick48 6) else s
    | none => s
  s.secMsg 0x0095 (natLe zmask 1 ++ natLe item.toNat 4 ++ natLe (if inline then 1 else 2) 1)

/-- The whole authority check of a P0 command (R333–R336); its duration is free (assumption 16). The outcome stands in
SEC.P0 for the command. -/
def State.p0Check (s : State) (zmask : Nat) (item : Word) (a : Auth) : State :=
  let s := s.nonceExpiry
  let (c, t) := s.authorityOf zmask item a
  let (w, h) := s.host.freeWord 2
  let h := h.setReg Reg.SEC_P0LAT (BitVec.ofNat 32 (w.toNat % 65536))
  let s := { s with host := { h with sec := { h.sec with p0 := some (zmask, item, c, tokNat t 22 6) } } }
  let inline := match a with | .inline _ => true | _ => false
  if c = 0 then s.p0Pass zmask item inline t
  else { s with host := s.host.count Reg.SEC_COUNT 15 8 1 }.secMsg 0x0094
    (natLe c 1 ++ natLe zmask 1 ++ natLe item.toNat 4)

/-! Zeroization, DEAD and tamper (R340, R342). -/

/-- The owner's secrets and records zeroized (R340): the MRAM keeps the fault log. -/
def HostC.zeroize (h : HostC) : HostC :=
  let h := h.dropSession
  { h with
    cek := []
    base := Vector.replicate 8 none
    nvm := { h.nvm with mem := h.nvm.mem.filter (fun p => decide (0x21000 ≤ p.1) && decide (p.1 < 0x41000)), buf := none }
    sec := { h.sec with owk := [], opk := Vector.replicate 4 none, stok := Vector.replicate 32 none, floor := 0, cfloor := 0
                        shake := none } }

/-- LCS_CHANGE (Table 16-10). -/
def State.lcsChange (s : State) (old new pend : Nat) : State :=
  s.secMsg 0x0098 (natLe old 1 ++ natLe new 1 ++ natLe pend 1)

/-- The device enters DEAD (R340). -/
def State.toDead (s : State) (reason : Nat) : State :=
  let old := s.host.lcs.st
  let s := s.closeSession reason
  let h := s.host.zeroize
  let s := { s with host := { h with
    sec := { h.sec with dik := [], cert := [] }
    lcs := { h.lcs with st := 5, pend := none, rmaPend := false } } }
  (s.onAll (fun z _ => z.toOff)).lcsChange old 5 0

/-- A tamper event is reported and, when it counts, counted (R342). -/
def State.tamper (s : State) (source : Nat) (counts : Bool) : State :=
  let n := if counts then satAdd 255 s.host.lcs.tamper 1 else s.host.lcs.tamper
  let s := { s with host := { s.host with lcs := { s.host.lcs with tamper := n } } }.secMsg 0x0097 (natLe source 1 ++ natLe n 1)
  let l := fld (s.host.reg Reg.LCS_TCFG) 7 0
  if counts ∧ l ≠ 0 ∧ n ≥ l ∧ s.host.lcs.st ≠ 5 then s.toDead 4 else s

/-- CLKMON (Table 16-9). -/
def State.clkmon (s : State) : State :=
  let s := s.closeSession 4
  { s with host := { s.host with sec := { s.host.sec with fault := true, shake := none } } }.tamper 0 false

/-- A key record that fails its check is absent (R321, R338). -/
def HostC.dropKey (h : HostC) (k : KeyRec) : HostC :=
  match k with
  | .opk n => { h with sec := { h.sec with opk := h.sec.opk.set n none } }
  | .cek => { h with cek := [] }
  | .tgk => { h with sec := { h.sec with tgk := [] } }
  | .owk => { h with sec := { h.sec with owk := [] } }
  | .dik => { h with sec := { h.sec with dik := [] } }
  | .session => { h with sec := { h.sec with stored := none } }
  | .lifeCycle => if h.lcs.st = 2 ∨ h.lcs.st = 3 then { h with lcs := { h.lcs with st := 3 } } else h

/-- KEYREC (Table 16-9). -/
def State.keyrec (s : State) (k : KeyRec) : State :=
  let s := s.closeSession 4
  { s with host := s.host.dropKey k }.tamper 3 true

/-- PUF (Table 16-9). -/
def State.puf (s : State) : State :=
  let s := s.closeSession 4
  { s with host := { s.host with sec := { s.host.sec with pufBad := true, stored := none, shake := none } } }.tamper 4 true

/-- SHIELD (Table 16-9). -/
def State.shield (s : State) : State :=
  let s := s.closeSession 4
  { s with host := { s.host with sec := { s.host.sec with stored := none, shake := none } } }.tamper 5 true

/-! SEC.CMD (Table 16-12). -/

/-- SEC.RES. -/
def HostC.secRes (h : HostC) (r : Nat) : HostC := h.setReg Reg.SEC_RES (BitVec.ofNat 32 r)

/-- A key command's result; a success sends KEYCHANGE (Table 16-10). -/
def State.keyDone (s : State) (op slot r : Nat) : State :=
  let s := { s with host := s.host.secRes r }
  if r = 0 ∧ op ≤ 6 then s.secMsg 0x0099 (natLe op 1 ++ natLe slot 1) else s

/-- INSTALL_OPK (R321): the key at bulk 0–63 must be a point of the curve. -/
def State.installOpk (s : State) (slot : Nat) : State :=
  let k := s.host.bulkAt 0 64
  if slot ≥ 4 then s.keyDone 1 slot 4
  else if !Config.verify 2 [k] then s.keyDone 1 slot 3
  else
    let key : OpKey := { key := k, anySer := bit ((s.host.bulkAt 64 1).headD 0 |>.setWidth 32) 0 }
    { s with host := { s.host with sec := { s.host.sec with opk := s.host.sec.opk.set (fin 4 slot) (some key) } } }.keyDone 1 slot 0

/-- REVOKE_OPK: standing tokens under the key fail KEY from now on (Table 16-5). -/
def State.revokeOpk (s : State) (slot : Nat) : State :=
  if slot ≥ 4 then s.keyDone 2 slot 4
  else
    let mark := fun (o : Option StandTok) => o.map (fun (k : StandTok) =>
      if tokNat k.tok 2 1 = slot then { k with revoked := true } else k)
    { s with host := { s.host with sec := { s.host.sec with
      opk := s.host.sec.opk.set (fin 4 slot) none, stok := s.host.sec.stok.map mark } } }.keyDone 2 slot 0

/-- The key that bulk bytes 0–23 carry wrapped under K_h2d, if it unwraps (R337). -/
def HostC.unwrapped (h : HostC) : Option (List Byte) :=
  match h.sec.open0 with
  | none => none
  | some x => if Config.verify 3 [x.kh2d, h.bulkAt 0 24] then some (cryptoB 4 [x.kh2d, h.bulkAt 0 24] 16) else none

/-- SET_CEK (R337). -/
def State.setCek (s : State) : State :=
  match s.host.unwrapped with
  | none => s.keyDone 3 0 6
  | some k => { s with host := { s.host with cek := k } }.keyDone 3 0 0

/-- SET_TGK (R337). -/
def State.setTgk (s : State) : State :=
  match s.host.unwrapped with
  | none => s.keyDone 4 0 6
  | some k => { s with host := { s.host with sec := { s.host.sec with tgk := k } } }.keyDone 4 0 0

/-- The result of installing a standing token item, and the token (R335). -/
def HostC.stCheck (h : HostC) (id : Word) : Nat × List Byte :=
  match h.item id with
  | none => (2, [])
  | some it =>
    if it.ty ≠ 7 then (2, [])
    else
      let t := (List.range 108).map (h.itemByte it)
      if it.len ≠ 108 ∨ h.noKey it ∨ (h.itemOutcomes it).contains 2 ∨ !tokFormat t true ∨ (h.tokKey t).isNone ∨ !h.tokSerial t ∨
          !h.tokSig t then (3, t)
      else if (h.standing id).isSome then (4, t)
      else (0, t)

/-- INSTALL_ST (R335). -/
def State.installSt (s : State) : State :=
  let id := s.host.reg Reg.SEC_ARG
  let (r, t) := s.host.stCheck id
  if r ≠ 0 then s.keyDone 5 0 r
  else match (List.finRange 32).find? (fun (i : Fin 32) => s.host.sec.stok[i].isNone) with
    | none => s.keyDone 5 0 4
    | some i => { s with host := { s.host with sec := { s.host.sec with
        stok := s.host.sec.stok.set i (some { item := id, tok := t, revoked := false }) } } }.keyDone 5 i.val 0

/-- REMOVE_ST frees the slot that SEC.ARG names. -/
def State.removeSt (s : State) : State :=
  let n := (s.host.reg Reg.SEC_ARG).toNat
  if n ≥ 32 then s.keyDone 6 0 4
  else { s with host := { s.host with sec := { s.host.sec with stok := s.host.sec.stok.set (fin 32 n) none } } }.keyDone 6 n 0

/-- SET_FLOOR and SET_CFLOOR (R337). -/
def State.setFloor (s : State) : State :=
  let n := (s.host.reg Reg.SEC_ARG).toNat
  if n < s.host.sec.floor then s.keyDone 7 0 5
  else { s with host := { s.host with sec := { s.host.sec with floor := n } } }.keyDone 7 0 0
def State.setCfloor (s : State) : State :=
  let n := (s.host.reg Reg.SEC_ARG).toNat
  if n < s.host.sec.cfloor then s.keyDone 8 0 5
  else { s with host := { s.host with sec := { s.host.sec with cfloor := n } } }.keyDone 8 0 0

/-- A write of SEC.CMD; while ISLAND is not ready its result is BUSY. -/
def State.secCmd (s : State) (v : Word) : State :=
  let op := fld v 3 0
  if op = 0 ∨ op > 8 then s
  else if !s.host.islandOk then { s with host := s.host.secRes 1 }
  else match op with
    | 1 => s.installOpk (fld v 7 4)
    | 2 => s.revokeOpk (fld v 7 4)
    | 3 => s.setCek
    | 4 => s.setTgk
    | 5 => s.installSt
    | 6 => s.removeSt
    | 7 => s.setFloor
    | _ => s.setCfloor

/-! LCS.CMD (R339). -/

/-- The result of an owner token of an op in bulk 0–91: 0, FORMAT or SIGNATURE. -/
def HostC.ownerToken (h : HostC) (op : Byte) : Nat :=
  let t := h.bulkAt 0 92
  if t.take 4 ≠ [op, 0, 0, 0] then 4
  else if (t.drop 4).take 8 = devSerial ∧ (t.drop 12).take 16 = h.lcs.chal ∧ h.ownerOk (t.take 28) (t.drop 28) then 0 else 2

/-- The result of a maker signature of an op in bulk 0–63. -/
def HostC.makerSig (h : HostC) (op : Byte) : Nat :=
  if ecdsaOk mkp (op :: (devSerial ++ h.lcs.chal)) (h.bulkAt 0 64) then 0 else 2

/-- An LCS.CMD ends with a result; an accepted one draws a new challenge. -/
def State.lcsEnd (s : State) (r : Nat) : State :=
  let (c, h) := if r = 0 then s.host.random 16 else (s.host.lcs.chal, s.host)
  { s with host := { h with lcs := { h.lcs with res := r, chal := c } } }

/-- The life-cycle side of the host complex changed. -/
def State.modLcs (s : State) (f : HLcs → HLcs) : State := { s with host := { s.host with lcs := f s.host.lcs } }

/-- Op 1, GENKEY. -/
def State.genkey (s : State) : State :=
  if s.host.lcs.st ≠ 0 then s.lcsEnd 1
  else if !s.host.pwr.testen then s.lcsEnd 3
  else
    let (seed, h) := s.host.random 32
    let k := cryptoB 7 [seed] 64
    { s with host := { h with sec := { h.sec with dik := k }
                              proto := { h.proto with bulk := byWrite h.proto.bulk 0 k } } }.lcsEnd 0

/-- Op 2, PROVISION: a certificate of R322's layout under MKP (assumption 24). -/
def State.provision (s : State) : State :=
  let c := s.host.bulkAt 0 136
  if s.host.lcs.st ≠ 0 then s.lcsEnd 1
  else if s.host.sec.dik = [] ∨ c.take 64 ≠ s.host.sec.dik then s.lcsEnd 3
  else if !ecdsaOk mkp (c.take 72) (c.drop 72) then s.lcsEnd 2
  else (({ s with host := { s.host with sec := { s.host.sec with cert := c }, lcs := { s.host.lcs with st := 1 } } }).lcsEnd 0).lcsChange 0 1 0

/-- Op 3, TAKE_OWNER. -/
def State.takeOwner (s : State) : State :=
  let k := s.host.bulkAt 0 64
  if s.host.lcs.st ≠ 1 then s.lcsEnd 1
  else if !Config.verify 2 [k] then s.lcsEnd 3
  else (({ s with host := { s.host with sec := { s.host.sec with owk := k }, lcs := { s.host.lcs with st := 2 } } }).lcsEnd 0).lcsChange 1 2 0

/-- A LOCK or UNLOCK that is accepted: the state becomes pending, or a pending change of it is cancelled. -/
def State.pendTo (s : State) (new : Nat) : State :=
  if s.host.lcs.st = new then (s.modLcs (fun l => { l with pend := none })).lcsEnd 0
  else ((s.modLcs (fun l => { l with pend := some new })).lcsEnd 0).lcsChange s.host.lcs.st new 1

/-- Op 4, LOCK. -/
def State.lockField (s : State) : State :=
  let l := s.host.lcs
  if !(l.st = 2 ∨ (l.st = 3 ∧ l.pend = some 2)) then s.lcsEnd 1
  else let r := s.host.ownerToken 1; if r ≠ 0 then s.lcsEnd r else s.pendTo 3

/-- Op 5, UNLOCK. -/
def State.unlock (s : State) : State :=
  let l := s.host.lcs
  if !(l.st = 3 ∨ (l.st = 2 ∧ l.pend = some 3)) then s.lcsEnd 1
  else let r := s.host.ownerToken 2; if r ≠ 0 then s.lcsEnd r else s.pendTo 2

/-- Op 6, RMA. -/
def State.rma (s : State) : State :=
  if !s.host.sessionState then s.lcsEnd 1
  else let r := s.host.ownerToken 3; if r ≠ 0 then s.lcsEnd r
    else (s.modLcs (fun l => { l with rmaPend := true })).lcsEnd 0

/-- Op 7, RMA_MAKER. -/
def State.rmaMaker (s : State) : State :=
  if !s.host.sessionState then s.lcsEnd 1
  else if !s.host.lcs.rmaPend then s.lcsEnd 3
  else let r := s.host.makerSig 7; if r ≠ 0 then s.lcsEnd r else s.pendTo 4

/-- Op 8, REMAKE. -/
def State.remake (s : State) : State :=
  if s.host.lcs.st ≠ 4 then s.lcsEnd 1
  else if s.host.lcs.rmaCount ≥ 3 then s.lcsEnd 3
  else let r := s.host.makerSig 8; if r ≠ 0 then s.lcsEnd r
    else ((s.modLcs (fun l => { l with st := 1, rmaCount := l.rmaCount + 1 })).lcsEnd 0).lcsChange 4 1 0

/-- Op 9, KILL. -/
def State.kill (s : State) : State :=
  if s.host.lcs.st = 5 then s.lcsEnd 1
  else
    let r := if s.host.sessionState then s.host.ownerToken 4 else s.host.makerSig 9
    if r ≠ 0 then s.lcsEnd r else (s.toDead 3).lcsEnd 0

/-- A write of LCS.CMD (Table 16-12). -/
def State.lcsCmd (s : State) (v : Word) : State :=
  if fld v 15 8 ≠ 0xA5 then s
  else match fld v 3 0 with
    | 1 => s.genkey
    | 2 => s.provision
    | 3 => s.takeOwner
    | 4 => s.lockField
    | 5 => s.unlock
    | 6 => s.rma
    | 7 => s.rmaMaker
    | 8 => s.remake
    | 9 => s.kill
    | _ => s

/-! Debug and test access (R341). -/

/-- How a port stands in the life-cycle state (Table 16-8): 0 closed, 1 open, 2 maker, 3 owner. -/
def portAccess (st : Nat) (test : Bool) : Nat :=
  match st with
  | 0 => 1
  | 1 | 4 => 2
  | 2 => if test then 0 else 3
  | _ => 0

/-- A signature through the JTAG authentication register opens a port until the next reset; a port that is open stays so. -/
def State.debugOpen (s : State) (test : Bool) (sig : List Byte) : State :=
  let h := s.host
  let m := 0x44 :: (devSerial ++ h.lcs.chal)
  let ok := !(if test then h.lcs.testOpen else h.lcs.dbgOpen) && match portAccess h.lcs.st test with
    | 2 => sig.length == 64 && ecdsaOk mkp m sig
    | 3 => sig.length == 64 && h.ownerOk m sig
    | _ => false
  if !ok || (test && !h.pwr.testen) then s
  else (s.modLcs (fun l => if test then { l with testOpen := true } else { l with dbgOpen := true })).secMsg 0x009A
    (natLe (b2n test) 1 ++ natLe h.lcs.st 1)

/-- The maker test modes are open (R380, Table 16-8). -/
def HostC.testModes (h : HostC) : Bool :=
  h.pwr.testen && (match portAccess h.lcs.st true with | 1 => true | 2 => h.lcs.testOpen | _ => false)

end Sys2Proof.Machine
end

