-- ==== Sys2Proof/Machine/HostRegs.lean ====
section
/-! DEFINITION. The registers of the host complex and the page router: what every register of the device reads, what a write
does, and why an access is refused (R302, R305–R307, R360–R380, R389, Tables 3-10, 14-8, 15-8, 16-11, 17-4, 19-10). -/

namespace Sys2Proof.Machine

/-! What the registers of the host complex show. -/

/-- PG_LOCK exists on a host page (R372). -/
def hostLockable (page : Nat) : Bool := page != 0x2000 && page != 0x2400

/-- PG_FLT of a host page. -/
def HostC.pgFlt (h : HostC) (page : Nat) : Word := h.reg (page + 0x00C) &&& BitVec.ofNat 32 (fltMask false page)

/-- A header register of a host page as it reads (Tables 18-2, 18-3). -/
def HostC.header (h : HostC) (page o : Nat) : Word :=
  match o with
  | 0x000 => BitVec.ofNat 32 ((page / 0x400 + 1) * 2 ^ 16 + 0x1F0)
  | 0x008 => BitVec.ofNat 32 (fld (h.reg (page + 0x018)) 1 0 * 2 + b2n (h.pgFlt page != 0))
  | 0x00C => h.pgFlt page
  | 0x010 => h.reg (page + 0x010) &&& BitVec.ofNat 32 (fltMask false page)
  | 0x018 => if hostLockable page then h.reg (page + 0x018) &&& 3 else 0
  | _ => 0

/-- DEV.STAT (Table 19-10). -/
def HostC.devStat (h : HostC) : Word :=
  BitVec.ofNat 32 (h.pwr.rcause % 16 * 2 ^ 28 + b2n h.pwr.booted * 2 ^ 27 + b2n h.pwr.zeroed * 2 ^ 26 + h.pwr.pstate % 4 * 2 ^ 24)

/-- CLK.STAT but AVHZ (Table 19-10). -/
def HostC.clkStat (h : HostC) : Nat :=
  16 * b2n h.pwr.linkOsc + 8 * b2n h.pwr.x32 + 4 * b2n h.pwr.cpll + 2 * b2n h.pwr.hpll + b2n h.pwr.xin

/-- LINK.STAT and TRUSS.STAT (Table 14-8). -/
def HostC.linkStat (h : HostC) : Word :=
  let l := h.link
  BitVec.ofNat 32 (b2n (l.lmode != 0) * 2 ^ 31 + l.lmode % 4 * 2 ^ 29 + b2n l.slow * 2 ^ 28 + l.rx % 16 * 2 ^ 24 +
    l.tx % 16 * 2 ^ 20 + b2n l.rxBusy * 2 ^ 19 + b2n (!l.txq.isEmpty) * 2 ^ 18)
def HostC.trussStat (h : HostC) : Word :=
  BitVec.ofNat 32 (h.link.ta.toNat * 2 ^ 30 + b2n h.link.taconf * 2 ^ 29 + b2n h.link.txfault * 2 ^ 28)

/-- A record waits for its MSGACK (Table 15-8, UNACKED). -/
def State.unacked (s : State) : Bool :=
  s.host.proto.msgs.q.any (fun (r : Rec) => r.sent.isSome) ||
    s.zones.toList.any (fun (z : Zone) => z.msgs.q.any (fun (r : Rec) => r.sent.isSome))

/-- MSGQ.STAT (Table 15-8). -/
def State.msgqStat (s : State) : Word :=
  BitVec.ofNat 32 (min 4 s.host.proto.held.length * 2 ^ 16 + b2n s.unacked * 2 ^ 8 + min 32 s.host.proto.msgs.q.length)

/-- CONT.STAT (Table 8-9). -/
def HostC.contStat (h : HostC) : Word :=
  let lbusy := match h.cont.job with | some j => j.load.isSome | none => false
  BitVec.ofNat 32 (h.cont.lres % 16 * 2 ^ 12 + b2n lbusy * 2 ^ 11 + h.cont.mfail % 8 * 2 ^ 4 + h.cont.mstate % 4)

/-- CONT.ZSTATn, ZCOUNTn and ZMISSn (Table 8-8). -/
def Zone.zstat (z : Zone) (h : HostC) : Word :=
  let pins := z.pinned h
  BitVec.ofNat 32 ((z.cache.lines.filter (fun (l : CacheLine) => pins.contains l.blk)).length * 2 ^ 16 + z.cache.lines.length)
def ZCache.zcount (c : ZCache) : Word := BitVec.ofNat 32 (c.starves * 2 ^ 24 + c.chks * 2 ^ 16 + c.refets * 2 ^ 8 + c.fences)
def ZCache.zmiss (c : ZCache) : Word := BitVec.ofNat 32 (c.misses * 2 ^ 16 + c.nolines * 2 ^ 8 + c.absents)

/-- SEC.STAT (Table 16-12). -/
def HostC.secStat (h : HostC) : Word :=
  let k := h.sec
  let opk := (List.range 4).foldl (fun n i => n + b2n (k.opk[fin 4 i]).isSome * 2 ^ i) 0
  let roles := match k.open0 with | some x => fld x.roles 3 0 | none => 0
  BitVec.ofNat 32 ((if h.islandOk then 0 else 2) * 2 ^ 30 + b2n k.open0.isSome * 2 ^ 29 + b2n k.stored.isSome * 2 ^ 28 +
    b2n (!h.cek.isEmpty) * 2 ^ 27 + b2n (!k.tgk.isEmpty) * 2 ^ 26 + opk * 2 ^ 22 + roles * 2 ^ 18)

/-- SEC.STOK. -/
def HostC.stokWord (h : HostC) : Word :=
  BitVec.ofNat 32 ((List.range 32).foldl (fun n i => n + b2n (h.sec.stok[fin 32 i]).isSome * 2 ^ i) 0)

/-- LCS.STAT (Table 16-12). -/
def HostC.lcsStat (h : HostC) : Word :=
  let l := h.lcs
  BitVec.ofNat 32 (l.st % 8 * 2 ^ 29 + (match l.pend with | some p => p % 8 | none => 7) * 2 ^ 26 + b2n l.rmaPend * 2 ^ 25 +
    b2n l.zeroPend * 2 ^ 24 + l.rmaCount % 4 * 2 ^ 22 + b2n (portAccess l.st false == 1 || l.dbgOpen || l.testOpen) * 2 ^ 21)

/-- The parameters of HCRC1. -/
def HostC.crcP (h : HostC) : CrcP :=
  crcParams (h.reg Reg.HCRC_CFG) (h.reg Reg.HCRC_POLY) (h.reg Reg.HCRC_INIT) (h.reg Reg.HCRC_XOROUT)

/-- A session field, 0 when no session is open. -/
def HostC.ofSession (h : HostC) (f : Session → Nat) : Word :=
  match h.sec.open0 with | some x => BitVec.ofNat 32 (f x) | none => 0

/-- Status registers of pages DEV to CONT. -/
def State.hostViewA (s : State) (a : Nat) : Option Word :=
  let h := s.host
  if a = Reg.DEV_STAT then some h.devStat
  else if a = Reg.LINK_STAT then some h.linkStat
  else if a = Reg.LINK_SILENCE then some (BitVec.ofNat 32 h.link.silence)
  else if a = Reg.TRUSS_STAT then some h.trussStat
  else if a = Reg.TRUSS_SG_CTL then some (setBit (h.reg a) 31 h.link.sgArm.isSome)
  else if a = Reg.MSGQ_STAT then some s.msgqStat
  else if a = Reg.MSGQ_NSEQ then some (h.proto.msgs.nseq.setWidth 32)
  else if a = Reg.CONT_CFG then some (setBit (h.reg a) 1 h.verifyOn)
  else if a = Reg.CONT_STAT then some h.contStat
  else if a = Reg.CONT_NB then some (BitVec.ofNat 32 h.cont.nb)
  else if a = Reg.CONT_SERIAL then some (BitVec.ofNat 32 h.cont.serial)
  else if 0x1480 ≤ a ∧ a < 0x1500 then
    let z := s.zones[fin 8 ((a - 0x1480) / 16)]
    match a % 16 with
    | 4 => some (z.zstat h)
    | 8 => some z.cache.zcount
    | 12 => some z.cache.zmiss
    | _ => none
  else none

/-- Status registers of pages NVM to LCS. -/
def HostC.hostViewB (h : HostC) (a : Nat) : Option Word :=
  if a = Reg.NVM_STAT then some 0
  else if a = Reg.NVM_FLOG then some (setFld (h.reg a) 12 0 h.nvm.flog)
  else if a = Reg.HCRC_RES then some (BitVec.ofNat 32 (crcResult h.crcP (h.reg Reg.HCRC_CUR).toNat))
  else if a = Reg.HCRC_STAT then some 0
  else if a = Reg.HCRC_LAST_RX then some (h.link.lastRx.setWidth 32)
  else if a = Reg.HCRC_LAST_TX then some (h.link.lastTx.setWidth 32)
  else if a = Reg.SEC_CFG then some (if h.lcs.st = 3 then setBit (h.reg a) 0 false else h.reg a)
  else if a = Reg.SEC_STAT then some h.secStat
  else if a = Reg.SEC_SID then some (h.ofSession (fun x => x.sid.toNat))
  else if a = Reg.SEC_HFLOOR then some (h.ofSession (fun x => x.hfloor))
  else if a = Reg.SEC_DSEQ then some (h.ofSession (fun x => x.dseq))
  else if a = Reg.SEC_FLOOR then some (BitVec.ofNat 32 h.sec.floor)
  else if a = Reg.SEC_CFLOOR then some (BitVec.ofNat 32 h.sec.cfloor)
  else if a = Reg.SEC_STOK then some h.stokWord
  else if a = Reg.LCS_STAT then some h.lcsStat
  else if 0x2428 ≤ a ∧ a < 0x2438 then some (BitVec.ofNat 32 (leNat ((h.lcs.chal.drop (a - 0x2428)).take 4)))
  else if a = Reg.LCS_RES then some (BitVec.ofNat 32 h.lcs.res)
  else if a = Reg.LCS_TCFG then some (setFld (h.reg a) 15 8 h.lcs.tamper)
  else none

/-- A register of the host complex as it reads. -/
def State.hostView (s : State) (a : Nat) : Word :=
  match s.hostViewA a with
  | some w => w
  | none => match s.host.hostViewB a with
    | some w => w
    | none => s.host.reg a

/-! MRAM (R358, R360). -/

/-- Regions of the MRAM that the window reads, and those it writes (Table 17-3). -/
def nvmReadable (a : Nat) : Bool := (0x10000 ≤ a && a < 0x41000) || 0x51000 ≤ a
def nvmWritable (a : Nat) : Bool := (0x11000 ≤ a && a < 0x21000) || 0x51000 ≤ a

/-- The buffered half commits. -/
def HostC.nvmCommit (h : HostC) : HostC :=
  match h.nvm.buf with
  | none => h
  | some (a, v) => { h with nvm := { h.nvm with mem := byWrite h.nvm.mem a (natLe v.toNat 4), buf := none } }

/-- NVM.ADDR takes a value: the buffer commits when it leaves its word. -/
def HostC.nvmAddr (h : HostC) (v : Word) : HostC :=
  let h := h.setReg Reg.NVM_ADDR (v &&& 0x3FFFFC)
  match h.nvm.buf with
  | some (a, _) => if a / 8 = (h.reg Reg.NVM_ADDR).toNat / 8 then h else h.nvmCommit
  | none => h

/-- NVM.ADDR advances by 4. -/
def HostC.nvmNext (h : HostC) : HostC := h.nvmAddr (h.reg Reg.NVM_ADDR + 4)

/-- An uncorrectable MRAM word is met or not, a free condition; it sets UNCOR, and what it holds is free (R360;
assumption 16). -/
def HostC.nvmWord (h : HostC) (w : Word) : Word × HostC :=
  let (bad, h) := h.freeCond 17
  if bad then
    let (x, h) := h.freeWord 20
    (BitVec.extractLsb' 0 32 x, h.putBit (0x1800 + 0x00C) 0 true)
  else (w, h)

/-- A read of NVM.DATA: reason and word. How a baseline is laid out is not stated (assumption 16). -/
def HostC.nvmRead (h : HostC) : Nat × Word × HostC :=
  let a := (h.reg Reg.NVM_ADDR).toNat
  if !nvmReadable a then (0x06, 0, h.nvmNext)
  else if a < 0x11000 then
    let (w, h) := h.freeWord 3
    (0, BitVec.extractLsb' 0 32 w, h.nvmNext)
  else
    let (w, h) := h.nvmWord (BitVec.ofNat 32 (leNat (byRead h.nvm.mem a 4)))
    (0, w, h.nvmNext)

/-- A write of NVM.DATA: the reason of a refusal, or 0. -/
def HostC.nvmWrite (h : HostC) (v : Word) : Nat × HostC :=
  let a := (h.reg Reg.NVM_ADDR).toNat
  if !nvmWritable a then (0x06, h)
  else
    let h := match h.nvm.buf with
      | some (b, w) =>
        if b = a then { h with nvm := { h.nvm with buf := some (a, v) } }
        else { h with nvm := { h.nvm with mem := byWrite (byWrite h.nvm.mem b (natLe w.toNat 4)) a (natLe v.toNat 4), buf := none } }
      | none => { h with nvm := { h.nvm with buf := some (a, v) } }
    (0, h.nvmNext)

/-! Reads. -/

/-- An RC register of the host complex is cleared by its read. -/
def State.rcClearHost (s : State) (a : Nat) : State :=
  if 0x1480 ≤ a ∧ a < 0x1500 then
    let f := fun (z : Zone) => { z with cache :=
      (if a % 16 = 8 then { z.cache with starves := 0, chks := 0, refets := 0, fences := 0 }
       else { z.cache with misses := 0, nolines := 0, absents := 0 }) }
    s.putZone (fin 8 ((a - 0x1480) / 16)) (f s.zones[fin 8 ((a - 0x1480) / 16)])
  else s.modHost (fun h => h.setReg a 0)

/-- What a read gives: reason code (0 readable), word, and the device after it. -/
structure RdAns where
  why  : Nat
  data : Word
  s    : State

/-- A read in the host complex (R368, R373, R380). -/
def State.hostRead (s : State) (a : Nat) : RdAns :=
  let page := pageOf a
  let o := a % 0x400
  if page = 0x2800 ∧ o ≠ 0 ∧ !s.host.testModes then ⟨0x24, 0, s⟩
  else if o < 0x20 then ⟨0, s.host.header page o, s⟩
  else match hostSpec a with
    | none => ⟨0, 0, s⟩
    | some r =>
      if r.acc = .wo then ⟨0x06, 0, s⟩
      else if a = Reg.NVM_DATA then
        let (y, w, h) := s.host.nvmRead
        ⟨y, w, { s with host := h }⟩
      else if a = Reg.CLK_STAT then
        let (w, h) := s.host.freeWord 1
        ⟨0, BitVec.ofNat 32 (h.clkStat + w.toNat % 256 * 256), { s with host := h }⟩
      else
        let w := s.hostView a
        ⟨0, w, if r.acc = .rc then s.rcClearHost a else s⟩

/-- Where an address lies (R367). -/
inductive Place where
  | host
  | zone (i : ZoneId) (off : Nat)
  | bcast (off : Nat)
  | none
  deriving DecidableEq, Repr

/-- The regions of Table 18-1. -/
def placeOf (a : Nat) : Place :=
  if a < 0x2C00 then .host
  else if 0x100000 ≤ a ∧ a < 0x180000 then
    (if a % 0x10000 < 0x7400 then .zone (fin 8 ((a - 0x100000) / 0x10000)) (a % 0x10000) else .none)
  else if 0x180000 ≤ a ∧ a < 0x187400 then .bcast (a - 0x180000)
  else .none

/-- A read by host software (R307, R376). -/
def State.regRead (s : State) (a : Nat) : RdAns :=
  match placeOf a with
  | .host => s.hostRead a
  | .zone i off =>
    let r := s.zones[i].regRead .host off
    ⟨r.why, r.data, s.gather i s.zones[i] r.z⟩
  | .bcast _ => ⟨0x06, 0, s⟩
  | .none => ⟨0x05, 0, s⟩

/-! Writes in the host complex. -/

/-- A device mode change forwarded to its zones (R69, Table 3-10). -/
def State.modeArmDev (s : State) (next : Bool) (pmask : BitVec 6) (mode : Nat) (zmask : Nat) : Nat × State :=
  if fld (s.host.reg Reg.DEV_MODE_STATE) 1 0 = 1 then (0x0C, s)
  else
    let zs := (List.finRange 8).filter (fun (i : ZoneId) => zmask / 2 ^ i.val % 2 == 1 && s.zones[i].ctl.st != .off)
    let adr := zs.foldl (fun n (i : ZoneId) => n + 2 ^ i.val) 0
    let h := s.host.setReg Reg.DEV_MODE_STATE (BitVec.ofNat 32 (adr * 256 + (if adr = 0 then 2 else 1)))
    let h := h.setReg Reg.DEV_MODE_OK (BitVec.ofNat 32 (mode % 256 * 2 ^ 16))
    let tgt := h.reg Reg.DEV_MODE_TGT
    (0, zs.foldl (fun (s : State) (i : ZoneId) =>
      s.onZone i (fun z _ => (z.modeArm mode pmask (if next then z.tick + 1 else tgt) true).2)) { s with host := h })

/-- DEV.MODE_CMD ABORT (R68): pending mode changes of the zones named, before their targets. -/
def State.modeAbort (s : State) (zmask : Nat) : State :=
  ((List.finRange 8).filter (fun (i : ZoneId) => zmask / 2 ^ i.val % 2 == 1)).foldl (fun (s : State) (i : ZoneId) =>
    s.onZone i (fun z _ => match z.sched.mode with
      | some m => if z.reached m.target then z else z.modeCancel 4
      | none => z)) s

/-- A write of DEV.MODE_CMD. -/
def State.modeCmd (s : State) (v : Word) : Nat × State :=
  match fld v 31 30 with
  | 1 => s.modeArmDev false (BitVec.extractLsb' 16 6 v) (fld v 15 8) (fld v 7 0)
  | 3 => s.modeArmDev true (BitVec.extractLsb' 16 6 v) (fld v 15 8) (fld v 7 0)
  | 2 => (0, s.modeAbort (fld v 7 0))
  | _ => (0, s)

/-- T has come (R389): by the ticks of the lowest-numbered zone that is locked; at once where none is, or where the entry
runs in another zone. -/
def State.sleepDue (s : State) : Bool :=
  bit (s.host.reg Reg.DEV_SLEEP) 31 && (s.host.pwr.pstate == 1 || (match s.stampZone with
    | some i => s.zones[i].reached s.host.pwr.slpT
    | none => true))

/-- A zone's part of sleep entry at T (R389): the entry is abandoned, or the sequence of Table 19-7 begins. -/
def State.sleepEnter (s : State) (i : ZoneId) : State :=
  if !s.sleepDue ∨ s.zones[i].ctl.st = .off ∨ s.zones[i].pwr.asleep ∨ s.zones[i].pwr.slp.isSome then s
  else
    let bar := s.zones[i].sleepBar
    if bar ≠ 0 then s.abandonSleep bar
    else
      let s := { s with host := { s.host with pwr := { s.host.pwr with pstate := 1 } } }
      s.onZone i (fun z _ => z.sleepStart)

/-- T of an arm (R389): SLEEP_TGT, or the next tick boundary of the lowest-numbered locked zone. -/
def State.sleepT (s : State) (next : Bool) : Word :=
  if !next then s.host.reg Reg.DEV_SLEEP_TGT
  else match s.stampZone with
    | some i => s.zones[i].tick + 1
    | none => 0

/-- A write of DEV.SLEEP (R389). A refused arm writes nothing but RES; an entry that runs goes on (assumption 50). -/
def State.sleepWrite (s : State) (v : Word) : Nat × State :=
  let h := s.host
  let ok := fun c => 6 ≤ c && c ≤ 8
  if bit v 31 ∧ (bit (h.reg Reg.DEV_SLEEP) 31 ∨ !h.pwr.x32 ∨ !ok h.link.rx ∨ !ok h.link.tx) then
    (0x16, { s with host := h.putFld Reg.DEV_SLEEP 26 24 5 })
  else
    let old := h.reg Reg.DEV_SLEEP
    let h := h.setReg Reg.DEV_SLEEP ((old &&& (if h.pwr.pstate = 1 then 0x87000001 else 0x07000001)) ||| (v &&& 0xC0000006))
    let h : HostC := if bit v 31 then { h.putFld Reg.DEV_SLEEP 26 24 0 with pwr := { h.pwr with slpT := s.sleepT (bit v 30) } } else h
    let s := { s with host := h }
    (0, if bit v 31 ∧ s.stampZone.isNone then (List.finRange 8).foldl State.sleepEnter s else s)

/-- RCODE as it acts (R283): codes 9–14 as code 6. -/
def rcodeOf (v : Word) : Nat := let c := fld v 15 12; if 9 ≤ c ∧ c ≤ 14 then 6 else c

/-- A write of LINK.CFG: MODE written ends the lock (R298); without AUTORATE both directions take RCODE (R287, R289), and with
it the transmitter does until a valid frame has come (R293). -/
def HostC.linkCfg (h : HostC) (v : Word) : HostC :=
  let h := h.setReg Reg.LINK_CFG (v &&& 0xE1FFF0FF)
  let c := rcodeOf v
  { h with link := { h.link with lmode := 0, rx := if bit v 29 then h.link.rx else c
                                 tx := if bit v 29 then h.link.heard.getD c else c } }

/-- The SYNC generator refuses an arm (R302). -/
def State.sgRefuses (s : State) (src : ZoneId) (f : BitVec 48) : Bool :=
  f.toNat % 96 != 0 || !s.zones[src].pll.lock || decide (fdist f s.zones[src].time.frame < 192)

/-- A write of TRUSS.SG_CTL (R302). -/
def State.sgWrite (s : State) (v : Word) : State :=
  let h := s.host.setReg Reg.TRUSS_SG_CTL (v &&& 7)
  let f : BitVec 48 := BitVec.extractLsb' 0 16 (h.reg Reg.TRUSS_SG_HI) ++ h.reg Reg.TRUSS_SG_LO
  let off := { h with link := { h.link with sgArm := none } }
  if !bit v 31 then { s with host := off }
  else if s.sgRefuses (fin 8 (fld v 2 0)) f then { s with host := off.putBit Reg.TRUSS_SG_STAT 3 true }
  else { s with host := { h with link := { h.link with sgArm := some f } } }

/-- Feeds bytes to HCRC1. -/
def HostC.crcFeed (h : HostC) (n : Nat) (v : Word) : HostC :=
  h.setReg Reg.HCRC_CUR (BitVec.ofNat 32 (crcBytes h.crcP (h.reg Reg.HCRC_CUR).toNat (natLe v.toNat n)))

/-- A write of an HCRC1 register (R361–R363). -/
def HostC.crcWrite (h : HostC) (a : Nat) (v : Word) : HostC :=
  if a = Reg.HCRC_CFG then h.setReg a (v &&& 0x31F)
  else if a = Reg.HCRC_CMD then
    if bit v 0 then h.setReg Reg.HCRC_CUR (BitVec.ofNat 32 (h.crcP.init % 2 ^ h.crcP.w)) else h
  else if a = Reg.HCRC_DATA8 then h.crcFeed 1 v
  else if a = Reg.HCRC_DATA16 then h.crcFeed 2 v
  else if a = Reg.HCRC_DATA32 then h.crcFeed 4 v
  else if a = Reg.HCRC_CUR then h.setReg a (BitVec.ofNat 32 (v.toNat % 2 ^ h.crcP.w))
  else h.setReg a v

/-- The default write of a host register (Table 18-4). -/
def HostC.plainWrite (h : HostC) (r : RegSpec) (v : Word) : HostC :=
  let rw := BitVec.ofNat 32 r.rw
  let w1 := BitVec.ofNat 32 r.w1c
  h.setReg r.off ((h.reg r.off &&& ~~~rw &&& ~~~(w1 &&& v)) ||| (v &&& rw))

/-- PG_CTL.CLRCNT of a host page. -/
def State.clrCntHost (s : State) (page : Nat) : State :=
  (hostRegs.filter (fun (r : RegSpec) => r.acc == .rc && pageOf r.off == page)).foldl
    (fun (s : State) (r : RegSpec) => s.rcClearHost r.off) s

/-- A write of a host page's header (Table 18-2). -/
def State.hostHeaderWrite (s : State) (page o : Nat) (v : Word) : Nat × State :=
  match o with
  | 0x004 => (0, if bit v 0 then s.clrCntHost page else s)
  | 0x00C => (0, s.modHost (fun h => h.setReg (page + 0x00C) (h.reg (page + 0x00C) &&& ~~~v)))
  | 0x010 => (0, s.modHost (fun h => h.setReg (page + 0x010) (v &&& BitVec.ofNat 32 (fltMask false page))))
  | 0x014 => (0, s)
  | 0x018 => (0, if hostLockable page ∧ fld v 15 8 = 0xA5 then s.modHost (fun h => h.setReg (page + 0x018) (v &&& 3)) else s)
  | 0x01C => (0x05, s)
  | _ => (0x06, s)

/-- Host registers whose write does more than store. -/
def State.hostSpecial (s : State) (a : Nat) (v : Word) : Option (Nat × State) :=
  if a = Reg.DEV_SLEEP then some (s.sleepWrite v)
  else if a = Reg.DEV_MODE_CMD then some (s.modeCmd v)
  else if a = Reg.LINK_CFG then some (0, s.modHost (fun h => h.linkCfg v))
  else if a = Reg.TRUSS_SG_CTL then some (0, s.sgWrite v)
  else if a = Reg.CONT_CMD then some (s.contCmd v)
  else if a = Reg.CONT_XCMD then some (s.xcmd v)
  else if a = Reg.NVM_ADDR then some (0, s.modHost (fun h => h.nvmAddr v))
  else if a = Reg.NVM_DATA then
    let (r, h) := s.host.nvmWrite v
    some (r, { s with host := h })
  else if 0x1C20 ≤ a ∧ a < 0x1C44 then some (0, s.modHost (fun h => h.crcWrite a v))
  else if a = Reg.SEC_CMD then some (0, s.secCmd v)
  else if a = Reg.LCS_CMD then some (0, s.lcsCmd v)
  else none

/-- A write in the host complex: the reason of a refusal, or 0 (R306, R368, R372, R373, R380). -/
def State.hostWrite (s : State) (a : Nat) (v : Word) : Nat × State :=
  let page := pageOf a
  let o := a % 0x400
  if page = 0x2800 ∧ !s.host.testModes then (0x24, s)
  else if hostLockable page ∧ bit (s.host.reg (page + 0x018)) 0 ∧ o ≠ 0x018 then (0x06, s)
  else if o < 0x20 then s.hostHeaderWrite page o v
  else match hostSpec a with
    | none => (0x05, s)
    | some r =>
      if r.acc = .ro ∨ r.acc = .rc then (0x06, s)
      else match s.hostSpecial a v with
        | some x => x
        | none => (0, s.modHost (fun h => h.plainWrite r v))

/-! Writes by address. -/

/-- What a write gives: reason code (0 accepted), the zones that refused, DETAIL, and the device after it. -/
structure WrAns where
  why    : Nat
  zfail  : Nat
  detail : Word
  s      : State

/-- DETAIL of a refused write (Table 15-3): the address, ROUTE.VSTAT of the zone, or the life-cycle state. -/
def detailOf (why a : Nat) (vstat : Word) (lcs : Nat) : Word :=
  if why = 0x0A ∨ why = 0x0B then vstat
  else if (0x05 ≤ why ∧ why ≤ 0x09) ∨ why = 0x14 ∨ why = 0x15 then BitVec.ofNat 32 a
  else if why = 0x24 then BitVec.ofNat 32 lcs
  else 0

/-- A write of host software has landed at an offset of some zones: the zone program may meet it (R356). -/
def State.wrote (s : State) (off mask : Nat) : State :=
  s.modHost (fun h => { h with bus := { h.bus with wrOff := off, wrMask := mask, wrN := h.bus.wrN + 1 } })

/-- A host write to one zone. -/
def State.zoneWrite (s : State) (p0 : Bool) (i : ZoneId) (off a : Nat) (v : Word) : WrAns :=
  let (r, s) := s.onZoneR i (fun z h => z.regWrite h .host p0 off v)
  let s := if r = 0 then s.wrote off (2 ^ i.val) else s
  ⟨r, if r = 0 then 0 else 2 ^ i.val, detailOf r a (s.zones[i].reg Reg.ROUTE_VSTAT) s.host.lcs.st, s⟩

/-- A broadcast write in one zone (R17, R376): a zone in OFF is skipped, a fenced one discards and counts it. -/
def Zone.bcastWrite (z : Zone) (h : HostC) (p0 : Bool) (off : Nat) (v : Word) : Nat × Zone :=
  if off ≥ 0x800 ∧ z.ctl.st = .off then (0, z)
  else if off ≥ 0x800 ∧ z.ctl.st = .fenced then (0x07, z.reject)
  else z.regWrite h .host p0 off v

/-- A broadcast write in the zones that still take words: reason and DETAIL of the lowest zone that refuses (R376). -/
def State.bcastWrite (s : State) (p0 : Bool) (skip off a : Nat) (v : Word) : WrAns :=
  let w := (List.finRange 8).foldl (fun (r : WrAns) (i : ZoneId) =>
    if skip / 2 ^ i.val % 2 = 1 then r
    else
      let (y, s) := r.s.onZoneR i (fun z h => z.bcastWrite h p0 off v)
      if y = 0 then { r with s := s }
      else ⟨if r.why = 0 then y else r.why, r.zfail + 2 ^ i.val,
        if r.why = 0 then detailOf y a (s.zones[i].reg Reg.ROUTE_VSTAT) s.host.lcs.st else r.detail, s⟩) ⟨0, 0, 0, s⟩
  { w with s := w.s.wrote off (255 - skip - w.zfail) }

/-- A write of one word by host software to an address; skip names the zones that take no broadcast word any more. -/
def State.regWrite (s : State) (p0 : Bool) (skip a : Nat) (v : Word) : WrAns :=
  match placeOf a with
  | .host =>
    let (r, t) := s.hostWrite a v
    ⟨r, 0, detailOf r a 0 t.host.lcs.st, t⟩
  | .zone i off => s.zoneWrite p0 i off a v
  | .bcast off => s.bcastWrite p0 skip off a v
  | .none => ⟨0x05, 0, BitVec.ofNat 32 a, s⟩

/-! Bursts (R305, R306, R376). -/

/-- The address of word k of a burst. -/
def burstAddr (addr : BitVec 24) (k : Nat) : Nat :=
  addr.toNat / 4 * 4 + (if addr.toNat % 2 = 1 then 0 else 4 * k)

/-- A burst stays within one page of a mapped region (R305). -/
def burstOk (addr : BitVec 24) (n : Nat) : Bool :=
  placeOf (burstAddr addr 0) != .none && burstAddr addr 0 / 0x400 == burstAddr addr (n - 1) / 0x400

/-- The lowest-numbered zone of a mask. -/
def lowZone (m : Nat) : Nat := ((List.range 8).find? (fun i => m / 2 ^ i % 2 == 1)).getD 8

/-- A burst of writes: zones that have refused take no later word of a broadcast; elsewhere the first refusal stops it. The
reason and DETAIL are those of the lowest-numbered refusing zone. -/
def burstRun (p0 : Bool) (addr : BitVec 24) : Nat → List Word → WrAns → WrAns
  | _, [], r => r
  | k, v :: rest, r =>
    let a := burstAddr addr k
    let isB := match placeOf a with | .bcast _ => true | _ => false
    if r.why ≠ 0 ∧ !isB then r
    else
      let w := r.s.regWrite p0 r.zfail a v
      let lower := r.why = 0 ∨ (w.why ≠ 0 ∧ lowZone w.zfail < lowZone r.zfail)
      burstRun p0 addr (k + 1) rest
        ⟨if lower then w.why else r.why, r.zfail + w.zfail, if lower then w.detail else r.detail, w.s⟩

end Sys2Proof.Machine
end

