-- ==== Sys2Proof/Machine/LinkOps.lean ====
section
/-! DEFINITION. The host link: rates, frames, answers, the transmitter, the compatibility mode and the SYNC generator
(chapter 14), with the security of frames (R304, R313, R325–R329). -/

namespace Sys2Proof.Machine

/-! Rates (R283, R289). -/

/-- T8 nominal of a rate code (Table 14-1). -/
def t8Nom (c : Nat) : Nat := match c with
  | 0 => 24 | 1 => 48 | 2 => 64 | 3 => 96 | 4 => 128 | 5 => 256 | 6 => 320 | 7 => 2560 | _ => 296

/-- The margin in thousandths: OVS 3 or 8. -/
def t8Margin (c : Nat) : Nat := if c = 0 ∨ c = 1 ∨ c = 3 then 17 else 39

/-- |T8 − T8nom|. -/
def t8Diff (c t8 : Nat) : Nat := (t8 - t8Nom c) + (t8Nom c - t8)

/-- A code matches a measured T8. -/
def t8Match (c t8 : Nat) : Bool := decide (t8Diff c t8 ≤ t8Nom c * t8Margin c / 1000 + 1)

/-- The code that a measured T8 selects among those enabled: the smallest difference, the lower code if two tie. -/
def rateOf (mask t8 : Nat) : Option Nat :=
  (List.range 9).foldl (fun (best : Option Nat) c =>
    if mask / 2 ^ c % 2 = 1 ∧ t8Match c t8 then
      (match best with
       | some b => if t8Diff c t8 < t8Diff b t8 then some c else some b
       | none => some c)
    else best) none

/-- The rate of a native frame, none when it is rejected (R289, R301). -/
def HostC.rxRate (h : HostC) (f : RxFrame) : Option Nat :=
  let cfg := h.reg Reg.LINK_CFG
  let mask := fld cfg 24 16
  if h.link.slow then rateOf (mask / 64 * 64) f.t8
  else if bit cfg 29 then rateOf mask f.t8
  else if f.syncOk then some (rcodeOf cfg) else none

/-! Frames and answers (R288–R293, R304, R325). -/

/-- Number of ones in the bits of a byte. -/
def ones (b : Byte) : Nat := (List.range 8).foldl (fun n i => n + b.toNat / 2 ^ i % 2) 0

/-- IDENT of a frame of the device: its own TA, a TYPE, odd parity (Table 14-2). -/
def identByte (ta : BitVec 2) (ty : Nat) : Byte :=
  let b := BitVec.ofNat 8 (ta.toNat * 32 + ty % 16 * 2)
  if ones b % 2 = 0 then b + 1 else b

/-- CHECK of a frame (R291). -/
def checkOf (ident : Byte) (pay : List Byte) : BitVec 16 :=
  BitVec.ofNat 16 (crcOf crc16 (ident :: (natLe pay.length 1 ++ pay)))

/-- TAG of a frame (R325): pay without the tag, len the whole LEN. -/
def tagOf (key : List Byte) (sid : Word) (ident : Byte) (pay : List Byte) : List Byte :=
  (cmac key (natLe sid.toNat 4 ++ (ident :: (natLe (pay.length + 8) 1 ++ pay)))).take 8

/-- Frame types that are never secured (R304): PING and PONG, IDENT_DATA, SESSION; 0xA for the host's IDENT. -/
def openType (dev : Bool) (ty : Nat) : Bool := ty == 1 || ty == 8 || (if dev then ty == 4 else ty == 0xA)

/-- The zone whose ticks the host complex counts (assumption 8). -/
def State.tickZone (s : State) : Option ZoneId := (List.finRange 8).find? (fun (i : ZoneId) => s.zones[i].ctl.st != .off)

/-- The device uses one DSEQ (R325, R327, R328): a checkpoint before one above DC, REKEY once, the session's end when it runs
out. -/
def State.useDseq (s : State) : State :=
  match s.host.sec.open0 with
  | none => s
  | some x =>
    let due := x.dseq > x.dc
    let x := if due then x.checkpoint s.host.sec.bfloor 0 0 else x
    let y := { x with dseq := x.dseq + 1, rekey := x.rekey || decide (x.dseq ≥ 0xFFFF0000) }
    let t := { s with host := { s.host with sec := { s.host.sec with
      open0 := some y, ckAge := if due then 0 else s.host.sec.ckAge } } }
    let t := if x.dseq ≥ 0xFFFF0000 ∧ !x.rekey then t.secMsg 0x0093 (natLe x.dseq 4) else t
    if x.dseq ≥ 0xFFFFFFFF then t.closeSession 1 else t

/-- A frame of the device with its parts before the body (R304, R325): secured while a session is open. -/
def State.frameOf (s : State) (ty : Nat) (pre body : List Byte) : TxFrame × State :=
  match (if openType true ty then none else s.host.sec.open0) with
  | none => ({ ty := ty, pay := pre ++ body, recs := [], msg := ty == 12 }, s)
  | some x =>
    let p := natLe x.dseq 4 ++ pre ++ body
    ({ ty := ty, pay := p ++ tagOf x.kd2h x.sid (identByte s.host.link.ta ty) p, recs := [], msg := ty == 12 }, s.useDseq)

/-- An answer waits before the MESSAGE frames (R312). -/
def HostC.queueAns (h : HostC) (f : TxFrame) : HostC :=
  { h with link := { h.link with txq := h.link.txq.filter (fun (g : TxFrame) => !g.msg) ++ [f] ++
                                        h.link.txq.filter (fun (g : TxFrame) => g.msg) } }

/-- Sends an answer that is not kept: a NAK of the link or of the protocol engine to a frame that is not executed. -/
def State.nakNow (s : State) (cn : Byte) (reason : Nat) (detail : Nat) : State :=
  let (f, s) := s.frameOf 2 [cn] (natLe reason 1 ++ [0] ++ natLe detail 4)
  { s with host := s.host.queueAns f }

/-- The answer of an executed command: it leaves the commands held, its answer is sent unless it came in a broadcast, and
number, CHECK and answer are kept (R312–R314). -/
def State.reply (s : State) (c : Hdr) (ty : Nat) (body : List Byte) : State :=
  let held := match s.host.proto.held.find? (fun (x : Held) => x.cn == c.cn && x.check == c.check && x.bcast == c.bcast) with
    | some x => s.host.proto.held.erase x
    | none => s.host.proto.held
  let (f, s) := if c.bcast then ({ ty := 0, pay := [], recs := [], msg := false }, s) else s.frameOf ty [c.cn] body
  let h := { s.host with proto := { s.host.proto with
    held := held
    kept := (({ cn := c.cn, check := c.check, ans := f } : Kept) :: s.host.proto.kept).take 4 } }
  { s with host := if c.bcast then h else h.queueAns f }

/-- ACK and NAK (Table 15-2). -/
def State.ack (s : State) (c : Hdr) (zok : Nat) : State := s.reply c 0 (natLe zok 1)
def State.nak (s : State) (c : Hdr) (reason zfail : Nat) (detail : Nat) : State :=
  s.reply c 2 (natLe reason 1 ++ natLe zfail 1 ++ natLe detail 4)

/-! The receiver (R285–R292). -/

/-- A count of LINK with its PG_FLT bit. -/
def HostC.linkErr (h : HostC) (k hi lo n flt : Nat) : HostC :=
  if n = 0 then h else (h.count k hi lo n).putBit (0x800 + 0x00C) flt true

/-- The receiver listens on LRXD (R298, R385): start-up has passed, and compatibility mode is neither locked nor chosen. -/
def HostC.hearsNative (h : HostC) : Bool :=
  (h.pwr.booted || h.lcs.st == 5) && h.link.lmode != 2 && (fld (h.reg Reg.LINK_CFG) 31 30 != 2 || h.lcs.st == 3)

/-- The receiver listens on LSW (R298): never in FIELD. -/
def HostC.hearsCompat (h : HostC) : Bool :=
  h.pwr.booted && h.lcs.st != 3 && h.lcs.st != 5 && h.link.lmode != 1 && fld (h.reg Reg.LINK_CFG) 31 30 != 1

/-- A frame has been handed over (R292): the mode locks, and a valid frame ends link silence (R22). -/
def State.validFrame (s : State) (mode : Nat) (valid : Bool) : State :=
  let s := { s with host := { s.host with link := { s.host.link with
    silence := if valid then 0 else s.host.link.silence, lmode := mode } } }
  if valid then s.onAll (fun z _ => z.orphanSet 0) else s

/-- A valid TYPE of a host frame, and whether a body of n bytes fits it (R303, R304, Table 15-2); lengths that depend on a
count inside the body are checked with it. -/
def typeOk (ty : Nat) : Bool := 1 ≤ ty && ty ≤ 10
def lenFits (ty : Nat) (secured : Bool) (b : List Byte) : Bool :=
  let n := b.length
  match ty with
  | 1 | 10 => n == 0
  | 2 => 7 ≤ n && n ≤ (if secured then 239 else 243) && (n - 3) % 4 == 0
  | 3 => n == 4
  | 4 => 12 ≤ n && (match (b.drop 11).headD 0 with
    | 1 => 13 ≤ n && n == 13 + ((b.drop 12).headD 0).toNat | 2 => n == 16 | _ => n == 12)
  | 5 => 34 ≤ n && (match (b.drop 1).headD 0 with
    | 1 => 35 ≤ n && n == 35 + ((b.drop 34).headD 0).toNat | 2 => n == 38 | _ => n == 34)
  | 6 => 3 ≤ n && n ≤ 242
  | 7 => n == 3
  | 8 => 1 ≤ n && (match b.headD 0 with
    | 1 => n == 81 | 3 => n == 201 | 5 => n == 13 | 7 => n == 13 | 8 => n == 1 | 9 => n == 4 | _ => false)
  | 9 => n == 3
  | _ => false

/-- A checkpoint is due: have 0.25 s not passed since the last one (R327)? Fewer than 250 tick boundaries lie in less than
that time and more than 250 in more; exactly 250, and a device without a running zone, leave it open (assumption 16). -/
def State.tooEarly (s : State) : Bool × HostC :=
  if s.tickZone.isNone ∨ s.host.sec.ckAge = 250 then s.host.freeCond 16 else (decide (s.host.sec.ckAge < 250), s.host)

/-- The SEQ of an addressed secured frame (R326 step 4): accepted or not. -/
def State.takeSeq (s : State) (x : Session) (seq : Nat) : Bool × State :=
  let replay := fun (s : State) => s.modHost (fun h => h.count Reg.SEC_COUNT 23 16 1)
  if x.hfloor ≥ 0xFFFFFFFF then (false, (replay s).closeSession 1)
  else if seq ≤ x.hfloor then (false, replay s)
  else if seq > x.hc then
    let (early, h) := s.tooEarly
    if early then (false, replay { s with host := h })
    else
      let y := { x.checkpoint h.sec.bfloor seq 0 with hfloor := seq }
      (true, { s with host := { h with sec := { h.sec with open0 := some y, ckAge := 0 } } })
  else (true, { s with host := { s.host with sec := { s.host.sec with open0 := some { x with hfloor := seq } } } })

/-- A TAG that does not verify (R326): counted; sixteen in a row close the session. -/
def State.tagFail (s : State) (cn : Byte) : State :=
  let s := s.modHost (fun h => { h.count Reg.SEC_COUNT 31 24 1 with sec := { (h.count Reg.SEC_COUNT 31 24 1).sec with
    tagRun := h.sec.tagRun + 1 } })
  let s := s.nakNow cn 0x22 0
  if s.host.sec.tagRun ≥ 16 then s.closeSession 2 else s

/-- A command is held for execution (R312). -/
def HostC.hold (h : HostC) (x : Held) : HostC := { h with proto := { h.proto with held := h.proto.held ++ [x] } }

/-- A command that has passed the security checks: its length fits, or it is refused with LENGTH (R304). -/
def State.holdOrLength (s : State) (ty : Nat) (cn : Byte) (f : RxFrame) (secured bcast : Bool) (body : List Byte) : State :=
  if lenFits ty secured body then s.modHost (fun h => h.hold { ty := ty, cn := cn, check := f.check, bcast := bcast })
  else if bcast then s else s.nakNow cn 0x03 f.payload.length

/-- The payload of a secured frame between SEQ and TAG. -/
def inner (pay : List Byte) : List Byte := (pay.drop 4).take (pay.length - 12)

/-- An addressed frame at the protocol engine (R303, R304, R312, R313, R326). -/
def State.addressed (s : State) (f : RxFrame) : State :=
  let ty := f.ident.toNat / 2 % 16
  let sec := if openType false ty then none else s.host.sec.open0
  let cn := if sec.isSome then (f.payload.drop 4).headD 0 else f.payload.headD 0
  match (if f.payload.isEmpty then none
      else s.host.proto.kept.find? (fun (k : Kept) => k.cn == cn && k.check == f.check)) with
  | some k => if k.ans.pay.isEmpty then s else s.modHost (fun h => h.queueAns k.ans)
  | none =>
    if s.host.proto.held.length ≥ 4 then s.nakNow cn 0x16 0
    else if !typeOk ty then s.nakNow cn 0x02 ty
    else match sec with
    | none => s.holdOrLength ty cn f false false (f.payload.drop 1)
    | some x =>
      let pay := f.payload
      let body := pay.take (pay.length - 8)
      if pay.length < 13 ∨ tagOf x.kh2d x.sid f.ident body ≠ pay.drop (pay.length - 8) then s.tagFail cn
      else
        let s := s.modHost (fun h => { h with sec := { h.sec with tagRun := 0 } })
        let (ok, s) := s.takeSeq x (leNat (pay.take 4))
        if ok then s.holdOrLength ty cn f true false ((inner pay).drop 1) else s.nakNow cn 0x21 (leNat (pay.take 4))

/-- A broadcast that is ignored for its security is counted in TAGFAIL (R329). -/
def State.bcastIgnored (s : State) : State := s.modHost (fun h => h.count Reg.SEC_COUNT 31 24 1)

/-- The SEQ of a secured broadcast against BFLOOR (R327, R329). -/
def State.takeBseq (s : State) (x : Session) (seq : Nat) : Bool × State :=
  let put := fun (h : HostC) (y : Session) => { h with sec := { h.sec with open0 := some y, bfloor := seq } }
  if seq ≤ s.host.sec.bfloor then (false, s.modHost (fun h => h.count Reg.SEC_COUNT 23 16 1))
  else if seq > x.bc then
    let (early, h) := s.tooEarly
    if early then (false, { s with host := h.count Reg.SEC_COUNT 23 16 1 })
    else (true, { s with host := put { h with sec := { h.sec with ckAge := 0 } } (x.checkpoint h.sec.bfloor 0 seq) })
  else (true, { s with host := put s.host x })

/-- A broadcast frame at the protocol engine (R312–R314, R329). -/
def State.broadcast (s : State) (f : RxFrame) : State :=
  let ty := f.ident.toNat / 2 % 16
  let bsec := f.ident.toNat / 32 % 2 = 1
  let cn := if bsec then (f.payload.drop 4).headD 0 else f.payload.headD 0
  if f.ident.toNat / 64 % 2 = 1 ∨ !(ty = 2 ∨ ty = 4 ∨ ty = 5) ∨ s.host.proto.held.length ≥ 4 ∨
      s.host.proto.kept.any (fun (k : Kept) => k.cn == cn && k.check == f.check) then s
  else match s.host.sec.open0 with
  | none => if bsec then s.bcastIgnored else s.holdOrLength ty cn f false true (f.payload.drop 1)
  | some x =>
    let pay := f.payload
    if s.host.sec.tgk.isEmpty ∨ !bsec ∨ pay.length < 13 ∨
        tagOf s.host.sec.tgk 0xFFFFFFFF f.ident (pay.take (pay.length - 8)) ≠ pay.drop (pay.length - 8) then s.bcastIgnored
    else
      let (ok, s) := s.takeBseq x (leNat (pay.take 4))
      if ok then s.holdOrLength ty cn f true true ((inner pay).drop 1) else s

/-- The TAG of a frame verifies: an addressed frame under the session's key, a secured broadcast under TGK (R325, R329). -/
def HostC.tagVerifies (h : HostC) (f : RxFrame) : Bool :=
  let pay := f.payload
  let given := pay.drop (pay.length - 8)
  match h.sec.open0 with
  | none => false
  | some x =>
    decide (13 ≤ pay.length) &&
      (if f.ident.toNat ≥ 128 then f.ident.toNat / 32 % 2 == 1 && !h.sec.tgk.isEmpty &&
          tagOf h.sec.tgk 0xFFFFFFFF f.ident (pay.take (pay.length - 8)) == given
       else !openType false (f.ident.toNat / 2 % 16) && tagOf x.kh2d x.sid f.ident (pay.take (pay.length - 8)) == given)

/-- The rate of a valid frame: the transmitter takes it with AUTORATE (R293), and for the answer to the frame that woke the link
(R392). -/
def HostC.heardRate (h : HostC) : HostC :=
  { h with link := { h.link with heard := some h.link.rx
                                 tx := if bit (h.reg Reg.LINK_CFG) 29 || h.link.slow then h.link.rx else h.link.tx } }

/-- A frame whose rate is known: parity, address and CHECK (R290–R292). -/
def State.checkFrame (s : State) (f : RxFrame) : State :=
  let bc := f.ident.toNat ≥ 128
  if ones f.ident % 2 = 0 then s.modHost (fun h => h.linkErr Reg.LINK_COUNT 15 8 1 1)
  else if !bc ∧ f.ident.toNat / 32 % 4 ≠ s.host.link.ta.toNat then s
  else
    let c := checkOf f.ident f.payload
    let s := s.modHost (fun h => { h with link := { h.link with lastRx := c } })
    if c ≠ f.check then
      let s := s.modHost (fun h => h.linkErr Reg.LINK_COUNT 7 0 1 2)
      if bc then s else s.nakNow 0 0x01 0
    else
      let s := s.validFrame 1 (s.host.lcs.st != 3 || s.host.tagVerifies f)
      let s := s.modHost HostC.heardRate
      if bc then s.broadcast f else s.addressed f

/-- A native frame ends on LRXD (R285–R292). While the device sleeps, only a frame whose BREAK woke the link is received. -/
def State.frameReceived (s : State) (f : RxFrame) : State :=
  let h := s.host
  if !h.hearsNative ∨ (h.pwr.pstate = 2 ∧ !h.link.rxBusy) then s
  else
    let h := (h.count Reg.LINK_COUNT 31 24 f.glitches).linkErr Reg.LINK_COUNT 23 16 f.ferrs 0
    let h := { h with link := { h.link with rxBusy := false } }
    match h.rxRate f with
    | none => { s with host := h.linkErr Reg.LINK_COUNT2 15 8 1 4 }
    | some c => { s with host := { h with link := { h.link with rx := c } } }.checkFrame f

/-- A BREAK on LRXD (R288). In sleep the receiver is off until an edge has woken it (R301). -/
def State.linkBreak (s : State) : State :=
  if !s.host.hearsNative ∨ (s.host.pwr.pstate = 2 ∧ !s.host.link.rxBusy) then s
  else s.modHost (fun h =>
    let h := if h.link.rxBusy then h.count Reg.LINK_COUNT2 23 16 1 else h
    { h with link := { h.link with rxBusy := true } })

/-- An inter-character gap above ICTO inside a frame (R290). -/
def State.linkTimeout (s : State) : State :=
  if !s.host.link.rxBusy then s
  else s.modHost (fun h => { h.linkErr Reg.LINK_COUNT2 31 24 1 3 with link := { h.link with rxBusy := false } })

/-- A falling edge in sleep (R301). -/
def State.wakeEdge (s : State) (lsw low : Bool) : State :=
  let h := s.host
  if h.pwr.pstate ≠ 2 ∨ (if lsw then !h.hearsCompat else !h.hearsNative) then s
  else if low then s.modHost (fun h => { h with link := { h.link with rxBusy := true } })
  else s.modHost (fun h => h.count Reg.LINK_COUNT2 7 0 1)

/-! The transmitter (R293–R297, R318, R319). -/

/-- A record that a frame carried and that has been sent (R318, R319). -/
def sentRec (ack : Bool) (carried : List (Nat × BitVec 16)) (q : List Rec) : List Rec :=
  q.filterMap (fun (r : Rec) =>
    if carried.contains (r.src, r.mseq) then
      (if ack && clsRank r.cls == 3 then some { r with sent := some 0 } else none)
    else some r)

/-- The records of a frame sent whole leave their queues, or wait for MSGACK. -/
def State.recsSent (s : State) (carried : List (Nat × BitVec 16)) : State :=
  let ack := bit (s.host.reg Reg.MSGQ_CFG) 30
  { s with
    zones := s.zones.map (fun (z : Zone) => { z with msgs := { z.msgs with q := sentRec ack carried z.msgs.q } })
    host := { s.host with proto := { s.host.proto with msgs := { s.host.proto.msgs with
      q := sentRec ack carried s.host.proto.msgs.q } } } }

/-- The frame at the head of the transmitter (R295–R297): LTXD stays released while compatibility mode is locked, and nothing is
sent in sleep. Without AUTORATE the transmitter is at RCODE again after it (R289, R392). -/
def State.transmit (s : State) (o : ArbOutcome) : State :=
  match s.host.link.txq with
  | [] => s
  | f :: rest =>
    if s.host.link.lmode = 2 ∨ s.host.pwr.pstate = 2 then s
    else match o with
    | .lost late => s.modHost (fun h =>
        { h.count Reg.TRUSS_COUNT 31 16 1 with link := { h.link with taconf := h.link.taconf || late } })
    | .driverFault => s.modHost (fun h => { h with link := { h.link with txq := rest, txfault := true, oweTx := true } })
    | .sent =>
      let id := identByte s.host.link.ta f.ty
      let c := checkOf id f.pay
      let s := s.modHost (fun h => { h.count Reg.TRUSS_COUNT 15 0 1 with link := { h.link with
        txq := rest, lastTx := c, oweTx := false
        tx := if bit (h.reg Reg.LINK_CFG) 29 then h.link.tx else rcodeOf (h.reg Reg.LINK_CFG)
        ltxd := id :: (natLe f.pay.length 1 ++ f.pay ++ (natLe c.toNat 2).reverse) } })
      if f.msg then s.recsSent f.recs else s

/-- LINK_TX follows the first frame sent after a driver fault (R296). -/
def State.transmitFrame (s : State) (o : ArbOutcome) : State :=
  let owed := s.host.link.oweTx
  let t := s.transmit o
  if owed && !t.host.link.oweTx then t.hsend clsFault 0x0081 [] else t

/-! MESSAGE frames (R318, R319). -/

/-- The next record of a queue to go into a frame: FAULT and SECURITY first, then the oldest; taken names those chosen. -/
def nextRec (q : List Rec) (taken : List (Nat × BitVec 16)) : Option Rec :=
  let w := q.filter (fun (r : Rec) => r.sent.isNone && !taken.contains (r.src, r.mseq))
  (w.find? (fun (r : Rec) => clsRank r.cls == 3)).or w.head?

/-- The messages of a zone that may be sent: in HOLD with HCLOSS they stay in its queue (R24). -/
def Zone.toSend (z : Zone) : List Rec := if z.ctl.st = .hold ∧ z.ctl.hcloss then [] else z.msgs.q

/-- The queue of a place in a turn: 0 the host complex, 1–8 the zones. -/
def State.queueAt (s : State) (k : Nat) : List Rec :=
  if k = 0 then s.host.proto.msgs.q else s.zones[fin 8 (k - 1)].toSend

/-- Fills a frame in turns from a place on: room left, places passed without a record, the records chosen. -/
def State.fillMsg (s : State) : Nat → Nat → Nat → Nat → List Rec → List Rec
  | 0, _, _, _, acc => acc
  | n + 1, k, room, empty, acc =>
    if empty ≥ 9 then acc
    else match nextRec (s.queueAt k) (acc.map (fun (r : Rec) => (r.src, r.mseq))) with
      | none => s.fillMsg n ((k + 1) % 9) room (empty + 1) acc
      | some r =>
        let l := r.bytes.length
        if l > room then acc else s.fillMsg n ((k + 1) % 9) (room - l) 0 (acc ++ [r])

/-- The last zone that gave a record. -/
def lastZone (d : Nat) (l : List Rec) : Nat := l.foldl (fun d (r : Rec) => if r.src < 8 then r.src else d) d

/-- MESSAGE (R318): a frame is filled with waiting records while native mode is locked, EN = 1 and none waits already; in sleep
messages wait (R390). -/
def State.message (s : State) : State :=
  let h := s.host
  if h.link.lmode ≠ 1 ∨ h.pwr.pstate = 2 ∨ !bit (h.reg Reg.MSGQ_CFG) 31 ∨ h.link.txq.any (fun (f : TxFrame) => f.msg) then s
  else
    let rs := s.fillMsg 400 ((h.proto.last + 2) % 9) (if h.sec.open0.isSome then 243 else 255) 0 []
    if rs.isEmpty then s
    else
      let (f, s) := s.frameOf 12 [] (rs.flatMap Rec.bytes)
      s.modHost (fun h => { h with
        link := { h.link with txq := h.link.txq ++ [{ f with recs := rs.map (fun (r : Rec) => (r.src, r.mseq)) }] }
        proto := { h.proto with last := lastZone h.proto.last rs } })

/-- ACKTO as it acts. -/
def HostC.ackTo (h : HostC) : Nat := let t := fld (h.reg Reg.MSGQ_CFG) 15 0; if t = 0 then 1 else t

/-- Records unacknowledged for ACKTO ticks wait again, with RESENT set (R319). -/
def resendRecs (t : Nat) (q : List Rec) : List Rec :=
  q.map (fun (r : Rec) => match r.sent with
    | some k => if k ≥ t then { r with sent := none, flags := r.flags ||| 2 } else r
    | none => r)

/-- MESSAGE_RESEND (R319). -/
def State.messageResend (s : State) : State :=
  let t := s.host.ackTo
  { s with
    zones := s.zones.map (fun (z : Zone) => { z with msgs := { z.msgs with q := resendRecs t z.msgs.q } })
    host := { s.host with proto := { s.host.proto with msgs := { s.host.proto.msgs with q := resendRecs t s.host.proto.msgs.q } } } }

/-- An MSGACK of a source (R319): records sent, with MSEQ in m − 32,767 to m. -/
def ackRecs (m : BitVec 16) (q : List Rec) : List Rec :=
  q.filter (fun (r : Rec) => !((r.sent.isSome || r.flags / 2 % 2 == 1) && decide ((m - r.mseq).toNat ≤ 32767)))

/-- The records of a source that an MSGACK acknowledges leave. -/
def State.msgAck (s : State) (src : Nat) (m : BitVec 16) : State :=
  if src = 8 then s.modHost (fun h => { h with proto := { h.proto with msgs := { h.proto.msgs with q := ackRecs m h.proto.msgs.q } } })
  else s.putZone (fin 8 src) (let z := s.zones[fin 8 src]; { z with msgs := { z.msgs with q := ackRecs m z.msgs.q } })

/-! SYNC generator (R302). -/

/-- The source zone of the SYNC generator. -/
def State.sgZone (s : State) : Zone := s.zones[fin 8 (fld (s.host.reg Reg.TRUSS_SG_CTL) 2 0)]

/-- The moment of a pulse for frame F has come: SYNC falls half an FREF period, D / 2 frames, before the source zone's boundary
of F, and so in a frame that lies no further before F (R302). -/
def State.syncDue (s : State) (f : BitVec 48) : Bool :=
  decide (2 * fdist f s.sgZone.time.frame ≤ frefD s.sgZone.pll.rate + 1)

/-- The armed generator's pulse, at its moment. -/
def State.syncPulse (s : State) (low : Bool) : State :=
  if s.host.link.sgArm.all (fun f => !s.syncDue f) then s
  else
    let h := { s.host with link := { s.host.link with sgArm := none } }
    if !s.sgZone.pll.lock then { s with host := h.putBit Reg.TRUSS_SG_STAT 2 true }
    else { s with host := (if low then h.putBit Reg.TRUSS_SG_STAT 1 true else h).putBit Reg.TRUSS_SG_STAT 0 true }

end Sys2Proof.Machine
end

