-- ==== Sys2Proof/Machine/ProtoOps.lean ====
section
/-! DEFINITION. The Lanril commands and the compatibility commands: what each does and answers (R300, R303–R315, R319, R323,
R324, R327, R328, R330, R331, R333, R370). -/

namespace Sys2Proof.Machine

/-- Records waiting in all queues (MSGW of PONG). -/
def State.msgw (s : State) : Nat :=
  min 255 (s.host.proto.msgs.q.length + s.zones.toList.foldl (fun n (z : Zone) => n + z.msgs.q.length) 0)

/-- The PONG body (Table 15-2). -/
def State.pong (s : State) : List Byte :=
  natLe (b2n s.host.sec.open0.isSome + 2 * b2n (s.host.link.lmode != 0)) 1 ++
    (List.range 4).map (fun k => BitVec.ofNat 8 (s.zones[fin 8 (2 * k)].ctl.st.code + 16 * s.zones[fin 8 (2 * k + 1)].ctl.st.code)) ++
    natLe s.msgw 1

/-- PING. -/
def State.ping (s : State) (c : Hdr) : State := s.reply c 1 s.pong

/-- The IDENT_DATA body (Table 15-2). -/
def HostC.identData (h : HostC) : List Byte :=
  natLe 0x5808 2 ++ devRev ++ natLe h.lcs.st 1 ++ h.taByte ++ devSerial ++ devRom

/-- IDENT. -/
def State.ident (s : State) (c : Hdr) : State := s.reply c 4 s.host.identData

/-! Register access. -/

/-- The right to a burst of writes: the first word that lacks it decides (R330). -/
def HostC.burstRight (h : HostC) (addr : BitVec 24) (n : Nat) : Nat × Nat :=
  (List.range n).foldl (fun (r : Nat × Nat) k => if r.1 ≠ 0 then r else h.writeRight (burstAddr addr k)) (0, 0)

/-- LEN of a frame whose body after CN has n bytes (R304). -/
def HostC.lenOf (h : HostC) (n : Nat) : Nat := if h.sec.open0.isSome then n + 13 else n + 1

/-- REG_WRITE (R305, R306, R314). -/
def State.regWriteCmd (s : State) (c : Hdr) (addr : BitVec 24) (ws : List Word) : State :=
  let h := s.host
  let n := ws.length
  let r := h.burstRight addr n
  if n = 0 ∨ n > (if h.sec.open0.isSome then 59 else 60) then s.nak c 0x03 0 (h.lenOf (3 + 4 * n))
  else if r.1 ≠ 0 then s.nak c r.1 0 r.2
  else if addr.toNat / 2 % 2 = 1 then s.nak c 0x04 0 0
  else if !burstOk addr n then s.nak c 0x05 0 addr.toNat
  else
    let w := burstRun h.p0ctl addr 0 ws ⟨0, 0, 0, s⟩
    if w.why = 0 then w.s.ack c 0 else w.s.nak c w.why w.zfail w.detail.toNat

/-- Reads the words of a burst in order: STATUS, INDEX of the first failing word, the words (R307). -/
def readRun (addr : BitVec 24) : Nat → Nat → (Nat × Nat × List Word × State) → (Nat × Nat × List Word × State)
  | _, 0, r => r
  | k, n + 1, (st, ix, ws, s) =>
    let a := s.regRead (burstAddr addr k)
    readRun addr (k + 1) n
      (if st = 0 then a.why else st, if st = 0 ∧ a.why ≠ 0 then k else ix, ws ++ [if a.why = 0 then a.data else 0], a.s)

/-- A one-word read of a PG_ID register (R370). -/
def readsPgId (addr : BitVec 24) (count : Nat) : Bool :=
  count == 1 && addr.toNat % 0x400 == 0 && (match placeOf addr.toNat with | .host => true | .zone _ _ => true | _ => false)

/-- REG_READ (R305, R307). -/
def State.regReadCmd (s : State) (c : Hdr) (addr : BitVec 24) (count : Byte) : State :=
  let n := count.toNat
  let r := s.host.readRight (readsPgId addr n)
  if r.1 ≠ 0 then s.nak c r.1 0 r.2
  else if addr.toNat / 2 % 2 = 1 then s.nak c 0x04 0 0
  else if n = 0 ∨ n > 60 then s.nak c 0x04 0 3
  else if !burstOk addr n then s.nak c 0x05 0 addr.toNat
  else
    let (st, ix, ws, s) := readRun addr 0 n (0, 255, [], s)
    s.reply c 3 (natLe st 1 ++ natLe ix 1 ++ ws.flatMap (fun w => natLe w.toNat 4))

/-! VOICE and EVENT_POST. -/

/-- Bytes of the authority data that follow AUTH (R309). -/
def authBytes (a : Auth) : Nat :=
  match a with
  | .none => 0
  | .inline t => 1 + t.length
  | .standing _ => 4
  | .other _ => 0

/-- Runs something in every addressed zone, in zone order: refusing zones, reason and DETAIL of the lowest. -/
def State.eachZone (s : State) (zmask : Nat) (f : Zone → HostC → (Nat × Nat) × Zone) : WrAns :=
  (List.finRange 8).foldl (fun (r : WrAns) (i : ZoneId) =>
    if zmask / 2 ^ i.val % 2 = 0 then r
    else
      let (y, s) := r.s.onZoneR i f
      if y.1 = 0 then { r with s := s }
      else ⟨if r.why = 0 then y.1 else r.why, r.zfail + 2 ^ i.val, if r.why = 0 then BitVec.ofNat 32 y.2 else r.detail, s⟩)
    ⟨0, 0, 0, s⟩

/-- The answer of a command with a zone mask (R308). -/
def State.zoneAns (w : WrAns) (c : Hdr) (zmask : Nat) : State :=
  if w.why = 0 then w.s.ack c zmask else w.s.nak c w.why w.zfail w.detail.toNat

/-- The authority of a P0 command (R309, R333): the outcome of its check, made now if P0_CHECK has not made it; the check
code and TEND. -/
def State.authority (s : State) (zmask : Nat) (item : Word) (a : Auth) : Nat × Nat × State :=
  let made := match s.host.sec.p0 with | some (m, i, _, _) => m == zmask && i == item | none => false
  let s := if made then s else s.p0Check zmask item a
  let r := match s.host.sec.p0 with | some (_, _, c, t) => (c, t) | none => (13, 0)
  (r.1, r.2, s.modHost (fun h => { h with sec := { h.sec with p0 := none } }))

/-- AUTH carries an inline token. -/
def isInline (a : Auth) : Bool := match a with | .inline _ => true | _ => false

/-- AUTH names no authority. -/
def noAuth (a : Auth) : Bool := match a with | .none => true | _ => false

/-- AUTH has a value that the table of R309 does not give: AUTH misused (Table 15-3). -/
def badAuth (a : Auth) : Bool := match a with | .other _ => true | _ => false

/-- The VOICE command under way is answered once every zone that it addresses has given its outcome (R308, R312). -/
def State.voiceDone (s : State) : State :=
  match s.host.proto.vwait with
  | none => s
  | some w =>
    if w.left ≠ 0 then s
    else
      let s := s.modHost (fun h => { h with proto := { h.proto with vwait := none } })
      if w.zfail = 0 then s.ack w.hdr w.zmask else s.nak w.hdr w.why w.zfail w.detail

/-- A VOICE command reaches the zones (R150, R308): those whose state refuses it answer at once, the others hold it for their
bookkeeping windows. -/
def State.voiceSend (s : State) (c : Hdr) (zmask : Nat) (v : HostV) : State :=
  let w : VoiceWait := { hdr := c, zmask := zmask, left := zmask % 256, zfail := 0, low := 8, why := 0, detail := 0 }
  let s := s.modHost (fun h => { h with proto := { h.proto with vwait := some w } })
  ((List.finRange 8).foldl (fun (s : State) (i : ZoneId) =>
    if zmask / 2 ^ i.val % 2 = 0 then s
    else s.onZone i (fun z _ => { z with vox := { z.vox with hostq := z.vox.hostq ++ [v] } })) s).voiceDone

/-- VOICE (R308, R309, R330, R331). -/
def State.voiceCmd (s : State) (c : Hdr) (op zmask cls : Byte) (arg0 arg1 : Word) (a : Auth) : State :=
  let p0 := op.toNat = 0 ∧ cls.toNat = 0
  let r := s.host.voiceRight p0
  let z := zmask.toNat
  if s.host.lenOf (12 + authBytes a) > 255 then s.nak c 0x03 0 (s.host.lenOf (12 + authBytes a))
  else if r.1 ≠ 0 then s.nak c r.1 z r.2
  else if op.toNat > 3 then s.nak c 0x04 z 0
  else if z = 0 then s.nak c 0x04 z 1
  else if op.toNat = 0 ∧ cls.toNat > 5 then s.nak c 0x04 z 2
  else if badAuth a ∨ (!p0 ∧ !noAuth a) then s.nak c 0x04 z 11
  else if p0 ∧ noAuth a then s.nak c 0x23 z 0
  else
    let (code, _, s) := if p0 then s.authority z arg0 a else (0, 0, s)
    if code ≠ 0 then s.nak c 0x23 z code
    else
      s.voiceSend c z { op := op.toNat, cls := cls.toNat, arg0 := arg0, arg1 := arg1, full := s.host.p0ctl, asked := true }

/-- An entry that is a P0 VSTART (R309). -/
def entryP0 (e : Vector Word 8) : Bool := fld e[(0 : Fin 8)] 27 24 == 0 && fld e[(0 : Fin 8)] 23 21 == 0

/-- EVENT_POST (R308, R309, R330, R334). -/
def State.eventPost (s : State) (c : Hdr) (zmask : Byte) (e : Vector Word 8) (a : Auth) : State :=
  let p0 := entryP0 e
  let r := s.host.voiceRight p0
  let z := zmask.toNat
  if s.host.lenOf (34 + authBytes a) > 255 then s.nak c 0x03 0 (s.host.lenOf (34 + authBytes a))
  else if r.1 ≠ 0 then s.nak c r.1 z r.2
  else if z = 0 then s.nak c 0x04 z 0
  else if badAuth a || (!p0 && !noAuth a) then s.nak c 0x04 z 1
  else if p0 && noAuth a then s.nak c 0x23 z 0
  else
    let (code, tend, s) := if p0 then s.authority z e[(4 : Fin 8)] a else (0, 0, s)
    if code ≠ 0 then s.nak c 0x23 z code
    else
      let full := s.host.p0ctl
      State.zoneAns (s.eachZone z (fun zn _ =>
        if zn.ctl.st = .off then ((0x08, 0), zn)
        else if zn.ctl.st = .fenced then ((0x07, 0), zn)
        else
          let (y, zn) := zn.post e (if p0 then some (BitVec.ofNat 48 tend) else none) full
          ((y, 0), zn))) c z

/-! Bulk and MSGACK. -/

/-- BULK_WR (R310). -/
def State.bulkWr (s : State) (c : Hdr) (off : BitVec 16) (d : List Byte) : State :=
  let r := s.host.bulkRight
  if d.length = 0 ∨ d.length > 240 then s.nak c 0x03 0 (s.host.lenOf (2 + d.length))
  else if r.1 ≠ 0 then s.nak c r.1 0 r.2
  else if off.toNat + d.length > 4096 then s.nak c 0x17 0 off.toNat
  else (s.modHost (fun h => { h with proto := { h.proto with bulk := byWrite h.proto.bulk off.toNat d } })).ack c 0

/-- BULK_RD (R310). -/
def State.bulkRd (s : State) (c : Hdr) (off : BitVec 16) (count : Byte) : State :=
  let r := s.host.bulkRight
  let n := count.toNat
  if r.1 ≠ 0 then s.nak c r.1 0 r.2
  else if n = 0 ∨ n > 240 then s.nak c 0x04 0 2
  else if off.toNat + n > 4096 then s.nak c 0x17 0 off.toNat
  else s.reply c 5 (s.host.bulkAt off.toNat n)

/-- MSGACK (R319). -/
def State.msgackCmd (s : State) (c : Hdr) (src : Byte) (m : BitVec 16) : State :=
  let r := s.host.readRight false
  if r.1 ≠ 0 then s.nak c r.1 0 r.2
  else if src.toNat > 8 then s.nak c 0x04 0 0
  else (s.msgAck src.toNat m).ack c 0

/-! SESSION (R323, R324, R327, R328). -/

/-- HELLO: DEVHELLO, or LCSTATE, or AUTHORITY with code ISLAND while Avhar is in FAULT. -/
def State.helloCmd (s : State) (c : Hdr) (qh nh : List Byte) : State :=
  let r := s.host.sessionRight false
  if qh.length ≠ 64 ∨ nh.length ≠ 16 then s.nak c 0x03 0 (2 + qh.length + nh.length)
  else if r.1 ≠ 0 then s.nak c r.1 0 r.2
  else if !s.host.islandOk then s.nak c 0x23 0 13
  else
    let (b, h) := s.host.hello qh nh
    { s with host := h }.reply c 8 b

/-- AUTH. -/
def State.authCmd (s : State) (c : Hdr) (hcert sigh : List Byte) : State :=
  let r := s.host.sessionRight false
  let k := s.host.authCheck hcert sigh
  if hcert.length ≠ 136 ∨ sigh.length ≠ 64 then s.nak c 0x03 0 (2 + hcert.length + sigh.length)
  else if r.1 ≠ 0 then s.nak c r.1 0 r.2
  else if k ≠ 0 then s.nak c 0x23 0 k
  else
    let (b, s) := s.openSession hcert
    s.reply c 8 b

/-- CLOSE: a valid one is answered CLOSED. -/
def State.closeCmd (s : State) (c : Hdr) (sid : Word) (mac : List Byte) : State :=
  let r := s.host.sessionRight false
  if mac.length ≠ 8 then s.nak c 0x03 0 (6 + mac.length)
  else if r.1 ≠ 0 then s.nak c r.1 0 r.2
  else match s.host.sec.open0 with
  | none => s.nak c 0x20 0 0
  | some x =>
    if x.sid ≠ sid then s.nak c 0x20 0 0
    else if mac ≠ x.mac 5 x.hfloor then s.nak c 0x22 0 0
    else (s.closeSession 0).reply c 8 (6 :: (natLe sid.toNat 4 ++ [0]))

/-- RESUME. -/
def State.resumeCmd (s : State) (c : Hdr) (sid : Word) (mac : List Byte) : State :=
  let r := s.host.sessionRight false
  if mac.length ≠ 8 then s.nak c 0x03 0 (6 + mac.length)
  else if r.1 ≠ 0 then s.nak c r.1 0 r.2
  else if !s.host.islandOk then s.nak c 0x23 0 13
  else match s.host.sec.stored with
  | none => s.nak c 0x20 0 0
  | some x =>
    if x.sid ≠ sid then s.nak c 0x20 0 0
    else if mac ≠ x.mac 7 x.hc then s.nak c 0x22 0 0
    else
      let (b, s) := s.resumeSession x
      s.reply c 8 b

/-- STATUS. -/
def State.statusCmd (s : State) (c : Hdr) : State :=
  let r := s.host.sessionRight true
  if r.1 ≠ 0 then s.nak c r.1 0 r.2 else s.reply c 8 s.host.statusBody

/-- GETCERT: bytes of the DIK certificate; bytes past its end are 0. -/
def State.getcertCmd (s : State) (c : Hdr) (off : BitVec 16) (count : Byte) : State :=
  let r := s.host.sessionRight true
  let n := count.toNat
  if r.1 ≠ 0 then s.nak c r.1 0 r.2
  else if n = 0 ∨ n > 200 then s.nak c 0x04 0 3
  else s.reply c 8 (9 :: fitLen n (s.host.sec.cert.drop off.toNat))

/-! Compatibility commands (R298–R300). -/

/-- HDR of a compatibility frame (Table 14-5). -/
def compatHdr (ta : BitVec 2) (dir : Bool) (cmd : Nat) : Byte := BitVec.ofNat 8 (ta.toNat * 64 + b2n dir * 32 + cmd)

/-- A compatibility frame without BREAK and SYNC. -/
def compatBytes (ta : BitVec 2) (dir : Bool) (cmd : Nat) (d : List Byte) : List Byte :=
  let b := compatHdr ta dir cmd :: (natLe d.length 1 ++ d)
  b ++ natLe (crcOf crc8 b) 1

/-- The answer on LSW, or a collision (R300). -/
def State.lswAnswer (s : State) (collision : Bool) (cmd : Nat) (d : List Byte) : State :=
  if collision then s.modHost (fun h =>
    { h.count Reg.TRUSS_COUNT 31 16 1 with link := { h.link with taconf := true, lsw := [] } })
  else s.modHost (fun h => { h with link := { h.link with lsw := compatBytes h.link.ta true cmd d } })

/-- The rate of a compatibility frame, none when it is rejected: one of the codes that are allowed in sleep and in this mode
(R289, R299, Table 14-1). -/
def HostC.lswRate (h : HostC) (f : CompatFrame) : Option Nat :=
  let cfg := h.reg Reg.LINK_CFG
  if h.link.slow || bit cfg 29 then rateOf (fld cfg 24 16 / 64 * 64) f.t8
  else if f.syncOk && decide (6 ≤ rcodeOf cfg) && decide (rcodeOf cfg ≤ 8) then some (rcodeOf cfg) else none

/-- A compatibility frame of the device's TA, whose rate is known, with its CHK (R299, R300): act does the work of a valid frame
and gives the answer's CMD and DATA. -/
def State.compatTake (s : State) (f : CompatFrame) (cmd : Nat) (act : State → Nat × List Byte × State) : State :=
  if compatBytes f.ta false cmd f.data ≠ (compatBytes f.ta false cmd f.data).dropLast ++ [f.chk] then
    (s.modHost (fun h => h.linkErr Reg.LINK_COUNT 7 0 1 2)).lswAnswer f.collision 0x1F [1]
  else
    let (c, d, s) := act ((s.validFrame 2 true).modHost HostC.heardRate)
    s.lswAnswer f.collision c d

/-- A compatibility frame ends on LSW (R285–R290, R299, R300). -/
def State.compat (s : State) (f : CompatFrame) (cmd : Nat) (act : State → Nat × List Byte × State) : State :=
  let h := s.host
  if !h.hearsCompat ∨ f.data.length > 64 then s
  else
    let h := (h.count Reg.LINK_COUNT 31 24 f.glitches).linkErr Reg.LINK_COUNT 23 16 f.ferrs 0
    match h.lswRate f with
    | none => { s with host := h.linkErr Reg.LINK_COUNT2 15 8 1 4 }
    | some c =>
      let s := { s with host := { h with link := { h.link with rx := c } } }
      if f.dir ∨ f.ta ≠ s.host.link.ta then s else s.compatTake f cmd act

/-- The host complex as a command without a session sees it (R330). -/
def HostC.sessionless (h : HostC) : HostC := { h with sec := { h.sec with open0 := none } }

/-- The address of a compatibility command: 3 bytes, little-endian. -/
def compatAddr (d : List Byte) : BitVec 24 := BitVec.ofNat 24 (leNat (d.take 3))

/-- Words of 4 bytes, little-endian. -/
def wordsOf : Nat → List Byte → List Word
  | 0, _ => []
  | n + 1, d => BitVec.ofNat 32 (leNat (d.take 4)) :: wordsOf n (d.drop 4)

/-- A compatibility WRITE: STATUS 0, or 2 where the native write would be refused. -/
def State.compatWrite (d : List Byte) (s : State) : Nat × List Byte × State :=
  let n := (d.length - 3) / 4
  let a := compatAddr d
  if d.length < 7 ∨ (d.length - 3) % 4 ≠ 0 ∨ n > 15 ∨ a.toNat % 4 ≠ 0 ∨ (s.host.sessionless.burstRight a n).1 ≠ 0 ∨
      !burstOk a n then (0x1F, [2], s)
  else
    let w := burstRun false a 0 (wordsOf n (d.drop 3)) ⟨0, 0, 0, s⟩
    (0x1F, [if w.why = 0 then 0 else 2], w.s)

/-- A compatibility READ: the words, or STATUS 2 where the native read would be refused. -/
def State.compatRead (d : List Byte) (s : State) : Nat × List Byte × State :=
  let n := ((d.drop 3).headD 0).toNat
  let a := compatAddr d
  if d.length ≠ 4 ∨ n = 0 ∨ n > 15 ∨ a.toNat % 4 ≠ 0 ∨ (s.host.sessionless.readRight (readsPgId a n)).1 ≠ 0 ∨ !burstOk a n then
    (0x1F, [2], s)
  else
    let (_, _, ws, s) := readRun a 0 n (0, 255, [], s)
    (0x02, ws.flatMap (fun w => natLe w.toNat 4), s)

/-! Order of execution (R312). -/

/-- A command of the protocol engine; other commands are none of its. -/
def protoRun (i : Instr) (s : State) : State :=
  match i with
  | .ping c => s.ping c
  | .ident c => s.ident c
  | .regWrite c addr ws => s.regWriteCmd c addr ws
  | .regRead c addr count => s.regReadCmd c addr count
  | .voice c op zmask cls arg0 arg1 a => s.voiceCmd c op zmask cls arg0 arg1 a
  | .eventPost c zmask e a => s.eventPost c zmask e a
  | .bulkWr c off d => s.bulkWr c off d
  | .bulkRd c off count => s.bulkRd c off count
  | .msgack c src m => s.msgackCmd c src m
  | .hello c qh nh => s.helloCmd c qh nh
  | .auth c hcert sigh => s.authCmd c hcert sigh
  | .close c sid mac => s.closeCmd c sid mac
  | .resumeSession c sid mac => s.resumeCmd c sid mac
  | .status c => s.statusCmd c
  | .getcert c off count => s.getcertCmd c off count
  | .write f => s.compat f 1 (State.compatWrite f.data)
  | .read f => s.compat f 2 (State.compatRead f.data)
  | .pingCompat f => s.compat f 3 (fun (s : State) => (0x1F, [0], s))
  | _ => s

/-- A command that needs an ECC operation of Avhar (R320): a handshake step, or a P0 command with an inline token. -/
def needsEcc (i : Instr) : Bool :=
  match i with
  | .hello _ _ _ | .auth _ _ _ => true
  | .voice _ op _ cls _ _ (.inline _) => op.toNat == 0 && cls.toNat == 0
  | .eventPost _ _ e (.inline _) => entryP0 e
  | _ => false

/-- A command may execute now (R312): no VOICE command waits for its zones, the host complex runs (R392), and Avhar's engine is
in its temperature range where the command needs it (Table 16-9). -/
def State.mayRun (s : State) (i : Instr) : Bool :=
  s.host.proto.vwait.isNone && s.host.pwr.pstate != 2 && !(s.host.sec.hot && needsEcc i)

/-- Commands that have waited execute in order of arrival, until one of them has to wait on. -/
def State.drain : Nat → State → State
  | 0, s => s
  | n + 1, s =>
    match s.host.proto.wait with
    | [] => s
    | i :: t => if s.mayRun i then State.drain n (protoRun i (s.modHost (fun h => { h with proto := { h.proto with wait := t } }))) else s

/-- The protocol engine goes on as far as it can. -/
def State.flush (s : State) : State := State.drain s.host.proto.wait.length s.voiceDone

/-- Commands execute strictly in order of arrival: one whose turn it is executes, and one that comes behind a command that waits
waits with it (R312). -/
def State.inOrder (s : State) (i : Instr) : State :=
  let s := s.flush
  if s.host.proto.wait.isEmpty && s.mayRun i then protoRun i s
  else s.modHost (fun h => { h with proto := { h.proto with wait := h.proto.wait ++ [i] } })

/-- A compatibility command ends on LSW; in sleep only one whose BREAK woke the link is received (R301), and it executes when the
host complex runs (R392). -/
def State.compatIn (s : State) (i : Instr) : State :=
  if s.host.pwr.pstate = 2 ∧ !s.host.link.rxBusy then s
  else (s.modHost (fun h => { h with link := { h.link with rxBusy := h.link.rxBusy && h.pwr.pstate != 2 } })).inOrder i

end Sys2Proof.Machine
end

