-- ==== Sys2Proof/Machine/PowerOps.lean ====
section
/-! DEFINITION. Device reset and start-up, the boot record, life-cycle changes at reset, sleep and wake (R327, R338–R340,
R381–R392). -/

namespace Sys2Proof.Machine

/-! Boot record (R386, R387). -/

/-- What has become of the boot record: 0 running, 1 OK, 3 STOPPED; BTO, reason and index. -/
structure BootRun where
  stat   : Nat
  bto    : Bool
  reason : Nat
  idx    : Nat
  /-- µs run, as far as DELAY and WAIT give them. -/
  time   : Nat
  s      : State

/-- Pages that a boot record may not write, and PG_LOCK of every page. -/
def bootBars (a : Nat) : Bool :=
  a % 0x400 == 0x018 || (match placeOf a with
    | .host => [0x2000, 0x2400, 0x2800, 0x1800, 0x1000].contains (pageOf a)
    | _ => false)

/-- One entry of the boot record. That a WAIT which does not hold at once comes to hold in time is a free condition, and so is the
time it takes within its limit (assumption 16). -/
def bootStep (r : BootRun) (e : Nat) : BootRun :=
  if r.stat ≠ 0 then r
  else
    let at0 := 0x11000 + 16 + 12 * e
    let n := fun o => leNat (byRead r.s.host.nvm.mem (at0 + o) 4)
    let w := BitVec.ofNat 32 (n 0)
    let a := w.toNat % 2 ^ 24 / 4 * 4
    let v := BitVec.ofNat 32 (n 4)
    let stop := fun (bto : Bool) (why : Nat) (t : Nat) (s : State) => (⟨3, bto, why, e, t, s⟩ : BootRun)
    match w.toNat % 4 with
    | 0 =>
      if bootBars a then stop false 0x06 r.time r.s
      else
        let x := r.s.regWrite false 0 a v
        if x.why = 0 then { r with s := x.s } else stop false x.why r.time x.s
    | 1 =>
      let x := r.s.regRead a
      if x.data &&& BitVec.ofNat 32 (n 8) = v then { r with s := x.s }
      else
        let (ok, h) := x.s.host.freeCond 9
        let lim := Nat.max 1 (fld w 31 24) * 10000
        let (u, h) := h.freeWord 19
        let t := r.time + (if ok then u.toNat % (lim + 1) else lim)
        let s := { x.s with host := h }
        if ok ∧ t ≤ 10000000 then { r with time := t, s := s } else stop true 0 t s
    | 2 =>
      let t := r.time + clampN 1 1000000 v.toNat
      if t > 10000000 then stop true 0 t r.s else { r with time := t }
    | _ => { r with stat := 1 }

/-- The record passes its checks: MAGIC, VERSION, NE and CRC. -/
def HostC.bootOk (h : HostC) : Bool :=
  let rd := fun o n => byRead h.nvm.mem (0x11000 + o) n
  let ne := leNat (rd 8 4)
  rd 0 4 == [0x42, 0x4F, 0x4F, 0x54] && leNat (rd 4 2) == 0x0100 && decide (1 ≤ ne) && decide (ne ≤ 5000) &&
    leNat (rd 12 4) == crcOf crc32 (rd 0 12 ++ rd 16 (12 * ne))

/-- The boot record is checked and applied, in OWNER and FIELD only. -/
def State.boot (s : State) : State :=
  if !s.host.sessionState then s
  else if !s.host.bootOk then s.modHost (fun h => h.setReg Reg.DEV_BOOT 0x80000000)
  else
    let ne := leNat (byRead s.host.nvm.mem (0x11000 + 8) 4)
    let r := (List.range ne).foldl bootStep ⟨0, false, 0, 0, 0, s⟩
    let st := if r.stat = 0 then 1 else r.stat
    r.s.modHost (fun h => h.setReg Reg.DEV_BOOT
      (BitVec.ofNat 32 (st * 2 ^ 30 + b2n r.bto * 2 ^ 29 + (if st = 3 then r.reason * 2 ^ 16 + r.idx else 0))))

/-! Device reset (R381, R385, R388). -/

/-- Codes of RCAUSE (Table 19-10). -/
def rcauseOf : ResetCause → Nat
  | .por => 0 | .resetn => 1 | .vcore => 2 | .vaux => 3 | .vio => 4

/-- The host complex as a device reset leaves it once XIN and its PLLs run: MRAM, fuses, flash and pins stay (R388). TGK stays with
the session record (Table 16-2); whether X32 runs at the check of the reset is a free condition (R383; assumption 16). -/
def HostC.afterReset (h : HostC) (cause : ResetCause) (ta : BitVec 2) : HostC :=
  let z := HostC.reset
  let y := h.freeCond 18
  { z with
    regs := smSet hostRst (smSet hostRst [] Reg.LCS_TCFG (h.reg Reg.LCS_TCFG)) Reg.SEC_CFG 6
    cont := { z.cont with flash := h.cont.flash }
    cek := h.cek
    link := { z.link with ta := ta }
    sec := { z.sec with
      stored := match h.sec.open0 with | some x => some x | none => h.sec.stored
      tgk := h.sec.tgk, owk := h.sec.owk, opk := h.sec.opk, stok := h.sec.stok, floor := h.sec.floor, cfloor := h.sec.cfloor
      dik := h.sec.dik, cert := h.sec.cert, hot := h.sec.hot }
    lcs := { z.lcs with st := h.lcs.st, zeroPend := h.lcs.zeroPend, rmaCount := h.lcs.rmaCount, tamper := h.lcs.tamper }
    nvm := { z.nvm with mem := h.nvm.mem, flog := h.nvm.flog }
    pwr := { z.pwr with rcause := rcauseOf cause, testen := h.pwr.testen, xin := true, hpll := true, cpll := true, x32 := y.1 }
    base := h.base
    draws := y.2.draws }

/-- A pending life-cycle change takes effect (R339, R340): LOCK, UNLOCK and the return at a release of RESETN. -/
def HostC.lcsAtReset (h : HostC) (pend : Option Nat) : HostC :=
  match pend with
  | none => h
  | some p =>
    let h := { h with sec := { h.sec with stored := none, tgk := [] }, lcs := { h.lcs with st := p } }
    if p = 4 then { h.zeroize with pwr := { h.pwr with zeroed := true } } else h

/-- The stored session record as SEC.CFG.RESUME keeps it (R327): the bit as it stood before the reset. -/
def HostC.keepStored (h : HostC) (resume : Bool) : HostC :=
  if resume then h else { h with sec := { h.sec with stored := none, tgk := [] } }

/-- A zone as a device reset leaves it: its pins and VANAn stay as the board drives them, and the draws made are not made
again. -/
def Zone.afterReset (z : Zone) : Zone :=
  let r := Zone.reset z.id
  { r with
    pwr := { r.pwr with vanaGood := z.pwr.vanaGood }
    pos := { r.pos with lvlA := z.pos.lvlA, lvlB := z.pos.lvlB }
    out := { r.out with ampPin := z.out.ampPin, clr := z.out.clr }
    draws := z.draws }

/-- DEVICE_RESET up to the boot record (Table 19-3 steps 1–4). A life-cycle change that takes effect ends the session that was open
(R328). -/
def State.deviceReset (s : State) (cause : ResetCause) (ta : BitVec 2) : State :=
  let old := s.host
  let h := (old.afterReset cause ta).keepStored (bit (old.reg Reg.SEC_CFG) 1)
  let h := h.lcsAtReset old.lcs.pend
  let h := if old.lcs.zeroPend then { h.zeroize with
      pwr := { h.pwr with zeroed := true }, lcs := { h.lcs with zeroPend := false } } else h
  let (c, h) := h.random 16
  let t := { s with zones := s.zones.map Zone.afterReset, host := { h with lcs := { h.lcs with chal := c } } }
  let t := match old.lcs.pend, old.sec.open0 with
    | some _, some x => t.secMsg 0x0091 (natLe x.sid.toNat 4 ++ [3])
    | _, _ => t
  let t := match old.lcs.pend with | some p => t.lcsChange old.lcs.st p 0 | none => t
  t.boot

/-- READY: start-up step 5 (R385). A device in DEAD does not reach it. -/
def State.ready (s : State) : State :=
  if s.host.pwr.booted ∨ s.host.lcs.st = 5 then s
  else (s.modHost (fun h => { h with pwr := { h.pwr with booted := true, xin := true, hpll := true, cpll := true } })).hsend clsReport 0x0080 (natLe s.host.lcs.st 1)

/-- The check of X32 against XIN (R383). -/
def State.x32Check (s : State) (running : Bool) : State :=
  s.modHost (fun h =>
    let h := if h.pwr.x32 && !running then h.count Reg.CLK_COUNT 31 16 1 else h
    { h with pwr := { h.pwr with x32 := running } })

/-! Sleep and wake (R389–R392). -/

/-- SLEPT: every zone that is not OFF has stopped, and the host complex stops its clocks. -/
def State.slept (s : State) : State :=
  if s.host.pwr.pstate = 2 ∨ !bit (s.host.reg Reg.DEV_SLEEP) 31 ∨
      s.zones.toList.any (fun (z : Zone) => z.ctl.st != .off && !z.pwr.asleep) then s
  else s.modHost (fun h =>
    let h := (h.putBit Reg.DEV_SLEEP 31 false).putFld Reg.DEV_SLEEP 26 24 1
    { h with pwr := { h.pwr with pstate := 2, xin := false, hpll := false, cpll := false, linkOsc := true }
             link := { h.link with slow := true } })

/-- A wake source is enabled (R391). -/
def HostC.wakes (h : HostC) (c : WakeCause) : Bool :=
  match c with
  | .link => true
  | .timer _ => bit (h.reg Reg.DEV_SLEEP) 1
  | .move _ => bit (h.reg Reg.DEV_SLEEP) 2

/-- DEV.WAKE of a cause (Table 19-10). -/
def HostC.wakeMark (h : HostC) (c : WakeCause) : HostC :=
  match c with
  | .link => h.putBit Reg.DEV_WAKE 0 true
  | .timer z => (h.putBit Reg.DEV_WAKE 1 true).putFld Reg.DEV_WAKE 10 8 z.val
  | .move z => (h.putBit Reg.DEV_WAKE 2 true).putFld Reg.DEV_WAKE 10 8 z.val

/-- WAKE (R391, R392): while the entry runs it is abandoned; a sleeping device starts its clocks, every zone not in OFF locks its
PLL again, and the frame that woke the device executes. -/
def State.wake (s : State) (c : WakeCause) : State :=
  if !s.host.wakes c then s
  else if s.host.pwr.pstate = 1 then s.abandonSleep 2
  else if s.host.pwr.pstate ≠ 2 then s
  else State.flush { s with
    zones := s.zones.map Zone.wakeNow
    host :=
      let h := (s.host.count Reg.CLK_COUNT 15 0 1).wakeMark c
      { h with pwr := { h.pwr with pstate := 0, xin := true, hpll := true, cpll := true, linkOsc := false }
               link := { h.link with
                 slow := false, rx := if bit (h.reg Reg.LINK_CFG) 29 then h.link.rx else rcodeOf (h.reg Reg.LINK_CFG) } } }

/-! What the host complex does at a tick boundary (R22, R319): it counts by the ticks of the lowest-numbered zone that is not
in OFF (assumption 8). -/

/-- Ticks since the last sending of the records that wait for MSGACK. -/
def ageRecs (q : List Rec) : List Rec := q.map (fun (r : Rec) => { r with sent := r.sent.map (fun k => satAdd 65535 k 1) })

/-- A handshake after another tick: it is discarded once more than 100 have passed (R324). -/
def Shake.tick (k : Shake) : Option Shake := if k.age ≥ 100 then none else some { k with age := k.age + 1 }

/-- A tick of the host complex; the link-silence count is frozen in sleep (R390). -/
def State.hostTicks (s : State) (i : ZoneId) : State :=
  if s.tickZone ≠ some i ∨ s.host.pwr.pstate = 2 then s
  else { s with
    zones := s.zones.map (fun (z : Zone) => { z with msgs := { z.msgs with q := ageRecs z.msgs.q } })
    host := { s.host with
      link := { s.host.link with silence := satAdd (2 ^ 32 - 1) s.host.link.silence 1 }
      sec := { s.host.sec with ckAge := satAdd 251 s.host.sec.ckAge 1, shake := s.host.sec.shake.bind Shake.tick }
      proto := { s.host.proto with msgs := { s.host.proto.msgs with q := ageRecs s.host.proto.msgs.q } } } }

end Sys2Proof.Machine
end

