-- ==== Sys2Proof/Machine/FrameOps.lean ====
section
/-! DEFINITION. Frame and tick boundaries: what a zone does at each of them and in what order (R52, R61, R84, R85, R150, R205),
the ZSLOW edge (R49, R50) and the SYNC load edge (R37). -/

namespace Sys2Proof.Machine

/-! The start of a frame (R61 steps 1 and 2). -/

/-- The ends of the timer periods that have run out (R44). -/
def Zone.timers (z : Zone) : Zone :=
  (List.finRange 4).foldl (fun (z : Zone) n => if z.tmrDue n then z.tmrEnd n else z) z

/-- The ends of frame timers' periods at a ZSLOW edge, which brings up to 3 frames and so up to 3 ends of a period of 1
(R49). -/
def Zone.slowTimers (z : Zone) : Zone := z.timers.timers.timers

/-- A frame's route pass is to come. -/
def Zone.frameNew (z : Zone) : Zone := { z with route := { z.route with passed := false } }

/-- R61 step 1: the codes of the frame that ends; counters, timers and track position. -/
def Zone.frameBegin (z : Zone) : Zone :=
  ((((((z.decFeed).frameNew).advance).timers).hcmdApply).standstill).staleSet

/-- The heartbeat that reaches the zone at a tick boundary (R23; assumption 75). -/
def Zone.heartbeat (z : Zone) : Zone :=
  let z := z.hclossSet false
  { z with ctl := { z.ctl with hbMiss := 0 } }

/-- The fence causes that are due at a tick boundary beside the verdict's: holdover limit and watchdog, whose expired period
restarts (R32, R411). -/
def Zone.tickCauses (z : Zone) : Nat × Zone :=
  let c := (if z.limitDue then 1 else 0) + (if z.wdDue then 8 else 0)
  (c, if z.wdDue then z.wdStart else z)

/-- Zone-local conditions judged at a tick boundary: heartbeat, trap bucket, line verdict, holdover limit, watchdog and link
silence (R22, R23, R32, R411, R13). All the fence causes of the boundary are taken together (R15), before the orphan
condition, as a fence wins (R8). The trap bucket and the watchdog are frozen in sleep, and no heartbeat comes (R390). -/
def Zone.judgeTick (z : Zone) (h : HostC) : Zone :=
  if z.pwr.asleep then z
  else
    let z := (z.heartbeat).leakCheck
    let (v, z) := z.intervalDone
    let (c, z) := z.tickCauses
    (z.raiseTick (v + c)).orphanSet h.link.silence

/-- The deadline rates of the sounding voices at a tick boundary (R65, R66). -/
def Zone.deadlines (z : Zone) (h : HostC) : Zone :=
  if !z.live then z
  else iter 96 (fun k z =>
    let v := fin 96 k
    let l := z.voices[v].life
    if l = .free ∨ l = .wait ∨ z.voices[v].ended then z else z.deadline h v false) z

/-- R61 step 2: the tick-boundary work of a zone whose counters run from the PLL (R52, Table 3-1). The fallback tone's count
comes before the fence causes, as the tone of a fence starts at the next boundary (R16); the HOLD timer's before the orphan
condition, as a timer that starts at this boundary has its first tick before it (R255). -/
def Zone.tickWork (z : Zone) (h : HostC) : Zone :=
  let z := (((z.holdTick).fallbackTick).judgeTick h).memTick
  let z := ((z.copiesDone).swapsDue h).dspTick
  let z := (((List.finRange 4).foldl Zone.decTick z).bandTick).bandsMsg
  let z := ((((((z.pilotTick).spanTick).intervalNext).clrTick).stoneTick).tdmTick).rateTick
  let z := if z.live then z.duckUpdate else z
  ((((((z.deadlines h).govTick).wakeTick).stateTick).sleepTick).ampOnTick)

/-! The bookkeeping window (R84, R150). -/

/-- Cycles that the completion of a voice takes (Table 7-5), none if nothing is due for it. -/
def Zone.completeCost (z : Zone) (h : HostC) (v : Fin 96) : Nat :=
  let vo := z.voices[v]
  if vo.ended then
    (match (if vo.life = .fading then vo.succ else none) with
     | some st => 2 + z.copyCost h st.item
     | none => 2)
  else if vo.life = .wait then z.copyCost h vo.st.item
  else 0

/-- The completions of a window, voice by voice (R150). -/
def Window.completions (w : Window) (h : HostC) : Window :=
  iter 96 (fun k (w : Window) =>
    let v := fin 96 k
    w.item (w.z.completeCost h v) (fun z => z.completeVoice h v)) w

/-- The pending gain requests of host software take effect, in arrival order (R185). -/
def Zone.hostGains (z : Zone) : Zone :=
  z.route.reqH.foldl (fun (z : Zone) r => z.gainReq r.1 r.2) { z with route := { z.route with reqH := [] } }

/-- A request of the zone program (R139, R150, R185, R209). A start of class 6 or 7, which no class has, is discarded
(assumption 25). -/
def Zone.dspRequest (z : Zone) (h : HostC) (r : DspReq) : Zone :=
  match r.act with
  | 0 => if r.cls ≤ 5 then (z.vstart h 2 r.cls r.a r.b none false).2 else z
  | 1 => z.vrel .dsp r.b
  | 2 => z.vctl .dsp r.a r.b
  | 3 => z.vkill .dsp r.b
  | 4 => z.actGain r.a r.b
  | _ => z.send clsEvent 0x0033 (natLe r.a.toNat 4)

/-- The cycles of a request (Table 7-5). -/
def Zone.requestCost (z : Zone) (h : HostC) (r : DspReq) : Nat :=
  match r.act with
  | 0 => if r.cls ≤ 5 then z.startCost h r.cls r.a else 0
  | 1 | 2 | 3 => z.addrCost r.b
  | _ => 0

/-- The requests of the zone program, in the order issued; those that do not fit wait (R84). -/
def Window.requests (h : HostC) : List DspReq → Window → Window
  | [], w => { w with z := { w.z with dsp := { w.z.dsp with late := [] } } }
  | r :: t, w =>
    let w' := w.item (w.z.requestCost h r) (fun z => z.dspRequest h r)
    if w'.cut then { w' with z := { w'.z with dsp := { w'.z.dsp with late := r :: t } } }
    else Window.requests h t w'

/-- The reservations in force in a window (R144). -/
def Zone.takeRes (z : Zone) : Zone :=
  let lo := z.reg Reg.VCTL_RES_LO
  let hi := z.reg Reg.VCTL_RES_HI
  { z with vox := { z.vox with res := Vector.ofFn (fun (i : Fin 6) =>
      if i.val < 4 then fld lo (8 * i.val + 7) (8 * i.val) else fld hi (8 * (i.val - 4) + 7) (8 * (i.val - 4))) } }

/-- BOOK_LATE of a frame whose bookkeeping ran past its window (R84, R138). -/
def Zone.bookLate (z : Zone) : Zone := (z.count Reg.VCTL_COUNT 31 16 1).setFlt 0x1C00 3

/-- A voice command of host software in its window: reason and DETAIL of its outcome (R142, R148, R308, R331). -/
def Zone.hostVoice (z : Zone) (h : HostC) (c : HostV) : (Nat × Nat) × Zone :=
  let pr : P0Right := if c.full then .full else .host
  match c.op with
  | 0 => match z.vstart h 1 c.cls c.arg0 c.arg1 none false with
    | (.failed r, z) => ((0x0D, r), z)
    | (_, z) => ((0, 0), z)
  | 1 => ((0, 0), z.vrel pr c.arg1)
  | 2 => ((0, 0), z.vkill pr c.arg1)
  | _ => ((0, 0), z.vctl pr c.arg0 c.arg1)

/-- The cycles of a voice command of host software (Table 7-5). -/
def Zone.hostCost (z : Zone) (h : HostC) (c : HostV) : Nat :=
  if c.op = 0 then z.startCost h c.cls c.arg0 else z.addrCost c.arg1

/-- A voice command of host software leaves the queue, executed; its outcome stands for the host complex where it is asked for
(R308). -/
def Zone.hostTake (z : Zone) (h : HostC) (c : HostV) : Zone :=
  let r := { z with vox := { z.vox with hostq := z.vox.hostq.tail } }.hostVoice h c
  if c.asked then { r.2 with vox := { r.2.vox with ans := some r.1 } } else r.2

/-- Voice commands of host software, in order of arrival (R150). -/
def Window.hostCmds (h : HostC) : List HostV → Window → Window
  | [], w => w
  | c :: t, w => Window.hostCmds h t (w.item (w.z.hostCost h c) (fun z => z.hostTake h c))

/-- The requests of a bookkeeping window, with what is left of it: due entries, voice commands and gain requests of host
software, the requests of the zone program (R61 steps 3 to 5, R84, R150). -/
def Window.work (w : Window) (h : HostC) : Zone :=
  let w := w.completions h
  let w := { w with z := w.z.markDue }
  let w := if w.z.live then w.entries h else w
  let w := if w.z.live then Window.hostCmds h w.z.vox.hostq w else w
  let w := { w with z := w.z.hostGains }
  let l := w.z.dsp.late ++ w.z.dsp.reqs
  let w := { w with z := { w.z with dsp := { w.z.dsp with reqs := [] } } }
  let w := if w.z.live then Window.requests h l w else { w with z := { w.z with dsp := { w.z.dsp with late := [] } } }
  let z := { w.z with vox := { w.z.vox with winLeft := if w.cut then 0 else w.left } }
  if w.cut then z.bookLate else z

/-- The bookkeeping window of a frame (R84, R150): 768 cycles, of which a tick boundary's control work takes 8 (Table 7-5). -/
def Zone.window (z : Zone) (h : HostC) : Zone :=
  let z := { z with vox := { z.vox with winN := 0 } }.takeRes
  Window.work { left := 768 - (if z.atTick && z.live then 8 else 0), cut := false, z := z } h

/-- What is left of the window of a frame that a load has made another frame (R37): the entries that fall due with it execute,
at most 16 in the frame with those before it (R61). -/
def Zone.windowOn (z : Zone) (h : HostC) : Zone := Window.work { left := z.vox.winLeft, cut := false, z := z } h

/-! The engines of a frame. -/

/-- Fence cause ECC for an uncorrectable word in a range that an engine reads (R13, Table 17-1). -/
def Zone.eccFence (z : Zone) (c lo n : Nat) : Zone :=
  let (b, z) := z.eccScan c lo n
  if b then z.raise 0x02 else z

/-- The words of voice state and batten memory that the render of the voices reads (assumption 27). -/
def Zone.voiceEcc (z : Zone) : Zone :=
  iter 96 (fun k (z : Zone) =>
    let l := z.voices[fin 96 k].life
    if l = .free ∨ l = .wait then z
    else (z.eccFence memVoice (64 * k) 64).eccFence memBatten (z.battWord 0 3072 false (32 * k)) 32) z

/-- The route image that a pass reads. -/
def Zone.routeEcc (z : Zone) : Zone := z.eccFence memRoute (z.battWord 1 576 false 0) 576

/-- The route pass, then NAL and Ridge on MB of the pass before (R172, R176, R189). -/
def Zone.routeFrame (z : Zone) : Zone :=
  let mb := z.route.mbCap
  let z := if z.ctl.st.sounds then z.routeEcc else z
  let z := ((z.routePass).gramps).spliceEnd
  let cap := z.route.mbCap
  let z := ({ z with route := { z.route with mbCap := mb } }).limFrame
  { z with route := { z.route with mbCap := cap } }

/-- The voices of a frame (R85). -/
def Zone.voiceFrame (z : Zone) (h : HostC) : Zone :=
  if !z.live then z
  else
    let z := z.voiceEcc
    if z.live then z.renderAll h else z

/-- R61 steps 3 to 5 and the engines of a frame. -/
def Zone.frameBody (z : Zone) (h : HostC) (inp : FrameIn) : Zone :=
  let z := ((inp.upsets.foldl Zone.upset z).switchAct).clrAct
  if !z.enginesOn then z.window h
  else
    let z := (z.dspLatch).measStart
    let z := (z.window h).dspFrame h
    let z := ((z.tdmStart).routeFrame).testFrame
    let z := (z.voiceFrame h).lineFrame
    let z := ((z.outFrame inp).tdmEnd inp.tdm).measEnd inp
    if z.live then z.prefetch h else z

/-! Boundaries on the device. -/

/-- R61 steps 1 and 2 of a zone and its amplifier's retry times (R252), with what the host complex counts at its tick. -/
def State.frameStart (s : State) (i : ZoneId) : State :=
  let s := s.onZone i (fun z _ => ((z.frameBegin).ampSeqRun 1).cmRamp 256)
  if s.zones[i].atTick then (s.hostTicks i).onZone i Zone.tickWork else s

/-- Whether TICK_BOUNDARY has begun the next frame. -/
def State.setBegan (s : State) (i : ZoneId) (b : Bool) : State :=
  { s with zones := vmod s.zones i (fun (z : Zone) => { z with time := { z.time with began := b } }) }

/-- FRAME_BOUNDARY (R61): a zone whose counters run from ZSLOW has none (R49). -/
def State.frameBoundary (s : State) (i : ZoneId) (inp : FrameIn) : State :=
  if s.zones[i].time.est then s
  else
    let s := if s.zones[i].time.began then s.setBegan i false else s.frameStart i
    s.onZone i (fun z h => z.frameBody h inp)

/-- TICK_BOUNDARY (R52): steps 1 and 2 of the next frame, if it is a tick boundary. The FRAME_BOUNDARY that follows does the
rest. -/
def State.tickBoundary (s : State) (i : ZoneId) : State :=
  let z := s.zones[i]
  if z.time.est ∨ z.time.began ∨ (z.time.frame + 1).toNat % 96 ≠ 0 then s
  else (s.frameStart i).setBegan i true

/-- The tick work of a zone whose counters run from ZSLOW (R49, R62): swaps and modes wait, the amplifier's retry and the
output's sequences go on (assumption 28), and FREF_RATE takes effect, as a lock needs it (R30). -/
def Zone.slowTickWork (z : Zone) (h : HostC) : Zone := ((((((((z.judgeTick h).spanTick).switchAct).intervalNext).clrSlowTick).ampSeqRun 96).rateTick).sleepTick).ampOnTick

/-- ZSLOW_EDGE (R49, R50). -/
def State.zslowEdge (s : State) (i : ZoneId) (a b : Bool) : State :=
  if !s.zones[i].time.est then s
  else
    let s := s.onZone i (fun z _ => ((((((z.decFeed).slowEdge a b).slowTimers).hcmdApply).standstill).staleSet).cmRamp 750)
    if s.zones[i].atTick then (s.hostTicks i).onZone i Zone.slowTickWork else s

/-- The times kept by frame number, moved with FRAME by a load: an interval between edges is a time, not a difference of
frame numbers (R37, R42). -/
def ZPos.shift (p : ZPos) (d : BitVec 48) : ZPos :=
  { p with last := p.last.map (fun (f, s) => (f + d, s)), since := p.since + d }

/-- A LOAD at a load edge (R37): FRAME takes E; the frame is a tick boundary. EPOCH_DIFF is taken modulo 2^48 (assumption 78). -/
def Zone.loadFrame (z : Zone) (h : HostC) : Zone :=
  let d := fdist z.time.frame z.epochE
  let was := z.atTick
  let inst := z.time.frame.toNat % 4 == 0
  let z := { z with
    time := { z.time with frame := z.epochE, subf := 0, tk := true }
    pos := z.pos.shift (z.epochE - z.time.frame)
    sched := { z.sched with queue := z.sched.queue.map (Entry.shift (z.epochE - z.time.frame)) }
    aec := { z.aec with last := if inst then some z.epochE else none } }
  let z := if was then z.syncReset else z.syncDue
  let z := (z.putBit Reg.TIME_STAT 1 false).count Reg.TIME_SYNC_CNT 15 0 1
  let z := z.epochDone (satS 32 d) false
  let z := if was then z.swapsDue h
    else (((((z.slowTick).timers).tickWork h).fadesBegun).switchAct).clrAct
  (z.windowOn h).aecInstant

/-- A CHECK at a load edge (R37; assumption 78). -/
def Zone.checkFrame (z : Zone) : Zone :=
  let d := satS 32 (fdist z.time.frame z.epochE)
  let z := z.putBit Reg.TIME_STAT 4 (d != 0)
  let z := if d = 0 then z.putBit Reg.TIME_STAT 1 false else z
  z.epochDone d true

/-- What a load edge does (R37): SYNC is not sampled from ZSLOW (R51); an armed zone that is not locked stays armed. -/
def Zone.loadAct (z : Zone) (h : HostC) : Zone :=
  let c := z.reg Reg.TIME_EPOCH_CTL
  if z.time.est ∨ !z.pllRuns then z
  else if !bit c 0 then z.count Reg.TIME_SYNC_CNT 31 16 1
  else if !z.pll.lock then z
  else if bit c 1 then z.checkFrame else z.loadFrame h

/-- LOAD_EDGE (R37): an FREF edge at which SYNC is low after it was high at the edge before. -/
def Zone.loadEdge (z : Zone) (h : HostC) : Zone :=
  if z.pllRuns && z.time.syncHi then { z with time := { z.time with syncHi := false } }.loadAct h else z

/-- FREF_EDGE (R28–R34, R37, R51): a valid edge at which SYNC has fallen is a load edge. -/
def Zone.frefStep (z : Zone) (h : HostC) (interval : Nat) (e : Int) (sync : Bool) : Zone :=
  let falls := z.pllRuns && frefValid z.pll.rate interval && z.time.syncHi && !sync
  let z := z.frefEdge interval e sync
  if falls then z.loadAct h else z

end Sys2Proof.Machine
end

