-- ==== Sys2Proof/Machine/CmdOps.lean ====
section
/-! DEFINITION. How a command of the table reaches the device: as a register access of host software or of the zone program,
or as something that happens in a zone. -/

namespace Sys2Proof.Machine

/-- What a meaning answers. -/
abbrev Out := Host.Outcome State Fault Refusal

/-- The address of a register of a zone (Table 18-1). -/
def zoneAddr (i : ZoneId) (off : Nat) : Nat := 0x100000 + i.val * 0x10000 + off

/-- A write by host software, with its outcome kept as the result of the access. -/
def State.busWrite (s : State) (a : Nat) (v : Word) : State :=
  let w := s.regWrite s.host.p0ctl 0 a v
  w.s.modHost (fun h => { h with bus := { h.bus with reason := w.why, detail := w.detail } })

/-- A read by host software, with its outcome kept as the result of the access. -/
def State.busRead (s : State) (a : Nat) : State :=
  let r := s.regRead a
  r.s.modHost (fun h => { h with bus := { h.bus with data := r.data, reason := r.why, detail := 0 } })

/-- A write of a zone register by a party: the zone program's stalls it for 6 cycles (R201, R210). -/
def State.partyWrite (s : State) (p : Party) (i : ZoneId) (off : Nat) (v : Word) : State :=
  match p with
  | .host => s.busWrite (zoneAddr i off) v
  | .prog => s.onZone i (fun z h => (z.bridgeWrite h off v).dspHold 6)

/-- A read of a zone register by a party. -/
def State.partyRead (s : State) (p : Party) (i : ZoneId) (off : Nat) : State :=
  match p with
  | .host => s.busRead (zoneAddr i off)
  | .prog => s.onZone i (fun z _ => (z.bridgeRead off).2.dspHold 6)

/-- A write of any register by a party: the zone program reaches no register but its own zone's, and none is named here for
it but through that zone's address (R210, Table 18-1). -/
def State.addrWrite (s : State) (p : Party) (a : Nat) (v : Word) : State :=
  match p, placeOf a with
  | .prog, .zone i off => s.partyWrite .prog i off v
  | .prog, _ => s
  | .host, _ => s.busWrite a v

/-- A read of any register by a party. -/
def State.addrRead (s : State) (p : Party) (a : Nat) : State :=
  match p, placeOf a with
  | .prog, .zone i off => s.partyRead .prog i off
  | .prog, _ => s
  | .host, _ => s.busRead a

/-- A ZCTL.CMD write of an operation, with its key (Table 1-6). -/
def State.zctl (s : State) (i : ZoneId) (op : Nat) : State :=
  s.busWrite (zoneAddr i Reg.ZCTL_CMD) (BitVec.ofNat 32 (0xA500 + op))

/-- Something happens in a zone. -/
def inZone (s : State) (i : ZoneId) (f : Zone → Zone) : Out := .next (s.onZone i (fun z _ => f z))

/-- Something happens in a zone that reads the host complex. -/
def inZoneH (s : State) (i : ZoneId) (f : Zone → HostC → Zone) : Out := .next (s.onZone i f)

end Sys2Proof.Machine
end

