-- ==== Sys2Proof/Machine/DspInstr.lean ====
section
/-! DEFINITION. Commands of the zone DSP: its bundles' slots and its registers and windows (chapter 10). A slot's row issues
a bundle with that slot alone at the present PC, whether the dispatcher runs or not (assumption 30). -/

namespace Sys2Proof.Machine

/-- A bundle with one slot issues in a zone. -/
def slotRow (s : State) (i : ZoneId) (b : Bundle) : Out := inZoneH s i (fun z h => z.issue h b)

/-- OVERRUN (R208): a run that reaches BUDGET. -/
def execOverrun (i : ZoneId) (s : State) : Out := inZone s i Zone.overrun

/-- MAC op 0x0, MNOP (R198, Table 10-3). -/
def execMacMnop (i : ZoneId) (f : MacF) (s : State) : Out := slotRow s i (Bundle.ofMac 0 f)

/-- MAC op 0x1, MPY (R198, Table 10-3). -/
def execMpy (i : ZoneId) (f : MacF) (s : State) : Out := slotRow s i (Bundle.ofMac 1 f)

/-- MAC op 0x2, MAC (R198, Table 10-3). -/
def execMac (i : ZoneId) (f : MacF) (s : State) : Out := slotRow s i (Bundle.ofMac 2 f)

/-- MAC op 0x3, MSU (R198, Table 10-3). -/
def execMsu (i : ZoneId) (f : MacF) (s : State) : Out := slotRow s i (Bundle.ofMac 3 f)

/-- MAC op 0x4, GMPY (R198, Table 10-3). -/
def execGmpy (i : ZoneId) (f : MacF) (s : State) : Out := slotRow s i (Bundle.ofMac 4 f)

/-- MAC op 0x5, GMAC (R198, Table 10-3). -/
def execGmac (i : ZoneId) (f : MacF) (s : State) : Out := slotRow s i (Bundle.ofMac 5 f)

/-- MAC op 0x6, DMPY (R198, Table 10-3). -/
def execDmpy (i : ZoneId) (f : MacF) (s : State) : Out := slotRow s i (Bundle.ofMac 6 f)

/-- MAC op 0x7, DMAC (R198, Table 10-3). -/
def execDmac (i : ZoneId) (f : MacF) (s : State) : Out := slotRow s i (Bundle.ofMac 7 f)

/-- MAC op 0x8, DMAC2 (R198, Table 10-3). -/
def execDmac2 (i : ZoneId) (f : MacF) (s : State) : Out := slotRow s i (Bundle.ofMac 8 f)

/-- MAC op 0x9, WMPY (R198, Table 10-3). -/
def execWmpy (i : ZoneId) (f : MacF) (s : State) : Out := slotRow s i (Bundle.ofMac 9 f)

/-- MAC op 0xA, WMAC (R198, Table 10-3). -/
def execWmac (i : ZoneId) (f : MacF) (s : State) : Out := slotRow s i (Bundle.ofMac 10 f)

/-- MAC op 0xB, WGMAC (R198, Table 10-3). -/
def execWgmac (i : ZoneId) (f : MacF) (s : State) : Out := slotRow s i (Bundle.ofMac 11 f)

/-- MAC op 0xC, ALD (R198, Table 10-3). -/
def execAld (i : ZoneId) (f : MacF) (s : State) : Out := slotRow s i (Bundle.ofMac 12 f)

/-- MAC op 0xD, AADD (R198, Table 10-3). -/
def execAadd (i : ZoneId) (f : MacF) (s : State) : Out := slotRow s i (Bundle.ofMac 13 f)

/-- MAC op 0xE, ASUB (R198, Table 10-3). -/
def execAsub (i : ZoneId) (f : MacF) (s : State) : Out := slotRow s i (Bundle.ofMac 14 f)

/-- MAC op 0xF, ACLR (R198, Table 10-3). -/
def execAclr (i : ZoneId) (f : MacF) (s : State) : Out := slotRow s i (Bundle.ofMac 15 f)

/-- ALU op 0x00, ANOP (R199, Table 10-4). -/
def execAnop (i : ZoneId) (f : AluF) (s : State) : Out := slotRow s i (Bundle.ofAlu 0 f)

/-- ALU op 0x01, MOV (R199, Table 10-4). -/
def execMov (i : ZoneId) (f : AluF) (s : State) : Out := slotRow s i (Bundle.ofAlu 1 f)

/-- ALU op 0x02, ADD (R199, Table 10-4). -/
def execAdd (i : ZoneId) (f : AluF) (s : State) : Out := slotRow s i (Bundle.ofAlu 2 f)

/-- ALU op 0x03, SUB (R199, Table 10-4). -/
def execSub (i : ZoneId) (f : AluF) (s : State) : Out := slotRow s i (Bundle.ofAlu 3 f)

/-- ALU op 0x04, NEG (R199, Table 10-4). -/
def execNeg (i : ZoneId) (f : AluF) (s : State) : Out := slotRow s i (Bundle.ofAlu 4 f)

/-- ALU op 0x05, ABS (R199, Table 10-4). -/
def execAbs (i : ZoneId) (f : AluF) (s : State) : Out := slotRow s i (Bundle.ofAlu 5 f)

/-- ALU op 0x06, MIN (R199, Table 10-4). -/
def execMin (i : ZoneId) (f : AluF) (s : State) : Out := slotRow s i (Bundle.ofAlu 6 f)

/-- ALU op 0x07, MAX (R199, Table 10-4). -/
def execMax (i : ZoneId) (f : AluF) (s : State) : Out := slotRow s i (Bundle.ofAlu 7 f)

/-- ALU op 0x08, AND (R199, Table 10-4). -/
def execAnd (i : ZoneId) (f : AluF) (s : State) : Out := slotRow s i (Bundle.ofAlu 8 f)

/-- ALU op 0x09, OR (R199, Table 10-4). -/
def execOr (i : ZoneId) (f : AluF) (s : State) : Out := slotRow s i (Bundle.ofAlu 9 f)

/-- ALU op 0x0A, XOR (R199, Table 10-4). -/
def execXor (i : ZoneId) (f : AluF) (s : State) : Out := slotRow s i (Bundle.ofAlu 10 f)

/-- ALU op 0x0B, SHRA (R199, Table 10-4). -/
def execShra (i : ZoneId) (f : AluF) (s : State) : Out := slotRow s i (Bundle.ofAlu 11 f)

/-- ALU op 0x0C, SHRA8 (R199, Table 10-4). -/
def execShra8 (i : ZoneId) (f : AluF) (s : State) : Out := slotRow s i (Bundle.ofAlu 12 f)

/-- ALU op 0x0D, SHL (R199, Table 10-4). -/
def execShl (i : ZoneId) (f : AluF) (s : State) : Out := slotRow s i (Bundle.ofAlu 13 f)

/-- ALU op 0x0E, LDI (R199, Table 10-4). -/
def execLdi (i : ZoneId) (f : AluF) (s : State) : Out := slotRow s i (Bundle.ofAlu 14 f)

/-- ALU op 0x0F, LDIS (R199, Table 10-4). -/
def execLdis (i : ZoneId) (f : AluF) (s : State) : Out := slotRow s i (Bundle.ofAlu 15 f)

/-- ALU op 0x10, CMPEQ (R199, Table 10-4). -/
def execCmpeq (i : ZoneId) (f : AluF) (s : State) : Out := slotRow s i (Bundle.ofAlu 16 f)

/-- ALU op 0x11, CMPLT (R199, Table 10-4). -/
def execCmplt (i : ZoneId) (f : AluF) (s : State) : Out := slotRow s i (Bundle.ofAlu 17 f)

/-- ALU op 0x12, CMPLE (R199, Table 10-4). -/
def execCmple (i : ZoneId) (f : AluF) (s : State) : Out := slotRow s i (Bundle.ofAlu 18 f)

/-- ALU op 0x13, RDACC (R199, Table 10-4). -/
def execRdacc (i : ZoneId) (f : AluF) (s : State) : Out := slotRow s i (Bundle.ofAlu 19 f)

/-- ALU op 0x14, STS (R199, Table 10-4). -/
def execSts (i : ZoneId) (f : AluF) (s : State) : Out := slotRow s i (Bundle.ofAlu 20 f)

/-- ALU op 0x15, STG (R199, Table 10-4). -/
def execStg (i : ZoneId) (f : AluF) (s : State) : Out := slotRow s i (Bundle.ofAlu 21 f)

/-- ALU op 0x16, FCLR (R199, Table 10-4). -/
def execFclr (i : ZoneId) (f : AluF) (s : State) : Out := slotRow s i (Bundle.ofAlu 22 f)

/-- ALU op 0x17, HMOV (R199, Table 10-4). -/
def execHmov (i : ZoneId) (f : AluF) (s : State) : Out := slotRow s i (Bundle.ofAlu 23 f)

/-- ALU op 0x18, BR (R199, Table 10-4). -/
def execBr (i : ZoneId) (f : AluF) (s : State) : Out := slotRow s i (Bundle.ofAlu 24 f)

/-- ALU op 0x19, LOOP (R199, Table 10-4). -/
def execLoop (i : ZoneId) (f : AluF) (s : State) : Out := slotRow s i (Bundle.ofAlu 25 f)

/-- ALU op 0x1A, END (R199, Table 10-4). -/
def execEndRoutine (i : ZoneId) (f : AluF) (s : State) : Out := slotRow s i (Bundle.ofAlu 26 f)

/-- MEM op 0, MNOP (R200, Table 10-5). -/
def execMemMnop (i : ZoneId) (f : MemF) (s : State) : Out := slotRow s i (Bundle.ofMem 0 f)

/-- MEM op 1, LDW (R200, Table 10-5). -/
def execLdw (i : ZoneId) (f : MemF) (s : State) : Out := slotRow s i (Bundle.ofMem 1 f)

/-- MEM op 2, STW (R200, Table 10-5). -/
def execStw (i : ZoneId) (f : MemF) (s : State) : Out := slotRow s i (Bundle.ofMem 2 f)

/-- MEM op 3, LDE (R200, Table 10-5). -/
def execLde (i : ZoneId) (f : MemF) (s : State) : Out := slotRow s i (Bundle.ofMem 3 f)

/-- MEM op 4, STE (R200, Table 10-5). -/
def execSte (i : ZoneId) (f : MemF) (s : State) : Out := slotRow s i (Bundle.ofMem 4 f)

/-- MEM op 5, TAP (R200, Table 10-5). -/
def execTap (i : ZoneId) (f : MemF) (s : State) : Out := slotRow s i (Bundle.ofMem 5 f)

/-- IO_READ (R200, R210): MEM op 6 with n[0] = 0. -/
def execIoRead (i : ZoneId) (f : IoF) (s : State) : Out := slotRow s i (Bundle.ofIo false f)

/-- IO_WRITE (R200, R210): MEM op 6 with n[0] = 1. -/
def execIoWrite (i : ZoneId) (f : IoF) (s : State) : Out := slotRow s i (Bundle.ofIo true f)

/-- MEM op 7, PTS (R200, R212). -/
def execPts (i : ZoneId) (f : MemF) (s : State) : Out := slotRow s i (Bundle.ofMem 7 f)

/-- DSP_RUN (R218): a write of DSP.CTL. -/
def execDspRun (i : ZoneId) (v : Word) (s : State) : Out := .next (s.busWrite (zoneAddr i Reg.DSP_CTL) v)

/-- DWIN_DATA_WRITE (R219). -/
def execDwinDataWrite (i : ZoneId) (p : Party) (v : Word) (s : State) : Out := .next (s.partyWrite p i Reg.DWIN_DATA v)

/-- DWIN_DATA_READ (R219). -/
def execDwinDataRead (i : ZoneId) (p : Party) (s : State) : Out := .next (s.partyRead p i Reg.DWIN_DATA)

/-- RWIN_DATA_WRITE (R137, R173). -/
def execRwinDataWrite (i : ZoneId) (p : Party) (v : Word) (s : State) : Out := .next (s.partyWrite p i Reg.RWIN_DATA v)

/-- RWIN_DATA_READ (R137, R173). -/
def execRwinDataRead (i : ZoneId) (p : Party) (s : State) : Out := .next (s.partyRead p i Reg.RWIN_DATA)

end Sys2Proof.Machine
end

