-- ==== Sys2Proof/Machine/Governor.lean ====
section
/-! DEFINITION. Commands of the line supervision, the amplifier fault and the HOLD timer (chapter 12). -/

namespace Sys2Proof.Machine

/-- INTERVAL_END (R246–R250): an interval boundary that has not been acted on. -/
def execIntervalEnd (i : ZoneId) (s : State) : Out := inZone s i Zone.intervalEnd

/-- AMPFAULT (R252): the pin counts as asserted, or as deasserted, after its debounce. -/
def execAmpfault (i : ZoneId) (asserted : Bool) (s : State) : Out := inZone s i (fun z => z.ampPin asserted)

/-- AMPEN_RELEASE (R252): the low time of step 1, RETRY × 10 ms, has run. -/
def execAmpenRelease (i : ZoneId) (s : State) : Out := inZone s i (fun z => if z.lowDone then z.ampRelease else z)

/-- A write of LINE.CMD with its key. -/
def State.lineOp (s : State) (i : ZoneId) (op : Nat) : State :=
  s.busWrite (zoneAddr i Reg.LINE_CMD) (BitVec.ofNat 32 (0xA500 + op))

/-- STORE_BASE (R253). -/
def execStoreBase (i : ZoneId) (s : State) : Out := .next (s.lineOp i 1)

/-- CLEAR_BASE (R253). -/
def execClearBase (i : ZoneId) (s : State) : Out := .next (s.lineOp i 2)

/-- AMP_RESET (R252). -/
def execAmpReset (i : ZoneId) (s : State) : Out := .next (s.lineOp i 3)

/-- HOLD_TIMEOUT (R255): the timer of HOLD has no ticks left. -/
def execHoldTimeout (i : ZoneId) (s : State) : Out :=
  inZone s i (fun z => if z.ctl.st = .hold ∧ z.gov.hRun ∧ fld (z.reg Reg.GOV_HSTAT) 15 0 = 0 then z.holdExpire else z)

end Sys2Proof.Machine
end

