-- ==== Sys2Proof/Machine/Link.lean ====
section
/-! DEFINITION. Commands of the host link, the truss and compatibility mode (chapter 14). -/

namespace Sys2Proof.Machine

/-- BREAK (R288). -/
def execLinkBreak (s : State) : Out := .next s.linkBreak

/-- FRAME_RECEIVED (R288–R292). LEN is one byte: a longer payload is no frame, and nothing is received (assumption 5). -/
def execFrameReceived (f : RxFrame) (s : State) : Out :=
  .next (if f.payload.length ≤ 255 then s.frameReceived f else s)

/-- TIMEOUT (R290). -/
def execTimeout (s : State) : Out := .next s.linkTimeout

/-- TRANSMIT_FRAME (R295–R297): the frame at the head of the transmitter, with what its read-back gives. -/
def execTransmitFrame (o : ArbOutcome) (s : State) : Out := .next (s.flush.transmitFrame o)

/-- WRITE (R299): CMD 0x01. -/
def execWrite (f : CompatFrame) (s : State) : Out := .next (s.compatIn (.write f))

/-- READ (R299): CMD 0x02. -/
def execRead (f : CompatFrame) (s : State) : Out := .next (s.compatIn (.read f))

/-- PING_COMPAT (R299, R300): CMD 0x03, answered with STATUS 0. -/
def execPingCompat (f : CompatFrame) (s : State) : Out := .next (s.compatIn (.pingCompat f))

/-- WAKE_EDGE (R301). -/
def execWakeEdge (lsw low : Bool) (s : State) : Out := .next (s.wakeEdge lsw low)

/-- SG_ARM (R302): a write of TRUSS.SG_CTL with ARM = 1. -/
def execSgArm (v : Word) (s : State) : Out := .next (s.busWrite Reg.TRUSS_SG_CTL (setBit v 31 true))

/-- SG_DISARM (R302): the present SG_CTL with ARM = 0. -/
def execSgDisarm (s : State) : Out :=
  .next (s.busWrite Reg.TRUSS_SG_CTL (setBit (s.host.reg Reg.TRUSS_SG_CTL) 31 false))

/-- SYNC_PULSE (R302). -/
def execSyncPulse (low : Bool) (s : State) : Out := .next (s.syncPulse low)

end Sys2Proof.Machine
end

