-- ==== Sys2Proof/Machine/Measure.lean ====
section
/-! DEFINITION. Commands of the measurement chain (chapter 11). -/

namespace Sys2Proof.Machine

/-- OVL (R221): thirty-two consecutive extreme codes have been seen; the flag rises, counts and is shown in PG_FLT. -/
def execOvl (i : ZoneId) (n : Fin 4) (s : State) : Out :=
  inZone s i (fun z =>
    if z.chainOn ∧ !z.dec[n].ovl then
      let z := { z with dec := vmod z.dec n (fun d => { d with ovl := true, run2 := 32, runOk := 0 }) }
      (z.count (Reg.DEC_COUNT n.val) 31 16 1).setFlt (decPage n) 3
    else z)

/-- OVL_CLEAR (R221). -/
def execOvlClear (i : ZoneId) (n : Fin 4) (s : State) : Out :=
  inZone s i (fun z =>
    if z.chainOn ∧ z.dec[n].ovl then
      { z with dec := vmod z.dec n (fun d => { d with ovl := false, run2 := 0, runOk := 32 }) }
    else z)

/-- SRST (R228): DEC.CMD SRST. -/
def execSrst (i : ZoneId) (n : Fin 4) (s : State) : Out := .next (s.busWrite (zoneAddr i (Reg.DEC_CMD n.val)) 1)

/-- CDATA_LO (R225): a write of DEC.CDATA_LO. -/
def execCdataLo (i : ZoneId) (n : Fin 4) (v : Word) (s : State) : Out :=
  .next (s.busWrite (zoneAddr i (Reg.DEC_CDATA_LO n.val)) v)

/-- CDATA_HI (R225): a read of DEC.CDATA_HI. -/
def execCdataHi (i : ZoneId) (n : Fin 4) (s : State) : Out := .next (s.busRead (zoneAddr i (Reg.DEC_CDATA_HI n.val)))

/-- FREQ (R226): a write of DEC.FREQ. -/
def execFreq (i : ZoneId) (n : Fin 4) (v : Word) (s : State) : Out :=
  .next (s.busWrite (zoneAddr i (Reg.DEC_FREQ n.val)) v)

/-- CROSS_FADE_END (R226): a cross-fade that has run its XF frames. -/
def execCrossFadeEnd (i : ZoneId) (n : Fin 4) (s : State) : Out := inZone s i (fun z => z.crossEnd n)

/-- AEC_INSTANT (R231–R237): the 24 kHz instant of the present frame, once. -/
def execAecInstant (i : ZoneId) (s : State) : Out := inZone s i Zone.aecInstant

/-- DT_HOLD_END (R234): DTHOLD ms have passed since the condition held, all its instants but the one that is due having run. -/
def execDtHoldEnd (i : ZoneId) (c : Fin 2) (s : State) : Out :=
  inZone s i (fun z => if z.aec.ch[c].dt ≤ 1 then
    { z with aec := { z.aec with ch := vmod z.aec.ch c (fun a => { a with dt := 0 }) } } else z)

/-- ERLE_WINDOW (R235): the end of a window whose 1536 instants have run. -/
def execErleWindow (i : ZoneId) (c : Fin 2) (s : State) : Out := inZone s i (fun z => z.windowEnd c)

/-- CHECKPOINT (R235): a copy under way completes. -/
def execCheckpoint (i : ZoneId) (c : Fin 2) (s : State) : Out :=
  inZone s i (fun z => { z with aec := { z.aec with ch := vmod z.aec.ch c AecCh.ckDone } })

/-- CLRA (R236): AEC.CMD bit 0. -/
def execClra (i : ZoneId) (s : State) : Out := .next (s.busWrite (zoneAddr i Reg.AEC_CMD) 1)

/-- CLRB (R236): AEC.CMD bit 1. -/
def execClrb (i : ZoneId) (s : State) : Out := .next (s.busWrite (zoneAddr i Reg.AEC_CMD) 2)

/-- BTICK_READ (R238). -/
def execBtickRead (i : ZoneId) (p : Party) (s : State) : Out := .next (s.partyRead p i Reg.AEC_BTICK)

end Sys2Proof.Machine
end

