-- ==== Sys2Proof/Machine/Outputs.lean ====
section
/-! DEFINITION. Commands of the spans, mute, clear pin, generators and the TDM port (chapter 13). -/

namespace Sys2Proof.Machine

/-- SPAN_REQUEST (R260, R262): a write of DAC.SPAN_CTL. -/
def execSpanRequest (i : ZoneId) (v : Word) (s : State) : Out := .next (s.busWrite (zoneAddr i Reg.DAC_SPAN_CTL) v)

/-- SPAN_SWITCH (R261): the switch of a span sequence, where a tick boundary has found it due and it has not been made. -/
def execSpanSwitch (i : ZoneId) (s : State) : Out := inZone s i Zone.switchAct

/-- CMOK (R265): the common-mode ramp has run. -/
def execCmok (i : ZoneId) (s : State) : Out := inZone s i Zone.cmokEv

/-- UNMUTE (R264): ONDLY ticks after ZnAMPEN has risen. -/
def execUnmute (i : ZoneId) (s : State) : Out := inZone s i Zone.unmute

/-- MUTE (R263): a write of DAC.CTL. -/
def execMute (i : ZoneId) (v : Word) (s : State) : Out := .next (s.busWrite (zoneAddr i Reg.DAC_CTL) v)

/-- CLRN_ASSERT (R267). -/
def execClrnAssert (i : ZoneId) (s : State) : Out := inZone s i Zone.clrAssert

/-- CLRN_RELEASE (R268), at a time within the frame. -/
def execClrnRelease (i : ZoneId) (sub : Fin 7680) (s : State) : Out := inZone s i (fun z => z.clrRelease sub.val)

/-- CLR_CROSS_FADE (R268): a released pin's cross-fade starts, where a tick boundary has found it due and it has not started. -/
def execClrCrossFade (i : ZoneId) (s : State) : Out := inZone s i Zone.clrAct

/-- BURST (R269): a burst of the fallback tone begins, with the first update after a tick boundary; a burst that runs is not
begun again. -/
def execBurst (i : ZoneId) (s : State) : Out := inZone s i (fun z => if z.time.began then z.burst else z)

/-- PILOT_REQUEST (R271): a write of GEN.PCFG. -/
def execPilotRequest (i : ZoneId) (v : Word) (s : State) : Out := .next (s.busWrite (zoneAddr i Reg.GEN_PCFG) v)

/-- SLIP (R280). -/
def execSlip (i : ZoneId) (phase : Int) (s : State) : Out := inZone s i (fun z => z.tdmSlip phase)

/-- TDM_LOCK (R280). -/
def execTdmLock (i : ZoneId) (phase : Int) (s : State) : Out := inZone s i (fun z => z.tdmLocked phase)

/-- TDM_CFG (R281): a write of TDM.CFG. -/
def execTdmCfg (i : ZoneId) (v : Word) (s : State) : Out := .next (s.busWrite (zoneAddr i Reg.TDM_CFG) v)

end Sys2Proof.Machine
end

