-- ==== Sys2Proof/Machine/Protocol.lean ====
section
/-! DEFINITION. Commands of the link protocol and the message queue (chapter 15). A row is a command's turn to execute, which
comes in order of arrival (R312). A body of a length that Table 15-2 does not give is refused with LENGTH (R304). -/

namespace Sys2Proof.Machine

/-- PING (R303). -/
def execPing (c : Hdr) (s : State) : Out := .next (s.inOrder (.ping c))

/-- IDENT (R303). -/
def execIdent (c : Hdr) (s : State) : Out := .next (s.inOrder (.ident c))

/-- REG_WRITE (R305, R306). -/
def execRegWrite (c : Hdr) (addr : BitVec 24) (ws : List Word) (s : State) : Out := .next (s.inOrder (.regWrite c addr ws))

/-- REG_READ (R305, R307). -/
def execRegRead (c : Hdr) (addr : BitVec 24) (count : Byte) (s : State) : Out := .next (s.inOrder (.regRead c addr count))

/-- VOICE (R308, R309). -/
def execVoice (c : Hdr) (op zmask cls : Byte) (arg0 arg1 : Word) (a : Auth) (s : State) : Out :=
  .next (s.inOrder (.voice c op zmask cls arg0 arg1 a))

/-- EVENT_POST (R308, R309). -/
def execEventPost (c : Hdr) (zmask : Byte) (e : Vector Word 8) (a : Auth) (s : State) : Out :=
  .next (s.inOrder (.eventPost c zmask e a))

/-- BULK_WR (R310). -/
def execBulkWr (c : Hdr) (off : BitVec 16) (d : List Byte) (s : State) : Out := .next (s.inOrder (.bulkWr c off d))

/-- BULK_RD (R310). -/
def execBulkRd (c : Hdr) (off : BitVec 16) (count : Byte) (s : State) : Out := .next (s.inOrder (.bulkRd c off count))

/-- MSGACK (R319). -/
def execMsgack (c : Hdr) (src : Byte) (m : BitVec 16) (s : State) : Out := .next (s.inOrder (.msgack c src m))

/-- RECORD_CREATED (R315–R317): a source creates a record; PLEN is 0–32 (Table 15-4), and longer parameters make no record
(assumption 5). -/
def execRecordCreated (src : Fin 9) (cls : Fin 5) (code : BitVec 16) (params : List Byte) (s : State) : Out :=
  .next (if params.length > 32 then s
    else if h : src.val < 8 then s.onZone ⟨src.val, h⟩ (fun z _ => z.send cls.val code.toNat params)
    else s.hsend cls.val code.toNat params)

/-- MESSAGE (R318). -/
def execMessage (s : State) : Out := .next s.message

/-- MESSAGE_RESEND (R319). -/
def execMessageResend (s : State) : Out := .next s.messageResend

end Sys2Proof.Machine
end

