-- ==== Sys2Proof/Machine/Routing.lean ====
section
/-! DEFINITION. Commands of the route program, its gain registers and the side-tone path (chapter 9). -/

namespace Sys2Proof.Machine

/-- VALIDATE (R178): ROUTE.CMD bit 0. -/
def execValidate (i : ZoneId) (s : State) : Out := .next (s.busWrite (zoneAddr i Reg.ROUTE_CMD) 1)

/-- SPLICE_WINDOW_END (R181): a window that has run its SPLW frames. -/
def execSpliceWindowEnd (i : ZoneId) (s : State) : Out := inZone s i Zone.spliceEnd

/-- GREQ_LO (R185): a write of ROUTE.GREQ_LO. -/
def execGreqLo (i : ZoneId) (v : Word) (s : State) : Out := .next (s.busWrite (zoneAddr i Reg.ROUTE_GREQ_LO) v)

/-- GRAMP (R186): a pending gain register that has waited ZTO frames. -/
def execGramp (i : ZoneId) (k : Fin 64) (s : State) : Out := inZone s i (fun z => z.gramp k)

/-- STONE_CFG (R193): a write of STONE.CFG. -/
def execStoneCfg (i : ZoneId) (v : Word) (s : State) : Out := .next (s.busWrite (zoneAddr i Reg.STONE_CFG) v)

end Sys2Proof.Machine
end

