-- ==== Sys2Proof/Machine/Security.lean ====
section
/-! DEFINITION. Commands of sessions, P0 authority, keys, the life-cycle and tamper response (chapter 16). The SESSION commands
execute in order with the others of the link (R312). -/

namespace Sys2Proof.Machine

/-- HELLO (R323, R324). -/
def execHello (c : Hdr) (qh nh : List Byte) (s : State) : Out := .next (s.inOrder (.hello c qh nh))

/-- AUTH (R322, R324). -/
def execAuth (c : Hdr) (hcert sigh : List Byte) (s : State) : Out := .next (s.inOrder (.auth c hcert sigh))

/-- HANDSHAKE_TIMEOUT (R324): the handshake state is discarded once 100 ticks have passed; where no zone counts ticks, the row is
the time (assumption 8). -/
def execHandshakeTimeout (s : State) : Out :=
  .next (if s.tickZone.isSome ∧ s.host.sec.shake.any (fun k => k.age < 100) then s
    else s.modHost (fun h => { h with sec := { h.sec with shake := none } }))

/-- CLOSE (R328). -/
def execClose (c : Hdr) (sid : Word) (mac : List Byte) (s : State) : Out := .next (s.inOrder (.close c sid mac))

/-- RESUME_SESSION (R327). -/
def execResumeSession (c : Hdr) (sid : Word) (mac : List Byte) (s : State) : Out :=
  .next (s.inOrder (.resumeSession c sid mac))

/-- STATUS (R323). -/
def execStatus (c : Hdr) (s : State) : Out := .next (s.inOrder (.status c))

/-- GETCERT (R323). -/
def execGetcert (c : Hdr) (off : BitVec 16) (count : Byte) (s : State) : Out := .next (s.inOrder (.getcert c off count))

/-- P0_CHECK (R333–R336): an ECC operation waits until Avhar is back in its temperature range (Table 16-9). -/
def execP0Check (zmask : Byte) (item : Word) (a : Auth) (s : State) : Out :=
  .next (if s.host.sec.hot && isInline a then s else s.p0Check zmask.toNat item a)

/-- NONCE_EXPIRY (R334). -/
def execNonceExpiry (s : State) : Out := .next s.nonceExpiry

/-- A write of SEC.CMD with an op and a slot (Table 16-12). -/
def State.secOp (s : State) (op slot : Nat) : State := s.busWrite Reg.SEC_CMD (BitVec.ofNat 32 (slot * 16 + op))

/-- INSTALL_OPK (R321): op 1. -/
def execInstallOpk (slot : Fin 16) (s : State) : Out := .next (s.secOp 1 slot.val)

/-- REVOKE_OPK (R321): op 2. -/
def execRevokeOpk (slot : Fin 16) (s : State) : Out := .next (s.secOp 2 slot.val)

/-- SET_CEK (R337): op 3. -/
def execSetCek (s : State) : Out := .next (s.secOp 3 0)

/-- SET_TGK (R337): op 4. -/
def execSetTgk (s : State) : Out := .next (s.secOp 4 0)

/-- INSTALL_ST (R335): op 5. -/
def execInstallSt (s : State) : Out := .next (s.secOp 5 0)

/-- REMOVE_ST (R335): op 6. -/
def execRemoveSt (s : State) : Out := .next (s.secOp 6 0)

/-- SET_FLOOR (R337): op 7. -/
def execSetFloor (s : State) : Out := .next (s.secOp 7 0)

/-- SET_CFLOOR (R337): op 8. -/
def execSetCfloor (s : State) : Out := .next (s.secOp 8 0)

/-- A write of LCS.CMD with its key and an op (Table 16-12). -/
def State.lcsOp (s : State) (op : Nat) : State := s.busWrite Reg.LCS_CMD (BitVec.ofNat 32 (0xA500 + op))

/-- GENKEY (R339): op 1. -/
def execGenkey (s : State) : Out := .next (s.lcsOp 1)

/-- PROVISION (R339): op 2. -/
def execProvision (s : State) : Out := .next (s.lcsOp 2)

/-- TAKE_OWNER (R339): op 3. -/
def execTakeOwner (s : State) : Out := .next (s.lcsOp 3)

/-- LOCK_FIELD (R339): op 4. -/
def execLockField (s : State) : Out := .next (s.lcsOp 4)

/-- UNLOCK (R339): op 5. -/
def execUnlock (s : State) : Out := .next (s.lcsOp 5)

/-- RMA (R339): op 6. -/
def execRma (s : State) : Out := .next (s.lcsOp 6)

/-- RMA_MAKER (R339, R340): op 7. -/
def execRmaMaker (s : State) : Out := .next (s.lcsOp 7)

/-- REMAKE (R339): op 8. -/
def execRemake (s : State) : Out := .next (s.lcsOp 8)

/-- KILL (R340): op 9. -/
def execKill (s : State) : Out := .next (s.lcsOp 9)

/-- CLKMON (Table 16-9). -/
def execClkmon (s : State) : Out := .next s.clkmon

/-- VGLITCH (Table 16-9): the running operation restarts; nothing that a restart shows changes. -/
def execVglitch (s : State) : Out := .next (s.tamper 1 false)

/-- TEMP (Table 16-9): ECC operations wait until the temperature is back in range. -/
def execTemp (s : State) : Out :=
  .next ((s.modHost (fun h => { h with sec := { h.sec with hot := true } })).tamper 2 false)

/-- KEYREC (Table 16-9). -/
def execKeyrec (k : KeyRec) (s : State) : Out := .next (s.keyrec k)

/-- PUF (Table 16-9). -/
def execPuf (s : State) : Out := .next s.puf

/-- SHIELD (Table 16-9). -/
def execShield (s : State) : Out := .next s.shield

/-- DEBUG_OPEN (R341). -/
def execDebugOpen (test : Bool) (sig : List Byte) (s : State) : Out := .next (s.debugOpen test sig)

/-- DEBUG_HALT (R49, R341): through a debug port that is open. -/
def execDebugHalt (i : ZoneId) (s : State) : Out :=
  inZoneH s i (fun z h => if portAccess h.lcs.st false = 1 ∨ h.lcs.dbgOpen then z.haltOn else z)

/-- DEBUG_HALT_END (R51): e is the signed distance of R33 at the lock. -/
def execDebugHaltEnd (i : ZoneId) (e : Int) (s : State) : Out := inZone s i (fun z => z.haltOff e)

/-- AVHAR_CLOCK_RETURN (Table 16-9). -/
def execAvharClockReturn (s : State) : Out :=
  .next (s.modHost (fun h => { h with sec := { h.sec with fault := false } }))

/-- TEMP_IN_RANGE (Table 16-9): what has waited for it executes. -/
def execTempInRange (s : State) : Out :=
  .next (s.modHost (fun h => { h with sec := { h.sec with hot := false } })).flush

end Sys2Proof.Machine
end

