-- ==== Sys2Proof/Machine/Swaps.lean ====
section
/-! DEFINITION. Commands of the swaps, the event queue, the scheduled actions and the mode changes (chapter 3). -/

namespace Sys2Proof.Machine

/-- A write of PG_SWAP of a double-banked page with an OP (Table 3-9). -/
def State.swapOp (s : State) (i : ZoneId) (p : Fin 6) (op : Nat) (tgt : BitVec 24) : State :=
  s.busWrite (zoneAddr i (bankedPage p.val + 0x14)) (BitVec.ofNat 32 (op * 2 ^ 24 + tgt.toNat))

/-- ARM_AT_TGT (R54): OP 1. -/
def execArmAtTgt (i : ZoneId) (p : Fin 6) (tgt : BitVec 24) (s : State) : Out := .next (s.swapOp i p 1 tgt)

/-- ARM_NEXT (R54): OP 2. -/
def execArmNext (i : ZoneId) (p : Fin 6) (s : State) : Out := .next (s.swapOp i p 2 0)

/-- ARM_AT_TGT_COPY (R54, R56): OP 4. -/
def execArmAtTgtCopy (i : ZoneId) (p : Fin 6) (tgt : BitVec 24) (s : State) : Out := .next (s.swapOp i p 4 tgt)

/-- ARM_NEXT_COPY (R54, R56): OP 5. -/
def execArmNextCopy (i : ZoneId) (p : Fin 6) (s : State) : Out := .next (s.swapOp i p 5 0)

/-- DISARM (R57): OP 3. -/
def execDisarm (i : ZoneId) (p : Fin 6) (s : State) : Out := .next (s.swapOp i p 3 0)

/-- COPY_DONE (R56): a copy that runs ends. -/
def execCopyDone (i : ZoneId) (p : Fin 6) (s : State) : Out := inZone s i (fun z => if z.swaps[p].copying then z.copyDone p else z)

/-- SWAPSET (R58): a write of SCHED.SWAPSET with ARM. -/
def execSwapset (i : ZoneId) (next : Bool) (mask : BitVec 6) (s : State) : Out :=
  .next (s.busWrite (zoneAddr i Reg.SCHED_SWAPSET) (BitVec.ofNat 32 (2 ^ 31 + b2n next * 2 ^ 30 + mask.toNat)))

/-- POST (R59): SCHED.CMD OP 1 with the staged entry. -/
def execPost (i : ZoneId) (s : State) : Out := .next (s.busWrite (zoneAddr i Reg.SCHED_CMD) 1)

/-- CANCEL (R60): OP 2 with a TAG. -/
def execCancel (i : ZoneId) (tag : BitVec 16) (s : State) : Out :=
  .next (s.busWrite (zoneAddr i Reg.SCHED_CMD) (BitVec.ofNat 32 (tag.toNat * 2 ^ 16 + 2)))

/-- FLUSH (R60): OP 3. -/
def execFlush (i : ZoneId) (s : State) : Out := .next (s.busWrite (zoneAddr i Reg.SCHED_CMD) 3)

/-- What a source orders in a zone that executes voice operations: one in RUN or HOLD that carries frames (R308, R61). -/
def liveDo (s : State) (i : ZoneId) (f : Zone → HostC → Zone) : Out :=
  inZoneH s i (fun z h => if z.live then f z h else z)

/-- The right of a source over P0 voices (R331). -/
def srcRight (src : VSrc) (h : HostC) : P0Right :=
  match src with
  | .dsp => .dsp
  | _ => if h.p0ctl then .full else .host

/-- VSTART (R65, R133, R144): a start in one of the six classes. The row is the request as the bookkeeping window takes it up
(R150; assumption 26). -/
def execVstart (i : ZoneId) (src : VSrc) (cls : Fin 8) (arg0 arg1 : Word) (dl : Option Deadline) (s : State) : Out :=
  liveDo s i (fun z h =>
    if cls.val > 5 then z
    else match src with
    | .sched => z.actVstart h cls.val arg0 arg1 (dl.map (fun (d : Deadline) => DlSt.begin0 d.dir d.q d.nomdur.toNat)) false
    | .host => (z.hostVoice h { op := 0, cls := cls.val, arg0 := arg0, arg1 := arg1, full := h.p0ctl, asked := false }).2
    | .dsp => z.dspRequest h { act := 0, cls := cls.val, a := arg0, b := arg1 })

/-- VREL (R139, R331). -/
def execVrel (i : ZoneId) (src : VSrc) (arg1 : Word) (s : State) : Out :=
  liveDo s i (fun z h => z.vrel (srcRight src h) arg1)

/-- VKILL (R139, R331). -/
def execVkill (i : ZoneId) (src : VSrc) (arg1 : Word) (s : State) : Out :=
  liveDo s i (fun z h => z.vkill (srcRight src h) arg1)

/-- VCTL (R128–R130): a control of codes 0–7. -/
def execVctl (i : ZoneId) (src : VSrc) (arg0 arg1 : Word) (s : State) : Out :=
  liveDo s i (fun z h => z.vctl (srcRight src h) arg0 arg1)

/-- RETRIG (R121): a VCTL of code 8. -/
def execRetrig (i : ZoneId) (src : VSrc) (arg0 arg1 : Word) (s : State) : Out :=
  liveDo s i (fun z h => z.vctl (srcRight src h) (setFld arg0 31 28 8) arg1)

/-- SWAP (R58, R60): the scheduled action. -/
def execSwap (i : ZoneId) (tag : BitVec 16) (arg0 arg1 : Word) (s : State) : Out :=
  liveDo s i (fun z _ => z.actSwap tag arg0 arg1)

/-- MODE (R60, R67): the scheduled action. -/
def execMode (i : ZoneId) (tag : BitVec 16) (arg0 arg1 : Word) (s : State) : Out :=
  liveDo s i (fun z _ => z.actMode tag arg0 arg1)

/-- MSG (Table 3-5): the scheduled action sends SCHED_EVENT. -/
def execMsg (i : ZoneId) (tag : BitVec 16) (arg0 : Word) (s : State) : Out :=
  liveDo s i (fun z _ => z.schedEvent tag false 0 5 arg0)

/-- GAIN (R185): the scheduled action. -/
def execGain (i : ZoneId) (arg0 arg1 : Word) (s : State) : Out := liveDo s i (fun z _ => z.actGain arg0 arg1)

/-- HANDLER (R206): the scheduled action. -/
def execHandler (i : ZoneId) (arg0 arg1 : Word) (s : State) : Out :=
  liveDo s i (fun z _ => z.dspHandler (fld arg0 3 0) arg1)

/-- A write of DEV.MODE_CMD (Table 3-10). -/
def State.modeOp (s : State) (op : Nat) (pmask : BitVec 6) (m zmask : Byte) : State :=
  s.busWrite Reg.DEV_MODE_CMD (BitVec.ofNat 32 (op * 2 ^ 30 + pmask.toNat * 2 ^ 16 + m.toNat * 2 ^ 8 + zmask.toNat))

/-- MODE_ARM (R69): OP ARM at DEV.MODE_TGT. -/
def execModeArm (pmask : BitVec 6) (m zmask : Byte) (s : State) : Out := .next (s.modeOp 1 pmask m zmask)

/-- MODE_ARM_NEXT (R69): OP ARM next. -/
def execModeArmNext (pmask : BitVec 6) (m zmask : Byte) (s : State) : Out := .next (s.modeOp 3 pmask m zmask)

/-- ABORT (R68): OP ABORT. -/
def execAbort (zmask : Byte) (s : State) : Out := .next (s.modeOp 2 0 0 zmask)

end Sys2Proof.Machine
end

