-- ==== Sys2Proof/Machine/System.lean ====
section
/-! DEFINITION. Commands of the memories, check values, register access, power, clocks and reset (chapters 17 to 19). -/

namespace Sys2Proof.Machine

/-- SCRUB_PASS (R351): a pass that is due. -/
def execScrubPass (i : ZoneId) (s : State) : Out := inZone s i Zone.scrubPass

/-- BORROW (R352–R355): one borrow of the background test. -/
def execBorrow (i : ZoneId) (marchFail yielded : Bool) (s : State) : Out :=
  inZone s i (fun z => z.borrow marchFail yielded)

/-- CORRECTED_WRITE_BACK (R350). -/
def execCorrectedWriteBack (i : ZoneId) (s : State) : Out :=
  inZone s i (fun z => if z.memOn then { z with mem := z.mem.writeBack } else z)

/-- The register of a check-value unit at an offset in its page (Table 17-4). -/
def crcAddr (u : CrcUnit) (off : Nat) : Nat :=
  match u with
  | .zcrc i => zoneAddr i (0x6400 + off)
  | .hcrc1 => 0x1C00 + off

/-- CRC_FEED (R362): a write of DATA8, DATA16 or DATA32. -/
def execCrcFeed (u : CrcUnit) (p : Party) (size : FeedSize) (v : Word) (s : State) : Out :=
  .next (s.addrWrite p (crcAddr u (match size with | .d8 => 0x34 | .d16 => 0x38 | .d32 => 0x3C)) v)

/-- START (R362): CMD bit 0. -/
def execStart (u : CrcUnit) (p : Party) (s : State) : Out := .next (s.addrWrite p (crcAddr u 0x30) 1)

/-- CUR (R363): a write of CUR. -/
def execCur (u : CrcUnit) (p : Party) (v : Word) (s : State) : Out := .next (s.addrWrite p (crcAddr u 0x40) v)

/-- NVM_DATA (R360): a write or a read of NVM.DATA. -/
def execNvmData (wr : Option Word) (s : State) : Out :=
  .next (match wr with | some v => s.busWrite Reg.NVM_DATA v | none => s.busRead Reg.NVM_DATA)

/-- WDATA_READ (R412). -/
def execWdataRead (i : ZoneId) (p : Party) (s : State) : Out := .next (s.partyRead p i Reg.MEM_WDATA)

/-- The page of an address. -/
def pageBase (a : BitVec 24) : Nat := a.toNat / 0x400 * 0x400

/-- A PG_CTL word that sets CLRCNT and keeps RDINACT as the page has it; 0 where an address names several zones. -/
def clrWord (s : State) (a : Nat) : Word :=
  match placeOf a with
  | .zone i off => (s.zones[i].reg off &&& 2) ||| 1
  | _ => 1

/-- CLRCNT (R369, Table 18-3): a write of PG_CTL of the page that holds the address. -/
def execClrcnt (addr : BitVec 24) (p : Party) (s : State) : Out :=
  .next (s.addrWrite p (pageBase addr + 4) (clrWord s (pageBase addr + 4)))

/-- PG_LOCK (R372): a host write of PG_LOCK of the page that holds the address. -/
def execPgLock (addr : BitVec 24) (v : Word) (s : State) : Out := .next (s.busWrite (pageBase addr + 0x18) v)

/-- RC_READ (R373): a read of a register. -/
def execRcRead (addr : BitVec 24) (p : Party) (s : State) : Out := .next (s.addrRead p addr.toNat)

/-- REGISTER_WRITE (R373, R376). -/
def execRegisterWrite (addr : BitVec 24) (p : Party) (v : Word) (s : State) : Out := .next (s.addrWrite p addr.toNat v)

/-- DEVICE_RESET (R385): the truss address is sampled from TADDR. -/
def execDeviceReset (cause : ResetCause) (ta : BitVec 2) (s : State) : Out := .next (s.deviceReset cause ta)

/-- BROWN_OUT (R381): one of the three rails; TADDR stands as it did. Another cause is no brown-out (assumption 5). -/
def execBrownOut (cause : ResetCause) (s : State) : Out :=
  match cause with
  | .vcore | .vaux | .vio => .next (s.deviceReset cause s.host.link.ta)
  | .por | .resetn => .next s

/-- VANA_FAIL (R382). -/
def execVanaFail (i : ZoneId) (s : State) : Out := inZone s i Zone.vanaFail

/-- READY (R385). -/
def execReady (s : State) : Out := .next s.ready

/-- X32_CHECK (R383). -/
def execX32Check (running : Bool) (s : State) : Out := .next (s.x32Check running)

/-- SLEEP_ARM (R389): a write of DEV.SLEEP with ARM = 1. -/
def execSleepArm (v : Word) (s : State) : Out := .next (s.busWrite Reg.DEV_SLEEP (setBit v 31 true))

/-- SLEEP_ENTRY (R389): a zone's part of the entry at tick T. -/
def execSleepEntry (i : ZoneId) (s : State) : Out := .next (s.sleepEnter i)

/-- SLEPT (R389). -/
def execSlept (s : State) : Out := .next s.slept

/-- WAKE (R391, R392). -/
def execWake (c : WakeCause) (s : State) : Out := .next (s.wake c)

/-- ZVA_IN_REGULATION (R265, Table 1-4). -/
def execZvaInRegulation (i : ZoneId) (s : State) : Out := inZone s i Zone.zvaGood

/-- ZSLOW_EDGE (R49, R50): levels of TACHA and TACHB at the edge. -/
def execZslowEdge (i : ZoneId) (a b : Bool) (s : State) : Out := .next (s.zslowEdge i a b).flush

end Sys2Proof.Machine
end

