-- ==== Sys2Proof/Machine/TimePos.lean ====
section
/-! DEFINITION. Commands of time, the zone PLL, epoch loads, track position and the timers (chapter 2). -/

namespace Sys2Proof.Machine

/-- FRAME_BOUNDARY (R35, R61): the work of a frame in its order. -/
def execFrameBoundary (i : ZoneId) (inp : FrameIn) (s : State) : Out := .next (s.frameBoundary i inp).flush

/-- TICK_BOUNDARY (R52). -/
def execTickBoundary (i : ZoneId) (s : State) : Out := .next (s.tickBoundary i).flush

/-- FREF_EDGE (R28, R29, R33). -/
def execFrefEdge (i : ZoneId) (interval : Nat) (e : Int) (sync : Bool) (s : State) : Out :=
  inZoneH s i (fun z h => z.frefStep h interval e sync)

/-- HOLDOVER (R31), if one of its conditions holds. -/
def execHoldover (i : ZoneId) (elapsed : Nat) (s : State) : Out :=
  inZone s i (fun z => z.holdover elapsed)

/-- HOLDOVER_LIMIT (R32). -/
def execHoldoverLimit (i : ZoneId) (s : State) : Out := inZone s i Zone.holdLimit

/-- SLEW_COMPLETE (R33). -/
def execSlewComplete (i : ZoneId) (s : State) : Out := inZone s i Zone.slewDone

/-- FREF_RATE (R30): a write of PLL.CFG. -/
def execFrefRate (i : ZoneId) (v : Word) (s : State) : Out := .next (s.busWrite (zoneAddr i Reg.PLL_CFG) v)

/-- EPOCH_ARM (R36): ARM, with CHECK or without. -/
def execEpochArm (i : ZoneId) (check : Bool) (s : State) : Out :=
  .next (s.busWrite (zoneAddr i Reg.TIME_EPOCH_CTL) (if check then 3 else 1))

/-- EPOCH_DISARM (R36): ARM = 0, CHECK as it stands. -/
def execEpochDisarm (i : ZoneId) (s : State) : Out :=
  .next (s.busWrite (zoneAddr i Reg.TIME_EPOCH_CTL) (s.zones[i].reg Reg.TIME_EPOCH_CTL &&& 2))

/-- LOAD_EDGE (R37): an FREF edge at which SYNC is sampled low after it was sampled high. -/
def execLoadEdge (i : ZoneId) (s : State) : Out := inZoneH s i Zone.loadEdge

/-- TACH_EDGE (R39–R42): accepted levels at a sub-frame time; from ZSLOW they come with its edges (R50). -/
def execTachEdge (i : ZoneId) (a b : Bool) (sub : Fin 7680) (s : State) : Out :=
  inZone s i (fun z =>
    if z.time.est then z
    else
      let z := z.tach a b sub.val
      { z with time := { z.time with subf := Nat.max z.time.subf sub.val } })

/-- STANDSTILL (R42). -/
def execStandstill (i : ZoneId) (s : State) : Out := inZone s i Zone.standstill

/-- STALE (R43). -/
def execStale (i : ZoneId) (s : State) : Out := inZone s i Zone.staleSet

/-- SETPOS (R43): POS.HCMD with SETPOS. -/
def execSetpos (i : ZoneId) (atTick : Bool) (s : State) : Out :=
  .next (s.busWrite (zoneAddr i Reg.POS_HCMD) (if atTick then 5 else 1))

/-- SETVEL (R43): POS.HCMD with SETVEL. -/
def execSetvel (i : ZoneId) (atTick : Bool) (s : State) : Out :=
  .next (s.busWrite (zoneAddr i Reg.POS_HCMD) (if atTick then 6 else 2))

/-- HCMD_APPLY (R43). -/
def execHcmdApply (i : ZoneId) (s : State) : Out := inZone s i Zone.hcmdApply

/-- POS_MODE (R410): a write of POS.CFG. -/
def execPosMode (i : ZoneId) (v : Word) (s : State) : Out := .next (s.busWrite (zoneAddr i Reg.POS_CFG) v)

/-- PERIOD_END (R44): a period that has run out. -/
def execPeriodEnd (i : ZoneId) (n : Fin 4) (s : State) : Out :=
  inZone s i (fun z => if z.tmrDue n then z.tmrEnd n else z)

/-- TMR_NEXT (R45): a write of TMRn.NEXT. -/
def execTmrNext (i : ZoneId) (n : Fin 4) (v : Word) (s : State) : Out :=
  .next (s.busWrite (zoneAddr i (Reg.TMR_NEXT n.val)) v)

/-- TMR_CTL (R45): a write of TMRn.CTL. -/
def execTmrCtl (i : ZoneId) (n : Fin 4) (v : Word) (s : State) : Out :=
  .next (s.busWrite (zoneAddr i (Reg.TMR_CTL n.val)) v)

/-- FORCE_END (R46): a write of TMRn.CTL that keeps its RW fields and sets FORCE. -/
def execForceEnd (i : ZoneId) (n : Fin 4) (s : State) : Out :=
  .next (s.busWrite (zoneAddr i (Reg.TMR_CTL n.val)) ((s.zones[i].reg (Reg.TMR_CTL n.val) &&& 0x1F) ||| 0x80))

/-- LATCH_READ (R47): a read of POS_LO or FRAME_LO. -/
def execLatchRead (i : ZoneId) (p : Party) (pos : Bool) (s : State) : Out :=
  .next (s.partyRead p i (if pos then Reg.POS_POS_LO else Reg.TIME_FRAME_LO))

end Sys2Proof.Machine
end

