-- ==== Sys2Proof/Machine/VoicesContent.lean ====
section
/-! DEFINITION. Commands of the voices' bookkeeping and of the content store (chapters 7 and 8). -/

namespace Sys2Proof.Machine

/-- PRESET_COPY (R135): a waiting voice whose preset block has arrived. A completion is due in the window of a frame (R150), so
the row acts in a frame that has begun; in any other the frame's own FRAME_BOUNDARY does it (assumption 26). -/
def execPresetCopy (i : ZoneId) (v : VoiceId) (s : State) : Out :=
  inZoneH s i (fun z h =>
    if z.time.began ∧ z.live ∧ z.voices[v].life = .wait ∧ !z.voices[v].ended then z.waitCopy h v else z)

/-- SUCCESSOR_START (R147): a stolen voice whose fade has ended, in a frame that has begun, as PRESET_COPY. -/
def execSuccessorStart (i : ZoneId) (v : VoiceId) (s : State) : Out :=
  inZoneH s i (fun z h =>
    if z.time.began ∧ z.live ∧ z.voices[v].ended ∧ z.voices[v].life = .fading ∧ z.voices[v].succ.isSome then z.succStart h v else z)

/-- VWIN_DATA_WRITE (R137). -/
def execVwinDataWrite (i : ZoneId) (p : Party) (v : Word) (s : State) : Out := .next (s.partyWrite p i Reg.VWIN_DATA v)

/-- VWIN_DATA_READ (R137). -/
def execVwinDataRead (i : ZoneId) (p : Party) (s : State) : Out := .next (s.partyRead p i Reg.VWIN_DATA)

/-- MOUNT (R162): CONT.CMD OP 1. -/
def execMount (s : State) : Out := .next (s.busWrite Reg.CONT_CMD 1)

/-- UNMOUNT (R162): OP 2. -/
def execUnmount (s : State) : Out := .next (s.busWrite Reg.CONT_CMD 2)

/-- LOAD (R171): OP 3. -/
def execLoad (s : State) : Out := .next (s.busWrite Reg.CONT_CMD 3)

/-- UNFENCE (R170): OP 4 with the zone. -/
def execUnfence (i : ZoneId) (s : State) : Out := .next (s.busWrite Reg.CONT_CMD (BitVec.ofNat 32 (i.val * 2 ^ 8 + 4)))

/-- XCMD (R154): a write of CONT.XCMD. -/
def execXcmd (v : Word) (s : State) : Out := .next (s.busWrite Reg.CONT_XCMD v)

/-- FETCH_SLOT (R155, R156). cdqs: the read strobe of the flash toggled (R154). -/
def execFetchSlot (cdqs : Bool) (s : State) : Out := .next (s.fetchSlot cdqs)

end Sys2Proof.Machine
end

