-- ==== Sys2Proof/Machine/ZoneStates.lean ====
section
/-! DEFINITION. Commands of the zone state machine, fences, the watchdog and the HOLD conditions (chapter 1). -/

namespace Sys2Proof.Machine

/-- ENABLE (R9, R10): ZCTL.CMD OP 1. -/
def execEnable (i : ZoneId) (s : State) : Out := .next (s.zctl i 1)

/-- DISABLE (R6): OP 2. -/
def execDisable (i : ZoneId) (s : State) : Out := .next (s.zctl i 2)

/-- RESET_WARM (R10): OP 3. -/
def execResetWarm (i : ZoneId) (s : State) : Out := .next (s.zctl i 3)

/-- RESET_COLD (R11): OP 4. -/
def execResetCold (i : ZoneId) (s : State) : Out := .next (s.zctl i 4)

/-- RUN (R6): OP 5. -/
def execRun (i : ZoneId) (s : State) : Out := .next (s.zctl i 5)

/-- RESUME (R25): OP 6. -/
def execResume (i : ZoneId) (s : State) : Out := .next (s.zctl i 6)

/-- FENCE (R13): OP 7. -/
def execFence (i : ZoneId) (s : State) : Out := .next (s.zctl i 7)

/-- RECOVER (R6): OP 8. -/
def execRecover (i : ZoneId) (s : State) : Out := .next (s.zctl i 8)

/-- INIT_COMPLETE (R11): the zone passes to TEST. -/
def execInitComplete (i : ZoneId) (s : State) : Out := inZone s i Zone.initComplete

/-- INIT_SLOW (R12). -/
def execInitSlow (i : ZoneId) (s : State) : Out := inZone s i Zone.initSlowEv

/-- TEST_COMPLETE (R12). -/
def execTestComplete (i : ZoneId) (march ladder : Bool) (s : State) : Out := inZone s i (fun z => z.testComplete march ladder)

/-- WDOG (R411): a period that has run out. -/
def execWdog (i : ZoneId) (s : State) : Out := inZone s i Zone.wdCheck

/-- WDOG_KICK (R411): a write of ZCTL.WDOG_KICK. -/
def execWdogKick (i : ZoneId) (p : Party) (v : Word) (s : State) : Out := .next (s.partyWrite p i Reg.ZCTL_WDOG_KICK v)

/-- WDOG_WRITE (R411): a write of ZCTL.WDOG. -/
def execWdogWrite (i : ZoneId) (v : Word) (s : State) : Out := .next (s.busWrite (zoneAddr i Reg.ZCTL_WDOG) v)

/-- TRAP_BUCKET_LEAK (R13): once a WINDOW of ticks has passed. -/
def execTrapBucketLeak (i : ZoneId) (s : State) : Out := inZone s i Zone.leakCheck

/-- ROUTER (R13): the zone has not answered an access within 64 HCORE cycles. -/
def execRouter (i : ZoneId) (s : State) : Out := inZone s i (fun z => z.raise 0x20)

/-- REGULATOR_TRIP (R20, R21). -/
def execRegulatorTrip (i : ZoneId) (core analog : Bool) (s : State) : Out := inZone s i (fun z => z.regTrip core analog)

/-- ORPHAN (R22): judged against the link-silence count. -/
def execOrphan (i : ZoneId) (s : State) : Out := inZoneH s i (fun z h => z.orphanSet h.link.silence)

/-- HCLOSS (R23): sixteen ticks without a heartbeat (assumption 75). -/
def execHcloss (i : ZoneId) (s : State) : Out :=
  inZone s i (fun z =>
    let z := z.hclossSet true
    { z with ctl := { z.ctl with hbMiss := 16 } })

end Sys2Proof.Machine
end

