-- ==== Sys2Proof/Machine/Dispatch.lean ====
section
/-! DEFINITION. One arm for each command: its meaning. -/

namespace Sys2Proof.Machine

/-- The effect of a command on everything but the queue. -/
def exec (i : Instr) (s : State) : Host.Outcome State Fault Refusal :=
  match i with
  | .enable z => Sys2Proof.Machine.execEnable z s
  | .disable z => Sys2Proof.Machine.execDisable z s
  | .resetWarm z => Sys2Proof.Machine.execResetWarm z s
  | .resetCold z => Sys2Proof.Machine.execResetCold z s
  | .run z => Sys2Proof.Machine.execRun z s
  | .resume z => Sys2Proof.Machine.execResume z s
  | .fence z => Sys2Proof.Machine.execFence z s
  | .recover z => Sys2Proof.Machine.execRecover z s
  | .initComplete z => Sys2Proof.Machine.execInitComplete z s
  | .initSlow z => Sys2Proof.Machine.execInitSlow z s
  | .testComplete z marchFail ladderFail => Sys2Proof.Machine.execTestComplete z marchFail ladderFail s
  | .wdog z => Sys2Proof.Machine.execWdog z s
  | .wdogKick z p v => Sys2Proof.Machine.execWdogKick z p v s
  | .wdogWrite z v => Sys2Proof.Machine.execWdogWrite z v s
  | .trapBucketLeak z => Sys2Proof.Machine.execTrapBucketLeak z s
  | .router z => Sys2Proof.Machine.execRouter z s
  | .regulatorTrip z core analog => Sys2Proof.Machine.execRegulatorTrip z core analog s
  | .orphan z => Sys2Proof.Machine.execOrphan z s
  | .hcloss z => Sys2Proof.Machine.execHcloss z s
  | .frameBoundary z inp => Sys2Proof.Machine.execFrameBoundary z inp s
  | .tickBoundary z => Sys2Proof.Machine.execTickBoundary z s
  | .frefEdge z interval e sync => Sys2Proof.Machine.execFrefEdge z interval e sync s
  | .holdover z elapsed => Sys2Proof.Machine.execHoldover z elapsed s
  | .holdoverLimit z => Sys2Proof.Machine.execHoldoverLimit z s
  | .slewComplete z => Sys2Proof.Machine.execSlewComplete z s
  | .frefRate z v => Sys2Proof.Machine.execFrefRate z v s
  | .epochArm z check => Sys2Proof.Machine.execEpochArm z check s
  | .epochDisarm z => Sys2Proof.Machine.execEpochDisarm z s
  | .loadEdge z => Sys2Proof.Machine.execLoadEdge z s
  | .tachEdge z a b sub => Sys2Proof.Machine.execTachEdge z a b sub s
  | .standstill z => Sys2Proof.Machine.execStandstill z s
  | .stale z => Sys2Proof.Machine.execStale z s
  | .setpos z atTick => Sys2Proof.Machine.execSetpos z atTick s
  | .setvel z atTick => Sys2Proof.Machine.execSetvel z atTick s
  | .hcmdApply z => Sys2Proof.Machine.execHcmdApply z s
  | .posMode z v => Sys2Proof.Machine.execPosMode z v s
  | .periodEnd z n => Sys2Proof.Machine.execPeriodEnd z n s
  | .tmrNext z n v => Sys2Proof.Machine.execTmrNext z n v s
  | .tmrCtl z n v => Sys2Proof.Machine.execTmrCtl z n v s
  | .forceEnd z n => Sys2Proof.Machine.execForceEnd z n s
  | .latchRead z p pos => Sys2Proof.Machine.execLatchRead z p pos s
  | .armAtTgt z page tgt => Sys2Proof.Machine.execArmAtTgt z page tgt s
  | .armNext z page => Sys2Proof.Machine.execArmNext z page s
  | .armAtTgtCopy z page tgt => Sys2Proof.Machine.execArmAtTgtCopy z page tgt s
  | .armNextCopy z page => Sys2Proof.Machine.execArmNextCopy z page s
  | .disarm z page => Sys2Proof.Machine.execDisarm z page s
  | .copyDone z page => Sys2Proof.Machine.execCopyDone z page s
  | .swapset z next mask => Sys2Proof.Machine.execSwapset z next mask s
  | .post z => Sys2Proof.Machine.execPost z s
  | .cancel z tag => Sys2Proof.Machine.execCancel z tag s
  | .flush z => Sys2Proof.Machine.execFlush z s
  | .vstart z src cls arg0 arg1 dl => Sys2Proof.Machine.execVstart z src cls arg0 arg1 dl s
  | .vrel z src arg1 => Sys2Proof.Machine.execVrel z src arg1 s
  | .vkill z src arg1 => Sys2Proof.Machine.execVkill z src arg1 s
  | .vctl z src arg0 arg1 => Sys2Proof.Machine.execVctl z src arg0 arg1 s
  | .retrig z src arg0 arg1 => Sys2Proof.Machine.execRetrig z src arg0 arg1 s
  | .swap z tag arg0 arg1 => Sys2Proof.Machine.execSwap z tag arg0 arg1 s
  | .mode z tag arg0 arg1 => Sys2Proof.Machine.execMode z tag arg0 arg1 s
  | .msg z tag arg0 => Sys2Proof.Machine.execMsg z tag arg0 s
  | .gain z arg0 arg1 => Sys2Proof.Machine.execGain z arg0 arg1 s
  | .handler z arg0 arg1 => Sys2Proof.Machine.execHandler z arg0 arg1 s
  | .modeArm pmask modeNo zmask => Sys2Proof.Machine.execModeArm pmask modeNo zmask s
  | .modeArmNext pmask modeNo zmask => Sys2Proof.Machine.execModeArmNext pmask modeNo zmask s
  | .abort zmask => Sys2Proof.Machine.execAbort zmask s
  | .presetCopy z v => Sys2Proof.Machine.execPresetCopy z v s
  | .successorStart z v => Sys2Proof.Machine.execSuccessorStart z v s
  | .vwinDataWrite z p v => Sys2Proof.Machine.execVwinDataWrite z p v s
  | .vwinDataRead z p => Sys2Proof.Machine.execVwinDataRead z p s
  | .mount => Sys2Proof.Machine.execMount s
  | .unmount => Sys2Proof.Machine.execUnmount s
  | .load => Sys2Proof.Machine.execLoad s
  | .unfence z => Sys2Proof.Machine.execUnfence z s
  | .xcmd v => Sys2Proof.Machine.execXcmd v s
  | .fetchSlot cdqs => Sys2Proof.Machine.execFetchSlot cdqs s
  | .validate z => Sys2Proof.Machine.execValidate z s
  | .spliceWindowEnd z => Sys2Proof.Machine.execSpliceWindowEnd z s
  | .greqLo z v => Sys2Proof.Machine.execGreqLo z v s
  | .gramp z k => Sys2Proof.Machine.execGramp z k s
  | .stoneCfg z v => Sys2Proof.Machine.execStoneCfg z v s
  | .overrun z => Sys2Proof.Machine.execOverrun z s
  | .macMnop z f => Sys2Proof.Machine.execMacMnop z f s
  | .mpy z f => Sys2Proof.Machine.execMpy z f s
  | .mac z f => Sys2Proof.Machine.execMac z f s
  | .msu z f => Sys2Proof.Machine.execMsu z f s
  | .gmpy z f => Sys2Proof.Machine.execGmpy z f s
  | .gmac z f => Sys2Proof.Machine.execGmac z f s
  | .dmpy z f => Sys2Proof.Machine.execDmpy z f s
  | .dmac z f => Sys2Proof.Machine.execDmac z f s
  | .dmac2 z f => Sys2Proof.Machine.execDmac2 z f s
  | .wmpy z f => Sys2Proof.Machine.execWmpy z f s
  | .wmac z f => Sys2Proof.Machine.execWmac z f s
  | .wgmac z f => Sys2Proof.Machine.execWgmac z f s
  | .ald z f => Sys2Proof.Machine.execAld z f s
  | .aadd z f => Sys2Proof.Machine.execAadd z f s
  | .asub z f => Sys2Proof.Machine.execAsub z f s
  | .aclr z f => Sys2Proof.Machine.execAclr z f s
  | .anop z f => Sys2Proof.Machine.execAnop z f s
  | .mov z f => Sys2Proof.Machine.execMov z f s
  | .add z f => Sys2Proof.Machine.execAdd z f s
  | .sub z f => Sys2Proof.Machine.execSub z f s
  | .neg z f => Sys2Proof.Machine.execNeg z f s
  | .abs z f => Sys2Proof.Machine.execAbs z f s
  | .min z f => Sys2Proof.Machine.execMin z f s
  | .max z f => Sys2Proof.Machine.execMax z f s
  | .and z f => Sys2Proof.Machine.execAnd z f s
  | .or z f => Sys2Proof.Machine.execOr z f s
  | .xor z f => Sys2Proof.Machine.execXor z f s
  | .shra z f => Sys2Proof.Machine.execShra z f s
  | .shra8 z f => Sys2Proof.Machine.execShra8 z f s
  | .shl z f => Sys2Proof.Machine.execShl z f s
  | .ldi z f => Sys2Proof.Machine.execLdi z f s
  | .ldis z f => Sys2Proof.Machine.execLdis z f s
  | .cmpeq z f => Sys2Proof.Machine.execCmpeq z f s
  | .cmplt z f => Sys2Proof.Machine.execCmplt z f s
  | .cmple z f => Sys2Proof.Machine.execCmple z f s
  | .rdacc z f => Sys2Proof.Machine.execRdacc z f s
  | .sts z f => Sys2Proof.Machine.execSts z f s
  | .stg z f => Sys2Proof.Machine.execStg z f s
  | .fclr z f => Sys2Proof.Machine.execFclr z f s
  | .hmov z f => Sys2Proof.Machine.execHmov z f s
  | .br z f => Sys2Proof.Machine.execBr z f s
  | .loop z f => Sys2Proof.Machine.execLoop z f s
  | .endRoutine z f => Sys2Proof.Machine.execEndRoutine z f s
  | .memMnop z f => Sys2Proof.Machine.execMemMnop z f s
  | .ldw z f => Sys2Proof.Machine.execLdw z f s
  | .stw z f => Sys2Proof.Machine.execStw z f s
  | .lde z f => Sys2Proof.Machine.execLde z f s
  | .ste z f => Sys2Proof.Machine.execSte z f s
  | .tap z f => Sys2Proof.Machine.execTap z f s
  | .ioRead z f => Sys2Proof.Machine.execIoRead z f s
  | .ioWrite z f => Sys2Proof.Machine.execIoWrite z f s
  | .pts z f => Sys2Proof.Machine.execPts z f s
  | .dspRun z v => Sys2Proof.Machine.execDspRun z v s
  | .dwinDataWrite z p v => Sys2Proof.Machine.execDwinDataWrite z p v s
  | .dwinDataRead z p => Sys2Proof.Machine.execDwinDataRead z p s
  | .rwinDataWrite z p v => Sys2Proof.Machine.execRwinDataWrite z p v s
  | .rwinDataRead z p => Sys2Proof.Machine.execRwinDataRead z p s
  | .ovl z n => Sys2Proof.Machine.execOvl z n s
  | .srst z n => Sys2Proof.Machine.execSrst z n s
  | .cdataLo z n v => Sys2Proof.Machine.execCdataLo z n v s
  | .cdataHi z n => Sys2Proof.Machine.execCdataHi z n s
  | .freq z n v => Sys2Proof.Machine.execFreq z n v s
  | .crossFadeEnd z n => Sys2Proof.Machine.execCrossFadeEnd z n s
  | .aecInstant z => Sys2Proof.Machine.execAecInstant z s
  | .dtHoldEnd z ch => Sys2Proof.Machine.execDtHoldEnd z ch s
  | .erleWindow z ch => Sys2Proof.Machine.execErleWindow z ch s
  | .checkpoint z ch => Sys2Proof.Machine.execCheckpoint z ch s
  | .clra z => Sys2Proof.Machine.execClra z s
  | .clrb z => Sys2Proof.Machine.execClrb z s
  | .btickRead z p => Sys2Proof.Machine.execBtickRead z p s
  | .intervalEnd z => Sys2Proof.Machine.execIntervalEnd z s
  | .ampfault z asserted => Sys2Proof.Machine.execAmpfault z asserted s
  | .ampenRelease z => Sys2Proof.Machine.execAmpenRelease z s
  | .storeBase z => Sys2Proof.Machine.execStoreBase z s
  | .clearBase z => Sys2Proof.Machine.execClearBase z s
  | .ampReset z => Sys2Proof.Machine.execAmpReset z s
  | .holdTimeout z => Sys2Proof.Machine.execHoldTimeout z s
  | .spanRequest z v => Sys2Proof.Machine.execSpanRequest z v s
  | .spanSwitch z => Sys2Proof.Machine.execSpanSwitch z s
  | .cmok z => Sys2Proof.Machine.execCmok z s
  | .unmute z => Sys2Proof.Machine.execUnmute z s
  | .mute z v => Sys2Proof.Machine.execMute z v s
  | .clrnAssert z => Sys2Proof.Machine.execClrnAssert z s
  | .clrnRelease z sub => Sys2Proof.Machine.execClrnRelease z sub s
  | .clrCrossFade z => Sys2Proof.Machine.execClrCrossFade z s
  | .burst z => Sys2Proof.Machine.execBurst z s
  | .pilotRequest z v => Sys2Proof.Machine.execPilotRequest z v s
  | .slip z phase => Sys2Proof.Machine.execSlip z phase s
  | .tdmLock z phase => Sys2Proof.Machine.execTdmLock z phase s
  | .tdmCfg z v => Sys2Proof.Machine.execTdmCfg z v s
  | .linkBreak => Sys2Proof.Machine.execLinkBreak s
  | .frameReceived f => Sys2Proof.Machine.execFrameReceived f s
  | .timeout => Sys2Proof.Machine.execTimeout s
  | .transmitFrame o => Sys2Proof.Machine.execTransmitFrame o s
  | .write f => Sys2Proof.Machine.execWrite f s
  | .read f => Sys2Proof.Machine.execRead f s
  | .pingCompat f => Sys2Proof.Machine.execPingCompat f s
  | .wakeEdge lsw lowFor4us => Sys2Proof.Machine.execWakeEdge lsw lowFor4us s
  | .sgArm v => Sys2Proof.Machine.execSgArm v s
  | .sgDisarm => Sys2Proof.Machine.execSgDisarm s
  | .syncPulse syncLow => Sys2Proof.Machine.execSyncPulse syncLow s
  | .ping h => Sys2Proof.Machine.execPing h s
  | .ident h => Sys2Proof.Machine.execIdent h s
  | .regWrite h addr words => Sys2Proof.Machine.execRegWrite h addr words s
  | .regRead h addr count => Sys2Proof.Machine.execRegRead h addr count s
  | .voice h op zmask cls arg0 arg1 auth => Sys2Proof.Machine.execVoice h op zmask cls arg0 arg1 auth s
  | .eventPost h zmask entry auth => Sys2Proof.Machine.execEventPost h zmask entry auth s
  | .bulkWr h off data => Sys2Proof.Machine.execBulkWr h off data s
  | .bulkRd h off count => Sys2Proof.Machine.execBulkRd h off count s
  | .msgack h src mseq => Sys2Proof.Machine.execMsgack h src mseq s
  | .recordCreated src cls code params => Sys2Proof.Machine.execRecordCreated src cls code params s
  | .message => Sys2Proof.Machine.execMessage s
  | .messageResend => Sys2Proof.Machine.execMessageResend s
  | .hello h qh nh => Sys2Proof.Machine.execHello h qh nh s
  | .auth h hcert sigh => Sys2Proof.Machine.execAuth h hcert sigh s
  | .handshakeTimeout => Sys2Proof.Machine.execHandshakeTimeout s
  | .close h sid mac => Sys2Proof.Machine.execClose h sid mac s
  | .resumeSession h sid mac => Sys2Proof.Machine.execResumeSession h sid mac s
  | .status h => Sys2Proof.Machine.execStatus h s
  | .getcert h off count => Sys2Proof.Machine.execGetcert h off count s
  | .p0Check zmask item auth => Sys2Proof.Machine.execP0Check zmask item auth s
  | .nonceExpiry => Sys2Proof.Machine.execNonceExpiry s
  | .installOpk slot => Sys2Proof.Machine.execInstallOpk slot s
  | .revokeOpk slot => Sys2Proof.Machine.execRevokeOpk slot s
  | .setCek => Sys2Proof.Machine.execSetCek s
  | .setTgk => Sys2Proof.Machine.execSetTgk s
  | .installSt => Sys2Proof.Machine.execInstallSt s
  | .removeSt => Sys2Proof.Machine.execRemoveSt s
  | .setFloor => Sys2Proof.Machine.execSetFloor s
  | .setCfloor => Sys2Proof.Machine.execSetCfloor s
  | .genkey => Sys2Proof.Machine.execGenkey s
  | .provision => Sys2Proof.Machine.execProvision s
  | .takeOwner => Sys2Proof.Machine.execTakeOwner s
  | .lockField => Sys2Proof.Machine.execLockField s
  | .unlock => Sys2Proof.Machine.execUnlock s
  | .rma => Sys2Proof.Machine.execRma s
  | .rmaMaker => Sys2Proof.Machine.execRmaMaker s
  | .remake => Sys2Proof.Machine.execRemake s
  | .keyrec k => Sys2Proof.Machine.execKeyrec k s
  | .debugOpen test sig => Sys2Proof.Machine.execDebugOpen test sig s
  | .debugHalt z => Sys2Proof.Machine.execDebugHalt z s
  | .scrubPass z => Sys2Proof.Machine.execScrubPass z s
  | .borrow z marchFail yielded => Sys2Proof.Machine.execBorrow z marchFail yielded s
  | .correctedWriteBack z => Sys2Proof.Machine.execCorrectedWriteBack z s
  | .crcFeed u p size v => Sys2Proof.Machine.execCrcFeed u p size v s
  | .start u p => Sys2Proof.Machine.execStart u p s
  | .cur u p v => Sys2Proof.Machine.execCur u p v s
  | .nvmData wr => Sys2Proof.Machine.execNvmData wr s
  | .wdataRead z p => Sys2Proof.Machine.execWdataRead z p s
  | .clrcnt addr p => Sys2Proof.Machine.execClrcnt addr p s
  | .pgLock addr v => Sys2Proof.Machine.execPgLock addr v s
  | .rcRead addr p => Sys2Proof.Machine.execRcRead addr p s
  | .registerWrite addr p v => Sys2Proof.Machine.execRegisterWrite addr p v s
  | .deviceReset cause ta => Sys2Proof.Machine.execDeviceReset cause ta s
  | .brownOut cause => Sys2Proof.Machine.execBrownOut cause s
  | .vanaFail z => Sys2Proof.Machine.execVanaFail z s
  | .x32Check running => Sys2Proof.Machine.execX32Check running s
  | .sleepArm v => Sys2Proof.Machine.execSleepArm v s
  | .sleepEntry z => Sys2Proof.Machine.execSleepEntry z s
  | .wake c => Sys2Proof.Machine.execWake c s
  | .zvaInRegulation z => Sys2Proof.Machine.execZvaInRegulation z s
  | .ovlClear z n => Sys2Proof.Machine.execOvlClear z n s
  | .debugHaltEnd z e => Sys2Proof.Machine.execDebugHaltEnd z e s
  | .zslowEdge z a b => Sys2Proof.Machine.execZslowEdge z a b s
  | .avharClockReturn => Sys2Proof.Machine.execAvharClockReturn s
  | .tempInRange => Sys2Proof.Machine.execTempInRange s
  | .clkmon => Sys2Proof.Machine.execClkmon s
  | .vglitch => Sys2Proof.Machine.execVglitch s
  | .temp => Sys2Proof.Machine.execTemp s
  | .puf => Sys2Proof.Machine.execPuf s
  | .shield => Sys2Proof.Machine.execShield s
  | .ready => Sys2Proof.Machine.execReady s
  | .slept => Sys2Proof.Machine.execSlept s
  | .kill => Sys2Proof.Machine.execKill s

end Sys2Proof.Machine
end

