-- ==== Sys2Proof/Safety.lean ====
section
/-! DEFINITION. What counts as a safe run, and the words in which claims about the device are made: the canonical form of its
memories, the legal host complex, a command that completes, and what it leaves alone. -/

namespace Sys2Proof.Machine

/-- The canonical form of a memory of bytes: addresses rising, no listed byte 0. -/
def byWf (m : Bytes) : Bool := smWf (fun _ => (0 : Byte)) 0 m

/-- The canonical form of a memory of 72-bit words. -/
def m72Wf (m : Mem72) : Bool := smWf (fun _ => (0 : W72)) 0 m

/-- The registers of a zone are in canonical form. -/
def Zone.regsWf (z : Zone) : Bool := smWf zoneRst 0 z.regs

/-- The registers of the host complex are in canonical form. -/
def HostC.regsWf (h : HostC) : Bool := smWf hostRst 0 h.regs

/-- The memories of a zone are in canonical form. -/
def Zone.memWf (z : Zone) : Bool :=
  m72Wf z.vox.battA && m72Wf z.vox.battB && m72Wf z.route.batA && m72Wf z.route.batB && m72Wf z.cache.mem &&
    m72Wf z.dsp.prog && m72Wf z.dsp.data && m72Wf z.dsp.parA && m72Wf z.dsp.parB && m72Wf z.dsp.dly &&
    smWf (fun _ => false) 0 z.dsp.stale && smWf (fun _ => (0 : Nat)) 0 z.mem.marks

/-- The memories of the host complex are in canonical form: MRAM, content flash, bulk buffer. -/
def HostC.memWf (h : HostC) : Bool := byWf h.nvm.mem && byWf h.cont.flash && byWf h.proto.bulk

/-- A legal host complex: canonical memories, the next fault-log entry one of the 8192 (R359), a power state that Table
19-10 names and the device can be in between two commands. -/
def HostC.legal (h : HostC) : Bool := h.memWf && decide (h.nvm.flog < 8192) && decide (h.pwr.pstate ≤ 2)

/-- Every memory and every register map of the device is in canonical form. -/
def State.wf (s : State) : Bool :=
  s.zones.toList.all (fun (z : Zone) => z.regsWf && z.memWf) && s.host.regsWf && s.host.memWf

/-- A command completes from a state, and P holds of the state it leaves. -/
def Completes (c : Instr) (s : State) (P : State → Prop) : Prop := ∃ t : State, exec c s = .next t ∧ P t

/-- A safe step: the device goes on, with a legal host complex. -/
def SafeStep (s : State) : Prop := ∃ t : State, step s = .next t ∧ t.host.legal = true

/-- The host complex has taken every notice of the zone: what every command leaves. -/
abbrev Told (z : Zone) : Prop :=
  z.gov.baseReq = none ∧ z.sched.devRep = none ∧ z.sched.p0prot = 0 ∧ z.vox.ans = none

/-- The device is not entering sleep (R389), no voice command of host software waits in the zone (R150), and the device is as every
command leaves it: the zone's notices taken, memories and registers in canonical form. -/
abbrev Calm (s : State) (i : ZoneId) : Prop :=
  s.host.pwr.pstate ≠ 1 ∧ Told s.zones[i] ∧ s.wf = true ∧ s.zones[i].vox.hostq = []

/-- Nothing but the command acts: the zone is calm, and no amplifier fault stands in it (R252). -/
abbrev Quiet (s : State) (i : ZoneId) : Prop := s.zones[i].gov.ampFlt = false ∧ Calm s i

/-- A zone after what has happened to it, in which nothing is left to settle: no amplifier fault to judge (R252), no voice
command to answer (R308), no baseline to load on leaving INIT (R253). -/
abbrev Settled (old z : Zone) : Prop :=
  z.gov.ampFlt = false ∧ z.vox.hostq = [] ∧ (old.ctl.st ≠ .init ∨ z.ctl.st = .init ∨ z.ctl.st = .off)

/-- Every zone is quiet and in none does link silence stand: an event that every zone sees changes none of them (R22). -/
abbrev AllQuiet (s : State) : Prop := ∀ j : ZoneId, Quiet s j ∧ s.zones[j].ctl.orphan = false

/-- Nothing waits at the protocol engine, and the host complex runs: a command of the link executes at once (R312, R392). Memories
and registers are in canonical form. -/
abbrev LinkFree (s : State) : Prop :=
  s.wf = true ∧ s.host.proto.vwait = none ∧ s.host.proto.wait = [] ∧ s.host.pwr.pstate ≠ 2

/-- The device once a valid frame has been handed over in mode m at rate code c, after g glitches and e framing errors: the mode is
locked, link silence is over, the rate is that of the receiver and, with AUTORATE, of the transmitter (R287, R292, R293). -/
def State.heardIn (s : State) (m c g e : Nat) : State :=
  let h := (s.host.count Reg.LINK_COUNT 31 24 g).linkErr Reg.LINK_COUNT 23 16 e 0
  { s with host := { h with link := { h.link with
    silence := 0, lmode := m, rx := c, heard := some c, tx := if bit (s.host.reg Reg.LINK_CFG) 29 || s.host.link.slow then c else s.host.link.tx } } }

/-- A compatibility frame that the device answers (R285–R289, R299, R300): LSW is heard, the frame is of its TA and in a rate that it
takes, its CHK is right, and the answer meets no collision. -/
abbrev CompatTaken (s : State) (f : CompatFrame) (cmd c : Nat) : Prop :=
  s.host.hearsCompat = true ∧ f.data.length ≤ 64 ∧ s.host.lswRate f = some c ∧ f.dir = false ∧ f.ta = s.host.link.ta ∧
    compatBytes f.ta false cmd f.data = (compatBytes f.ta false cmd f.data).dropLast ++ [f.chk] ∧ f.collision = false

/-- The device with an answer sent on LSW (R300). -/
def State.lswSent (s : State) (cmd : Nat) (d : List Byte) : State :=
  { s with host := { s.host with link := { s.host.link with lsw := compatBytes s.host.link.ta true cmd d } } }

/-- A native frame that reaches the checks of its address (R285–R291): LRXD is heard, its rate is taken, IDENT has odd parity and
CHECK is right. -/
abbrev FrameTaken (s : State) (f : RxFrame) (c : Nat) : Prop :=
  s.host.hearsNative = true ∧ s.host.pwr.pstate ≠ 2 ∧ f.payload.length ≤ 255 ∧ s.host.rxRate f = some c ∧
    ones f.ident % 2 = 1 ∧ f.check = checkOf f.ident f.payload

/-- The device with a frame's CHECK in LAST_RX and its reception ended. -/
def State.received (s : State) (f : RxFrame) : State :=
  { s with host := { s.host with link := { s.host.link with rxBusy := false, lastRx := f.check } } }

/-- The device with one more command held for its turn (R312). -/
def State.holds (s : State) (x : Held) : State :=
  { s with host := { s.host with proto := { s.host.proto with held := s.host.proto.held ++ [x] } } }

/-- Every register but those listed holds the same word in two zones. -/
abbrev RegsBut (l : List Nat) (a b : Zone) : Prop := ∀ k : Nat, k ∉ l → b.reg k = a.reg k

/-- Every other zone, and the queue, is as before. -/
abbrev OnlyZone (i : ZoneId) (s t : State) : Prop := (∀ j : ZoneId, j ≠ i → t.zones[j] = s.zones[j]) ∧ t.pending = s.pending

/-- The host complex is as before, but for the outcome of the last register access. -/
abbrev SameHost (s t : State) : Prop := { t.host with bus := s.host.bus } = s.host

/-- Every other zone, the queue and the host complex are as before. -/
abbrev Lone (i : ZoneId) (s t : State) : Prop := OnlyZone i s t ∧ SameHost s t

/-- Every zone, and the queue, is as before. -/
abbrev NoZone (s t : State) : Prop := t.zones = s.zones ∧ t.pending = s.pending

/-- The zone takes register accesses of pages beyond FENCE (R307), and neither party's lock stands on the page (R372,
R210). -/
abbrev Grants (z : Zone) (p : Party) (off : Nat) : Prop :=
  z.ctl.st ≠ .off ∧ z.ctl.st ≠ .fenced ∧ (if p = .host then z.lockH (pageOf off) = false else z.bridgeDenies off = false)

/-- What a register access of a party costs the zone: the bridge's 6 cycles for the zone program, nothing for host software
(R201, R210). -/
def Zone.cost (z : Zone) (p : Party) : Zone := match p with | .host => z | .prog => z.dspHold 6

/-- A party's write can meet no write of the other in its cycle (R356). -/
abbrev Alone (s : State) (i : ZoneId) (p : Party) (off : Nat) : Prop := p = .host ∨ s.zones[i].mayMeet s.host off = false

/-- A host page without LOCK_H (R372). -/
abbrev HostOpen (s : State) (page : Nat) : Prop := bit (s.host.reg (page + 0x018)) 0 = false

/-- What every fence leaves (R15, R16): the state, CAUSE, FIRST and FIRST_FRAME, the output at zero, the voices released, the
queue kept, time and position as they were. -/
def FenceLeaves (causes : Nat) (z z' : Zone) : Prop :=
  z'.ctl.st = .fenced ∧ z'.reg Reg.FENCE_CAUSE = BitVec.ofNat 32 causes ∧
    z'.reg Reg.FENCE_FIRST = BitVec.ofNat 32 ((causeList causes).headD 0 + 1) ∧
    z'.reg Reg.FENCE_FIRST_FRAME = BitVec.extractLsb' 0 32 z.time.frame ∧ z'.out.mu = 0 ∧
    z'.voices = z.voices.map Voice.toFree ∧ z'.sched.queue = z.sched.queue ∧ z'.time = z.time ∧ z'.pos = z.pos ∧
    z'.tmr = z.tmr ∧ z'.dsp.prog = z.dsp.prog ∧ z'.route.batA = z.route.batA

/-- A saturating count field of a register has grown by n. -/
def Counted (k hi lo n : Nat) (z z' : Zone) : Prop :=
  fld (z'.reg k) hi lo = min (2 ^ (hi + 1 - lo) - 1) (fld (z.reg k) hi lo + n)

/-- The same in the host complex. -/
def HCounted (k hi lo n : Nat) (h h' : HostC) : Prop :=
  fld (h'.reg k) hi lo = min (2 ^ (hi + 1 - lo) - 1) (fld (h.reg k) hi lo + n)

/-- Every host register but those listed holds the same word. -/
abbrev HRegsBut (l : List Nat) (a b : HostC) : Prop := ∀ k : Nat, k ∉ l → b.reg k = a.reg k

/-- A zone register whose RW bits m have been written with v. -/
def Zone.stores (z : Zone) (k : Nat) (m v : Word) : Zone := z.setReg k ((z.reg k &&& ~~~m) ||| (v &&& m))

/-- The zone answers a read of a page beyond FENCE (R18, R307). -/
abbrev Answers (z : Zone) : Prop := z.ctl.st ≠ .off ∧ z.covered = false

/-- No swap of a page is pending and no copy of it runs. -/
abbrev Idle (z : Zone) (p : Fin 6) : Prop := z.swaps[p].pend = false ∧ z.swaps[p].copying = false

/-- A swap of page p has been armed for a tick, with or without a copy; no other page is touched. -/
def Armed (z z' : Zone) (p : Fin 6) (copy : Bool) (at0 : BitVec 32 → Prop) : Prop :=
  z'.swaps[p].pend = true ∧ z'.swaps[p].copy = copy ∧ z'.swaps[p].owned = false ∧ z'.swaps[p].active = z.swaps[p].active ∧
    z'.swaps[p].copying = false ∧ at0 z'.swaps[p].target ∧ ∀ q : Fin 6, q ≠ p → z'.swaps[q] = z.swaps[q]

/-- The tick nearest to the present one whose low 24 bits are TGT (R54). -/
def NearTick (z : Zone) (tgt : BitVec 24) (t : BitVec 32) : Prop :=
  BitVec.extractLsb' 0 24 t = tgt ∧ -(2 ^ 23) ≤ tickDist t z.tick ∧ tickDist t z.tick < 2 ^ 23

/-- Voices other than v are as before. -/
abbrev OnlyVoice (v : Fin 96) (z z' : Zone) : Prop := ∀ w : Fin 96, w ≠ v → z'.voices[w] = z.voices[w]

/-- Every word of a memory but those listed holds the same value. -/
abbrev MemBut (l : List Nat) (a b : Mem72) : Prop := ∀ k : Nat, k ∉ l → m72Get b k = m72Get a k

/-- Every byte of a memory outside n bytes from an address holds the same value. -/
abbrev BytesBut (lo n : Nat) (a b : Bytes) : Prop := ∀ k : Nat, k < lo ∨ lo + n ≤ k → byGet b k = byGet a k

/-- A bundle without effects of its own has passed at PC (R201): results whose latency has run have landed, RDACC, STS and STG
read the accumulators as they stood, CYCLE has counted it, and PC has gone on. -/
def ZDsp.passed (d : ZDsp) : ZDsp := ({ d.tickRes with accOld := d.acc, cycle := d.cycle + 1 } : ZDsp).next

/-- An access to delay or data memory has waited at most two cycles for round robin: CYCLE, STALLS and the memory's CONF have
counted them; how many is free (R201, R347–R349). -/
def Waited (z z' : Zone) : Prop :=
  ∃ k : Fin 3, z' = { (z.dspStall k.val).count (Reg.MEM_CONF 3) 31 0 k.val with draws := z.draws + 1 }

/-- What a bundle wrote: the value v in the register that a name denoted at issue, at once for the next bundle; every other
register has taken what was due to land. -/
def Wrote (z z' : Zone) (name : Fin 64) (v : W72) : Prop :=
  z'.dsp.g[z.dsp.phys name] = v ∧ (∀ n : Fin 64, n ≠ z.dsp.phys name → z'.dsp.g[n] = z.dsp.tickRes.g[n])

/-- A bundle changes the DSP, the fault flags of its page and, where it reports, the messages; nothing else of the device. -/
abbrev DspOnly (i : ZoneId) (s t : State) : Prop :=
  { t.zones[i] with dsp := s.zones[i].dsp, regs := s.zones[i].regs, msgs := s.zones[i].msgs } = s.zones[i] ∧
    RegsBut [0x300C, Reg.MSG_DROPPED] s.zones[i] t.zones[i] ∧ OnlyZone i s t

/-- A MAC slot leaves n in the accumulator a. -/
def MacLeaves (i : ZoneId) (s : State) (a : Fin 4) (n : AccSt) (t : State) : Prop :=
  t.zones[i].dsp = { s.zones[i].dsp.passed with acc := s.zones[i].dsp.acc.set a n } ∧
    ((n.aov = true ∧ s.zones[i].dsp.acc[a].aov = false) → bit (t.zones[i].reg 0x300C) 0 = true) ∧
    ((n.lost = true ∧ s.zones[i].dsp.acc[a].lost = false) → bit (t.zones[i].reg 0x300C) 1 = true) ∧ DspOnly i s t

/-- The fields of an ALU slot with operands d, s and x, and of one with an immediate (Table 10-2). -/
def aluOf (g : Fin 16) (d s : Fin 64) (x : Fin 8) : AluF := ⟨g, BitVec.ofNat 15 (d.val * 512 + s.val * 8 + x.val)⟩
def aluImm (g : Fin 16) (d : Fin 64) (m : BitVec 9) : AluF := ⟨g, BitVec.ofNat 15 (d.val * 512 + m.toNat)⟩

/-- An ALU slot leaves v in the register d, visible to the next bundle; sat: its result saturated (R80, R199). -/
def AluLeaves (i : ZoneId) (s : State) (d : Fin 64) (v : W72) (sat : Bool) (t : State) : Prop :=
  Wrote s.zones[i] t.zones[i] d v ∧
    t.zones[i].dsp = { s.zones[i].dsp.passed with g := t.zones[i].dsp.g, sat := s.zones[i].dsp.sat || sat } ∧
    (sat = true → bit (t.zones[i].reg 0x300C) 2 = true) ∧ DspOnly i s { t with zones := t.zones.set i { t.zones[i] with draws := s.zones[i].draws } } ∧
    (sat = false → { t.zones[i] with dsp := s.zones[i].dsp } = s.zones[i] ∧ Lone i s t)

/-- A bundle changes the DSP as said, and nothing else of the device. -/
abbrev DspIs (i : ZoneId) (s : State) (d : ZDsp) (t : State) : Prop := t.zones[i] = { s.zones[i] with dsp := d } ∧ Lone i s t

/-- The same with an access's wait. -/
abbrev DspWaits (i : ZoneId) (s : State) (d : ZDsp) (t : State) : Prop :=
  Waited { s.zones[i] with dsp := d } t.zones[i] ∧ Lone i s t

/-- The zone that a command is about, for the commands that are about one. The boundaries (boundaryOf), RECORD_CREATED, whose source
need be no zone, and SLEEP_ENTRY, which may end the entry for all zones (R389), are not among them. -/
def zoneOf (c : Instr) : Option ZoneId :=
  match c with
  | .enable z | .disable z | .resetWarm z | .resetCold z | .run z | .resume z | .fence z | .recover z | .initComplete z
  | .initSlow z | .testComplete z _ _ | .wdog z | .wdogKick z _ _ | .wdogWrite z _ | .trapBucketLeak z | .router z
  | .regulatorTrip z _ _ | .orphan z | .hcloss z | .frefEdge z _ _ _ | .holdover z _
  | .holdoverLimit z | .slewComplete z | .frefRate z _ | .epochArm z _ | .epochDisarm z | .loadEdge z
  | .tachEdge z _ _ _ | .standstill z | .stale z | .setpos z _ | .setvel z _ | .hcmdApply z | .posMode z _
  | .periodEnd z _ | .tmrNext z _ _ | .tmrCtl z _ _ | .forceEnd z _ | .latchRead z _ _ | .armAtTgt z _ _ | .armNext z _
  | .armAtTgtCopy z _ _ | .armNextCopy z _ | .disarm z _ | .copyDone z _ | .swapset z _ _ | .post z | .cancel z _
  | .flush z | .vstart z _ _ _ _ _ | .vrel z _ _ | .vkill z _ _ | .vctl z _ _ _ | .retrig z _ _ _ | .swap z _ _ _
  | .mode z _ _ _ | .msg z _ _ | .gain z _ _ | .handler z _ _ | .presetCopy z _ | .successorStart z _
  | .vwinDataWrite z _ _ | .vwinDataRead z _ | .unfence z | .validate z | .spliceWindowEnd z | .greqLo z _ | .gramp z _
  | .stoneCfg z _ | .overrun z | .macMnop z _ | .mpy z _ | .mac z _ | .msu z _ | .gmpy z _ | .gmac z _ | .dmpy z _
  | .dmac z _ | .dmac2 z _ | .wmpy z _ | .wmac z _ | .wgmac z _ | .ald z _ | .aadd z _ | .asub z _ | .aclr z _
  | .anop z _ | .mov z _ | .add z _ | .sub z _ | .neg z _ | .abs z _ | .min z _ | .max z _ | .and z _ | .or z _
  | .xor z _ | .shra z _ | .shra8 z _ | .shl z _ | .ldi z _ | .ldis z _ | .cmpeq z _ | .cmplt z _ | .cmple z _
  | .rdacc z _ | .sts z _ | .stg z _ | .fclr z _ | .hmov z _ | .br z _ | .loop z _ | .endRoutine z _ | .memMnop z _
  | .ldw z _ | .stw z _ | .lde z _ | .ste z _ | .tap z _ | .ioRead z _ | .ioWrite z _ | .pts z _ | .dspRun z _
  | .dwinDataWrite z _ _ | .dwinDataRead z _ | .rwinDataWrite z _ _ | .rwinDataRead z _ | .ovl z _ | .srst z _
  | .cdataLo z _ _ | .cdataHi z _ | .freq z _ _ | .crossFadeEnd z _ | .aecInstant z | .dtHoldEnd z _ | .erleWindow z _
  | .checkpoint z _ | .clra z | .clrb z | .btickRead z _ | .intervalEnd z | .ampfault z _ | .ampenRelease z
  | .storeBase z | .clearBase z | .ampReset z | .holdTimeout z | .spanRequest z _ | .spanSwitch z | .cmok z | .unmute z
  | .mute z _ | .clrnAssert z | .clrnRelease z _ | .clrCrossFade z | .burst z | .pilotRequest z _ | .slip z _
  | .tdmLock z _ | .tdmCfg z _ | .debugHalt z | .scrubPass z | .borrow z _ _ | .correctedWriteBack z | .wdataRead z _
  | .vanaFail z | .zvaInRegulation z | .ovlClear z _ | .debugHaltEnd z _ => some z
  | _ => none

/-- The zone of a boundary. The ticks of the lowest zone that is not in OFF also count the time that the records of every zone have
waited for MSGACK (R319, assumption 8), and at a boundary the commands of the link that have waited for a zone's window go on
(R312). -/
def boundaryOf (c : Instr) : Option ZoneId :=
  match c with
  | .frameBoundary z _ | .tickBoundary z | .zslowEdge z _ _ => some z
  | _ => none

/-- A write of ZCTL.CMD of zone i, or of that register in every zone (R376), with one of the operations of a list (Table 1-6). -/
def OrderWord (ops : List Nat) (i : ZoneId) (a : Nat) (v : Word) : Prop :=
  (a = zoneAddr i Reg.ZCTL_CMD ∨ a = 0x180000 + Reg.ZCTL_CMD) ∧ fld v 15 8 = 0xA5 ∧ fld v 3 0 ∈ ops

/-- A command that writes ZCTL.CMD of zone i with one of the operations of a list. -/
def Orders (ops : List Nat) (i : ZoneId) (c : Instr) : Prop :=
  match c with
  | .enable z => z = i ∧ 1 ∈ ops
  | .disable z => z = i ∧ 2 ∈ ops
  | .resetWarm z => z = i ∧ 3 ∈ ops
  | .resetCold z => z = i ∧ 4 ∈ ops
  | .run z => z = i ∧ 5 ∈ ops
  | .resume z => z = i ∧ 6 ∈ ops
  | .fence z => z = i ∧ 7 ∈ ops
  | .recover z => z = i ∧ 8 ∈ ops
  | .registerWrite a p v => p = .host ∧ OrderWord ops i a.toNat v
  | .regWrite _ a ws => ∃ k : Fin 60, OrderWord ops i (burstAddr a k.val) (ws.getD k.val 0)
  | .write f => ∃ k : Fin 60, OrderWord ops i (burstAddr (compatAddr f.data) k.val)
      ((wordsOf ((f.data.length - 3) / 4) (f.data.drop 3)).getD k.val 0)
  | _ => False

/-- An order that a command gives, or one that has waited for its turn to execute (R312). -/
def OrdersNow (ops : List Nat) (i : ZoneId) (c : Instr) (s : State) : Prop :=
  Orders ops i c ∨ ∃ w ∈ s.host.proto.wait, Orders ops i w

/-- A device reset (R381, R385). -/
def DeviceResets (c : Instr) : Prop :=
  match c with
  | .deviceReset _ _ => True
  | .brownOut _ => True
  | _ => False

end Sys2Proof.Machine
end

