-- ==== Sys2Proof/WellFormed.lean ====
section
/-! DEFINITION. Which commands can reach the device: the operands whose length a frame's LEN, a body of Table 15-2, a record's
PLEN or a rail's name bounds. Every other operand takes every value of its type. -/

namespace Sys2Proof

/-- AUTH data that a frame with room for so many token bytes carries (R304, R309). -/
def Auth.fits (room : Nat) (a : Auth) : Bool :=
  match a with
  | .none => true
  | .standing _ => true
  | .other _ => true
  | .inline t => decide (t.length ≤ room)

/-- The check of a command's operands; a row that is not named has no operand to check. -/
def wellFormed (i : Instr) : Bool :=
  match i with
  | .frameReceived f => decide (f.payload.length ≤ 255)
  | .write f => decide (f.data.length ≤ 255)
  | .read f => decide (f.data.length ≤ 255)
  | .pingCompat f => decide (f.data.length ≤ 255)
  | .regWrite _ _ ws => decide (1 ≤ ws.length ∧ ws.length ≤ 60)
  | .voice _ _ _ _ _ _ a => a.fits 241
  | .eventPost _ _ _ a => a.fits 219
  | .bulkWr _ _ d => decide (d.length ≤ 252)
  | .recordCreated _ _ _ p => decide (p.length ≤ 32)
  | .hello _ qh nh => decide (qh.length = 64 ∧ nh.length = 16)
  | .auth _ hcert sigh => decide (hcert.length = 136 ∧ sigh.length = 64)
  | .close _ _ mac => decide (mac.length = 8)
  | .resumeSession _ _ mac => decide (mac.length = 8)
  | .p0Check _ _ a => a.fits 241
  | .debugOpen _ sig => decide (sig.length = 64)
  | .brownOut c => decide (c ≠ .por ∧ c ≠ .resetn)
  | _ => true

/-- A command that can reach the device. -/
def WellFormed (i : Instr) : Prop := wellFormed i = true

end Sys2Proof
end

