-- ==== Sys2Proof/Certificates/Slice0/Obligations.lean ====
section
/-! DEFINITION. The statements about the device: what each command does, from the numbered rules of spec/, and what every
command keeps. The words they use are those of Sys2Proof/Safety.lean. -/

open Sys2Proof Sys2Proof.Machine

/-! Zone states, fences, watchdog (chapter 1). -/

/-- ENABLE, DISABLE, RESET_WARM, RESET_COLD (R6, R10, R11): the state each leads to, what a start clears and what it leaves: a
zone-local reset leaves FRAME, the position (but for FRAC, which ZSLOW holds at 0, R50) and the timers. -/
def Obligations.StartAndStop : Prop :=
  ∀ (s : State) (i : ZoneId), Quiet s i →
    (s.zones[i].ctl.st = .off → s.zones[i].pwr.vanaGood = true → s.host.lcs.st ≠ 5 →
      Completes (.enable i) s (fun t => t.zones[i].ctl.st = .init ∧ t.zones[i].ctl.warm = false ∧
        t.zones[i].sched.queue = [] ∧ t.zones[i].reg Reg.FENCE_CAUSE = 0 ∧ t.zones[i].vox.battA = [] ∧
        t.zones[i].route.batA = [] ∧ t.zones[i].dsp.prog = [] ∧ OnlyZone i s t)) ∧
    (s.zones[i].ctl.st ≠ .off →
      Completes (.disable i) s (fun t => t.zones[i].ctl.st = .off ∧ t.zones[i].pll.lock = false ∧ t.zones[i].time.est = true ∧
        t.zones[i].time.frame = s.zones[i].time.frame ∧ t.zones[i].pos = { s.zones[i].pos with frac := 0 } ∧ OnlyZone i s t)) ∧
    (s.zones[i].ctl.st ≠ .off →
      Completes (.resetWarm i) s (fun t => t.zones[i].ctl.st = .init ∧ t.zones[i].ctl.warm = true ∧
        t.zones[i].sched.queue = [] ∧ t.zones[i].reg Reg.FENCE_CAUSE = 0 ∧ t.zones[i].time.frame = s.zones[i].time.frame ∧
        { t.zones[i].pos with frac := s.zones[i].pos.frac } = s.zones[i].pos ∧ t.zones[i].tmr = s.zones[i].tmr ∧
        (s.zones[i].badKept = false → t.zones[i].vox.battA = s.zones[i].vox.battA ∧
          t.zones[i].route.batA = s.zones[i].route.batA ∧ t.zones[i].dsp.prog = s.zones[i].dsp.prog) ∧ OnlyZone i s t)) ∧
    (s.zones[i].ctl.st ≠ .off →
      Completes (.resetCold i) s (fun t => t.zones[i].ctl.st = .init ∧ t.zones[i].ctl.warm = false ∧
        t.zones[i].sched.queue = [] ∧ t.zones[i].reg Reg.FENCE_CAUSE = 0 ∧ t.zones[i].time.frame = s.zones[i].time.frame ∧
        { t.zones[i].pos with frac := s.zones[i].pos.frac } = s.zones[i].pos ∧ t.zones[i].tmr = s.zones[i].tmr ∧ t.zones[i].vox.battA = [] ∧
        t.zones[i].route.batA = [] ∧ t.zones[i].dsp.prog = [] ∧ OnlyZone i s t))

/-- RUN in TEST, RESUME in HOLD without orphan or host-complex loss, RECOVER of a fenced zone whose causes have cleared (R6,
R25). -/
def Obligations.RunResumeRecover : Prop :=
  ∀ (s : State) (i : ZoneId), Quiet s i →
    (s.zones[i].ctl.st = .test →
      Completes (.run i) s (fun t =>
        t.zones[i] = { s.zones[i] with ctl := { s.zones[i].ctl with runHeld := true } } ∧ Lone i s t)) ∧
    (s.zones[i].ctl.st = .hold → s.zones[i].ctl.orphan = false → s.zones[i].ctl.hcloss = false →
      Completes (.resume i) s (fun t =>
        t.zones[i] = { s.zones[i] with ctl := { s.zones[i].ctl with resume := true } } ∧ Lone i s t)) ∧
    (s.zones[i].ctl.st = .fenced → s.zones[i].causesClear = true →
      Completes (.recover i) s (fun t => t.zones[i].ctl = { s.zones[i].ctl with st := .recover } ∧
        t.zones[i].time = s.zones[i].time ∧ t.zones[i].pos = s.zones[i].pos ∧ t.zones[i].sched = s.zones[i].sched ∧
        t.zones[i].reg Reg.FENCE_CAUSE = s.zones[i].reg Reg.FENCE_CAUSE ∧ OnlyZone i s t))

/-- A command of ZCTL.CMD that has no effect is counted in FENCE.COUNT.REJ and changes nothing else (R6): ENABLE outside OFF,
DISABLE and the resets in OFF, RUN outside TEST, RESUME outside HOLD, FENCE in OFF and FENCED, RECOVER outside FENCED. -/
def Obligations.RejectedCommandsCounted : Prop :=
  ∀ (s : State) (i : ZoneId) (c : Instr), Quiet s i →
    ((c = .enable i ∧ s.zones[i].ctl.st ≠ .off) ∨ (c = .disable i ∧ s.zones[i].ctl.st = .off) ∨
      (c = .resetWarm i ∧ s.zones[i].ctl.st = .off) ∨ (c = .resetCold i ∧ s.zones[i].ctl.st = .off) ∨
      (c = .run i ∧ s.zones[i].ctl.st ≠ .test) ∨ (c = .resume i ∧ s.zones[i].ctl.st ≠ .hold) ∨
      (c = .fence i ∧ (s.zones[i].ctl.st = .off ∨ s.zones[i].ctl.st = .fenced)) ∨
      (c = .recover i ∧ s.zones[i].ctl.st ≠ .fenced)) →
    Completes c s (fun t => fld (t.zones[i].reg Reg.FENCE_COUNT) 31 16 =
        min 0xFFFF (fld (s.zones[i].reg Reg.FENCE_COUNT) 31 16 + 1) ∧
      fld (t.zones[i].reg Reg.FENCE_COUNT) 15 0 = fld (s.zones[i].reg Reg.FENCE_COUNT) 15 0 ∧
      RegsBut [Reg.FENCE_COUNT] s.zones[i] t.zones[i] ∧ { t.zones[i] with regs := s.zones[i].regs } = s.zones[i] ∧ Lone i s t)

/-- FENCE, ROUTER, a failed test and a regulator trip fence a zone that is neither off nor fenced (R13, R15, R16, R20): the
causes are HOST, ROUTER, SELFTEST, REGC and REGA, of which no FENCE.EN bit can be cleared; a trip counts once the detectors are
armed (R21). -/
def Obligations.FenceEntry : Prop :=
  ∀ (s : State) (i : ZoneId), Quiet s i → s.zones[i].ctl.st ≠ .off → s.zones[i].ctl.st ≠ .fenced →
    Completes (.fence i) s (fun t => FenceLeaves 0x200 s.zones[i] t.zones[i] ∧ OnlyZone i s t) ∧
    Completes (.router i) s (fun t => FenceLeaves 0x020 s.zones[i] t.zones[i] ∧ OnlyZone i s t) ∧
    (s.zones[i].tripArmed = true → Completes (.regulatorTrip i true false) s (fun t => t.zones[i].ctl.st = .fenced ∧
      t.zones[i].reg Reg.FENCE_CAUSE = 0x040 ∧ t.zones[i].pwr.gated = true ∧ t.zones[i].pll.lock = false ∧
      t.zones[i].time.frame = s.zones[i].time.frame ∧ OnlyZone i s t)) ∧
    (s.zones[i].tripArmed = true → Completes (.regulatorTrip i false true) s (fun t => FenceLeaves 0x080 s.zones[i] t.zones[i] ∧
      t.zones[i].pwr.pinHold = true ∧ OnlyZone i s t)) ∧
    (s.zones[i].ctl.st = .test → s.zones[i].ctl.testsOk = false → ∀ ladder : Bool,
      Completes (.testComplete i true ladder) s (fun t => t.zones[i].ctl.st = .fenced ∧
        t.zones[i].reg Reg.FENCE_CAUSE = 0x100 ∧ t.zones[i].ctl.marchFail = true ∧ OnlyZone i s t))

/-- INIT_COMPLETE with lock and CMOK enters TEST (R11, R12); INIT_SLOW after 500 ticks is sent once; TEST_COMPLETE without a
failure records that the tests have passed. -/
def Obligations.InitAndTest : Prop :=
  ∀ (s : State) (i : ZoneId), Quiet s i →
    (s.zones[i].ctl.st = .init → s.zones[i].pll.lock = true → s.zones[i].out.cmok = true →
      Completes (.initComplete i) s (fun t => t.zones[i].ctl.st = .test ∧ t.zones[i].ctl.testsOk = false ∧
        t.zones[i].time = s.zones[i].time ∧ t.zones[i].pos = s.zones[i].pos ∧ OnlyZone i s t)) ∧
    (s.zones[i].ctl.st = .init → s.zones[i].ctl.initSlow = false → 500 ≤ s.zones[i].ctl.initTicks →
      Completes (.initSlow i) s (fun t => t.zones[i].ctl = { s.zones[i].ctl with initSlow := true } ∧
        t.zones[i].msgs.nseq = s.zones[i].msgs.nseq + 1 ∧ RegsBut [Reg.MSG_DROPPED] s.zones[i] t.zones[i] ∧
        { t.zones[i] with ctl := s.zones[i].ctl, msgs := s.zones[i].msgs, regs := s.zones[i].regs } = s.zones[i] ∧
        OnlyZone i s t)) ∧
    (s.zones[i].ctl.st = .test → s.zones[i].ctl.testsOk = false →
      Completes (.testComplete i false false) s (fun t =>
        t.zones[i].ctl = { s.zones[i].ctl with marchFail := false, ladFail := false, testsOk := true } ∧
        t.zones[i].time = s.zones[i].time ∧ t.zones[i].sched = s.zones[i].sched ∧ OnlyZone i s t))

/-- The watchdog and the trap bucket (R13, R411): a period that has run out fences with cause WDOG if it is enabled and restarts;
a kick by the party that the period names restarts it; a write of WDOG with PERIOD 0 stops it and one that finds none running
starts it; a WINDOW of ticks takes 1 from the bucket. -/
def Obligations.WatchdogAndBucket : Prop :=
  ∀ (s : State) (i : ZoneId), Quiet s i →
    (s.zones[i].wdDue = true → bit (s.zones[i].reg Reg.FENCE_EN) 3 = true → s.zones[i].ctl.st ≠ .off →
      s.zones[i].ctl.st ≠ .fenced → s.zones[i].ctl.st ≠ .init →
      Completes (.wdog i) s (fun t => t.zones[i].ctl.st = .fenced ∧ t.zones[i].reg Reg.FENCE_CAUSE = 0x008 ∧
        t.zones[i].ctl.wdRun = 0 ∧ OnlyZone i s t)) ∧
    (s.zones[i].ctl.wdHost = true → s.zones[i].ctl.wdLen ≠ 0 →
      Completes (.wdogKick i .host 0x5A) s (fun t => t.zones[i] = { s.zones[i] with ctl := { s.zones[i].ctl with
          wdLen := fld (s.zones[i].reg Reg.ZCTL_WDOG) 15 0, wdHost := bit (s.zones[i].reg Reg.ZCTL_WDOG) 16, wdRun := 0 } } ∧
        Lone i s t)) ∧
    (∀ v : Word, fld v 15 0 = 0 →
      Completes (.wdogWrite i v) s (fun t => t.zones[i].ctl = { s.zones[i].ctl with wdLen := 0 } ∧
        t.zones[i].reg Reg.ZCTL_WDOG = v &&& 0x1FFFF ∧ RegsBut [Reg.ZCTL_WDOG] s.zones[i] t.zones[i] ∧ Lone i s t)) ∧
    (∀ v : Word, fld v 15 0 ≠ 0 → s.zones[i].ctl.wdLen = 0 →
      Completes (.wdogWrite i v) s (fun t => t.zones[i].ctl.wdLen = fld v 15 0 ∧ t.zones[i].ctl.wdHost = bit v 16 ∧
        t.zones[i].ctl.wdRun = 0 ∧ t.zones[i].reg Reg.ZCTL_WDOG = v &&& 0x1FFFF ∧
        RegsBut [Reg.ZCTL_WDOG] s.zones[i] t.zones[i] ∧ Lone i s t)) ∧
    (s.zones[i].leakWindow ≤ s.zones[i].ctl.leakTicks →
      Completes (.trapBucketLeak i) s (fun t => t.zones[i] = { s.zones[i] with ctl := { s.zones[i].ctl with
          bucket := s.zones[i].ctl.bucket - 1, leakTicks := s.zones[i].ctl.leakTicks - s.zones[i].leakWindow } } ∧ Lone i s t))

/-- Link silence beyond ORPHAN_TO and sixteen ticks without a heartbeat set the WHY bits, and take a zone in RUN with HOLD_EN
to HOLD (R22, R23). -/
def Obligations.OrphanAndHcloss : Prop :=
  ∀ (s : State) (i : ZoneId), Quiet s i →
    (s.zones[i].ctl.st = .run → s.zones[i].ctl.orphan = false → s.zones[i].orphanTo < s.host.link.silence →
      Completes (.orphan i) s (fun t => t.zones[i].ctl.orphan = true ∧
        t.zones[i].ctl.st = (if bit (s.zones[i].reg Reg.ZCTL_CFG) 3 then .hold else .run) ∧
        t.zones[i].time = s.zones[i].time ∧ t.zones[i].sched = s.zones[i].sched ∧ t.zones[i].voices = s.zones[i].voices ∧
        OnlyZone i s t)) ∧
    (s.zones[i].ctl.st = .run → s.zones[i].ctl.hcloss = false →
      Completes (.hcloss i) s (fun t => t.zones[i].ctl.hcloss = true ∧
        t.zones[i].ctl.st = (if bit (s.zones[i].reg Reg.ZCTL_CFG) 3 then .hold else .run) ∧
        t.zones[i].time = s.zones[i].time ∧ t.zones[i].sched = s.zones[i].sched ∧ t.zones[i].voices = s.zones[i].voices ∧
        OnlyZone i s t))

/-! Time and position (chapter 2). -/

/-- FRAME (R35, R37, R49, R52, R61): a frame boundary from the PLL adds 1; one whose tick boundary has run adds nothing; from
ZSLOW an edge adds the whole frames of the accumulator; a LOAD puts E. No command of the link waits for its turn. -/
def Obligations.FrameCounting : Prop :=
  ∀ (s : State) (i : ZoneId) (z : Zone), s.zones[i] = z → s.host.proto.wait = [] →
    (∀ inp, z.time.est = false → z.time.began = false → Completes (.frameBoundary i inp) s (fun t =>
      t.zones[i].time.frame = z.time.frame + 1 ∧ (∀ j, j ≠ i → t.zones[j].time.frame = s.zones[j].time.frame))) ∧
    (∀ inp, z.time.est = false → z.time.began = true → Completes (.frameBoundary i inp) s (fun t =>
      t.zones[i].time.frame = z.time.frame ∧ t.zones[i].time.began = false)) ∧
    (∀ inp, z.time.est = true → Completes (.frameBoundary i inp) s (fun t => t.zones = s.zones)) ∧
    (z.time.est = false → z.time.began = false → (z.time.frame + 1).toNat % 96 = 0 →
      Completes (.tickBoundary i) s (fun t => t.zones[i].time.frame = z.time.frame + 1 ∧ t.zones[i].time.began = true)) ∧
    (∀ a b, z.time.est = true → z.pll.hold = false → Completes (.zslowEdge i a b) s (fun t =>
      t.zones[i].time.frame = BitVec.ofNat 48 (z.time.frame.toNat + (z.time.slowAcc + 375) / 128) ∧
      t.zones[i].time.slowAcc = (z.time.slowAcc + 375) % 128 ∧ t.zones[i].time.est = true)) ∧
    (z.time.est = false → z.time.syncHi = true → z.pllRuns = true → z.pll.lock = true →
      bit (z.reg Reg.TIME_EPOCH_CTL) 0 = true → bit (z.reg Reg.TIME_EPOCH_CTL) 1 = false → Completes (.loadEdge i) s (fun t => t.zones[i].time.frame = z.epochE))

/-- FREF edges (R28–R30, R33, R37): the sixteenth valid edge with its error within 4 cycles locks by a step to the nearest
boundary whose number is a multiple of D, or from holdover begins the slew; an edge in lock moves nothing; one at which SYNC
has fallen is a load edge, which is counted where nothing is armed. -/
def Obligations.FrefEdges : Prop :=
  ∀ (s : State) (i : ZoneId) (z : Zone) (interval : Nat) (e : Int) (sync : Bool), s.zones[i] = z → Quiet s i → z.pllRuns = true →
    (z.pll.lock = true → (sync = true ∨ z.time.syncHi = false) → Completes (.frefEdge i interval e sync) s (fun t =>
      t.zones[i].pll.lock = true ∧ t.zones[i].pll.hold = z.pll.hold ∧ t.zones[i].pll.phase = satS 32 e ∧
      t.zones[i].time = { z.time with syncHi := if frefValid z.pll.rate interval then sync else z.time.syncHi } ∧
      { t.zones[i] with time := z.time, pll := z.pll } = z ∧ Lone i s t)) ∧
    (z.pll.lock = true → sync = false → z.time.syncHi = true → frefValid z.pll.rate interval = true → z.time.est = false →
      bit (z.reg Reg.TIME_EPOCH_CTL) 0 = false → Completes (.frefEdge i interval e sync) s (fun t =>
      t.zones[i].pll.lock = true ∧ t.zones[i].time = { z.time with syncHi := false } ∧
      Counted Reg.TIME_SYNC_CNT 31 16 1 z t.zones[i] ∧ RegsBut [Reg.TIME_SYNC_CNT] z t.zones[i] ∧
      { t.zones[i] with time := z.time, pll := z.pll, regs := z.regs } = z ∧ Lone i s t)) ∧
    (z.pll.lock = false → z.pll.hold = true → z.ctl.st ≠ .init → (sync = true ∨ z.time.syncHi = false) →
      z.pll.slewing = false → 15 ≤ z.pll.valid → frefValid z.pll.rate interval = true → Completes (.frefEdge i interval e sync) s (fun t =>
      t.zones[i].pll.lock = false ∧ t.zones[i].pll.hold = true ∧ t.zones[i].pll.slewing = true ∧ t.zones[i].pll.slewE = e ∧
      t.zones[i].time = { z.time with syncHi := sync } ∧ { t.zones[i] with time := z.time, pll := z.pll } = z ∧ Lone i s t)) ∧
    (z.pll.lock = false → z.pll.hold = false → (sync = true ∨ z.time.syncHi = false) → 15 ≤ z.pll.small →
      (e - z.pll.ref).natAbs ≤ 4 → frefValid z.pll.rate interval = true →
      Completes (.frefEdge i interval e sync) s (fun t =>
      t.zones[i].pll.lock = true ∧ t.zones[i].pll.hold = false ∧ t.zones[i].pll.slewing = false ∧
      t.zones[i].time.est = false ∧ t.zones[i].time.subf = 0 ∧
      (e ≤ 0 → t.zones[i].time.frame.toNat = z.time.frame.toNat / frefD z.pll.rate * frefD z.pll.rate) ∧
      (0 < e → t.zones[i].time.frame.toNat = if (z.time.frame.toNat / frefD z.pll.rate + 1) * frefD z.pll.rate < 2 ^ 48
        then (z.time.frame.toNat / frefD z.pll.rate + 1) * frefD z.pll.rate else 0) ∧
      t.zones[i].pos = z.pos ∧ t.zones[i].tmr = z.tmr ∧ t.zones[i].sched = z.sched ∧
      RegsBut [Reg.PLL_COUNT, Reg.TIME_STAT, Reg.MSG_DROPPED] z t.zones[i] ∧ OnlyZone i s t))

/-- Holdover, its limit, its end, and FREF_RATE (R30–R34). -/
def Obligations.Holdover : Prop :=
  ∀ (s : State) (i : ZoneId) (z : Zone), s.zones[i] = z → Quiet s i →
    (∀ elapsed : Nat, z.pllRuns = true → z.pll.lock = true → z.pll.slewing = false →
      3 * (frefD z.pll.rate * 7680) < elapsed * 2 → Completes (.holdover i elapsed) s (fun t =>
      t.zones[i].pll.hold = true ∧ t.zones[i].pll.lock = false ∧ t.zones[i].pll.frefOk = false ∧ t.zones[i].pll.holdTk = 0 ∧
      t.zones[i].time.free = true ∧ t.zones[i].time.frame = z.time.frame ∧ t.zones[i].time.est = z.time.est ∧
      Counted Reg.PLL_COUNT 31 16 1 z t.zones[i] ∧ RegsBut [Reg.PLL_COUNT, Reg.MSG_DROPPED] z t.zones[i] ∧
      t.zones[i].ctl = z.ctl ∧ t.zones[i].pos = z.pos ∧ OnlyZone i s t)) ∧
    (z.ctl.st ≠ .off → z.ctl.st ≠ .fenced → z.ctl.st ≠ .init → z.pll.hold = true → z.pll.slewing = false → fld (z.reg Reg.PLL_HOLD) 31 16 ≠ 0 →
      fld (z.reg Reg.PLL_HOLD) 31 16 < z.pll.holdTk → bit (z.reg Reg.FENCE_EN) 0 = true →
      Completes (.holdoverLimit i) s (fun t =>
        t.zones[i].ctl.st = .fenced ∧ t.zones[i].reg Reg.FENCE_CAUSE = 1 ∧ t.zones[i].time.est = true ∧
        t.zones[i].pll.hold = false ∧ t.zones[i].time.frame = z.time.frame ∧ OnlyZone i s t)) ∧
    (z.pll.slewing = true → z.pll.phase.natAbs ≤ 4 → z.slewRun = true → Completes (.slewComplete i) s (fun t =>
      t.zones[i].pll.lock = true ∧ t.zones[i].pll.hold = false ∧ t.zones[i].pll.slewing = false ∧
      t.zones[i].time = { z.time with free := false, hFr := 0, sFr := 0 } ∧ Counted Reg.PLL_COUNT 15 0 1 z t.zones[i] ∧
      RegsBut [Reg.PLL_COUNT, Reg.TIME_STAT, Reg.MSG_DROPPED] z t.zones[i] ∧ t.zones[i].ctl = z.ctl ∧ t.zones[i].pos = z.pos ∧
      OnlyZone i s t)) ∧
    (∀ v : Word, Grants z .host Reg.PLL_CFG → Completes (.frefRate i v) s (fun t =>
      t.zones[i] = z.stores Reg.PLL_CFG 0xFFFF0003 v ∧ Lone i s t))

/-- Epoch (R36, R37): ARM is taken only with E a multiple of 96; ARM written 0 disarms; a load edge with nothing armed is
counted; armed without lock it stays armed; a CHECK leaves FRAME and tells the difference. -/
def Obligations.Epoch : Prop :=
  ∀ (s : State) (i : ZoneId) (z : Zone), s.zones[i] = z → Quiet s i →
    (∀ check : Bool, Grants z .host Reg.TIME_EPOCH_CTL → bit (z.reg Reg.TIME_EPOCH_CTL) 0 = false → z.epochE.toNat % 96 = 0 →
      Completes (.epochArm i check) s (fun t => bit (t.zones[i].reg Reg.TIME_EPOCH_CTL) 0 = true ∧
        bit (t.zones[i].reg Reg.TIME_EPOCH_CTL) 1 = check ∧ RegsBut [Reg.TIME_EPOCH_CTL] z t.zones[i] ∧
        { t.zones[i] with regs := z.regs } = z ∧ Lone i s t)) ∧
    (∀ check : Bool, Grants z .host Reg.TIME_EPOCH_CTL → bit (z.reg Reg.TIME_EPOCH_CTL) 0 = false → z.epochE.toNat % 96 ≠ 0 →
      Completes (.epochArm i check) s (fun t => bit (t.zones[i].reg Reg.TIME_EPOCH_CTL) 0 = false ∧
        bit (t.zones[i].reg Reg.TIME_STAT) 3 = true ∧ RegsBut [Reg.TIME_EPOCH_CTL, Reg.TIME_STAT] z t.zones[i] ∧
        { t.zones[i] with regs := z.regs } = z ∧ Lone i s t)) ∧
    (Grants z .host Reg.TIME_EPOCH_CTL → bit (z.reg Reg.TIME_EPOCH_CTL) 0 = true →
      Completes (.epochDisarm i) s (fun t => bit (t.zones[i].reg Reg.TIME_EPOCH_CTL) 0 = false ∧
        bit (t.zones[i].reg Reg.TIME_EPOCH_CTL) 1 = bit (z.reg Reg.TIME_EPOCH_CTL) 1 ∧
        RegsBut [Reg.TIME_EPOCH_CTL] z t.zones[i] ∧ { t.zones[i] with regs := z.regs } = z ∧ Lone i s t)) ∧
    (z.time.syncHi = true → z.time.est = false → z.pllRuns = true → bit (z.reg Reg.TIME_EPOCH_CTL) 0 = false →
      Completes (.loadEdge i) s (fun t => Counted Reg.TIME_SYNC_CNT 31 16 1 z t.zones[i] ∧
        t.zones[i].time = { z.time with syncHi := false } ∧ RegsBut [Reg.TIME_SYNC_CNT] z t.zones[i] ∧ Lone i s t)) ∧
    (z.time.syncHi = true → z.time.est = false → z.pllRuns = true → bit (z.reg Reg.TIME_EPOCH_CTL) 0 = true → z.pll.lock = false →
      Completes (.loadEdge i) s (fun t => t.zones[i] = { z with time := { z.time with syncHi := false } } ∧ Lone i s t)) ∧
    (z.time.syncHi = true → z.time.est = false → z.pllRuns = true → bit (z.reg Reg.TIME_EPOCH_CTL) 0 = true → z.pll.lock = true →
      bit (z.reg Reg.TIME_EPOCH_CTL) 1 = true → Completes (.loadEdge i) s (fun t =>
        t.zones[i].time = { z.time with syncHi := false } ∧
        t.zones[i].reg Reg.TIME_EPOCH_DIFF = wordI (satS 32 (fdist z.time.frame z.epochE)) ∧
        bit (t.zones[i].reg Reg.TIME_STAT) 2 = true ∧ bit (t.zones[i].reg Reg.TIME_STAT) 4 = (z.time.frame != z.epochE) ∧
        bit (t.zones[i].reg Reg.TIME_EPOCH_CTL) 0 = false ∧
        RegsBut [Reg.TIME_EPOCH_DIFF, Reg.TIME_STAT, Reg.TIME_EPOCH_CTL, Reg.MSG_DROPPED] z t.zones[i] ∧ OnlyZone i s t))

/-- Track position (R39–R43, R410): counted edges, illegal changes, STOPPED, STALE, host commands, POS.CFG. -/
def Obligations.Position : Prop :=
  ∀ (s : State) (i : ZoneId) (z : Zone), s.zones[i] = z → Quiet s i →
    (∀ (a b : Bool) (sub : Fin 7680), z.time.est = false → z.pos.mode = 0 → ((a = z.pos.lvlA) ≠ (b = z.pos.lvlB)) →
      Completes (.tachEdge i a b sub) s (fun t =>
        t.zones[i].pos.pos = (if xor (if a = z.pos.lvlA then a != b else a == b) (bit (z.reg Reg.POS_CFG) 2) then z.pos.pos - 1
          else z.pos.pos + 1) ∧ t.zones[i].pos.frac = 0 ∧ t.zones[i].pos.lvlA = a ∧ t.zones[i].pos.lvlB = b ∧
        t.zones[i].pos.stopped = false ∧ t.zones[i].time = { z.time with subf := Nat.max z.time.subf sub.val } ∧
        { t.zones[i] with pos := z.pos, time := z.time } = z ∧ Lone i s t)) ∧
    (∀ (a b : Bool) (sub : Fin 7680), z.time.est = false → z.pos.mode = 0 → a ≠ z.pos.lvlA → b ≠ z.pos.lvlB →
      Completes (.tachEdge i a b sub) s (fun t =>
        t.zones[i].pos = { z.pos with lvlA := a, lvlB := b, hist := [], last := none, speed := 0 } ∧
        bit (t.zones[i].reg Reg.POS_STAT) 0 = true ∧ Counted Reg.POS_COUNT 15 0 1 z t.zones[i] ∧
        RegsBut [Reg.POS_STAT, Reg.POS_COUNT] z t.zones[i] ∧ Lone i s t)) ∧
    (∀ (b : Bool) (sub : Fin 7680), z.time.est = false → z.pos.mode = 1 → z.pos.lvlA = false →
      Completes (.tachEdge i true b sub) s (fun t =>
        t.zones[i].pos.pos = (if b == bit (z.reg Reg.POS_CFG) 2 then z.pos.pos - 1 else z.pos.pos + 1) ∧
        t.zones[i].pos.frac = 0 ∧ t.zones[i].pos.lvlA = true ∧ t.zones[i].pos.lvlB = b ∧
        t.zones[i].time = { z.time with subf := Nat.max z.time.subf sub.val } ∧
        { t.zones[i] with pos := z.pos, time := z.time } = z ∧ Lone i s t)) ∧
    (z.atTick = true → z.pos.mode ≤ 1 → z.pos.stopped = false → z.stopFrames ≤ fdist z.time.frame z.pos.since →
      Completes (.standstill i) s (fun t =>
        t.zones[i] = { z with pos := { z.pos with speed := 0, stopped := true, hist := [], last := none } } ∧ Lone i s t)) ∧
    (z.atTick = true → z.pos.mode = 2 → z.pos.stale = false → z.stopFrames ≤ fdist z.time.frame z.pos.since →
      Completes (.stale i) s (fun t =>
        t.zones[i].pos.stale = true ∧ t.zones[i].pos.vel = (if bit (z.reg Reg.POS_CFG) 15 then 0 else z.pos.vel) ∧
        t.zones[i].pos.speed = t.zones[i].pos.vel ∧ t.zones[i].pos.pos = z.pos.pos ∧
        { t.zones[i] with pos := z.pos } = z ∧ Lone i s t)) ∧
    (∀ atTick : Bool, Grants z .host Reg.POS_HCMD →
      Completes (.setpos i atTick) s (fun t =>
        t.zones[i] = { z with pos := { z.pos with hcmd := some ⟨true, false, atTick,
          BitVec.extractLsb' 0 16 (z.reg Reg.POS_HSET_HI) ++ z.reg Reg.POS_HSET_LO, (z.reg Reg.POS_HSET_VEL).toInt⟩ } } ∧ Lone i s t) ∧
      Completes (.setvel i atTick) s (fun t =>
        t.zones[i] = { z with pos := { z.pos with hcmd := some ⟨false, true, atTick,
          BitVec.extractLsb' 0 16 (z.reg Reg.POS_HSET_HI) ++ z.reg Reg.POS_HSET_LO, (z.reg Reg.POS_HSET_VEL).toInt⟩ } } ∧ Lone i s t)) ∧
    (∀ c : HCmd, z.pos.hcmd = some c → (c.atTick = false ∨ z.atTick = true) → Completes (.hcmdApply i) s (fun t =>
        t.zones[i].pos.hcmd = none ∧ t.zones[i].pos.pos = (if c.setpos then c.pos else z.pos.pos) ∧
        t.zones[i].pos.frac = (if c.setpos then 0 else z.pos.frac) ∧
        t.zones[i].pos.vel = (if c.setvel ∧ z.pos.mode = 2 then c.vel else z.pos.vel) ∧
        t.zones[i].pos.stale = (z.pos.stale && !(c.setvel && z.pos.mode == 2)) ∧
        { t.zones[i] with pos := z.pos } = z ∧ Lone i s t)) ∧
    (∀ v : Word, Grants z .host Reg.POS_CFG → Completes (.posMode i v) s (fun t =>
      t.zones[i] = z.stores Reg.POS_CFG 0xFFFFFF07 v ∧ Lone i s t))

/-- Timers (R44–R46): a period that ends sets ELAPSED, or OVERRUN beside it, and reloads from NEXT where a change is pending; a
one-shot or a period of 0 clears EN; NEXT, CTL and FORCE. -/
def Obligations.Timers : Prop :=
  ∀ (s : State) (i : ZoneId) (n : Fin 4) (z : Zone), s.zones[i] = z → Quiet s i →
    (bit (z.reg (Reg.TMR_CTL n.val)) 0 = true → z.tmr[n].period ≤ z.tmr[n].count → z.time.est = false →
      Completes (.periodEnd i n) s (fun t =>
        t.zones[i].tmr[n].count = 0 ∧ t.zones[i].tmr[n].pend = false ∧
        t.zones[i].tmr[n].period = (if z.tmr[n].pend then (z.reg (Reg.TMR_NEXT n.val)).toNat else z.tmr[n].period) ∧
        (∀ m : Fin 4, m ≠ n → t.zones[i].tmr[m] = z.tmr[m]) ∧
        bit (t.zones[i].reg (Reg.TMR_STAT n.val)) 0 = true ∧
        (bit (z.reg (Reg.TMR_STAT n.val)) 0 = true → bit (t.zones[i].reg (Reg.TMR_STAT n.val)) 1 = true) ∧
        bit (t.zones[i].reg (Reg.TMR_CTL n.val)) 0 =
          !(t.zones[i].tmr[n].oneshot || t.zones[i].tmr[n].period == 0) ∧
        RegsBut [Reg.TMR_STAT n.val, Reg.TMR_CTL n.val, Reg.MSG_DROPPED] z t.zones[i] ∧ t.zones[i].time = z.time ∧
        OnlyZone i s t)) ∧
    (∀ v : Word, Grants z .host (Reg.TMR_NEXT n.val) → Completes (.tmrNext i n v) s (fun t =>
      t.zones[i].reg (Reg.TMR_NEXT n.val) = v ∧ RegsBut [Reg.TMR_NEXT n.val] z t.zones[i] ∧
      t.zones[i].tmr[n] = { z.tmr[n] with pend := z.tmr[n].pend || z.tmrEn n } ∧
      (∀ m : Fin 4, m ≠ n → t.zones[i].tmr[m] = z.tmr[m]) ∧ { t.zones[i] with regs := z.regs, tmr := z.tmr } = z ∧
      Lone i s t)) ∧
    (∀ v : Word, Grants z .host (Reg.TMR_CTL n.val) → bit (z.reg (Reg.TMR_CTL n.val)) 0 = false → bit v 0 = true →
      z.reg (Reg.TMR_NEXT n.val) ≠ 0 → Completes (.tmrCtl i n v) s (fun t =>
      t.zones[i].reg (Reg.TMR_CTL n.val) = v &&& 0x1F ∧ RegsBut [Reg.TMR_CTL n.val] z t.zones[i] ∧
      t.zones[i].tmr[n] = ⟨(z.reg (Reg.TMR_NEXT n.val)).toNat, 0, bit v 1, bit v 2, bit v 7, false⟩ ∧
      (∀ m : Fin 4, m ≠ n → t.zones[i].tmr[m] = z.tmr[m]) ∧ { t.zones[i] with regs := z.regs, tmr := z.tmr } = z ∧
      Lone i s t)) ∧
    (Grants z .host (Reg.TMR_CTL n.val) → bit (z.reg (Reg.TMR_CTL n.val)) 0 = true → Completes (.forceEnd i n) s (fun t =>
      t.zones[i].tmr[n] = { z.tmr[n] with force := true } ∧ (∀ m : Fin 4, m ≠ n → t.zones[i].tmr[m] = z.tmr[m]) ∧
      t.zones[i].reg (Reg.TMR_CTL n.val) = z.reg (Reg.TMR_CTL n.val) &&& 0x1F ∧ RegsBut [Reg.TMR_CTL n.val] z t.zones[i] ∧
      { t.zones[i] with regs := z.regs, tmr := z.tmr } = z ∧ Lone i s t))

/-- Coherent reads (R47): in LATCH mode a read of FRAME_LO or POS_LO captures the words above it for the reader alone;
the zone program's costs the bridge's 6 cycles (R210). -/
def Obligations.LatchedReads : Prop :=
  ∀ (s : State) (i : ZoneId) (z : Zone), s.zones[i] = z → Quiet s i → Answers z →
    (bit (z.reg Reg.TIME_CTL) 0 = false →
      Completes (.latchRead i .host false) s (fun t => t.host.bus.data = BitVec.extractLsb' 0 32 z.time.frame ∧
        t.host.bus.reason = 0 ∧ t.zones[i].time.frame = z.time.frame ∧
        t.zones[i].time.capHost.a = BitVec.setWidth 32 (BitVec.extractLsb' 32 16 z.time.frame) ∧
        t.zones[i].time.capHost.b = BitVec.ofNat 32 t.zones[i].time.subf ∧ t.zones[i].time.capHost.c = z.tick ∧
        t.zones[i].time.capProg = z.time.capProg ∧ { t.zones[i] with time := z.time, draws := z.draws } = z ∧ Lone i s t) ∧
      Completes (.latchRead i .prog false) s (fun t => t.zones[i].time.frame = z.time.frame ∧
        t.zones[i].time.capProg.a = BitVec.setWidth 32 (BitVec.extractLsb' 32 16 z.time.frame) ∧
        t.zones[i].time.capProg.b = BitVec.ofNat 32 t.zones[i].time.subf ∧ t.zones[i].time.capProg.c = z.tick ∧
        t.zones[i].time.capHost = z.time.capHost ∧ { t.zones[i] with time := z.time, draws := z.draws } = z.dspHold 6 ∧
        Lone i s t)) ∧
    (bit (z.reg Reg.TIME_CTL) 1 = false →
      Completes (.latchRead i .host true) s (fun t => t.host.bus.data = BitVec.extractLsb' 0 32 z.pos.pos ∧
        t.host.bus.reason = 0 ∧ t.zones[i] = { z with pos := { z.pos with capHost := z.posCap } } ∧ Lone i s t) ∧
      Completes (.latchRead i .prog true) s (fun t =>
        t.zones[i] = Zone.dspHold { z with pos := { z.pos with capProg := z.posCap } } 6 ∧ Lone i s t))

/-! Swaps, the event queue and modes (chapter 3). -/

/-- ARM of one page (R54, R56, R183): the target tick, COPY, and for ROUTE the checks of its image; a page that is pending or
copying refuses with SWAP_PENDING and keeps its swap. -/
def Obligations.SwapArming : Prop :=
  ∀ (s : State) (i : ZoneId) (p : Fin 6) (tgt : BitVec 24) (z : Zone), s.zones[i] = z → Quiet s i →
    Grants z .host (bankedPage p.val + 0x14) →
    (Idle z p → (p = 1 → z.spliceBusy (z.tgtTick tgt) = false ∧ z.spliceBusy (z.tick + 1) = false ∧
        (validate z.routeAct z.routeIn true).1 = 0) →
      Completes (.armAtTgt i p tgt) s (fun t => Armed z t.zones[i] p false (NearTick z tgt) ∧
        t.zones[i].swaps[p].tgt = tgt ∧ t.host.bus.reason = 0 ∧
        (p ≠ 1 → { t.zones[i] with swaps := z.swaps } = z) ∧ { t.zones[i] with swaps := z.swaps, route := z.route, regs := z.regs } = z ∧
        Lone i s t) ∧
      Completes (.armNext i p) s (fun t => Armed z t.zones[i] p false (fun x => x = z.tick + 1) ∧
        t.zones[i].swaps[p].tgt = z.swaps[p].tgt ∧ t.host.bus.reason = 0 ∧
        (p ≠ 1 → { t.zones[i] with swaps := z.swaps } = z) ∧ { t.zones[i] with swaps := z.swaps, route := z.route, regs := z.regs } = z ∧
        Lone i s t) ∧
      Completes (.armAtTgtCopy i p tgt) s (fun t => Armed z t.zones[i] p true (NearTick z tgt) ∧
        t.zones[i].swaps[p].tgt = tgt ∧ t.host.bus.reason = 0 ∧
        (p ≠ 1 → { t.zones[i] with swaps := z.swaps } = z) ∧ { t.zones[i] with swaps := z.swaps, route := z.route, regs := z.regs } = z ∧
        Lone i s t) ∧
      Completes (.armNextCopy i p) s (fun t => Armed z t.zones[i] p true (fun x => x = z.tick + 1) ∧
        t.zones[i].swaps[p].tgt = z.swaps[p].tgt ∧ t.host.bus.reason = 0 ∧
        (p ≠ 1 → { t.zones[i] with swaps := z.swaps } = z) ∧ { t.zones[i] with swaps := z.swaps, route := z.route, regs := z.regs } = z ∧
        Lone i s t)) ∧
    (¬ Idle z p →
      Completes (.armAtTgt i p tgt) s (fun t => t.host.bus.reason = 0x09 ∧ t.zones[i] = z ∧ Lone i s t) ∧
      Completes (.armNext i p) s (fun t => t.host.bus.reason = 0x09 ∧ t.zones[i] = z ∧ Lone i s t) ∧
      Completes (.armAtTgtCopy i p tgt) s (fun t => t.host.bus.reason = 0x09 ∧ t.zones[i] = z ∧ Lone i s t) ∧
      Completes (.armNextCopy i p) s (fun t => t.host.bus.reason = 0x09 ∧ t.zones[i] = z ∧ Lone i s t))

/-- DISARM before the target tick clears PEND with RESULT REFUSED (R57); a swap whose tick is reached stays. COPY_DONE ends a
copy with both battens alike (R56). -/
def Obligations.SwapDisarmAndCopy : Prop :=
  ∀ (s : State) (i : ZoneId) (p : Fin 6) (z : Zone), s.zones[i] = z → Quiet s i →
    (Grants z .host (bankedPage p.val + 0x14) → z.swaps[p].pend = true → z.swaps[p].owned = false →
      tickDist z.tick z.swaps[p].target < 0 → Completes (.disarm i p) s (fun t =>
        t.zones[i].swaps[p] = { z.swaps[p] with pend := false, result := 3 } ∧
        (∀ q : Fin 6, q ≠ p → t.zones[i].swaps[q] = z.swaps[q]) ∧ RegsBut [Reg.MSG_DROPPED] z t.zones[i] ∧
        { t.zones[i] with swaps := z.swaps, regs := z.regs, msgs := z.msgs } = z ∧ OnlyZone i s t)) ∧
    (Grants z .host (bankedPage p.val + 0x14) → 0 ≤ tickDist z.tick z.swaps[p].target →
      Completes (.disarm i p) s (fun t => t.zones[i] = z ∧ Lone i s t)) ∧
    (z.swaps[p].copying = true → Completes (.copyDone i p) s (fun t =>
        t.zones[i].swaps[p] = { z.swaps[p] with copying := false } ∧
        (∀ q : Fin 6, q ≠ p → t.zones[i].swaps[q] = z.swaps[q]) ∧
        (p = 0 → t.zones[i].vox.battA = z.battAct ∧ t.zones[i].vox.battB = z.battAct) ∧
        (p = 1 → t.zones[i].route.batA = z.routeAct ∧ t.zones[i].route.batB = z.routeAct) ∧
        (p = 2 → t.zones[i].dsp.parA = z.parAct ∧ t.zones[i].dsp.parB = z.parAct) ∧
        (3 ≤ p.val → ∀ k ∈ bankedRegs p, t.zones[i].reg (z.bank p true k) = z.reg (z.bank p false k)) ∧
        t.zones[i].time = z.time ∧ t.zones[i].sched = z.sched ∧ t.zones[i].voices = z.voices ∧ Lone i s t))

/-- SWAPSET and the SWAP action arm every page of the mask for one tick or none (R58, R60): the reason of the first page that
refuses is answered, or sent with ACT_REFUSED. -/
def Obligations.SwapSets : Prop :=
  ∀ (s : State) (i : ZoneId) (mask : BitVec 6) (z : Zone), s.zones[i] = z → Quiet s i → mask.getLsbD 1 = false →
    ((∀ p : Fin 6, mask.getLsbD p.val = true → Idle z p) →
      (∀ next : Bool, Grants z .host Reg.SCHED_SWAPSET → Completes (.swapset i next mask) s (fun t => t.host.bus.reason = 0 ∧
        (∀ p : Fin 6, t.zones[i].swaps[p] = if mask.getLsbD p.val then
          { z.swaps[p] with pend := true, target := (if next then z.tick + 1 else z.reg Reg.SCHED_SWAPTGT), copy := false, owned := false }
          else z.swaps[p]) ∧ RegsBut [Reg.SCHED_SWAPSET] z t.zones[i] ∧ { t.zones[i] with swaps := z.swaps, regs := z.regs } = z ∧
        Lone i s t)) ∧
      (∀ (tag : BitVec 16) (arg1 : Word), z.live = true → z.ctl.st ≠ .fenced →
        Completes (.swap i tag (mask.setWidth 32) arg1) s (fun t =>
        (∀ p : Fin 6, t.zones[i].swaps[p] = if mask.getLsbD p.val then
          { z.swaps[p] with pend := true, target := arg1, copy := false, owned := false } else z.swaps[p]) ∧
        { t.zones[i] with swaps := z.swaps } = z ∧ Lone i s t))) ∧
    ((∃ p : Fin 6, mask.getLsbD p.val = true ∧ ¬ Idle z p) →
      (∀ next : Bool, Grants z .host Reg.SCHED_SWAPSET → Completes (.swapset i next mask) s (fun t =>
        t.host.bus.reason = 0x09 ∧ t.zones[i] = z ∧ Lone i s t)) ∧
      (∀ (tag : BitVec 16) (arg1 : Word), z.live = true →
        Completes (.swap i tag (mask.setWidth 32) arg1) s (fun t => t.zones[i].swaps = z.swaps ∧
        t.zones[i].msgs.nseq = z.msgs.nseq + 1 ∧ RegsBut [Reg.MSG_DROPPED] z t.zones[i] ∧
        { t.zones[i] with msgs := z.msgs, regs := z.regs } = z ∧ OnlyZone i s t)))

/-- The event queue (R59, R60): POST appends the staged entry with the frame of posting, a full queue answers QUEUE_FULL with
ERR 1; CANCEL takes out every entry of a nonzero TAG; FLUSH empties the queue. -/
def Obligations.EventQueue : Prop :=
  ∀ (s : State) (i : ZoneId) (z : Zone), s.zones[i] = z → Quiet s i → Grants z .host Reg.SCHED_CMD →
    (z.sched.queue.length < 256 → fld (z.reg Reg.SCHED_E0) 31 28 ≤ 3 → fld (z.reg Reg.SCHED_E0) 27 24 ≤ 7 →
      (fld (z.reg Reg.SCHED_E0) 27 24 = 0 → 1 ≤ fld (z.reg Reg.SCHED_E0) 23 21 ∧ fld (z.reg Reg.SCHED_E0) 23 21 ≤ 5) →
      fld (z.reg (Reg.SCHED_E0 + 8)) 31 16 = 0 →
      Completes (.post i) s (fun t => t.zones[i].sched.queue.length = z.sched.queue.length + 1 ∧
        t.zones[i].sched.queue.take z.sched.queue.length = z.sched.queue ∧
        (∀ e ∈ t.zones[i].sched.queue.getLast?, e.seq = z.sched.seq ∧ e.posted = z.time.frame ∧ e.trig = none ∧ e.tend = none ∧
          e.p0ctl = s.host.p0ctl ∧ ∀ k : Fin 8, e.e[k] = z.reg (Reg.SCHED_E0 + 4 * k.val)) ∧
        t.zones[i].sched.seq = z.sched.seq + 1 ∧ { t.zones[i] with sched := z.sched } = z ∧ t.host.bus.reason = 0 ∧ Lone i s t)) ∧
    (256 ≤ z.sched.queue.length →
      Completes (.post i) s (fun t => t.zones[i] = { z with sched := { z.sched with err := 1 } } ∧ t.host.bus.reason = 0x0E ∧
        Lone i s t)) ∧
    (∀ tag : BitVec 16, Completes (.cancel i tag) s (fun t =>
      t.zones[i].sched.queue = (if tag = 0 then z.sched.queue else
        z.sched.queue.filter (fun (e : Entry) => BitVec.extractLsb' 0 16 e.e[(0 : Fin 8)] != tag)) ∧
      { t.zones[i] with sched := { t.zones[i].sched with queue := z.sched.queue } } = z ∧ Lone i s t)) ∧
    Completes (.flush i) s (fun t => t.zones[i] = { z with sched := { z.sched with queue := [] } } ∧ Lone i s t)

/-- Voice actions (R120, R134, R139, R142, R143, R148): a start takes the lowest-numbered free voice; VREL, VKILL and VCTL reach
the voice that the handle names and no other, VREL none whose envelopes are all in RELEASE or OFF; a command to no voice counts
in BADCTL. -/
def Obligations.VoiceActions : Prop :=
  ∀ (s : State) (i : ZoneId) (src : VSrc) (z : Zone), s.zones[i] = z → Quiet s i → z.live = true →
    (∀ (cls : Fin 8) (arg1 : Word) (v : Fin 96), z.ctl.st = .run → 1 ≤ cls.val → cls.val ≤ 5 → z.mayTake cls.val = true →
      z.firstFree = some v → Completes (.vstart i src cls 0 arg1 none) s (fun t =>
        t.zones[i].voices[v].life = .active ∧ t.zones[i].voices[v].st.cls = cls.val ∧
        t.zones[i].voices[v].st.note = fld arg1 15 8 ∧ t.zones[i].voices[v].st.vel = fld arg1 7 0 ∧
        t.zones[i].voices[v].start = z.time.frame ∧ OnlyVoice v z t.zones[i] ∧ t.zones[i].time = z.time ∧
        t.zones[i].pos = z.pos ∧ t.zones[i].sched.queue = z.sched.queue ∧ OnlyZone i s t)) ∧
    (∀ (arg1 : Word) (v : Fin 96), z.addressed (handleOf arg1) = [v] → z.voices[v].st.cls ≠ 0 → z.voices[v].life = .active →
      z.voices[v].ended = false →
      ((∃ e : Fin 4, ((z.voices[v].sig.env[e]).advance (envP z.battAct v.val e.val)).st ∉ [0, 6]) →
        Completes (.vrel i src arg1) s (fun t => t.zones[i].voices[v].life = .released ∧ t.zones[i].voices[v].sig.rel = true ∧
        OnlyVoice v z t.zones[i] ∧ { t.zones[i] with voices := z.voices } = z ∧ Lone i s t)) ∧
      ((∀ e : Fin 4, ((z.voices[v].sig.env[e]).advance (envP z.battAct v.val e.val)).st ∈ [0, 6]) →
        Completes (.vrel i src arg1) s (fun t => t.zones[i] = z ∧ Lone i s t)) ∧
      Completes (.vkill i src arg1) s (fun t => t.zones[i].voices[v].life = .fading ∧ t.zones[i].voices[v].succ = none ∧
        t.zones[i].voices[v].fadeN = z.stealN ∧ t.zones[i].voices[v].fadeK = 0 ∧ t.zones[i].voices[v].st.handle = 0 ∧
        OnlyVoice v z t.zones[i] ∧ { t.zones[i] with voices := z.voices } = z ∧ Lone i s t) ∧
      (∀ arg0 : Word, fld arg0 31 28 ≤ 7 → bit arg0 27 = true → Completes (.vctl i src arg0 arg1) s (fun t =>
        (∀ k : Fin 8, t.zones[i].voices[v].sig.ctl[k].v =
          if k.val = fld arg0 31 28 then wrapS 24 (fld arg0 23 0) * 2 ^ 12 else z.voices[v].sig.ctl[k].v) ∧
        t.zones[i].voices[v].life = .active ∧ t.zones[i].voices[v].sig.env = z.voices[v].sig.env ∧
        OnlyVoice v z t.zones[i] ∧ { t.zones[i] with voices := z.voices } = z ∧ Lone i s t)) ∧
      (∀ arg0 : Word, z.voices[v].sig.rel = false → Completes (.retrig i src arg0 arg1) s (fun t =>
        (∀ e : Fin 4, t.zones[i].voices[v].sig.env[e] = if bit arg0 e.val then
          (z.voices[v].sig.env[e]).retrig (envP z.battAct v.val e.val) z.voices[v].sig.sus[e] else z.voices[v].sig.env[e]) ∧
        t.zones[i].voices[v].sig.ctl = z.voices[v].sig.ctl ∧ t.zones[i].voices[v].life = .active ∧
        OnlyVoice v z t.zones[i] ∧ { t.zones[i] with voices := z.voices, draws := z.draws } = z ∧ Lone i s t))) ∧
    (∀ arg1 : Word, z.addressed (handleOf arg1) = [] →
      Completes (.vrel i src arg1) s (fun t => Counted Reg.VCTL_COUNT 7 0 1 z t.zones[i] ∧ RegsBut [Reg.VCTL_COUNT] z t.zones[i] ∧
        { t.zones[i] with regs := z.regs } = z ∧ Lone i s t) ∧
      Completes (.vkill i src arg1) s (fun t => Counted Reg.VCTL_COUNT 7 0 1 z t.zones[i] ∧ RegsBut [Reg.VCTL_COUNT] z t.zones[i] ∧
        { t.zones[i] with regs := z.regs } = z ∧ Lone i s t))

/-- The actions MODE, MSG, GAIN and HANDLER (R60, R67, R185, R206, Table 3-5). -/
def Obligations.ScheduledActions : Prop :=
  ∀ (s : State) (i : ZoneId) (z : Zone), s.zones[i] = z → Quiet s i → z.live = true →
    (∀ (tag : BitVec 16) (arg0 arg1 : Word), z.sched.mode = none → bit arg0 1 = false → bit arg0 31 = false →
      (∀ p : Fin 6, bit arg0 p.val = true → Idle z p) → Completes (.mode i tag arg0 arg1) s (fun t =>
        t.zones[i].sched.mode = some ⟨fld arg0 15 8, BitVec.extractLsb' 0 6 arg0, arg1, false⟩ ∧
        (∀ p : Fin 6, t.zones[i].swaps[p] = if bit arg0 p.val then
          { z.swaps[p] with pend := true, target := arg1, copy := false, owned := true } else z.swaps[p]) ∧
        { t.zones[i] with swaps := z.swaps, sched := z.sched } = z ∧ t.zones[i].sched.queue = z.sched.queue ∧ Lone i s t)) ∧
    (∀ (tag : BitVec 16) (arg0 arg1 : Word), z.sched.mode ≠ none → Completes (.mode i tag arg0 arg1) s (fun t =>
        t.zones[i].sched.mode = z.sched.mode ∧ t.zones[i].swaps = z.swaps ∧ t.zones[i].msgs.nseq = z.msgs.nseq + 2 ∧
        fld (t.zones[i].reg Reg.SCHED_MREP) 31 29 = 3 ∧ fld (t.zones[i].reg Reg.SCHED_MREP) 7 0 = fld arg0 15 8 ∧
        RegsBut [Reg.SCHED_MREP, Reg.SCHED_MREP_TGT, Reg.MSG_DROPPED] z t.zones[i] ∧ OnlyZone i s t)) ∧
    (∀ (tag : BitVec 16) (arg0 : Word), Completes (.msg i tag arg0) s (fun t => t.zones[i].msgs.nseq = z.msgs.nseq + 1 ∧
        RegsBut [Reg.MSG_DROPPED] z t.zones[i] ∧ { t.zones[i] with msgs := z.msgs, regs := z.regs } = z ∧ OnlyZone i s t)) ∧
    (∀ (arg0 arg1 : Word) (k : Fin 64), fld arg0 11 0 = k.val → Completes (.gain i arg0 arg1) s (fun t =>
        t.zones[i].route.g[k].tgt = wrapS 36 (fld arg0 19 16 * 2 ^ 32 + arg1.toNat) ∧
        ((keySlot z.routeAct k.val) = none → z.route.g[k].ramp = 0 → t.zones[i].route.g[k].cur = t.zones[i].route.g[k].tgt) ∧
        (∀ j : Fin 64, j ≠ k → t.zones[i].route.g[j] = z.route.g[j]) ∧
        { t.zones[i] with route := { t.zones[i].route with g := z.route.g } } = z ∧ Lone i s t)) ∧
    (∀ arg0 arg1 : Word, 64 ≤ fld arg0 11 0 → Completes (.gain i arg0 arg1) s (fun t =>
        Counted Reg.VCTL_COUNT 7 0 1 z t.zones[i] ∧ RegsBut [Reg.VCTL_COUNT] z t.zones[i] ∧ t.zones[i].route = z.route ∧
        Lone i s t)) ∧
    (∀ arg0 arg1 : Word, z.dsp.running = true → z.dsp.handlers.length < 16 → Completes (.handler i arg0 arg1) s (fun t =>
        t.zones[i] = { z with dsp := { z.dsp with handlers := z.dsp.handlers ++ [(fld arg0 3 0, arg1, z.time.frame, 768 - z.vox.winLeft)] } } ∧
        Lone i s t)) ∧
    (∀ arg0 arg1 : Word, (z.dsp.running = false ∨ 16 ≤ z.dsp.handlers.length) → Completes (.handler i arg0 arg1) s (fun t =>
        t.zones[i].dsp = z.dsp ∧ Counted Reg.DSP_COUNT 7 0 1 z t.zones[i] ∧ bit (t.zones[i].reg 0x300C) 6 = true ∧
        RegsBut [Reg.DSP_COUNT, 0x300C] z t.zones[i] ∧ Lone i s t))

/-- DEV.MODE_CMD (R68, R69): ARM reaches each zone of ZMASK that is not off, at DEV.MODE_TGT or at its next tick; while one is
collected a further ARM is refused; ABORT cancels a pending mode change before its target with outcome ABORTED. -/
def Obligations.DeviceModes : Prop :=
  ∀ (s : State) (j : ZoneId) (pmask : BitVec 6) (m zmask : Byte) (z : Zone), s.zones[j] = z → Quiet s j → HostOpen s 0 →
    zmask.toNat = 2 ^ j.val →
    (fld (s.host.reg Reg.DEV_MODE_STATE) 1 0 ≠ 1 → z.ctl.st ≠ .off → z.ctl.st ≠ .fenced → z.sched.mode = none →
      pmask.getLsbD 1 = false → (∀ p : Fin 6, pmask.getLsbD p.val = true → Idle z p) →
      Completes (.modeArm pmask m zmask) s (fun t =>
        t.zones[j].sched.mode = some ⟨m.toNat, pmask, s.host.reg Reg.DEV_MODE_TGT, true⟩ ∧
        (∀ p : Fin 6, pmask.getLsbD p.val = true → t.zones[j].swaps[p].pend = true ∧ t.zones[j].swaps[p].owned = true) ∧
        { t.zones[j] with swaps := z.swaps, sched := z.sched } = z ∧ fld (t.host.reg Reg.DEV_MODE_STATE) 1 0 = 1 ∧
        fld (t.host.reg Reg.DEV_MODE_STATE) 15 8 = zmask.toNat ∧ OnlyZone j s t) ∧
      Completes (.modeArmNext pmask m zmask) s (fun t =>
        t.zones[j].sched.mode = some ⟨m.toNat, pmask, z.tick + 1, true⟩ ∧
        { t.zones[j] with swaps := z.swaps, sched := z.sched } = z ∧ fld (t.host.reg Reg.DEV_MODE_STATE) 1 0 = 1 ∧ OnlyZone j s t)) ∧
    (fld (s.host.reg Reg.DEV_MODE_STATE) 1 0 = 1 →
      Completes (.modeArm pmask m zmask) s (fun t => t.host.bus.reason = 0x0C ∧ NoZone s t) ∧
      Completes (.modeArmNext pmask m zmask) s (fun t => t.host.bus.reason = 0x0C ∧ NoZone s t)) ∧
    (∀ x : ModePend, z.sched.mode = some x → tickDist z.tick x.target < 0 → Completes (.abort zmask) s (fun t =>
        t.zones[j].sched.mode = none ∧ t.zones[j].sched.queue = z.sched.queue ∧
        (∀ p : Fin 6, t.zones[j].swaps[p] = if z.swaps[p].owned then { z.swaps[p] with pend := false, owned := false, result := 3 }
          else z.swaps[p]) ∧ fld (t.zones[j].reg Reg.SCHED_MREP) 31 29 = 4 ∧
        RegsBut [Reg.SCHED_MREP, Reg.SCHED_MREP_TGT, Reg.MSG_DROPPED] z t.zones[j] ∧ OnlyZone j s t))

/-! Voices' bookkeeping, windows, content, routing (chapters 7 to 9). -/

/-- PRESET_COPY and SUCCESSOR_START (R134, R135, R147): a waiting voice whose preset is cached takes its 32 words into the active
batten and sounds; one whose preset is lost becomes free and is counted; a pending successor starts when the fade has ended: each in the window of a frame that has begun
(R150). -/
def Obligations.VoiceCompletions : Prop :=
  ∀ (s : State) (i : ZoneId) (v : VoiceId) (z : Zone), s.zones[i] = z → Quiet s i → z.live = true →
    z.time.began = true →
    (∀ it : Item, z.voices[v].life = .wait → z.voices[v].ended = false → z.presetItem s.host z.voices[v].st.item = some it → z.presetHere it = true →
      Completes (.presetCopy i v) s (fun t => t.zones[i].voices[v].life = .active ∧
        t.zones[i].voices[v].st = { z.voices[v].st with held := [] } ∧ t.zones[i].voices[v].start = z.time.frame ∧
        (∀ k : Fin 32, m72Get t.zones[i].battAct (v.val * 32 + k.val) = z.presetWord it k.val) ∧
        MemBut ((List.range 32).map (fun k => v.val * 32 + k)) z.battAct t.zones[i].battAct ∧
        OnlyVoice v z t.zones[i] ∧ t.zones[i].time = z.time ∧ t.zones[i].sched.queue = z.sched.queue ∧ OnlyZone i s t)) ∧
    (z.voices[v].life = .wait → z.voices[v].ended = false → z.presetItem s.host z.voices[v].st.item = none →
      Completes (.presetCopy i v) s (fun t => t.zones[i].voices[v].life = .free ∧ Counted Reg.VCTL_COUNT 15 8 1 z t.zones[i] ∧
        bit (t.zones[i].reg 0x1C0C) 5 = true ∧ RegsBut [Reg.VCTL_COUNT, 0x1C0C, Reg.MSG_DROPPED] z t.zones[i] ∧
        OnlyVoice v z t.zones[i] ∧ t.zones[i].vox = z.vox ∧ t.zones[i].time = z.time ∧ OnlyZone i s t)) ∧
    (∀ st : Start, z.voices[v].life = .fading → z.voices[v].ended = true → z.voices[v].succ = some st → st.item = 0 →
      Completes (.successorStart i v) s (fun t => t.zones[i].voices[v].life = .active ∧
        t.zones[i].voices[v].st = { st with held := [] } ∧ t.zones[i].voices[v].succ = none ∧
        t.zones[i].voices[v].start = z.time.frame ∧ OnlyVoice v z t.zones[i] ∧ t.zones[i].vox.battA = z.vox.battA ∧
        t.zones[i].vox.battB = z.vox.battB ∧ t.zones[i].time = z.time ∧ OnlyZone i s t))

/-- Window writes (R53, R82, R137, R175, R219): parts 0 and 1 are staged, part 2 writes the word of the inactive batten or of
the space; a pending swap answers SWAP_PENDING, a running program PROG_RUNNING. A zone program's write costs the bridge's 6 cycles
and falls in the cycle of no host write (R201, R210, R356). -/
def Obligations.WindowWrites : Prop :=
  ∀ (s : State) (i : ZoneId) (p : Party) (v : Word) (z : Zone), s.zones[i] = z → Quiet s i →
    (Grants z p Reg.VWIN_DATA → Alone s i p Reg.VWIN_DATA → Idle z 0 →
      (winPart (z.win p).vaddr 12 ≠ 2 → Completes (.vwinDataWrite i p v) s (fun t =>
        t.zones[i] = (z.modWin p (fun w => { w with vaddr := winAdvance w.vaddr 12 11 17 3072, v := w.v.stage (winPart w.vaddr 12) v })).cost p ∧
        Lone i s t)) ∧
      (winPart (z.win p).vaddr 12 = 2 → fld (z.win p).vaddr 11 0 < 3072 → Completes (.vwinDataWrite i p v) s (fun t =>
        m72Get t.zones[i].battIn (fld (z.win p).vaddr 11 0) = ofParts (z.win p).v.p0 (z.win p).v.p1 v ∧
        MemBut [fld (z.win p).vaddr 11 0] z.battIn t.zones[i].battIn ∧ t.zones[i].battAct = z.battAct ∧
        t.zones[i].voices[fin 96 (fld (z.win p).vaddr 11 0 / 32)] =
          { z.voices[fin 96 (fld (z.win p).vaddr 11 0 / 32)] with edit := true } ∧
        OnlyVoice (fin 96 (fld (z.win p).vaddr 11 0 / 32)) z t.zones[i] ∧ t.zones[i].regs = (z.cost p).regs ∧
        (t.zones[i].win p).vaddr = winAdvance (z.win p).vaddr 12 11 17 3072 ∧ Lone i s t))) ∧
    (Grants z p Reg.RWIN_DATA → Alone s i p Reg.RWIN_DATA → Idle z 1 →
      (winPart (z.win p).raddr 12 ≠ 2 → Completes (.rwinDataWrite i p v) s (fun t =>
        t.zones[i] = (z.modWin p (fun w => { w with raddr := winAdvance w.raddr 12 11 17 576, r := w.r.stage (winPart w.raddr 12) v })).cost p ∧
        Lone i s t)) ∧
      (winPart (z.win p).raddr 12 = 2 → fld (z.win p).raddr 11 0 < 576 → Completes (.rwinDataWrite i p v) s (fun t =>
        m72Get t.zones[i].routeIn (fld (z.win p).raddr 11 0) = ofParts (z.win p).r.p0 (z.win p).r.p1 v ∧
        MemBut [fld (z.win p).raddr 11 0] z.routeIn t.zones[i].routeIn ∧ t.zones[i].routeAct = z.routeAct ∧
        t.zones[i].route.inactOk = false ∧ t.zones[i].voices = z.voices ∧ t.zones[i].regs = (z.cost p).regs ∧
        (t.zones[i].win p).raddr = winAdvance (z.win p).raddr 12 11 17 576 ∧ Lone i s t))) ∧
    (Grants z p Reg.DWIN_DATA → Alone s i p Reg.DWIN_DATA → fld (z.win p).daddr 31 30 = 0 → z.dsp.running = false → bit (z.reg Reg.DSP_CTL) 0 = false →
      (winPart (z.win p).daddr 26 ≠ 2 → Completes (.dwinDataWrite i p v) s (fun t =>
        t.zones[i] = (z.modWin p (fun w => { w with daddr := winAdvance w.daddr 26 16 29 16384, d := w.d.stage (winPart w.daddr 26) v })).cost p ∧
        Lone i s t)) ∧
      (winPart (z.win p).daddr 26 = 2 → fld (z.win p).daddr 16 0 < 16384 → Completes (.dwinDataWrite i p v) s (fun t =>
        m72Get t.zones[i].dsp.prog (fld (z.win p).daddr 16 0) = ofParts (z.win p).d.p0 (z.win p).d.p1 v ∧
        MemBut [fld (z.win p).daddr 16 0] z.dsp.prog t.zones[i].dsp.prog ∧ t.zones[i].dsp.data = z.dsp.data ∧
        t.zones[i].regs = (z.cost p).regs ∧ (t.zones[i].win p).daddr = winAdvance (z.win p).daddr 26 16 29 16384 ∧ Lone i s t))) ∧
    (Grants z .host Reg.VWIN_DATA → ¬ Idle z 0 → Completes (.vwinDataWrite i .host v) s (fun t =>
      t.host.bus.reason = 0x09 ∧ t.zones[i] = z ∧ Lone i s t)) ∧
    (Grants z .host Reg.DWIN_DATA → fld z.winH.daddr 31 30 = 0 → (z.dsp.running = true ∨ bit (z.reg Reg.DSP_CTL) 0 = true) →
      Completes (.dwinDataWrite i .host v) s (fun t => t.host.bus.reason = 0x15 ∧ t.zones[i] = z ∧ Lone i s t))

/-- Window reads (R82, R137, R175, R219, R378, R412): part 0 fetches the word, parts 1 and 2 give the fetched word; each party has
its own address and staging. -/
def Obligations.WindowReads : Prop :=
  ∀ (s : State) (i : ZoneId) (p : Party) (z : Zone), s.zones[i] = z → Quiet s i → Answers z →
    (∀ w : Nat, fld (z.win p).vaddr 11 0 = w → w < 3072 → winPart (z.win p).vaddr 12 = 0 →
      z.mem.mark memBatten (z.battWord 0 3072 (bit (z.win p).vaddr 16) w) = 0 →
      Completes (.vwinDataRead i p) s (fun t =>
        t.zones[i] = (z.modWin p (fun x => { x with vaddr := winAdvance x.vaddr 12 11 17 3072, v :=
          ⟨x.v.p0, x.v.p1, m72Get (if bit x.vaddr 16 then z.battIn else z.battAct) w⟩ })).cost p ∧
        (p = .host → t.host.bus.reason = 0 ∧
          t.host.bus.data = BitVec.extractLsb' 0 32 (m72Get (if bit z.winH.vaddr 16 then z.battIn else z.battAct) w)) ∧
        Lone i s t)) ∧
    (winPart (z.win p).vaddr 12 ≠ 0 → Completes (.vwinDataRead i p) s (fun t =>
        t.zones[i] = (z.modWin p (fun x => { x with vaddr := winAdvance x.vaddr 12 11 17 3072 })).cost p ∧
        (p = .host → t.host.bus.data = partOf z.winH.v.rd (winPart z.winH.vaddr 12)) ∧ Lone i s t)) ∧
    (∀ w : Nat, fld (z.win p).raddr 11 0 = w → w < 576 → winPart (z.win p).raddr 12 = 0 →
      z.mem.mark memRoute (z.battWord 1 576 (bit (z.win p).raddr 16) w) = 0 →
      Completes (.rwinDataRead i p) s (fun t =>
        t.zones[i] = (z.modWin p (fun x => { x with raddr := winAdvance x.raddr 12 11 17 576, r :=
          ⟨x.r.p0, x.r.p1, m72Get (if bit x.raddr 16 then z.routeIn else z.routeAct) w⟩ })).cost p ∧
        (p = .host → t.host.bus.data = BitVec.extractLsb' 0 32 (m72Get (if bit z.winH.raddr 16 then z.routeIn else z.routeAct) w)) ∧
        Lone i s t)) ∧
    (∀ w : Nat, fld (z.win p).daddr 16 0 = w → w < 30720 → winPart (z.win p).daddr 26 = 0 → fld (z.win p).daddr 31 30 = 1 →
      z.mem.mark memData w = 0 → Completes (.dwinDataRead i p) s (fun t =>
        t.zones[i] = (z.modWin p (fun x => { x with daddr := winAdvance x.daddr 26 16 29 30720, d :=
          ⟨x.d.p0, x.d.p1, m72Get z.dsp.data w⟩ })).cost p ∧
        (p = .host → t.host.bus.data = BitVec.extractLsb' 0 32 (m72Get z.dsp.data w)) ∧ Lone i s t)) ∧
    (∀ w : Nat, fld (z.win p).maddr 16 0 = w → winPart (z.win p).maddr 18 = 0 → fld (z.win p).maddr 31 29 = 0 →
      z.mem.mark memCache w = 0 → Completes (.wdataRead i p) s (fun t =>
        t.zones[i] = (z.modWin p (fun x => { x with maddr := winAdvance x.maddr 18 16 17 131072, m :=
          ⟨x.m.p0, x.m.p1, m72Get z.cache.mem w⟩ })).cost p ∧
        (p = .host → t.host.bus.data = BitVec.extractLsb' 0 32 (m72Get z.cache.mem w)) ∧ Lone i s t))

/-- The bundle (R162, R170, R171): MOUNT, UNMOUNT and LOAD, their refusal while a zone runs or the port works, UNFENCE. -/
def Obligations.Bundle : Prop :=
  ∀ (s : State) (x : HostC), { s.host with cont := { s.host.cont.unmounted 1 0 with base := (s.host.reg Reg.CONT_BASE).toNat } } = x →
    s.wf = true → HostOpen s 0x1400 →
    (s.contBusy = false → Completes .mount s (fun t =>
      t.host.cont.base = (s.host.reg Reg.CONT_BASE).toNat ∧ t.host.cont.items = [] ∧ t.host.bus.reason = 0 ∧
      t.host.cont.mstate = (if x.mountCheck x.manifest = 0 then 1 else 3) ∧ t.host.cont.mfail = x.mountCheck x.manifest ∧
      (∀ i : ZoneId, t.zones[i] = { s.zones[i] with cache := { s.zones[i].cache with lines := [], queue := [], wait := [], fenced := [] } }) ∧
      { t.host with cont := s.host.cont, bus := s.host.bus } = s.host ∧ t.pending = s.pending)) ∧
    (s.contBusy = false → Completes .unmount s (fun t => t.host.cont.mstate = 0 ∧ t.host.cont.items = [] ∧ t.host.cont.nb = 0 ∧
      (∀ i : ZoneId, t.zones[i] = { s.zones[i] with cache := { s.zones[i].cache with lines := [], queue := [], wait := [] } }) ∧
      { t.host with cont := s.host.cont, bus := s.host.bus } = s.host ∧ t.pending = s.pending)) ∧
    (s.contBusy = true → Completes .mount s (fun t => t.host.bus.reason = 0x13 ∧ SameHost s t ∧ NoZone s t) ∧
      Completes .unmount s (fun t => t.host.bus.reason = 0x13 ∧ SameHost s t ∧ NoZone s t)) ∧
    (s.host.cont.job = none → Completes .load s (fun t =>
      t.host.cont.lres = (match s.host.item (s.host.reg Reg.CONT_LOAD_ITEM) with
        | none => 1
        | some it => if it.ty ≠ loadType (fld (s.host.reg Reg.CONT_LOAD_DST) 5 4) then 2 else if s.host.noKey it then 3
          else s.host.cont.lres) ∧
      (∀ it, s.host.item (s.host.reg Reg.CONT_LOAD_ITEM) = some it → it.ty = loadType (fld (s.host.reg Reg.CONT_LOAD_DST) 5 4) →
        s.host.noKey it = false → t.host.cont.job = some ⟨some (it.id, fin 8 (fld (s.host.reg Reg.CONT_LOAD_DST) 2 0),
          fld (s.host.reg Reg.CONT_LOAD_DST) 5 4), List.range it.nblk, [], [], false, 0, false, true⟩) ∧
      { t.host with cont := s.host.cont, bus := s.host.bus } = s.host ∧ NoZone s t)) ∧
    (∀ (i : ZoneId), Quiet s i → Completes (.unfence i) s (fun t =>
      t.zones[i] = { s.zones[i] with cache := { s.zones[i].cache with fenced := [] } } ∧ Lone i s t))

/-- The content port (R154–R157, R162, R170, R337): a raw command changes the flash and the bulk buffer alone; each slot of a
round of 96 serves its owner first, then the host complex's work; a block of an encrypted item without a key fences the item. In Sleep (PSTATE 2) the port stands. -/
def Obligations.ContentPort : Prop :=
  ∀ s : State, s.wf = true →
    (∀ v : Word, HostOpen s 0x1400 → s.contBusy = false → Completes (.xcmd v) s (fun t => t.host.bus.reason = 0 ∧
      { t.host with cont := { t.host.cont with flash := s.host.cont.flash }
                    proto := { t.host.proto with bulk := s.host.proto.bulk }
                    draws := s.host.draws
                    bus := s.host.bus } = s.host ∧ NoZone s t)) ∧
    (∀ v : Word, HostOpen s 0x1400 → s.contBusy = true → Completes (.xcmd v) s (fun t => t.host.bus.reason = 0x13 ∧
      SameHost s t ∧ NoZone s t)) ∧
    (∀ cdqs : Bool, s.host.pwr.pstate ≠ 2 → bit (s.host.reg Reg.CONT_CFG) 0 = true → s.slotOwn = none → s.host.cont.job = none → s.slotTurn = none →
      Completes (.fetchSlot cdqs) s (fun t =>
        t.host = { s.host with cont := { s.host.cont with slot := (s.host.cont.slot + 1) % 96 } } ∧ NoZone s t)) ∧
    (∀ (cdqs : Bool) (j : PortJob) (k k' : Nat) (r : List Nat), s.host.pwr.pstate ≠ 2 → bit (s.host.reg Reg.CONT_CFG) 0 = true → s.slotOwn = none →
      s.host.cont.job = some j → j.load = none → j.todo = k :: k' :: r → Completes (.fetchSlot cdqs) s (fun t =>
        (∀ j' ∈ t.host.cont.job, j'.todo = k' :: r ∧ j'.load = none ∧ j'.again = j.again) ∧ t.host.cont.job.isSome = true ∧
        t.host.cont.slot = (s.host.cont.slot + 1) % 96 ∧ t.host.cont.mstate = s.host.cont.mstate ∧ NoZone s t)) ∧
    (∀ (cdqs : Bool) (i : ZoneId) (f : Fetch) (it : Item), s.host.pwr.pstate ≠ 2 → bit (s.host.reg Reg.CONT_CFG) 0 = true → s.slotOwn = some i →
      Quiet s i → s.zones[i].nextFetch true = some f → s.host.itemOfBlk f.blk = some it → s.host.noKey it = true →
      s.zones[i].cache.fenced = [] → Completes (.fetchSlot cdqs) s (fun t => t.zones[i].cache.fenced = [it.id] ∧
        t.zones[i].cache.queue = (s.zones[i].cache.done f).queue ∧ t.zones[i].cache.lines = s.zones[i].cache.lines ∧
        t.host.cont.slot = (s.host.cont.slot + 1) % 96 ∧ OnlyZone i s t))

/-- The route program and its gains (R175, R178, R181, R185, R186, R193). -/
def Obligations.Routing : Prop :=
  ∀ (s : State) (i : ZoneId) (z : Zone), s.zones[i] = z → Quiet s i →
    (Grants z .host Reg.ROUTE_CMD → Completes (.validate i) s (fun t =>
      fld (t.zones[i].reg Reg.ROUTE_VSTAT) 31 28 = (validate z.routeAct z.routeIn false).1 % 16 ∧
      t.zones[i].route.inactOk = (z.route.inactOk || (validate z.routeAct z.routeIn false).1 == 0) ∧
      t.zones[i].route.latIn = latTable z.routeIn ∧ RegsBut [Reg.ROUTE_VSTAT] z t.zones[i] ∧
      { t.zones[i] with regs := z.regs, route := z.route } = z ∧ t.zones[i].routeIn = z.routeIn ∧ Lone i s t)) ∧
    (z.route.splW ≠ 0 → z.route.splW ≤ z.route.splK → Completes (.spliceWindowEnd i) s (fun t =>
      t.zones[i] = { z with route := { z.route with splice := [], splW := 0, splK := 0 } } ∧ Lone i s t)) ∧
    (∀ v : Word, Grants z .host Reg.ROUTE_GREQ_LO → Completes (.greqLo i v) s (fun t =>
      t.zones[i] = { z with route := { z.route with reqH := z.route.reqH ++ [(fld (z.reg Reg.ROUTE_GREQ_HI) 11 0,
        (BitVec.extractLsb' 16 4 (z.reg Reg.ROUTE_GREQ_HI) ++ v : BitVec 36).toInt)] } } ∧ Lone i s t)) ∧
    (∀ k : Fin 64, z.route.g[k].pend = true → z.zto ≤ z.route.g[k].wait → Completes (.gramp i k) s (fun t =>
      t.zones[i].route.g[k] = { z.route.g[k] with pend := false, wait := 0, ramp := 32, from0 := z.route.g[k].cur } ∧
      (∀ j : Fin 64, j ≠ k → t.zones[i].route.g[j] = z.route.g[j]) ∧ Counted Reg.ROUTE_COUNT 31 16 1 z t.zones[i] ∧
      bit (t.zones[i].reg 0x240C) 4 = true ∧ RegsBut [Reg.ROUTE_COUNT, 0x240C] z t.zones[i] ∧ Lone i s t)) ∧
    (∀ v : Word, Grants z .host Reg.STONE_CFG → Completes (.stoneCfg i v) s (fun t =>
      t.zones[i].reg Reg.STONE_CFG = v &&& 0xFF03 ∧ RegsBut [Reg.STONE_CFG] z t.zones[i] ∧
      t.zones[i].lim.stT = (if bit v 0 = false ∨ fld v 15 8 = 0 then 0 else gainDb (((min 145 (fld v 15 8) : Nat) - 121 : Int) * 32768)) ∧
      (t.zones[i].lim.stT ≠ z.lim.stT → t.zones[i].lim.stK = 0 ∧ t.zones[i].lim.stF = z.lim.stG) ∧
      { t.zones[i] with regs := z.regs, lim := z.lim } = z ∧ Lone i s t))

/-! The zone DSP (chapter 10) and the accumulators (chapter 4). -/

/-- Accumulators (R74, R75, R76, R78, R79): an exact sum keeps 72 bits and counts its wraps up to 7; beyond, STUCK, LDIR, AOV and
LOST stand; reads and stores of a wrapped accumulator saturate. -/
def Obligations.AccumulatorRules : Prop :=
  ∀ (a : AccSt) (x k : Int),
    (-(2 ^ 71) ≤ (a.add x).val ∧ (a.add x).val < 2 ^ 71) ∧ (a.val + x - (a.add x).val) % 2 ^ 72 = 0 ∧
    (a.val + x = (a.add x).val + k * 2 ^ 72 →
      (k = 0 → a.add x = { a with val := (a.add x).val }) ∧
      (k ≠ 0 → a.stuck = true → a.add x = { a with val := (a.add x).val, ldir := k.sign }) ∧
      (k ≠ 0 → a.stuck = false → (-7 ≤ a.wrap + k ∧ a.wrap + k ≤ 7) →
        a.add x = { a with val := (a.add x).val, wrap := a.wrap + k, ldir := k.sign, aov := true }) ∧
      (k ≠ 0 → a.stuck = false → (a.wrap + k < -7 ∨ 7 < a.wrap + k) →
        a.add x = ⟨(a.add x).val, 7 * k.sign, true, k.sign, true, true⟩)) ∧
    (a.load x = AccSt.add ⟨0, 0, false, 0, a.aov, a.lost⟩ x) ∧
    (a.wrap = 0 → a.stuck = false → a.read = a.val ∧ ∀ t : Target, a.store t = storeVal t a.val) ∧
    (a.wrap > 0 → a.stuck = false → a.read = a72Max ∧ ∀ t : Target, a.store t = (t.hi, true)) ∧
    (a.wrap < 0 → a.stuck = false → a.read = a72Min ∧ ∀ t : Target, a.store t = (t.lo, true)) ∧
    (a.stuck = true → (a.read = if a.ldir > 0 then a72Max else a72Min) ∧
      ∀ t : Target, a.store t = (if a.ldir > 0 then t.hi else t.lo, true))

/-- The MAC slot (R198, Table 10-3): each op loads or adds its product, aligned to A72 and exact before the wrap, with the operand
halves that HX and HY name, read at issue. -/
def Obligations.DspMac : Prop :=
  ∀ (s : State) (i : ZoneId) (f : MacF) (z : Zone), s.zones[i] = z → Quiet s i → z.dsp.guard f.g.val = true →
    ∀ (x y : W72) (xh yh : Int), z.dsp.rd f.x = x → z.dsp.rd f.y = y → halfOf x f.hx = xh → halfOf y f.hy = yh →
    Completes (.mpy i f) s (MacLeaves i s f.a (z.dsp.acc[f.a].load (mulSS xh yh))) ∧
    Completes (.mac i f) s (MacLeaves i s f.a (z.dsp.acc[f.a].add (mulSS xh yh))) ∧
    Completes (.msu i f) s (MacLeaves i s f.a (z.dsp.acc[f.a].add (-(mulSS xh yh)))) ∧
    Completes (.gmpy i f) s (MacLeaves i s f.a (z.dsp.acc[f.a].load (mulGS xh yh))) ∧
    Completes (.gmac i f) s (MacLeaves i s f.a (z.dsp.acc[f.a].add (mulGS xh yh))) ∧
    (f.hx = false → f.hy = false → ∀ (p0 p1 : Int), mulSS (hiHalf x) (hiHalf y) = p0 → mulSS (loHalf x) (loHalf y) = p1 →
      Completes (.dmpy i f) s (MacLeaves i s f.a (z.dsp.acc[f.a].load (p0 + p1))) ∧
      Completes (.dmac i f) s (MacLeaves i s f.a (z.dsp.acc[f.a].add (p0 + p1))) ∧
      Completes (.dmac2 i f) s (fun t => t.zones[i].dsp.acc =
          (z.dsp.acc.set f.a (z.dsp.acc[f.a].add p0)).set (fin 4 (f.a.val + 1 - 2 * (f.a.val % 2)))
            (z.dsp.acc[fin 4 (f.a.val + 1 - 2 * (f.a.val % 2))].add p1) ∧
        t.zones[i].dsp = { z.dsp.passed with acc := t.zones[i].dsp.acc } ∧ DspOnly i s t)) ∧
    (f.hx = false → Completes (.wmpy i f) s (MacLeaves i s f.a (z.dsp.acc[f.a].load (mulAS x.toInt yh))) ∧
      Completes (.wmac i f) s (MacLeaves i s f.a (z.dsp.acc[f.a].add (mulAS x.toInt yh))) ∧
      Completes (.wgmac i f) s (MacLeaves i s f.a (z.dsp.acc[f.a].add (mulAG x.toInt yh)))) ∧
    (f.y = 0 → f.hy = false → Completes (.ald i f) s (MacLeaves i s f.a (z.dsp.acc[f.a].load x.toInt))) ∧
    Completes (.aadd i f) s (MacLeaves i s f.a (z.dsp.acc[f.a].add x.toInt)) ∧
    Completes (.asub i f) s (MacLeaves i s f.a (z.dsp.acc[f.a].add (-x.toInt))) ∧
    (f.x = 0 → f.y = 0 → f.hx = false → f.hy = false →
      Completes (.aclr i f) s (MacLeaves i s f.a ⟨0, 0, false, 0, z.dsp.acc[f.a].aov, z.dsp.acc[f.a].lost⟩)) ∧
    (f.a = 0 → f.x = 0 → f.y = 0 → f.hx = false → f.hy = false → Completes (.macMnop i f) s (DspIs i s z.dsp.passed))

/-- The arithmetic of the ALU slot (R199, Table 10-4): ADD, SUB, NEG, ABS and SHL saturate to A72 and set SAT; the shifts right
round; the others move or combine the 72 bits. -/
def Obligations.DspAlu : Prop :=
  ∀ (s : State) (i : ZoneId) (g : Fin 16) (d r : Fin 64) (x : Fin 8) (m : BitVec 9) (z : Zone), s.zones[i] = z → Quiet s i →
    z.dsp.guard g.val = true → ∀ (u v : W72), z.dsp.rd d = u → z.dsp.rd r = v →
    (∀ n : Int, u.toInt + v.toInt = n → Completes (.add i (aluOf g d r x)) s
      (AluLeaves i s d (BitVec.ofInt 72 (clampI a72Min a72Max n)) (decide (n < a72Min ∨ a72Max < n)))) ∧
    (∀ n : Int, u.toInt - v.toInt = n → Completes (.sub i (aluOf g d r x)) s
      (AluLeaves i s d (BitVec.ofInt 72 (clampI a72Min a72Max n)) (decide (n < a72Min ∨ a72Max < n)))) ∧
    Completes (.neg i (aluOf g d r x)) s
      (AluLeaves i s d (BitVec.ofInt 72 (clampI a72Min a72Max (-v.toInt))) (decide (v.toInt = a72Min))) ∧
    Completes (.abs i (aluOf g d r x)) s
      (AluLeaves i s d (BitVec.ofInt 72 (clampI a72Min a72Max v.toInt.natAbs)) (decide (v.toInt = a72Min))) ∧
    (∀ n : Int, v.toInt * 2 ^ (x.val + 1) = n → Completes (.shl i (aluOf g d r x)) s
      (AluLeaves i s d (BitVec.ofInt 72 (clampI a72Min a72Max n)) (decide (n < a72Min ∨ a72Max < n)))) ∧
    Completes (.mov i (aluOf g d r x)) s (AluLeaves i s d v false) ∧
    Completes (.min i (aluOf g d r x)) s (AluLeaves i s d (if v.toInt < u.toInt then v else u) false) ∧
    Completes (.max i (aluOf g d r x)) s (AluLeaves i s d (if u.toInt < v.toInt then v else u) false) ∧
    Completes (.and i (aluOf g d r x)) s (AluLeaves i s d (u &&& v) false) ∧
    Completes (.or i (aluOf g d r x)) s (AluLeaves i s d (u ||| v) false) ∧
    Completes (.xor i (aluOf g d r x)) s (AluLeaves i s d (u ^^^ v) false) ∧
    Completes (.shra i (aluOf g d r x)) s (AluLeaves i s d (BitVec.ofInt 72 (roundShift v.toInt (x.val + 1))) false) ∧
    Completes (.shra8 i (aluOf g d r x)) s (AluLeaves i s d (BitVec.ofInt 72 (roundShift v.toInt (8 * (x.val + 1)))) false) ∧
    Completes (.ldi i (aluImm g d m)) s (AluLeaves i s d (m.signExtend 72) false) ∧
    Completes (.ldis i (aluImm g d m)) s (AluLeaves i s d ((u <<< 9) ||| m.setWidth 72) false) ∧
    Completes (.anop i (aluOf g 0 0 0)) s (DspIs i s z.dsp.passed)

/-- Compares, accumulator reads and stores, FCLR and HMOV (R76, R78, R79, R197, R199): a compare sets Q1 to Q7 for the next bundle;
RDACC, STS and STG read the accumulator one bundle behind. -/
def Obligations.DspFlags : Prop :=
  ∀ (s : State) (i : ZoneId) (g : Fin 16) (d r : Fin 64) (x : Fin 8) (z : Zone), s.zones[i] = z → Quiet s i →
    z.dsp.guard g.val = true → ∀ (u v : W72), z.dsp.rd d = u → z.dsp.rd r = v →
    (x.val < 7 → ∀ b : Bool,
      (b = (u == v) → Completes (.cmpeq i (aluOf g d r x)) s (fun t => (∀ k : Fin 16, t.zones[i].dsp.q.getLsbD k.val =
          if k.val = x.val + 1 then b else z.dsp.passed.q.getLsbD k.val) ∧
        DspIs i s { z.dsp.passed with q := t.zones[i].dsp.q } t)) ∧
      (b = decide (u.toInt < v.toInt) → Completes (.cmplt i (aluOf g d r x)) s (fun t => (∀ k : Fin 16, t.zones[i].dsp.q.getLsbD k.val =
          if k.val = x.val + 1 then b else z.dsp.passed.q.getLsbD k.val) ∧
        DspIs i s { z.dsp.passed with q := t.zones[i].dsp.q } t)) ∧
      (b = decide (u.toInt ≤ v.toInt) → Completes (.cmple i (aluOf g d r x)) s (fun t => (∀ k : Fin 16, t.zones[i].dsp.q.getLsbD k.val =
          if k.val = x.val + 1 then b else z.dsp.passed.q.getLsbD k.val) ∧
        DspIs i s { z.dsp.passed with q := t.zones[i].dsp.q } t))) ∧
    (∀ a : Fin 4, r.val = a.val →
      Completes (.rdacc i (aluOf g d r x)) s (AluLeaves i s d (BitVec.ofInt 72 z.dsp.accOld[a].read) false) ∧
      Completes (.sts i (aluOf g d r x)) s (AluLeaves i s d
        (withHalf u (x.val % 2 == 1) (z.dsp.accOld[a].store ⟨28, s36Min, s36Max⟩).1) (z.dsp.accOld[a].store ⟨28, s36Min, s36Max⟩).2) ∧
      Completes (.stg i (aluOf g d r x)) s (AluLeaves i s d
        (withHalf u (x.val % 2 == 1) (z.dsp.accOld[a].store ⟨31, s36Min, s36Max⟩).1) (z.dsp.accOld[a].store ⟨31, s36Min, s36Max⟩).2)) ∧
    Completes (.hmov i (aluOf g d r x)) s (AluLeaves i s d
      (withHalf u (x.val / 2 % 2 == 1) (halfOf v (x.val % 2 == 1))) false) ∧
    Completes (.fclr i (aluOf g d r x)) s (fun t => (∀ a : Fin 4, t.zones[i].dsp.acc[a] =
        if r.val / 2 ^ a.val % 2 = 1 then { z.dsp.acc[a] with aov := false, lost := false } else z.dsp.acc[a]) ∧
      t.zones[i].dsp.sat = (z.dsp.sat && x.val % 2 == 0) ∧
      DspIs i s { z.dsp.passed with acc := t.zones[i].dsp.acc, sat := t.zones[i].dsp.sat } t)

/-- Control (R201, R202, R203, R207): a taken BR ends a loop and squashes two bundles; LOOP with LC = 0 skips its body; END
completes what has been issued and ends the routine; a bundle at the end of a loop body starts the next iteration. -/
def Obligations.DspControl : Prop :=
  ∀ (s : State) (i : ZoneId) (g : Fin 16) (z : Zone), s.zones[i] = z → Quiet s i →
    (z.dsp.guard g.val = true →
      (∀ dst : BitVec 14, Completes (.br i ⟨g, dst.setWidth 15⟩) s (fun t => t.zones[i].dsp.pc = dst.toNat ∧ t.zones[i].dsp.loop = none ∧
        t.zones[i].dsp.cycle = z.dsp.cycle + 3 ∧ t.zones[i].dsp.acc = z.dsp.acc ∧ t.zones[i].dsp.accOld = z.dsp.acc ∧
        DspIs i s { z.dsp.tickRes.tickRes.tickRes with accOld := z.dsp.acc, pc := dst.toNat, loop := none, cycle := z.dsp.cycle + 3 } t)) ∧
      (∀ bl : BitVec 11, bl ≠ 0 → z.dsp.pc + bl.toNat ≤ 16383 → z.dsp.loop = none →
        Completes (.loop i ⟨g, bl.setWidth 15⟩) s (fun t =>
          DspIs i s { z.dsp.tickRes with
            accOld := z.dsp.acc
            cycle := z.dsp.cycle + 1
            pc := if z.dsp.lc = 0 then (z.dsp.pc + bl.toNat + 1) % 2 ^ 14 else z.dsp.pc + 1
            loop := if z.dsp.lc = 0 then none else some ⟨z.dsp.pc + 1, z.dsp.pc + bl.toNat, z.dsp.lc.toNat, false, z.dsp.lc.toNat⟩ } t) ∧
        (∀ drn : Fin 8, z.dsp.lc ≠ 0 → Completes (.loop i ⟨g, BitVec.ofNat 15 (2 ^ 14 + drn.val * 2 ^ 11 + bl.toNat)⟩) s (fun t =>
          (∀ k : Fin 8, t.zones[i].dsp.q.getLsbD (8 + k.val) = decide (k.val = 0)) ∧
          (∀ k : Fin 8, t.zones[i].dsp.q.getLsbD k.val = z.dsp.q.getLsbD k.val) ∧
          DspIs i s { z.dsp.tickRes with
            accOld := z.dsp.acc
            cycle := z.dsp.cycle + 1
            pc := z.dsp.pc + 1
            ix := 0
            q := t.zones[i].dsp.q
            loop := some ⟨z.dsp.pc + 1, z.dsp.pc + bl.toNat, z.dsp.lc.toNat + drn.val, true, z.dsp.lc.toNat⟩ } t))) ∧
      Completes (.endRoutine i ⟨g, 0⟩) s (fun t => t.zones[i].dsp.rtn = none ∧ t.zones[i].dsp.loop = none ∧ t.zones[i].dsp.pend = [] ∧
        t.zones[i].dsp.lastEnd = z.dsp.cycle + 1 ∧ t.zones[i].dsp.cycle = z.dsp.cycle + 1 ∧ t.zones[i].dsp.acc = z.dsp.acc ∧
        t.zones[i].dsp.data = z.dsp.data ∧ t.zones[i].dsp.g = z.dsp.tickRes.tickRes.tickRes.g ∧
        { t.zones[i] with dsp := z.dsp } = z ∧ Lone i s t)) ∧
    (z.dsp.guard g.val = false → ∀ d : ZDsp, z.dsp.passed = d →
      Completes (.br i ⟨g, 0⟩) s (DspIs i s d) ∧ Completes (.endRoutine i ⟨g, 0⟩) s (DspIs i s d) ∧
      Completes (.mov i ⟨g, 0x7FFF⟩) s (DspIs i s d) ∧ Completes (.mpy i ⟨g, 3, 63, 63, true, true⟩) s (DspIs i s d) ∧
      Completes (.ldw i ⟨g, 63, 7, 0x7F⟩) s (DspIs i s d) ∧
      (z.dsp.loop = none → d.pc = (z.dsp.pc + 1) % 2 ^ 14 ∧ d.loop = none) ∧
      (∀ l : DspLoop, z.dsp.loop = some l → z.dsp.pc ≠ l.last → d.pc = (z.dsp.pc + 1) % 2 ^ 14 ∧ d.loop = some l) ∧
      (∀ l : DspLoop, z.dsp.loop = some l → z.dsp.pc = l.last → 1 < l.left → d.pc = l.first ∧
        d.loop = some { l with left := l.left - 1 } ∧
        (l.rot = true → d.ro = z.dsp.ro + 1 ∧ d.ix = z.dsp.ix + 1 ∧ d.lc = z.dsp.lc ∧
          ∀ k : Fin 8, d.q.getLsbD (8 + k.val) = decide (k.val ≤ d.ix.toNat ∧ d.ix.toNat - k.val < l.trip)) ∧
        (l.rot = false → d.ro = z.dsp.ro ∧ d.lc = z.dsp.lc - 1 ∧ d.q = z.dsp.q)) ∧
      (∀ l : DspLoop, z.dsp.loop = some l → z.dsp.pc = l.last → l.left ≤ 1 → d.pc = (z.dsp.pc + 1) % 2 ^ 14 ∧ d.loop = none))

/-- Loads, stores and taps (R196, R200, R201, R211, R213): a load is visible two bundles later; a store writes its word or half at
once; the pointer moves by m, modulo the length of a circular buffer; an access waits at most two cycles for the memory (R347–
R349), and the first write into a stale segment stalls eight more. -/
def Obligations.DspMemory : Prop :=
  ∀ (s : State) (i : ZoneId) (g : Fin 16) (r : Fin 64) (n : BitVec 3) (m : BitVec 7) (l : Bool) (z : Zone), s.zones[i] = z → Quiet s i →
    z.dsp.guard g.val = true → ∀ (p : Ptr) (e : Nat), z.dsp.pt[fin 8 n.toNat] = p → p.addr = some e →
    ∀ d : ZDsp, { z.dsp.passed with pt := z.dsp.pt.set (fin 8 n.toNat) (p.move m.toInt) } = d →
    (p.y = false → z.mem.mark memData (z.dPhys (e / 2)) = 0 → ∀ w : W72, z.dWord (e / 2) = w →
      Completes (.ldw i ⟨g, r, n, m.setWidth 8⟩) s
        (DspWaits i s { d with pend := d.pend ++ [⟨1, z.dsp.phys r, 0, w⟩] }) ∧
      Completes (.lde i ⟨g, r, n, BitVec.ofNat 8 (b2n l * 128 + m.toNat)⟩) s
        (DspWaits i s { d with pend := d.pend ++ [⟨1, z.dsp.phys r, if l then 2 else 1, withHalf 0 l (halfOf w (e % 2 == 1))⟩] })) ∧
    (p.y = true → z.dsp.isStale (e / 2 / 64) = true →
      Completes (.ldw i ⟨g, r, n, m.setWidth 8⟩) s (DspWaits i s { d with pend := d.pend ++ [⟨1, z.dsp.phys r, 0, 0⟩] })) ∧
    (p.y = false → e / 2 < 30720 →
      Completes (.stw i ⟨g, r, n, m.setWidth 8⟩) s (fun t =>
        m72Get t.zones[i].dsp.data (e / 2) = z.dsp.rd r ∧ MemBut [e / 2] z.dsp.data t.zones[i].dsp.data ∧
        Waited { z with dsp := { d with data := t.zones[i].dsp.data }, mem := t.zones[i].mem } t.zones[i] ∧ Lone i s t) ∧
      Completes (.ste i ⟨g, r, n, BitVec.ofNat 8 (b2n l * 128 + m.toNat)⟩) s (fun t =>
        m72Get t.zones[i].dsp.data (e / 2) = withHalf (m72Get z.dsp.data (e / 2)) (e % 2 == 1) (halfOf (z.dsp.rd r) l) ∧
        MemBut [e / 2] z.dsp.data t.zones[i].dsp.data ∧
        Waited { z with dsp := { d with data := t.zones[i].dsp.data }, mem := t.zones[i].mem } t.zones[i] ∧ Lone i s t)) ∧
    (p.y = true → z.dsp.isStale (e / 2 / 64) = false →
      Completes (.stw i ⟨g, r, n, m.setWidth 8⟩) s (fun t =>
        m72Get t.zones[i].dsp.dly (e / 2) = z.dsp.rd r ∧ MemBut [e / 2] z.dsp.dly t.zones[i].dsp.dly ∧
        Waited { z with dsp := { d with dly := t.zones[i].dsp.dly }, mem := t.zones[i].mem } t.zones[i] ∧ Lone i s t)) ∧
    (p.y = true → z.dsp.isStale (e / 2 / 64) = true →
      Completes (.stw i ⟨g, r, n, m.setWidth 8⟩) s (fun t => t.zones[i].dsp.isStale (e / 2 / 64) = false ∧
        m72Get t.zones[i].dsp.dly (e / 2) = z.dsp.rd r ∧
        (∀ k : Fin 64, e / 128 * 64 + k.val ≠ e / 2 → m72Get t.zones[i].dsp.dly (e / 128 * 64 + k.val) = 0) ∧
        (∃ k : Fin 3, t.zones[i].dsp.cycle = z.dsp.cycle + 9 + k.val ∧ Counted Reg.DSP_RCOUNT 31 16 (8 + k.val) z t.zones[i] ∧
          Counted (Reg.MEM_CONF 3) 31 0 k.val z t.zones[i]) ∧ t.zones[i].dsp.data = z.dsp.data ∧
        t.zones[i].dsp.acc = z.dsp.acc ∧ RegsBut [Reg.DSP_RCOUNT, Reg.MEM_CONF 3] z t.zones[i] ∧ OnlyZone i s t)) ∧
    (∀ (c : Fin 64) (dl : Nat), (z.dsp.rd c).toNat % 2 ^ 18 = dl → 1 ≤ dl → dl ≤ p.a → p.len = 0 ∨ dl < p.len → p.beyond = false →
      p.y = false → z.mem.mark memData (z.dPhys ((p.baseOf + p.a - dl) / 2)) = 0 →
      Completes (.tap i ⟨g, r, n, BitVec.ofNat 8 (b2n l * 128 + c.val)⟩) s
        (DspWaits i s { z.dsp.passed with pend := z.dsp.passed.pend ++ [⟨1, z.dsp.phys r, if l then 2 else 1,
          withHalf 0 l (halfOf (z.dWord ((p.baseOf + p.a - dl) / 2)) ((p.baseOf + p.a - dl) % 2 == 1))⟩] }))

/-- The I/O registers and pointer fields (R200, R209, R210, Table 10-7). -/
def Obligations.DspIo : Prop :=
  ∀ (s : State) (i : ZoneId) (g : Fin 16) (r : Fin 64) (z : Zone), s.zones[i] = z → Quiet s i → z.dsp.guard g.val = true →
    ∀ d : ZDsp, z.dsp.passed = d →
    (∀ (a : BitVec 8) (v : W72), ioReads a.toNat = true → a ≠ 0x99 → (z.ioRead z.dsp a.toNat).1 = v →
      (∀ k : Fin 64, a.toNat = k.val → v = BitVec.ofInt 72 z.dsp.diIn[k]) ∧
      (∀ k : Fin 64, a.toNat = 0x40 + k.val → v = BitVec.ofInt 72 z.dsp.doReg[k]) ∧
      (a = 0x88 → v = BitVec.ofNat 72 z.dsp.hnum) ∧ (a = 0x89 → v = z.dsp.harg.setWidth 72) ∧
      (a = 0x8A → v = (BitVec.extractLsb' 0 32 z.time.frame).setWidth 72) ∧
      (a = 0x8B → v = (BitVec.extractLsb' 32 16 z.time.frame).setWidth 72) ∧ (a = 0x90 → v = z.dsp.lc.setWidth 72) ∧
      (a = 0x91 → v = z.dsp.ro.setWidth 72) ∧ (a = 0x94 → v = z.dsp.ix.setWidth 72) ∧
      Completes (.ioRead i ⟨g, r, 0, a⟩) s (DspIs i s { d with pend := d.pend ++ [⟨1, z.dsp.phys r, 0, v⟩] })) ∧
    (∀ k : Fin 64, Completes (.ioWrite i ⟨g, r, 0, BitVec.ofNat 8 (0x40 + k.val)⟩) s
      (DspIs i s { d with doReg := z.dsp.doReg.set k (z.dsp.rd r).toInt })) ∧
    (∀ v : Word, BitVec.extractLsb' 0 32 (z.dsp.rd r) = v →
      Completes (.ioWrite i ⟨g, r, 0, 0x80⟩) s (DspIs i s { d with rqA := v }) ∧
      Completes (.ioWrite i ⟨g, r, 0, 0x81⟩) s (DspIs i s { d with rqB := v }) ∧
      (fld v 3 0 ≤ 5 → z.dsp.reqs.length < 16 → Completes (.ioWrite i ⟨g, r, 0, 0x82⟩) s
        (DspIs i s { d with reqs := z.dsp.reqs ++ [⟨fld v 3 0, fld v 6 4, z.dsp.rqA, z.dsp.rqB⟩] })) ∧
      (fld v 3 0 ≤ 5 → 16 ≤ z.dsp.reqs.length → Completes (.ioWrite i ⟨g, r, 0, 0x82⟩) s (fun t =>
        t.zones[i].dsp = { d with rqFull := true } ∧ Counted Reg.DSP_RCOUNT 15 8 1 z t.zones[i] ∧
        bit (t.zones[i].reg 0x300C) 7 = true ∧ RegsBut [Reg.DSP_RCOUNT, 0x300C] z t.zones[i] ∧ Lone i s t)) ∧
      (5 < fld v 3 0 → Completes (.ioWrite i ⟨g, r, 0, 0x82⟩) s (fun t => t.zones[i].dsp.tcause = 3 ∧ t.zones[i].dsp.reqs = z.dsp.reqs ∧
        t.zones[i].dsp.tpc = z.dsp.pc ∧ OnlyZone i s t))) ∧
    (∀ (n : BitVec 3) (fl : Fin 4) (p : Ptr), z.dsp.pt[fin 8 n.toNat] = p →
      Completes (.pts i ⟨g, r, n, BitVec.ofNat 8 fl.val⟩) s
        (DspIs i s { d with pt := z.dsp.pt.set (fin 8 n.toNat) (p.put fl.val ((z.dsp.rd r).toNat % 2 ^ 19)) }) ∧
      Completes (.pts i ⟨g, r, n, BitVec.ofNat 8 (4 + fl.val)⟩) s
        (DspIs i s { d with pend := d.pend ++ [⟨1, z.dsp.phys r, 0, BitVec.ofNat 72 (p.get fl.val)⟩] })) ∧
    Completes (.memMnop i ⟨g, 0, 0, 0⟩) s (DspIs i s d)

/-- Traps (R197, R214, R215): precise, counted, with cause and PC; into the trap handler if TRAPH allows it, else the run is
abandoned. OVERRUN abandons it at once and is counted too (R208). RUN is taken at a tick boundary and ignored without a program
(R218). -/
def Obligations.DspTraps : Prop :=
  ∀ (s : State) (i : ZoneId) (z : Zone), s.zones[i] = z → Quiet s i →
    (z.ctl.bucket + 1 < fld (z.reg Reg.FENCE_STORM) 7 0 → z.ctl.bucket < 255 →
      (∀ (f : AluF), bit (z.reg Reg.DSP_CTL) 2 = false →
        (∀ c ∈ [Instr.anop i ⟨f.g, 1⟩, Instr.rdacc i (aluOf f.g 5 4 0), Instr.cmpeq i (aluOf f.g 1 2 7), Instr.macMnop i ⟨f.g, 1, 0, 0, false, false⟩,
            Instr.loop i ⟨f.g, 0⟩, Instr.br i ⟨f.g, 0x4000⟩, Instr.ldw i ⟨f.g, 0, 0, 0x80⟩, Instr.ioRead i ⟨f.g, 0, 0, 0x80⟩,
            Instr.ioWrite i ⟨f.g, 0, 0, 0⟩, Instr.pts i ⟨f.g, 0, 0, 8⟩, Instr.memMnop i ⟨f.g, 1, 0, 0⟩], Completes c s (fun t =>
          t.zones[i].dsp = { z.dsp.drain with
            tcause := 3
            tpc := z.dsp.pc
            loop := none
            rtn := none
            dead := true
            abandoned := true } ∧
          t.zones[i].reg Reg.DSP_TRAP = BitVec.ofNat 32 (3 * 2 ^ 28 + z.dsp.hnum % 32 * 2 ^ 16 + z.dsp.pc % 2 ^ 14) ∧
          t.zones[i].reg Reg.DSP_TRAP_FRAME = BitVec.extractLsb' 0 32 z.time.frame ∧ bit (t.zones[i].reg 0x300C) 8 = true ∧
          Counted Reg.DSP_COUNT 23 16 1 z t.zones[i] ∧ t.zones[i].ctl = { z.ctl with bucket := z.ctl.bucket + 1 } ∧
          RegsBut [Reg.DSP_TRAP, Reg.DSP_TRAP_FRAME, 0x300C, Reg.DSP_COUNT, Reg.MSG_DROPPED] z t.zones[i] ∧
          { t.zones[i] with dsp := z.dsp, regs := z.regs, ctl := z.ctl, msgs := z.msgs } = z ∧ OnlyZone i s t))) ∧
      (bit (z.reg Reg.DSP_CTL) 2 = true → z.dsp.rtn ≠ some 18 → Completes (.anop i ⟨0, 1⟩) s (fun t =>
          t.zones[i].dsp.pc = 3 ∧ t.zones[i].dsp.rtn = some 18 ∧ t.zones[i].dsp.hnum = 18 ∧ t.zones[i].dsp.tcause = 3 ∧
          t.zones[i].dsp.tpc = z.dsp.pc ∧ t.zones[i].dsp.dead = z.dsp.dead ∧ t.zones[i].dsp.acc = z.dsp.acc ∧
          t.zones[i].dsp.pend = [] ∧ t.zones[i].dsp.data = z.dsp.data ∧ OnlyZone i s t)) ∧
      (∀ (r : Fin 64) (n : BitVec 3), z.dsp.pt[fin 8 n.toNat].addr = none → ∀ c ∈ [Instr.ldw i ⟨0, r, n, 0⟩, Instr.stw i ⟨0, r, n, 0⟩,
          Instr.lde i ⟨0, r, n, 0⟩, Instr.ste i ⟨0, r, n, 0⟩], Completes c s (fun t => t.zones[i].dsp.tcause = 4 ∧
            t.zones[i].dsp.pt = z.dsp.pt ∧ t.zones[i].dsp.data = z.dsp.data ∧ t.zones[i].dsp.dly = z.dsp.dly ∧
            t.zones[i].dsp.tpc = z.dsp.pc ∧ OnlyZone i s t)) ∧
      (z.dsp.running = true → z.live = true → z.dsp.dead = false → z.dsp.rtn ≠ none → Completes (.overrun i) s (fun t =>
          t.zones[i].dsp.dead = true ∧ t.zones[i].dsp.abandoned = true ∧ t.zones[i].dsp.rtn = none ∧ t.zones[i].dsp.tcause = 1 ∧
          t.zones[i].dsp.tpc = z.dsp.pc ∧ t.zones[i].dsp.handlers = z.dsp.handlers ∧ t.zones[i].dsp.timerEv = z.dsp.timerEv ∧
          t.zones[i].dsp.doReg = z.dsp.doReg ∧ Counted Reg.DSP_COUNT 31 24 1 z t.zones[i] ∧ Counted Reg.DSP_COUNT 23 16 1 z t.zones[i] ∧
          bit (t.zones[i].reg 0x300C) 9 = true ∧ bit (t.zones[i].reg 0x300C) 8 = true ∧ OnlyZone i s t))) ∧
    (z.dsp.rtn = none → z.dsp.timerEv = 0 → z.dsp.handlers = [] → Completes (.overrun i) s (fun t => t.zones[i] = z ∧ Lone i s t)) ∧
    (∀ v : Word, Grants z .host Reg.DSP_CTL → (z.dsp.loaded = true ∨ bit v 0 = false) → Completes (.dspRun i v) s (fun t =>
      bit (t.zones[i].reg Reg.DSP_CTL) 0 = bit v 0 ∧ t.zones[i].dsp.running = z.dsp.running ∧ RegsBut [Reg.DSP_CTL] z t.zones[i] ∧
      { t.zones[i] with regs := z.regs } = z ∧ t.host.bus.reason = 0 ∧ Lone i s t)) ∧
    (∀ v : Word, Grants z .host Reg.DSP_CTL → z.dsp.loaded = false → bit v 0 = true → Completes (.dspRun i v) s (fun t =>
      bit (t.zones[i].reg Reg.DSP_CTL) 0 = bit (z.reg Reg.DSP_CTL) 0 ∧ RegsBut [Reg.DSP_CTL] z t.zones[i] ∧
      { t.zones[i] with regs := z.regs } = z ∧ Lone i s t))

/-! Rules stated whole: causes of one moment (chapter 1), stuck accumulators (chapter 4), the control pages, check values. -/

/-- R15: causes of one cycle set all their bits and FENCE.FIRST names the lowest; a cause of a zone that is already fenced sets
its bit and sends one FAULT message, and FIRST stays. -/
def Obligations.SeveralCauses : Prop :=
  ∀ (s : State) (i : ZoneId) (z : Zone), s.zones[i] = z → Quiet s i →
    (z.ctl.st ≠ .off → z.ctl.st ≠ .fenced →
      (∀ m : Fin 1024, m.val ≠ 0 → z.arising m.val = m.val → m.val &&& z.fenceEn = m.val → FenceLeaves m.val z (z.raise m.val)) ∧
      (z.tripArmed = true → Completes (.regulatorTrip i true true) s (fun t => t.zones[i].ctl.st = .fenced ∧ t.zones[i].reg Reg.FENCE_CAUSE = 0x0C0 ∧
        t.zones[i].reg Reg.FENCE_FIRST = 7 ∧ OnlyZone i s t))) ∧
    (z.ctl.st = .fenced →
      Completes (.router i) s (fun t => t.zones[i].reg Reg.FENCE_CAUSE = (z.reg Reg.FENCE_CAUSE ||| 0x020) ∧
        t.zones[i].reg Reg.FENCE_FIRST = z.reg Reg.FENCE_FIRST ∧ t.zones[i].msgs.nseq = z.msgs.nseq + 1 ∧
        RegsBut [Reg.FENCE_CAUSE, Reg.MSG_DROPPED] z t.zones[i] ∧
        { t.zones[i] with regs := z.regs, msgs := z.msgs } = z ∧ OnlyZone i s t) ∧
      Completes (.regulatorTrip i true true) s (fun t => t.zones[i].reg Reg.FENCE_CAUSE = (z.reg Reg.FENCE_CAUSE ||| 0x0C0) ∧
        t.zones[i].reg Reg.FENCE_FIRST = z.reg Reg.FENCE_FIRST ∧ t.zones[i].msgs.nseq = z.msgs.nseq + 2 ∧ OnlyZone i s t))

/-- R75: where WRAP + k would leave −7 to +7, WRAP becomes ±7 in the direction of k, STUCK, AOV and LOST become 1 and LDIR takes the
direction; while STUCK is 1 WRAP does not change and each further wrap sets LDIR to its own direction. -/
def Obligations.StuckAccumulator : Prop :=
  ∀ (a : AccSt) (x k : Int), -(2 ^ 71) ≤ a.val + x - k * 2 ^ 72 → a.val + x - k * 2 ^ 72 < 2 ^ 71 → k ≠ 0 →
    (a.stuck = false → a.wrap + k < -7 ∨ 7 < a.wrap + k →
      a.add x = ⟨a.val + x - k * 2 ^ 72, if 0 < k then 7 else -7, true, k.sign, true, true⟩) ∧
    (a.stuck = true → (a.add x).wrap = a.wrap ∧ (a.add x).stuck = true ∧ (a.add x).ldir = k.sign ∧
      (a.add x).aov = a.aov ∧ (a.add x).lost = a.lost)

/-- R5: registers of the ZCTL and FENCE pages are read and written whatever the state of the zone. -/
def Obligations.ControlPagesAnswer : Prop :=
  ∀ (s : State) (i : ZoneId) (v : Word) (z : Zone), s.zones[i] = z → Quiet s i →
    (∀ off ∈ [Reg.ZCTL_CFG, Reg.FENCE_EN, Reg.FENCE_CAUSE, Reg.FENCE_PEND, Reg.FENCE_FIRST, Reg.FENCE_FIRST_FRAME, Reg.FENCE_ACT,
        Reg.FENCE_VERDICT],
      Completes (.rcRead (BitVec.ofNat 24 (zoneAddr i off)) .host) s (fun t => t.host.bus.reason = 0 ∧ t.zones[i] = z ∧ Lone i s t)) ∧
    Completes (.rcRead (BitVec.ofNat 24 (zoneAddr i Reg.ZCTL_STATE)) .host) s (fun t => t.host.bus.reason = 0 ∧
      t.host.bus.data = z.stateWord ∧ t.zones[i] = z ∧ Lone i s t) ∧
    Completes (.rcRead (BitVec.ofNat 24 (zoneAddr i Reg.FENCE_CAUSE)) .host) s (fun t => t.host.bus.data = z.reg Reg.FENCE_CAUSE) ∧
    (z.lockH 0 = false → Completes (.registerWrite (BitVec.ofNat 24 (zoneAddr i Reg.ZCTL_CFG)) .host v) s (fun t =>
      t.host.bus.reason = 0 ∧ t.zones[i] = z.stores Reg.ZCTL_CFG 0xFFFF000D v ∧ Lone i s t)) ∧
    (z.lockH 0x400 = false → Completes (.registerWrite (BitVec.ofNat 24 (zoneAddr i Reg.FENCE_VERDICT)) .host v) s (fun t =>
      t.host.bus.reason = 0 ∧ t.zones[i] = z.stores Reg.FENCE_VERDICT 0x3FF v ∧ Lone i s t))

/-- R364: ZCRC.CFG.OWN says whose the unit is and only host software writes it; a write by the party that does not own the unit is
ignored and sets NOTOWN; reads are open to both. An access by the zone program costs the bridge's 6 cycles (R210), and its writes
fall in the cycle of no host write (R356). -/
def Obligations.CheckValueOwner : Prop :=
  ∀ (s : State) (i : ZoneId) (p : Party) (v : Word) (z : Zone), s.zones[i] = z → Quiet s i → Grants z p Reg.ZCRC_CFG →
    (p = .host → Completes (.registerWrite (BitVec.ofNat 24 (zoneAddr i Reg.ZCRC_CFG)) p v) s (fun t =>
      bit (t.zones[i].reg Reg.ZCRC_CFG) 31 = bit v 31 ∧ RegsBut [Reg.ZCRC_CFG, 0x640C] z t.zones[i] ∧ Lone i s t)) ∧
    (p = .prog → Alone s i p Reg.ZCRC_CFG → Completes (.registerWrite (BitVec.ofNat 24 (zoneAddr i Reg.ZCRC_CFG)) p v) s (fun t =>
      bit (t.zones[i].reg Reg.ZCRC_CFG) 31 = bit (z.reg Reg.ZCRC_CFG) 31 ∧
      RegsBut [Reg.ZCRC_CFG, 0x640C, Reg.DSP_RCOUNT] z t.zones[i] ∧ Lone i s t)) ∧
    (bit (z.reg Reg.ZCRC_CFG) 31 ≠ (p == .host) →
      (∀ off ∈ [Reg.ZCRC_DATA8, Reg.ZCRC_DATA16, Reg.ZCRC_DATA32, Reg.ZCRC_CUR, Reg.ZCRC_CMD, Reg.ZCRC_POLY, Reg.ZCRC_INIT, Reg.ZCRC_XOROUT],
        Alone s i p off → Completes (.registerWrite (BitVec.ofNat 24 (zoneAddr i off)) p v) s (fun t =>
          t.zones[i] = (z.setReg 0x640C (setBit (z.reg 0x640C) 0 true)).cost p ∧ Lone i s t)) ∧
      (Alone s i p Reg.ZCRC_CFG → Completes (.registerWrite (BitVec.ofNat 24 (zoneAddr i Reg.ZCRC_CFG)) p v) s (fun t =>
        (∀ k < 31, bit (t.zones[i].reg Reg.ZCRC_CFG) k = bit (z.reg Reg.ZCRC_CFG) k) ∧ bit (t.zones[i].reg 0x640C) 0 = true ∧ Lone i s t))) ∧
    (z.covered = false → ∀ off ∈ [Reg.ZCRC_CFG, Reg.ZCRC_POLY, Reg.ZCRC_INIT, Reg.ZCRC_XOROUT, Reg.ZCRC_CUR, Reg.ZCRC_RES],
      Completes (.rcRead (BitVec.ofNat 24 (zoneAddr i off)) p) s (fun t => t.zones[i] = z.cost p ∧
        (p = .host → t.host.bus.reason = 0 ∧ (off = Reg.ZCRC_CUR → t.host.bus.data = z.reg Reg.ZCRC_CUR)) ∧ Lone i s t))

/-- Check values (R361, R362, R363): START loads INIT, a feed takes its bytes, least significant first, CUR reads and writes the
state and RES gives the result; the fixed checks of R160 and R291 of "123456789" are those that the spec prints. -/
def Obligations.CheckValues : Prop :=
  (∀ (s : State) (i : ZoneId) (p : Party) (v : Word) (z : Zone), s.zones[i] = z → Quiet s i → Grants z p Reg.ZCRC_CFG →
    bit (z.reg Reg.ZCRC_CFG) 31 = (p == .host) → ∀ c : CrcP, z.crcP = c →
    (Alone s i p Reg.ZCRC_CMD → Completes (.start (.zcrc i) p) s (fun t =>
      t.zones[i] = (z.setReg Reg.ZCRC_CUR (BitVec.ofNat 32 (c.init % 2 ^ c.w))).cost p ∧ Lone i s t)) ∧
    (Alone s i p Reg.ZCRC_CUR → Completes (.cur (.zcrc i) p v) s (fun t =>
      t.zones[i] = (z.setReg Reg.ZCRC_CUR (BitVec.ofNat 32 (v.toNat % 2 ^ c.w))).cost p ∧ Lone i s t)) ∧
    (∀ n : Nat, crcByte c (z.reg Reg.ZCRC_CUR).toNat (v.toNat % 256) = n → Alone s i p Reg.ZCRC_DATA8 →
      Completes (.crcFeed (.zcrc i) p .d8 v) s (fun t =>
        t.zones[i] = (z.setReg Reg.ZCRC_CUR (BitVec.ofNat 32 n)).cost p ∧ Lone i s t)) ∧
    (∀ n : Nat, crcByte c (crcByte c (z.reg Reg.ZCRC_CUR).toNat (v.toNat % 256)) (v.toNat / 256 % 256) = n →
      Alone s i p Reg.ZCRC_DATA16 → Completes (.crcFeed (.zcrc i) p .d16 v) s (fun t =>
        t.zones[i] = (z.setReg Reg.ZCRC_CUR (BitVec.ofNat 32 n)).cost p ∧ Lone i s t)) ∧
    (z.covered = false → p = .host → Completes (.rcRead (BitVec.ofNat 24 (zoneAddr i Reg.ZCRC_RES)) p) s (fun t =>
      t.host.bus.data = BitVec.ofNat 32 ((if c.refout then reflect (z.reg Reg.ZCRC_CUR).toNat c.w else (z.reg Reg.ZCRC_CUR).toNat) ^^^ c.xorout) ∧
        t.zones[i] = z ∧ Lone i s t))) ∧
  (∀ (s : State) (v : Word) (c : CrcP), s.wf = true → HostOpen s 0x1C00 → s.host.crcP = c →
    Completes (.start .hcrc1 .host) s (fun t => t.host.reg Reg.HCRC_CUR = BitVec.ofNat 32 (c.init % 2 ^ c.w) ∧
      { t.host with regs := s.host.regs, bus := s.host.bus } = s.host ∧ NoZone s t) ∧
    Completes (.cur .hcrc1 .host v) s (fun t => t.host.reg Reg.HCRC_CUR = BitVec.ofNat 32 (v.toNat % 2 ^ c.w) ∧
      { t.host with regs := s.host.regs, bus := s.host.bus } = s.host ∧ NoZone s t) ∧
    (∀ n : Nat, crcByte c (s.host.reg Reg.HCRC_CUR).toNat (v.toNat % 256) = n → Completes (.crcFeed .hcrc1 .host .d8 v) s (fun t =>
      t.host.reg Reg.HCRC_CUR = BitVec.ofNat 32 n ∧ { t.host with regs := s.host.regs, bus := s.host.bus } = s.host ∧ NoZone s t))) ∧
  crcOf crc32 [0x31, 0x32, 0x33, 0x34, 0x35, 0x36, 0x37, 0x38, 0x39] = 0xCBF43926

/-! The measurement chain (chapter 11). -/

/-- Decimators (R221, R225, R226, R228): OVL rises once, counted, and clears; SRST waits for the tick boundary; a coefficient is
committed to the bank that is not active, or rejected with BANK_BUSY; FREQ is a pending request; a cross-fade that has run ends. -/
def Obligations.Decimators : Prop :=
  ∀ (s : State) (i : ZoneId) (n : Fin 4) (v : Word) (z : Zone), s.zones[i] = z → Quiet s i → ∀ d : ZDec, z.dec[n] = d →
    (z.chainOn = true → d.ovl = false → Completes (.ovl i n) s (fun t =>
      t.zones[i].dec = z.dec.set n { d with ovl := true, run2 := 32, runOk := 0 } ∧ Counted (Reg.DEC_COUNT n.val) 31 16 1 z t.zones[i] ∧
      bit (t.zones[i].reg (0x380C + 0x400 * n.val)) 3 = true ∧ RegsBut [Reg.DEC_COUNT n.val, 0x380C + 0x400 * n.val] z t.zones[i] ∧
      { t.zones[i] with dec := z.dec, regs := z.regs } = z ∧ Lone i s t)) ∧
    (z.chainOn = true → d.ovl = true → Completes (.ovlClear i n) s (fun t =>
      t.zones[i] = { z with dec := z.dec.set n { d with ovl := false, run2 := 0, runOk := 32 } } ∧ Lone i s t)) ∧
    (Grants z .host (Reg.DEC_CMD n.val) → Completes (.srst i n) s (fun t => t.host.bus.reason = 0 ∧
      t.zones[i] = { z with dec := z.dec.set n { d with srst := true } } ∧ Lone i s t)) ∧
    (Grants z .host (Reg.DEC_CDATA_LO n.val) → d.xf = 0 → bit d.winH.addr 6 ≠ d.bank → Completes (.cdataLo i n v) s (fun t =>
      (t.zones[i].dec[n].coef d.winH.addr = (BitVec.ofNat 36 (fld d.winH.hi 19 16 * 2 ^ 32 + v.toNat)).toInt) ∧
      (∀ k : Fin 64, k.val ≠ fld d.winH.addr 5 0 → t.zones[i].dec[n].bank0[k] = d.bank0[k] ∧ t.zones[i].dec[n].bank1[k] = d.bank1[k]) ∧
      (if d.bank then t.zones[i].dec[n].bank1 = d.bank1 else t.zones[i].dec[n].bank0 = d.bank0) ∧
      t.zones[i].dec[n].winH.addr = (if bit d.winH.addr 7 then setFld d.winH.addr 5 0 (fld d.winH.addr 5 0 + 1) else d.winH.addr) ∧
      t.zones[i] = { z with dec := z.dec.set n { d with
          bank0 := t.zones[i].dec[n].bank0
          bank1 := t.zones[i].dec[n].bank1
          winH := { d.winH with addr := t.zones[i].dec[n].winH.addr } } } ∧ t.host.bus.reason = 0 ∧ Lone i s t)) ∧
    (Grants z .host (Reg.DEC_CDATA_LO n.val) → (d.xf ≠ 0 ∨ bit d.winH.addr 6 = d.bank) → Completes (.cdataLo i n v) s (fun t =>
      t.host.bus.reason = 0x14 ∧ Counted (Reg.DEC_COUNT n.val) 7 0 1 z t.zones[i] ∧
      bit (t.zones[i].reg (0x380C + 0x400 * n.val)) 5 = true ∧ RegsBut [Reg.DEC_COUNT n.val, 0x380C + 0x400 * n.val] z t.zones[i] ∧
      { t.zones[i] with regs := z.regs } = z ∧ Lone i s t)) ∧
    (Answers z → Completes (.cdataHi i n) s (fun t => t.zones[i].dec[n].winH.rd = d.coef d.winH.addr ∧
      t.host.bus.data = BitVec.ofNat 32 ((BitVec.ofInt 36 (d.coef d.winH.addr)).toNat / 2 ^ 32 * 2 ^ 16) ∧
      t.zones[i] = { z with dec := z.dec.set n { d with winH := { d.winH with rd := d.coef d.winH.addr } } } ∧ Lone i s t)) ∧
    (Grants z .host (Reg.DEC_FREQ n.val) → Completes (.freq i n v) s (fun t => t.host.bus.reason = 0 ∧
      t.zones[i] = { z with dec := z.dec.set n { d with req := some (bit v 16,
        if fld v 10 0 < 16 then 16 else if 1024 < fld v 10 0 then 1024 else fld v 10 0) } } ∧ Lone i s t)) ∧
    (d.xf ≠ 0 → d.xf ≤ d.xk → Completes (.crossFadeEnd i n) s (fun t =>
      t.zones[i] = { z with dec := z.dec.set n { d with xf := 0, xk := 0 } } ∧ Lone i s t)) ∧
    (d.xk < d.xf → Completes (.crossFadeEnd i n) s (fun t => t.zones[i] = z ∧ Lone i s t))

/-- The echo canceller and the band levels (R231, R232, R234, R235, R236, R238): an instant takes the reference and the mic samples
once for its frame; the residual is d − Σ w x, saturated; a window whose instants have run ends with its ERLE and its sums at 0;
double talk ends with its last instant; a checkpoint that is
complete stands; CLR is pending until the next instant; a BTICK read captures the band words for its reader alone. -/
def Obligations.EchoCanceller : Prop :=
  ∀ (s : State) (i : ZoneId) (c : Fin 2) (z : Zone), s.zones[i] = z → Quiet s i → ∀ a : AecCh, z.aec.ch[c] = a →
    ∀ d : ZDec, z.dec[fin 4 c.val] = d →
    (z.chainOn = true → z.time.frame.toNat % 4 = 0 → z.aec.last ≠ some z.time.frame → z.aec.win < 1535 →
      z.mem.marks.all (fun p => p.1 / 2 ^ 20 != memAec) = true → decQ (fin 4 c.val) d.ma3 = 4 →
      Completes (.aecInstant i) s (fun t => t.zones[i].aec.last = some z.time.frame ∧ t.zones[i].aec.win = z.aec.win + 1 ∧
        t.zones[i].aec.x.length = min 3071 (z.aec.x.length + 1) ∧ t.zones[i].aec.x.drop 1 = (z.aec.x.take 3070) ∧
        (bit (z.reg Reg.AEC_CFG) c.val = false → t.zones[i].aec.ch[c].e = (if d.valid then d.out else 0) ∧
          t.zones[i].aec.ch[c].eOk = d.valid ∧ t.zones[i].aec.ch[c].adapt = false ∧
          t.zones[i].aec.ch[c].w = (if a.clr then List.replicate 2048 0 else a.w)) ∧
        (bit (z.reg Reg.AEC_CFG) c.val = true → d.valid = false → t.zones[i].aec.ch[c].e = 0 ∧ t.zones[i].aec.ch[c].eOk = false ∧
          t.zones[i].aec.ch[c].adapt = false ∧ t.zones[i].aec.ch[c].dt = a.dt - 1 ∧
          t.zones[i].aec.ch[c].w = (if a.clr then List.replicate 2048 0 else a.w)) ∧
        (bit (z.reg Reg.AEC_CFG) c.val = true → d.valid = true → a.clr = false → t.zones[i].aec.ch[c].eOk = true ∧
          t.zones[i].aec.ch[c].e =
            ((dotAcc (-1) a.w t.zones[i].aec.window (z.aec.accs[c].load (sToA d.out))).store ⟨28, s36Min, s36Max⟩).1 ∧
          (bit (z.reg Reg.AEC_CFG) (2 + c.val) = true → t.zones[i].aec.ch[c].w = a.w ∧ t.zones[i].aec.ch[c].adapt = false)) ∧
        t.zones[i].time = z.time ∧ t.zones[i].dec = z.dec ∧ t.zones[i].voices = z.voices ∧ t.zones[i].sched = z.sched ∧ OnlyZone i s t)) ∧
    ((z.chainOn = false ∨ z.time.frame.toNat % 4 ≠ 0 ∨ z.aec.last = some z.time.frame) →
      Completes (.aecInstant i) s (fun t => t.zones[i] = z ∧ Lone i s t)) ∧
    (a.dt ≤ 1 → Completes (.dtHoldEnd i c) s (fun t =>
      t.zones[i] = { z with aec := { z.aec with ch := z.aec.ch.set c { a with dt := 0 } } } ∧ Lone i s t)) ∧
    (a.wEnd = true → 0 < a.ed → a.ee = 0 → Completes (.erleWindow i c) s (fun t =>
      t.zones[i].aec.ch[c].erle = 32767 ∧ t.zones[i].aec.ch[c].ed = 0 ∧ t.zones[i].aec.ch[c].wn = 0 ∧ t.zones[i].aec.ch[c].w = a.w ∧
      t.zones[i].aec.ch[c].lastDiv = false ∧ t.zones[i].aec.ch[c].ckpt = (if a.copy.isSome then a.copy else a.ckpt) ∧
      t.zones[i].aec.ch[c].copy = (if a.wAdapt && !a.wDt then some a.w else none) ∧
      fld (t.zones[i].reg Reg.AEC_ERLE) (16 * c.val + 15) (16 * c.val) = 32767 ∧ RegsBut [Reg.AEC_ERLE] z t.zones[i] ∧
      (∀ k : Fin 2, k ≠ c → t.zones[i].aec.ch[k] = z.aec.ch[k]) ∧ { t.zones[i] with aec := z.aec, regs := z.regs } = z ∧ Lone i s t)) ∧
    (∀ w : List Int, a.copy = some w → Completes (.checkpoint i c) s (fun t =>
      t.zones[i] = { z with aec := { z.aec with ch := z.aec.ch.set c { a with ckpt := some w, copy := none } } } ∧ Lone i s t)) ∧
    (a.copy = none → Completes (.checkpoint i c) s (fun t => t.zones[i] = z ∧ Lone i s t)) ∧
    (Grants z .host Reg.AEC_CMD →
      Completes (.clra i) s (fun t => t.zones[i].aec.ch[(0 : Fin 2)] = { z.aec.ch[(0 : Fin 2)] with clr := true } ∧
        t.zones[i] = { z with aec := { z.aec with ch := z.aec.ch.set (0 : Fin 2) t.zones[i].aec.ch[(0 : Fin 2)] } } ∧
        t.host.bus.reason = 0 ∧ Lone i s t) ∧
      Completes (.clrb i) s (fun t => t.zones[i].aec.ch[(1 : Fin 2)] = { z.aec.ch[(1 : Fin 2)] with clr := true } ∧
        t.zones[i] = { z with aec := { z.aec with ch := z.aec.ch.set (1 : Fin 2) t.zones[i].aec.ch[(1 : Fin 2)] } } ∧
        t.host.bus.reason = 0 ∧ Lone i s t)) ∧
    (Answers z →
      Completes (.btickRead i .host) s (fun t => t.zones[i] = { z with aec := { z.aec with capH := z.bandWords } } ∧
        t.host.bus.data = z.reg Reg.AEC_BTICK ∧ Lone i s t) ∧
      Completes (.btickRead i .prog) s (fun t =>
        t.zones[i] = Zone.dspHold { z with aec := { z.aec with capP := z.bandWords } } 6 ∧ Lone i s t))

/-! The governor and the outputs (chapters 12 and 13). -/

/-- Line supervision (R246, R247, R249, R250): at an interval boundary a measured interval leaves its values, its candidate and the
run, and the verdict that the run confirms; one that the conditions do not allow counts as skipped and leaves the verdict; the
next interval begins. The amplifier's fault, the baseline and the timer of HOLD (R249, R252, R253, R255): an asserted AMPFLT
pin gives AMPFAULT in RUN, HOLD and RECOVER, and while it is only reported starts the retry sequence, whose release counts
and gives ZnAMPEN back; STORE_BASE and CLEAR_BASE change the zone's record, or set BREF; AMP_RESET clears the lock; a timer of
HOLD that has run out releases the voices of P4 and P5. -/
def Obligations.GovernorCommands : Prop :=
  ∀ (s : State) (i : ZoneId) (z : Zone), s.zones[i] = z → Calm s i →
    (∀ (m : LineMeas) (c n : Nat), z.gov.ampFlt = false → z.lineMeas (z.rws 3 Reg.GOV_LCFG) = m →
      z.baseMisSet.candidate m (z.rws 3 Reg.GOV_LCFG) (z.rws 3 Reg.GOV_ZLO) (z.rws 3 Reg.GOV_ZHI) = c →
      (if z.gov.cand = c then min 15 (z.gov.runLen + 1) else 1) = n →
      (z.intervalDue = false → Completes (.intervalEnd i) s (fun t => t.zones[i] = z ∧ Lone i s t)) ∧
      (z.intervalDue = true → z.lineRuns = true → ¬ (z.gov.iStart = some (z.tick - 250) ∧ z.gov.iOk = true ∧ z.gov.iN = 24000) →
        Completes (.intervalEnd i) s (fun t => Counted Reg.LINE_COUNT 31 16 1 z t.zones[i] ∧ bit (t.zones[i].reg 0x500C) 1 = true ∧
          RegsBut [Reg.LINE_COUNT, 0x500C] z t.zones[i] ∧
          t.zones[i].gov = { z.gov with iStart := some z.tick, iOk := true, iN := 0, vRe := 0, vIm := 0, iRe := 0, iIm := 0, iSet := z.lineSet } ∧
          { t.zones[i] with regs := z.regs, gov := z.gov } = z ∧ Lone i s t)) ∧
      (z.intervalDue = true → z.lineRuns = true → z.gov.iStart = some (z.tick - 250) → z.gov.iOk = true → z.gov.iN = 24000 →
        z.gov.verdict ≠ 5 → z.verdictFences c = false →
        Completes (.intervalEnd i) s (fun t =>
          t.zones[i].reg Reg.LINE_AMPL = BitVec.ofInt 16 m.vDb ++ BitVec.ofInt 16 m.iDb ∧
          t.zones[i].reg Reg.LINE_ZMAG = BitVec.ofNat 32 (if m.vOk && m.iOk then ohmWord m.zOhm else 0) ∧
          (m.vOk && m.iOk → t.zones[i].reg Reg.LINE_ZPH = BitVec.ofInt 32 m.ph) ∧ t.zones[i].reg Reg.LINE_ITICK = z.tick ∧
          t.zones[i].gov.cand = c ∧ t.zones[i].gov.runLen = n ∧ t.zones[i].gov.measured = true ∧
          t.zones[i].gov.iStart = some z.tick ∧ t.zones[i].gov.iN = 0 ∧
          t.zones[i].gov.verdict = (if n ≥ max 1 (fld (z.rws 3 Reg.GOV_LCFG) 27 24) then c else z.gov.verdict) ∧
          Counted Reg.LINE_COUNT 15 8 (if t.zones[i].gov.verdict = z.gov.verdict then 0 else 1) z t.zones[i] ∧
          t.zones[i].ctl = z.ctl ∧ t.zones[i].out = z.out ∧ t.zones[i].voices = z.voices ∧ OnlyZone i s t))) ∧
    (z.gov.ampFlt = false → z.ctl.st.sounds = false → Completes (.ampfault i true) s (fun t =>
      t.zones[i] = { z with gov := { z.gov with ampFlt := true }, out := { z.out with ampPin := bit (z.rws 3 Reg.GOV_AMP) 31 } } ∧ Lone i s t)) ∧
    (z.gov.ampFlt = false → z.ctl.st.sounds = true → z.gov.verdict ≠ 5 → z.verdictFences 5 = false → z.ampRetry ≠ 0 →
      z.gov.ampLow = none → z.gov.ampRel = none → z.gov.ampLock = false → Completes (.ampfault i true) s (fun t =>
        t.zones[i].gov = { z.gov with ampFlt := true, verdict := 5, ampLow := (if z.ampTries = 0 then none else some 0), ampLock := decide (z.ampTries = 0) } ∧
        t.zones[i].out.ampen = (z.pwr.halted && z.out.ampKeep && !z.pwr.asleep && !z.sleepLow) ∧ t.zones[i].out.mu = z.out.mu ∧ t.zones[i].out.codes = z.out.codes ∧
        Counted Reg.LINE_COUNT 15 8 1 z t.zones[i] ∧ bit (t.zones[i].reg 0x500C) 5 = true ∧
        RegsBut [Reg.LINE_COUNT, 0x500C, Reg.MSG_DROPPED] z t.zones[i] ∧ t.zones[i].ctl = z.ctl ∧ OnlyZone i s t)) ∧
    (z.gov.ampFlt = false → z.ctl.st.sounds = true → z.gov.verdict ≠ 5 → z.verdictFences 5 = true → bit (z.reg Reg.FENCE_EN) 4 = true →
      Completes (.ampfault i true) s (fun t => FenceLeaves 0x010 z t.zones[i] ∧ t.zones[i].gov.ampFlt = true ∧ OnlyZone i s t)) ∧
    Completes (.ampfault i false) s (fun t =>
      t.zones[i].gov = { z.gov with ampFlt := false, retries := 0, verdict := (if z.gov.verdict = 5 then 0 else z.gov.verdict) } ∧
      Counted Reg.LINE_COUNT 15 8 (if z.gov.verdict = 5 then 1 else 0) z t.zones[i] ∧
      t.zones[i].out = { z.out with ampPin := !bit (z.rws 3 Reg.GOV_AMP) 31 } ∧
      RegsBut [Reg.LINE_COUNT, 0x500C, Reg.MSG_DROPPED] z t.zones[i] ∧
      { t.zones[i] with gov := z.gov, out := z.out, regs := z.regs, msgs := z.msgs } = z ∧ OnlyZone i s t) ∧
    (z.gov.ampFlt = false ∨ z.gov.verdict = 5 → ∀ n : Nat, z.gov.ampLow = some n → z.ampRetry * 960 ≤ n →
      Completes (.ampenRelease i) s (fun t =>
        t.zones[i].gov = { z.gov with ampLow := none, ampRel := some 0, retries := min 15 (z.gov.retries + 1) } ∧
        Counted Reg.LINE_COUNT 7 0 1 z t.zones[i] ∧ RegsBut [Reg.LINE_COUNT] z t.zones[i] ∧
        t.zones[i].out.ampen = t.zones[i].ampLevel ∧
        { t.zones[i] with gov := z.gov, regs := z.regs, out := z.out } = z ∧ Lone i s t)) ∧
    (z.gov.ampFlt = false ∨ z.gov.verdict = 5 → z.gov.ampLow = none → Completes (.ampenRelease i) s (fun t => t.zones[i] = z ∧ Lone i s t)) ∧
    (Grants z .host Reg.LINE_CMD → z.gov.ampFlt = false →
      (z.ctl.st.sounds = true → z.gov.measured = true → z.gov.verdict ∈ [0, 1, 4] → Completes (.storeBase i) s (fun t =>
        t.host.base = s.host.base.set i (some { mag := z.gov.zRep, ph := z.reg Reg.LINE_ZPH, freq := BitVec.ofNat 32 z.fp, tick := z.tick }) ∧
        t.zones[i] = z ∧ { t.host with base := s.host.base, bus := s.host.bus } = s.host ∧ OnlyZone i s t)) ∧
      (z.ctl.st.sounds = false ∨ z.gov.measured = false ∨ z.gov.verdict ∈ [2, 3, 5, 6] → Completes (.storeBase i) s (fun t =>
        bit (t.zones[i].reg 0x500C) 3 = true ∧ RegsBut [0x500C] z t.zones[i] ∧ { t.zones[i] with regs := z.regs } = z ∧ Lone i s t)) ∧
      Completes (.clearBase i) s (fun t => t.host.base = s.host.base.set i none ∧ t.zones[i] = z ∧
        { t.host with base := s.host.base, bus := s.host.bus } = s.host ∧ OnlyZone i s t) ∧
      Completes (.ampReset i) s (fun t =>
        t.zones[i].gov = { z.gov with ampLock := false, retries := 0, ampLow := none, ampRel := none } ∧
        t.zones[i].out.ampen = t.zones[i].ampLevel ∧ { t.zones[i] with gov := z.gov, out := z.out } = z ∧ Lone i s t)) ∧
    (Grants z .host Reg.LINE_CMD → z.gov.ampFlt = true → z.gov.verdict = 5 → z.verdictFences 5 = false → z.ampRetry ≠ 0 →
      Completes (.ampReset i) s (fun t =>
        t.zones[i].gov = { z.gov with retries := 0, ampLock := decide (z.ampTries = 0), ampRel := none, ampLow := (if z.ampTries = 0 then none else some 0) } ∧
        t.zones[i].out.ampen = t.zones[i].ampLevel ∧ { t.zones[i] with gov := z.gov, out := z.out } = z ∧ Lone i s t)) ∧
    (z.gov.ampFlt = false → z.ctl.st = .hold → z.gov.hRun = true → fld (z.reg Reg.GOV_HSTAT) 15 0 = 0 →
      Completes (.holdTimeout i) s (fun t => t.zones[i].gov = { z.gov with hRun := false } ∧
        bit (t.zones[i].reg Reg.GOV_HSTAT) 31 = true ∧ RegsBut [Reg.GOV_HSTAT] z t.zones[i] ∧
        (∀ v : Fin 96, z.voices[v].life = .active → z.voices[v].st.cls ∈ [4, 5] → bit (z.rws 3 Reg.GOV_HOLD) 31 = true →
          t.zones[i].voices[v].life = .fading) ∧
        (∀ v : Fin 96, bit (z.rws 3 Reg.GOV_HOLD) 31 = false → z.voices[v].heldBy = some 4 ∨ z.voices[v].heldBy = some 5 →
          t.zones[i].voices[v] = (z.vrelOne v).voices[v]) ∧
        (∀ v : Fin 96, (∀ k : Nat, z.voices[v].heldBy = some k → k < 4) → t.zones[i].voices[v] = z.voices[v]) ∧
        { t.zones[i] with gov := z.gov, regs := z.regs, voices := z.voices } = z ∧ Lone i s t))

/-- The output's own events (R260–R269, R271, R280, R281): a span request is held and an invalid span sets SPANERR; a switch that is
due takes the new span; CMOK comes once the common mode stands; the unmute comes after ONDLY ticks; a write of MUTE stands in
its register; the clear pin acts at once, its release waits for the first tick boundary more than 2 updates off, where the
cross-fade starts; a burst restarts the sine generator; a pilot request is held for the next tick boundary; a slip ends the TDM
port's lock and counts; eight correct frames lock it; TDM.CFG waits for the tick boundary. -/
def Obligations.OutputCommands : Prop :=
  ∀ (s : State) (i : ZoneId) (z : Zone), s.zones[i] = z → Quiet s i →
    (∀ v : Word, Grants z .host Reg.DAC_SPAN_CTL →
      (fld v 2 0 ∈ [0, 1, 2, 4, 5] → Completes (.spanRequest i v) s (fun t =>
        t.zones[i] = { z.setReg Reg.DAC_SPAN_CTL (BitVec.ofNat 32 (fld v 2 0)) with out := { z.out with
          spanReq := if z.out.seq = 0 ∧ fld v 2 0 = z.out.span then z.out.spanReq else some (fld v 2 0) } } ∧ Lone i s t)) ∧
      (fld v 2 0 ∈ [3, 6, 7] → Completes (.spanRequest i v) s (fun t => bit (t.zones[i].reg 0x580C) 0 = true ∧
        RegsBut [0x580C] z t.zones[i] ∧ { t.zones[i] with regs := z.regs } = z ∧ Lone i s t))) ∧
    (z.out.seqDue = true → Completes (.spanSwitch i) s (fun t =>
      t.zones[i].out.span = z.out.seqTgt ∧ t.zones[i].out.seqDue = false ∧ t.zones[i].out.mu = z.out.mu ∧
      (decide (z.out.span < 4) = decide (z.out.seqTgt < 4) → t.zones[i].out.cmT = 0 ∧
        t.zones[i].out.seq = if z.out.seqCut then 0 else 5) ∧
      (decide (z.out.span < 4) ≠ decide (z.out.seqTgt < 4) → t.zones[i].out.cmT = 50 ∧ t.zones[i].out.seq = 3) ∧
      Counted Reg.DAC_COUNT 15 0 1 z t.zones[i] ∧ RegsBut [Reg.DAC_COUNT] z t.zones[i] ∧
      { t.zones[i] with out := z.out, regs := z.regs } = z ∧ Lone i s t)) ∧
    (z.out.seqDue = false → Completes (.spanSwitch i) s (fun t => t.zones[i] = z ∧ Lone i s t)) ∧
    (z.cmReached = false → Completes (.cmok i) s (fun t => t.zones[i] = z ∧ Lone i s t)) ∧
    (z.cmReached = true → z.ctl.st ≠ .off → z.pwr.pinHold = false → z.pwr.zvaReg = true → z.pwr.asleep = false → z.sleepLow = false →
      Completes (.cmok i) s (fun t => t.zones[i].out.cmok = true ∧ t.zones[i].out.ampen = t.zones[i].ampLevel ∧
        t.zones[i].out.mu = z.out.mu ∧ { t.zones[i] with out := z.out } = z ∧ Lone i s t)) ∧
    (∀ n : Nat, z.out.onT = some n → z.onDly ≤ n → Completes (.unmute i) s (fun t =>
      t.zones[i] = { z with out := { z.out with wait := false, onT := none, seq := if z.out.seq = 4 then 5 else z.out.seq } } ∧ Lone i s t)) ∧
    (∀ v : Word, Grants z .host Reg.DAC_CTL → Completes (.mute i v) s (fun t =>
      t.zones[i].reg Reg.DAC_CTL = v &&& 0xFF0301 ∧ RegsBut [Reg.DAC_CTL] z t.zones[i] ∧ t.zones[i].out.mu = z.out.mu ∧
      t.zones[i].out.ampen = t.zones[i].ampLevel ∧ { t.zones[i] with out := z.out, regs := z.regs } = z ∧ Lone i s t)) ∧
    (z.out.clr = false → Completes (.clrnAssert i) s (fun t =>
      t.zones[i].out.clr = true ∧ t.zones[i].out.clrHold = none ∧ t.zones[i].out.clrX = none ∧
      (z.enginesOn = false ∨ z.time.est = true → z.ctl.st ≠ .off → z.pwr.pinHold = false →
        t.zones[i].out.codes = Vector.replicate 4 z.clrCode) ∧
      Counted Reg.DAC_COUNT 31 16 1 z t.zones[i] ∧ bit (t.zones[i].reg 0x580C) 1 = true ∧
      RegsBut [Reg.DAC_COUNT, 0x580C] z t.zones[i] ∧ { t.zones[i] with out := z.out, regs := z.regs } = z ∧ Lone i s t)) ∧
    (z.out.clr = true → Completes (.clrnAssert i) s (fun t => t.zones[i] = z ∧ Lone i s t) ∧
      ∀ sub : Fin 7680, Completes (.clrnRelease i sub) s (fun t => t.zones[i] = { z with out := { z.out with
        clr := false, clrHold := some (if sub.val + 3840 < (96 - z.time.frame.toNat % 96) * 7680 then 1 else 2) } } ∧ Lone i s t)) ∧
    (z.out.clrHold = some 0 → Completes (.clrCrossFade i) s (fun t =>
      t.zones[i] = { z with out := { z.out with clrHold := none, clrX := some 0 } } ∧ Lone i s t)) ∧
    (z.out.clrHold ≠ some 0 → Completes (.clrCrossFade i) s (fun t => t.zones[i] = z ∧ Lone i s t)) ∧
    (z.time.began = true → z.burstTick = some 0 → Completes (.burst i) s (fun t => t.zones[i] = { z with out := { z.out with
      phi := 0, pInc := genWord (clampN 100 4000 (fld (z.reg Reg.GEN_FCFG) 15 0)) } } ∧ Lone i s t)) ∧
    (∀ v : Word, Grants z .host Reg.GEN_PCFG → Completes (.pilotRequest i v) s (fun t =>
      t.zones[i] = { z.setReg Reg.GEN_PCFG (v &&& 0x80FFFFFF) with out := { z.out with pReq := some (v &&& 0x80FFFFFF) } } ∧ Lone i s t)) ∧
    (∀ phase : Int, z.tdmSlave = true →
      Completes (.slip i phase) s (fun t =>
        t.zones[i].out = { z.out with tphase := satS 16 phase, tlock := false, trx := Vector.replicate 8 0, ttx := Vector.replicate 8 none } ∧
        bit (t.zones[i].reg 0x600C) 0 = true ∧ Counted Reg.TDM_COUNT 31 16 1 z t.zones[i] ∧
        Counted Reg.TDM_COUNT 15 0 (if phase.natAbs ≤ 64 then 1 else 0) z t.zones[i] ∧
        t.zones[i].msgs.nseq = (if z.out.tlock then z.msgs.nseq + 1 else z.msgs.nseq) ∧
        RegsBut [Reg.TDM_COUNT, 0x600C, Reg.MSG_DROPPED] z t.zones[i] ∧
        { t.zones[i] with out := z.out, regs := z.regs, msgs := z.msgs } = z ∧ OnlyZone i s t) ∧
      (phase.natAbs ≤ 64 → Completes (.tdmLock i phase) s (fun t =>
        t.zones[i] = { z with out := { z.out with tlock := true, tphase := phase } } ∧ Lone i s t)) ∧
      (64 < phase.natAbs → Completes (.tdmLock i phase) s (fun t => t.zones[i] = z ∧ Lone i s t))) ∧
    (∀ v : Word, Grants z .host Reg.TDM_CFG → Completes (.tdmCfg i v) s (fun t =>
      t.zones[i] = { z.setReg Reg.TDM_CFG (v &&& 0xFE00FFFF) with out := { z.out with tpend := true } } ∧ Lone i s t))

/-! The link, its commands and the message queue (chapters 14 and 15). -/

/-- The receiver, the transmitter, compatibility mode and the SYNC generator (R285–R302): a BREAK opens a frame, a gap in it counts
as a timeout; a frame with a wrong CHECK is counted; a right one locks native mode and is held for its turn, addressed, secured or
broadcast; the frame at the head of the transmitter leaves with its CHECK, or is counted as lost, or given up for a driver
fault; a compatibility command is answered on LSW as the native access would be; an edge wakes the link in sleep; the SYNC
generator is armed and disarmed, and its pulse marks STAT. -/
def Obligations.LinkAndTruss : Prop :=
  ∀ (s : State), AllQuiet s →
    (s.host.hearsNative = true → s.host.pwr.pstate ≠ 2 → Completes .linkBreak s (fun t => t.host.link = { s.host.link with rxBusy := true } ∧
      HCounted Reg.LINK_COUNT2 23 16 (if s.host.link.rxBusy then 1 else 0) s.host t.host ∧ HRegsBut [Reg.LINK_COUNT2] s.host t.host ∧
      { t.host with link := s.host.link, regs := s.host.regs } = s.host ∧ NoZone s t)) ∧
    (s.host.link.rxBusy = true → Completes .timeout s (fun t => t.host.link = { s.host.link with rxBusy := false } ∧
      HCounted Reg.LINK_COUNT2 31 24 1 s.host t.host ∧ bit (t.host.reg 0x80C) 3 = true ∧
      HRegsBut [Reg.LINK_COUNT2, 0x80C] s.host t.host ∧ { t.host with link := s.host.link, regs := s.host.regs } = s.host ∧ NoZone s t)) ∧
    (s.host.link.rxBusy = false → Completes .timeout s (fun t => t = s)) ∧
    (∀ (f : RxFrame) (c : Nat), s.host.hearsNative = true → s.host.pwr.pstate ≠ 2 → f.payload.length ≤ 255 → s.host.rxRate f = some c →
      ones f.ident % 2 = 1 → f.ident.toNat < 128 → f.ident.toNat / 32 % 4 = s.host.link.ta.toNat → f.check ≠ checkOf f.ident f.payload →
      Completes (.frameReceived f) s (fun t => HCounted Reg.LINK_COUNT 7 0 1 s.host t.host ∧ bit (t.host.reg 0x80C) 2 = true ∧
        t.host.proto.held = s.host.proto.held ∧ t.host.link.lmode = s.host.link.lmode ∧
        t.host.link.lastRx = checkOf f.ident f.payload)) ∧
    (∀ (f : RxFrame) (c ty : Nat), FrameTaken s f c → f.ident.toNat / 2 % 16 = ty → s.host.lcs.st ≠ 3 → s.host.proto.held.length < 4 →
      (∀ k ∈ s.host.proto.kept, k.check ≠ f.check) → f.payload ≠ [] → typeOk ty = true →
      (f.ident.toNat < 128 → f.ident.toNat / 32 % 4 = s.host.link.ta.toNat → s.host.sec.open0 = none ∨ openType false ty = true →
        lenFits ty false (f.payload.drop 1) = true → Completes (.frameReceived f) s (fun t =>
          t = ((s.heardIn 1 c f.glitches f.ferrs).received f).holds ⟨ty, f.payload.headD 0, f.check, false⟩)) ∧
      (∀ (x : Session), s.host.sec.open0 = some x → openType false ty = false → f.ident.toNat < 128 →
        f.ident.toNat / 32 % 4 = s.host.link.ta.toNat → 13 ≤ f.payload.length →
        tagOf x.kh2d x.sid f.ident (f.payload.take (f.payload.length - 8)) = f.payload.drop (f.payload.length - 8) →
        x.hfloor < leNat (f.payload.take 4) → leNat (f.payload.take 4) ≤ x.hc → lenFits ty true ((inner f.payload).drop 1) = true →
        Completes (.frameReceived f) s (fun t =>
          t.host.sec = { s.host.sec with tagRun := 0, open0 := some { x with hfloor := leNat (f.payload.take 4) } } ∧
          t.host.proto.held = s.host.proto.held ++ [⟨ty, (f.payload.drop 4).headD 0, f.check, false⟩] ∧
          t.host.link = ((s.heardIn 1 c f.glitches f.ferrs).received f).host.link ∧ NoZone s t)) ∧
      (128 ≤ f.ident.toNat → f.ident.toNat / 32 % 4 = 0 → ty ∈ [2, 4, 5] → s.host.sec.open0 = none →
        lenFits ty false (f.payload.drop 1) = true → Completes (.frameReceived f) s (fun t =>
          t = ((s.heardIn 1 c f.glitches f.ferrs).received f).holds ⟨ty, f.payload.headD 0, f.check, true⟩))) ∧
    (∀ (f : TxFrame) (rest : List TxFrame), s.host.link.txq = f :: rest → s.host.link.lmode ≠ 2 → LinkFree s →
      (f.msg = false → s.host.link.oweTx = false → Completes (.transmitFrame .sent) s (fun t =>
        t.host.link.txq = rest ∧ t.host.link.lastTx = checkOf (identByte s.host.link.ta f.ty) f.pay ∧
        t.host.link.ltxd = identByte s.host.link.ta f.ty :: (natLe f.pay.length 1 ++ f.pay ++ (natLe t.host.link.lastTx.toNat 2).reverse) ∧
        HCounted Reg.TRUSS_COUNT 15 0 1 s.host t.host ∧ HRegsBut [Reg.TRUSS_COUNT] s.host t.host ∧
        { t.host with link := s.host.link, regs := s.host.regs } = s.host ∧ NoZone s t)) ∧
      (f.msg = true → s.host.link.oweTx = false → Completes (.transmitFrame .sent) s (fun t => t.host.link.txq = rest ∧
        t.host.proto.msgs.q = sentRec (bit (s.host.reg Reg.MSGQ_CFG) 30) f.recs s.host.proto.msgs.q ∧
        (∀ j : ZoneId, t.zones[j] = { s.zones[j] with msgs := { s.zones[j].msgs with
          q := sentRec (bit (s.host.reg Reg.MSGQ_CFG) 30) f.recs s.zones[j].msgs.q } }) ∧ t.pending = s.pending)) ∧
      (s.host.link.oweTx = false → ∀ late : Bool, Completes (.transmitFrame (.lost late)) s (fun t =>
        t.host.link = { s.host.link with taconf := s.host.link.taconf || late } ∧
        HCounted Reg.TRUSS_COUNT 31 16 1 s.host t.host ∧ HRegsBut [Reg.TRUSS_COUNT] s.host t.host ∧ NoZone s t)) ∧
      Completes (.transmitFrame .driverFault) s (fun t =>
        t.host = { s.host with link := { s.host.link with txq := rest, txfault := true, oweTx := true } } ∧ NoZone s t)) ∧
    (∀ (f : CompatFrame) (c : Nat), LinkFree s →
      (CompatTaken s f 3 c → Completes (.pingCompat f) s (fun t => t = (s.heardIn 2 c f.glitches f.ferrs).lswSent 0x1F [0])) ∧
      (s.host.hearsCompat = true → f.data.length ≤ 64 → s.host.lswRate f = some c → f.dir = false → f.ta = s.host.link.ta → f.collision = false →
        compatBytes f.ta false 3 f.data ≠ (compatBytes f.ta false 3 f.data).dropLast ++ [f.chk] →
        Completes (.pingCompat f) s (fun t => t.host.link.lsw = compatBytes f.ta true 0x1F [1] ∧ bit (t.host.reg 0x80C) 2 = true ∧
          HCounted Reg.LINK_COUNT 7 0 1 s.host t.host ∧ t.host.link.lmode = s.host.link.lmode ∧ NoZone s t)) ∧
      (∀ (u : State) (w : WrAns), CompatTaken s f 1 c → s.heardIn 2 c f.glitches f.ferrs = u →
        burstRun false (compatAddr f.data) 0 (wordsOf ((f.data.length - 3) / 4) (f.data.drop 3)) ⟨0, 0, 0, u⟩ = w →
        (7 ≤ f.data.length → (f.data.length - 3) % 4 = 0 → f.data.length ≤ 63 → (compatAddr f.data).toNat % 4 = 0 →
          (s.host.sessionless.burstRight (compatAddr f.data) ((f.data.length - 3) / 4)).1 = 0 →
          burstOk (compatAddr f.data) ((f.data.length - 3) / 4) = true →
          Completes (.write f) s (fun t => t = w.s.lswSent 0x1F [if w.why = 0 then 0 else 2])) ∧
        (f.data.length < 7 ∨ (f.data.length - 3) % 4 ≠ 0 ∨ 63 < f.data.length ∨ (compatAddr f.data).toNat % 4 ≠ 0 →
          Completes (.write f) s (fun t => t = u.lswSent 0x1F [2]))) ∧
      (∀ (u : State) (n : Nat) (r : Nat × Nat × List Word × State), CompatTaken s f 2 c → s.heardIn 2 c f.glitches f.ferrs = u →
        ((f.data.drop 3).headD 0).toNat = n → readRun (compatAddr f.data) 0 n (0, 255, [], u) = r →
        (f.data.length = 4 → 1 ≤ n → n ≤ 15 → (compatAddr f.data).toNat % 4 = 0 →
          (s.host.sessionless.readRight (readsPgId (compatAddr f.data) n)).1 = 0 → burstOk (compatAddr f.data) n = true →
          Completes (.read f) s (fun t => t = r.2.2.2.lswSent 2 (r.2.2.1.flatMap (fun w => natLe w.toNat 4)))) ∧
        (f.data.length ≠ 4 ∨ n = 0 ∨ 15 < n ∨ (compatAddr f.data).toNat % 4 ≠ 0 → Completes (.read f) s (fun t => t = u.lswSent 0x1F [2])))) ∧
    (∀ lsw : Bool, s.host.pwr.pstate = 2 → (if lsw then s.host.hearsCompat else s.host.hearsNative) = true →
      Completes (.wakeEdge lsw true) s (fun t => t.host = { s.host with link := { s.host.link with rxBusy := true } } ∧ NoZone s t) ∧
      Completes (.wakeEdge lsw false) s (fun t => HCounted Reg.LINK_COUNT2 7 0 1 s.host t.host ∧ HRegsBut [Reg.LINK_COUNT2] s.host t.host ∧
        { t.host with regs := s.host.regs } = s.host ∧ NoZone s t)) ∧
    (∀ (v : Word) (g : BitVec 48), HostOpen s 0xC00 → BitVec.extractLsb' 0 16 (s.host.reg Reg.TRUSS_SG_HI) ++ s.host.reg Reg.TRUSS_SG_LO = g →
      (s.sgRefuses (fin 8 (fld v 2 0)) g = false → Completes (.sgArm v) s (fun t =>
        t.host.link = { s.host.link with sgArm := some g } ∧ t.host.reg Reg.TRUSS_SG_CTL = v &&& 7 ∧
        HRegsBut [Reg.TRUSS_SG_CTL] s.host t.host ∧ t.host.bus.reason = 0 ∧ NoZone s t)) ∧
      (s.sgRefuses (fin 8 (fld v 2 0)) g = true → Completes (.sgArm v) s (fun t =>
        t.host.link = { s.host.link with sgArm := none } ∧ bit (t.host.reg Reg.TRUSS_SG_STAT) 3 = true ∧
        HRegsBut [Reg.TRUSS_SG_CTL, Reg.TRUSS_SG_STAT] s.host t.host ∧ NoZone s t)) ∧
      Completes .sgDisarm s (fun t => t.host.link = { s.host.link with sgArm := none } ∧
        t.host.reg Reg.TRUSS_SG_CTL = s.host.reg Reg.TRUSS_SG_CTL &&& 7 ∧ HRegsBut [Reg.TRUSS_SG_CTL] s.host t.host ∧ NoZone s t)) ∧
    (∀ (g : BitVec 48) (low : Bool), s.host.link.sgArm = some g → s.syncDue g = true → s.sgZone.pll.lock = true →
      Completes (.syncPulse low) s (fun t => t.host.link = { s.host.link with sgArm := none } ∧
        bit (t.host.reg Reg.TRUSS_SG_STAT) 0 = true ∧ (low = true → bit (t.host.reg Reg.TRUSS_SG_STAT) 1 = true) ∧
        HRegsBut [Reg.TRUSS_SG_STAT] s.host t.host ∧ { t.host with link := s.host.link, regs := s.host.regs } = s.host ∧ NoZone s t)) ∧
    (∀ (g : BitVec 48) (low : Bool), s.host.link.sgArm = some g → s.syncDue g = false → Completes (.syncPulse low) s (fun t => t = s))

/-- The commands of the link protocol (R303–R314, R330, R331, R376): each executes at its turn as Table 15-2 says and is answered, or is
refused with the reason and DETAIL of Table 15-3. The answer stands before the MESSAGE frames, the command leaves those held,
and number, CHECK and answer are kept for four commands; a broadcast is not answered (R312–R314). -/
def Obligations.ProtocolCommands : Prop :=
  (∀ (s : State) (c : Hdr) (ty : Nat) (body : List Byte), s.host.sec.open0 = none ∨ openType true ty = true → c.bcast = false →
    ∀ a : TxFrame, { ty := ty, pay := c.cn :: body, recs := [], msg := ty == 12 } = a →
      (s.reply c ty body).host.link.txq = s.host.link.txq.filter (fun g => !g.msg) ++ [a] ++ s.host.link.txq.filter (fun g => g.msg) ∧
      (s.reply c ty body).host.proto.kept = (⟨c.cn, c.check, a⟩ :: s.host.proto.kept).take 4 ∧
      (∀ x : Held, s.host.proto.held.find? (fun x => x.cn == c.cn && x.check == c.check && x.bcast == c.bcast) = some x →
        (s.reply c ty body).host.proto.held = s.host.proto.held.erase x)) ∧
  (∀ (s : State) (c : Hdr) (ty : Nat) (body : List Byte), c.bcast = true →
    (s.reply c ty body).host.link = s.host.link ∧ (s.reply c ty body).host.sec = s.host.sec ∧ (s.reply c ty body).zones = s.zones) ∧
  ∀ (s : State) (c : Hdr), LinkFree s →
    Completes (.ping c) s (fun t => t = s.reply c 1 (natLe (b2n s.host.sec.open0.isSome + 2 * b2n (s.host.link.lmode != 0)) 1 ++
      (List.range 4).map (fun k => BitVec.ofNat 8 (s.zones[fin 8 (2 * k)].ctl.st.code + 16 * s.zones[fin 8 (2 * k + 1)].ctl.st.code)) ++ natLe s.msgw 1)) ∧
    Completes (.ident c) s (fun t => t = s.reply c 4 (natLe 0x5808 2 ++ devRev ++ natLe s.host.lcs.st 1 ++ natLe s.host.link.ta.toNat 1 ++ devSerial ++ devRom)) ∧
    (∀ (a : BitVec 24) (ws : List Word) (n : Nat) (r : Nat × Nat) (w : WrAns), ws.length = n → s.host.burstRight a n = r →
      burstRun s.host.p0ctl a 0 ws ⟨0, 0, 0, s⟩ = w →
      (n = 0 ∨ 60 < n → Completes (.regWrite c a ws) s (fun t => t = s.nak c 0x03 0 (s.host.lenOf (3 + 4 * n)))) ∧
      (1 ≤ n → n ≤ 59 → r.1 ≠ 0 → Completes (.regWrite c a ws) s (fun t => t = s.nak c r.1 0 r.2)) ∧
      (1 ≤ n → n ≤ 59 → r.1 = 0 → a.toNat / 2 % 2 = 1 → Completes (.regWrite c a ws) s (fun t => t = s.nak c 0x04 0 0)) ∧
      (1 ≤ n → n ≤ 59 → r.1 = 0 → a.toNat / 2 % 2 = 0 → burstOk a n = false → Completes (.regWrite c a ws) s (fun t => t = s.nak c 0x05 0 a.toNat)) ∧
      (1 ≤ n → n ≤ (if s.host.sec.open0.isSome then 59 else 60) → r.1 = 0 → a.toNat / 2 % 2 = 0 → burstOk a n = true →
        (w.why = 0 → Completes (.regWrite c a ws) s (fun t => t = w.s.ack c 0)) ∧
        (w.why ≠ 0 → Completes (.regWrite c a ws) s (fun t => t = w.s.nak c w.why w.zfail w.detail.toNat)))) ∧
    (∀ (a : BitVec 24) (count : Byte) (n : Nat) (r : Nat × Nat) (w : Nat × Nat × List Word × State), count.toNat = n →
      s.host.readRight (readsPgId a n) = r → readRun a 0 n (0, 255, [], s) = w →
      (r.1 ≠ 0 → Completes (.regRead c a count) s (fun t => t = s.nak c r.1 0 r.2)) ∧
      (r.1 = 0 → a.toNat / 2 % 2 = 1 → Completes (.regRead c a count) s (fun t => t = s.nak c 0x04 0 0)) ∧
      (r.1 = 0 → a.toNat / 2 % 2 = 0 → n = 0 ∨ 60 < n → Completes (.regRead c a count) s (fun t => t = s.nak c 0x04 0 3)) ∧
      (r.1 = 0 → a.toNat / 2 % 2 = 0 → 1 ≤ n → n ≤ 60 → burstOk a n = false → Completes (.regRead c a count) s (fun t => t = s.nak c 0x05 0 a.toNat)) ∧
      (r.1 = 0 → a.toNat / 2 % 2 = 0 → 1 ≤ n → n ≤ 60 → burstOk a n = true → Completes (.regRead c a count) s (fun t =>
        t = w.2.2.2.reply c 3 (natLe w.1 1 ++ natLe w.2.1 1 ++ w.2.2.1.flatMap (fun x => natLe x.toNat 4)) ∧ w.2.2.1.length = n))) ∧
    (∀ (op zmask cls : Byte) (arg0 arg1 : Word), s.host.lenOf 12 ≤ 255 → (op.toNat ≠ 0 ∨ cls.toNat ≠ 0) →
      (s.host.voiceRight false = (0, 0) → op.toNat ≤ 3 → cls.toNat ≤ 5 → zmask ≠ 0 →
        (∀ j : ZoneId, bit (zmask.setWidth 32) j.val = true → Quiet s j ∧ s.zones[j].live = true) →
        Completes (.voice c op zmask cls arg0 arg1 .none) s (fun t => t.host.proto.vwait = some ⟨c, zmask.toNat, zmask.toNat, 0, 8, 0, 0⟩ ∧
          { t.host with proto := s.host.proto } = s.host ∧ t.pending = s.pending ∧
          ∀ j : ZoneId, t.zones[j] = if bit (zmask.setWidth 32) j.val then { s.zones[j] with vox := { s.zones[j].vox with
            hostq := [⟨op.toNat, cls.toNat, arg0, arg1, s.host.p0ctl, true⟩] } } else s.zones[j])) ∧
      (s.host.voiceRight false = (0, 0) → op.toNat ≤ 3 → zmask = 0 →
        Completes (.voice c op zmask cls arg0 arg1 .none) s (fun t => t = s.nak c 0x04 0 1)) ∧
      ((s.host.voiceRight false).1 ≠ 0 → Completes (.voice c op zmask cls arg0 arg1 .none) s (fun t =>
        t = s.nak c (s.host.voiceRight false).1 zmask.toNat (s.host.voiceRight false).2))) ∧
    (∀ (zmask : Byte) (arg0 arg1 : Word), s.host.lenOf 12 ≤ 255 → s.host.voiceRight true = (0, 0) → zmask ≠ 0 →
      Completes (.voice c 0 zmask 0 arg0 arg1 .none) s (fun t => t = s.nak c 0x23 zmask.toNat 0) ∧
      (∀ (a : Auth) (k : Nat × Nat × State), noAuth a = false → badAuth a = false → s.host.lenOf (12 + authBytes a) ≤ 255 →
        (isInline a = true → s.host.sec.hot = false) → s.authority zmask.toNat arg0 a = k →
        (k.1 ≠ 0 → Completes (.voice c 0 zmask 0 arg0 arg1 a) s (fun t => t = k.2.2.nak c 0x23 zmask.toNat k.1)) ∧
        (k.1 = 0 → Completes (.voice c 0 zmask 0 arg0 arg1 a) s (fun t =>
          t = k.2.2.voiceSend c zmask.toNat ⟨0, 0, arg0, arg1, k.2.2.host.p0ctl, true⟩)))) ∧
    (∀ (e : Vector Word 8) (i : ZoneId) (z : Zone) (r : Nat × Zone), s.zones[i] = z → Quiet s i → s.host.lenOf 34 ≤ 255 →
      z.post e none s.host.p0ctl = r →
      (entryP0 e = false → s.host.voiceRight false = (0, 0) → z.ctl.st ≠ .off → z.ctl.st ≠ .fenced → r.1 = 0 →
        Completes (.eventPost c (BitVec.ofNat 8 (2 ^ i.val)) e .none) s (fun t => t.zones[i].sched = r.2.sched ∧
          (∀ j : ZoneId, j ≠ i → t.zones[j] = s.zones[j]) ∧ t.host.proto.kept.head?.map (·.cn) = some c.cn)) ∧
      (entryP0 e = false → s.host.voiceRight false = (0, 0) → z.ctl.st = .off ∨ z.ctl.st = .fenced →
        Completes (.eventPost c (BitVec.ofNat 8 (2 ^ i.val)) e .none) s (fun t =>
          t = s.nak c (if z.ctl.st = .off then 0x08 else 0x07) (2 ^ i.val) 0)) ∧
      (∀ (a : Auth) (k : Nat × Nat × State), entryP0 e = true → s.host.voiceRight true = (0, 0) → noAuth a = false → badAuth a = false →
        s.host.lenOf (34 + authBytes a) ≤ 255 → (isInline a = true → s.host.sec.hot = false) →
        s.authority (2 ^ i.val) e[(4 : Fin 8)] a = k → ∀ q : Nat × Zone, z.post e (some (BitVec.ofNat 48 k.2.1)) k.2.2.host.p0ctl = q →
        (k.1 ≠ 0 → Completes (.eventPost c (BitVec.ofNat 8 (2 ^ i.val)) e a) s (fun t => t = k.2.2.nak c 0x23 (2 ^ i.val) k.1)) ∧
        (k.1 = 0 → z.ctl.st ≠ .off → z.ctl.st ≠ .fenced → q.1 = 0 → Completes (.eventPost c (BitVec.ofNat 8 (2 ^ i.val)) e a) s (fun t =>
          t.zones[i].sched = q.2.sched ∧ ∀ j : ZoneId, j ≠ i → t.zones[j] = s.zones[j]))) ∧
      (entryP0 e = false → s.host.voiceRight false = (0, 0) → Completes (.eventPost c 0 e .none) s (fun t => t = s.nak c 0x04 0 0))) ∧
    (∀ (off : BitVec 16) (d : List Byte), 1 ≤ d.length → d.length ≤ 240 →
      (s.host.bulkRight.1 ≠ 0 → Completes (.bulkWr c off d) s (fun t => t = s.nak c s.host.bulkRight.1 0 s.host.bulkRight.2)) ∧
      (s.host.bulkRight.1 = 0 → off.toNat + d.length ≤ 4096 → Completes (.bulkWr c off d) s (fun t =>
        byRead t.host.proto.bulk off.toNat d.length = d ∧ BytesBut off.toNat d.length s.host.proto.bulk t.host.proto.bulk ∧
        t = { s with host := { s.host with proto := { s.host.proto with bulk := t.host.proto.bulk } } }.ack c 0)) ∧
      (s.host.bulkRight.1 = 0 → 4096 < off.toNat + d.length → Completes (.bulkWr c off d) s (fun t => t = s.nak c 0x17 0 off.toNat))) ∧
    (∀ (off : BitVec 16) (count : Byte), s.host.bulkRight.1 = 0 →
      (1 ≤ count.toNat → count.toNat ≤ 240 → off.toNat + count.toNat ≤ 4096 → Completes (.bulkRd c off count) s (fun t =>
        t = s.reply c 5 (byRead s.host.proto.bulk off.toNat count.toNat))) ∧
      (1 ≤ count.toNat → count.toNat ≤ 240 → 4096 < off.toNat + count.toNat → Completes (.bulkRd c off count) s (fun t => t = s.nak c 0x17 0 off.toNat)) ∧
      (count.toNat = 0 ∨ 240 < count.toNat → Completes (.bulkRd c off count) s (fun t => t = s.nak c 0x04 0 2))) ∧
    (∀ (src : Byte) (m : BitVec 16), (s.host.readRight false).1 = 0 →
      (8 < src.toNat → Completes (.msgack c src m) s (fun t => t = s.nak c 0x04 0 0)) ∧
      (src.toNat = 8 → Completes (.msgack c src m) s (fun t =>
        t = { s with host := { s.host with proto := { s.host.proto with msgs := { s.host.proto.msgs with q := ackRecs m s.host.proto.msgs.q } } } }.ack c 0)) ∧
      (∀ i : ZoneId, src.toNat = i.val → Completes (.msgack c src m) s (fun t =>
        t.zones[i] = { s.zones[i] with msgs := { s.zones[i].msgs with q := ackRecs m s.zones[i].msgs.q } } ∧
        (∀ j : ZoneId, j ≠ i → t.zones[j] = s.zones[j]) ∧ t.host = (s.ack c 0).host)))

/-- The message queue (R315–R319): a source's record enters its queue with the next number and the frame of its creation, or makes room as
R316 and R317 say; a MESSAGE frame takes waiting records in turns; a record unacknowledged for ACKTO ticks waits again. -/
def Obligations.MessageQueue : Prop :=
  (∀ (s : State) (i : ZoneId) (cls : Fin 5) (code : BitVec 16) (ps : List Byte) (z : Zone), s.zones[i] = z → Quiet s i → ps.length ≤ 32 →
    z.msgs.q.length < 56 → Completes (.recordCreated ⟨i.val, by omega⟩ cls code ps) s (fun t =>
      t.zones[i] = { z with msgs := { q := z.msgs.q ++ [⟨i.val, cls.val, z.msgs.nseq, z.time.frame, code.toNat, 0, b2n z.time.est, ps, none⟩], nseq := z.msgs.nseq + 1 } } ∧
      OnlyZone i s t ∧ (cls.val ≠ 0 → SameHost s t))) ∧
  (∀ (s : State) (cls : Fin 5) (code : BitVec 16) (ps : List Byte), ps.length ≤ 32 → s.host.proto.msgs.q.length < 24 →
    Completes (.recordCreated 8 cls code ps) s (fun t => t.host.proto.msgs.nseq = s.host.proto.msgs.nseq + 1 ∧ NoZone s t ∧
      t.host.proto.msgs.q = s.host.proto.msgs.q ++ [s.hostRec cls.val code.toNat ps])) ∧
  (∀ (s : State) (rs : List Rec), s.host.link.lmode = 1 → s.host.pwr.pstate ≠ 2 → bit (s.host.reg Reg.MSGQ_CFG) 31 = true →
    (∀ f ∈ s.host.link.txq, f.msg = false) → s.fillMsg 400 ((s.host.proto.last + 2) % 9) (if s.host.sec.open0.isSome then 243 else 255) 0 [] = rs →
    (rs ≠ [] → Completes .message s (fun t =>
      t.host.link.txq = s.host.link.txq ++ [{ (s.frameOf 12 [] (rs.flatMap Rec.bytes)).1 with recs := rs.map (fun r => (r.src, r.mseq)) }] ∧
      t.host.proto.last = lastZone s.host.proto.last rs ∧ NoZone s t)) ∧
    (rs = [] → Completes .message s (fun t => t = s))) ∧
  (∀ (s : State) (n : Nat), max 1 (fld (s.host.reg Reg.MSGQ_CFG) 15 0) = n → Completes .messageResend s (fun t =>
    t.host = { s.host with proto := { s.host.proto with msgs := { s.host.proto.msgs with q := resendRecs n s.host.proto.msgs.q } } } ∧
    (∀ j : ZoneId, t.zones[j] = { s.zones[j] with msgs := { s.zones[j].msgs with q := resendRecs n s.zones[j].msgs.q } }) ∧
    t.pending = s.pending)) 

/-! Sessions, keys, life-cycle and tamper response (chapter 16). -/

/-- Sessions and operator authority (R322–R328, R333–R336): STATUS and GETCERT answer; HELLO keeps a handshake, AUTH opens the
session it leads to, CLOSE ends the one that its MAC names, RESUME reopens the stored one at its ceilings; a handshake is
forgotten after 100 ticks; a P0 check leaves its outcome, and a nonce leaves the list once its token has ended. Key commands
(R321, R335, R337): each changes the key, token or floor that it names and leaves its result in SEC.RES. Life-cycle (R338–R342,
Table 16-9): each op acts in its states with its proof, and is refused with STATE elsewhere; tamper events close the session,
and take or restore what Table 16-9 says; a proved port opens, and through it a zone is halted. -/
def Obligations.SecurityCommands : Prop :=
  (∀ (s : State) (c : Hdr), LinkFree s →
    ((s.host.sessionRight true).1 = 0 → Completes (.status c) s (fun t => t = s.reply c 8 s.host.statusBody)) ∧
    ((s.host.sessionRight true).1 ≠ 0 → Completes (.status c) s (fun t => t = s.nak c 0x24 0 s.host.lcs.st)) ∧
    (∀ (off : BitVec 16) (n : Byte), (s.host.sessionRight true).1 = 0 →
      (1 ≤ n.toNat → n.toNat ≤ 200 → Completes (.getcert c off n) s (fun t => t = s.reply c 8 (9 :: fitLen n.toNat (s.host.sec.cert.drop off.toNat)))) ∧
      (n.toNat = 0 ∨ 200 < n.toNat → Completes (.getcert c off n) s (fun t => t = s.nak c 0x04 0 3))) ∧
    (∀ qh nh : List Byte, qh.length = 64 → nh.length = 16 → s.host.sec.hot = false → s.host.sessionState = true →
      (s.host.islandOk = true → Completes (.hello c qh nh) s (fun t => t = { s with host := (s.host.hello qh nh).2 }.reply c 8 (s.host.hello qh nh).1 ∧
        t.host.sec.shake.map Shake.age = some 0 ∧ t.host.sec.open0 = s.host.sec.open0)) ∧
      (s.host.islandOk = false → Completes (.hello c qh nh) s (fun t => t = s.nak c 0x23 0 13))) ∧
    (∀ (hc sg : List Byte) (k : Nat), hc.length = 136 → sg.length = 64 → s.host.sec.hot = false → s.host.sessionState = true →
      s.host.authCheck hc sg = k →
      (k ≠ 0 → Completes (.auth c hc sg) s (fun t => t = s.nak c 0x23 0 k)) ∧
      (k = 0 → Completes (.auth c hc sg) s (fun t =>
        t.host.sec.open0.map (fun x => (x.roles, x.hfloor, x.hc, x.bc)) = some (BitVec.ofNat 32 (certRoles hc), 0, 65536, 65536) ∧
        t.host.sec.shake = none ∧ t.host.sec.stored = none ∧ t.host.sec.tgk = [] ∧ t.host.sec.bfloor = 0 ∧ t.host.proto.bulk = [] ∧ NoZone s t))) ∧
    (∀ (x : Session) (sid : Word) (mac : List Byte), mac.length = 8 → s.host.sessionState = true → s.host.sec.open0 = some x →
      (x.sid ≠ sid → Completes (.close c sid mac) s (fun t => t = s.nak c 0x20 0 0)) ∧
      (x.sid = sid → mac ≠ x.mac 5 x.hfloor → Completes (.close c sid mac) s (fun t => t = s.nak c 0x22 0 0)) ∧
      (x.sid = sid → mac = x.mac 5 x.hfloor → Completes (.close c sid mac) s (fun t =>
        t.host.sec = { s.host.sec with open0 := none, stored := none, tgk := [], tagRun := 0 } ∧ t.host.proto.bulk = [] ∧
        t.host.proto.msgs.nseq = s.host.proto.msgs.nseq + 1 ∧ NoZone s t))) ∧
    (∀ (x : Session) (sid : Word) (mac : List Byte), mac.length = 8 → s.host.sessionState = true → s.host.islandOk = true →
      s.host.sec.stored = some x →
      (x.sid ≠ sid → Completes (.resumeSession c sid mac) s (fun t => t = s.nak c 0x20 0 0)) ∧
      (x.sid = sid → mac ≠ x.mac 7 x.hc → Completes (.resumeSession c sid mac) s (fun t => t = s.nak c 0x22 0 0)) ∧
      (x.sid = sid → mac = x.mac 7 x.hc → Completes (.resumeSession c sid mac) s (fun t =>
        t.host.sec = { s.host.sec with stored := none, bfloor := x.bc, tagRun := 0, ckAge := 0, open0 := some { x with hfloor := x.hc, dseq := x.dc + 1, hc := x.hc + 65536, bc := x.bc + 65536, dc := x.dc + 65537 } } ∧
        t.host.proto.bulk = [] ∧ NoZone s t)))) ∧
  (∀ s : State, s.wf = true →
    (s.tickZone = none ∨ (∀ k : Shake, s.host.sec.shake = some k → 100 ≤ k.age) → Completes .handshakeTimeout s (fun t =>
      t = { s with host := { s.host with sec := { s.host.sec with shake := none } } })) ∧
    (∀ (i : ZoneId) (k : Shake), s.tickZone = some i → s.host.sec.shake = some k → k.age < 100 → Completes .handshakeTimeout s (fun t => t = s)) ∧
    (∀ k : Nat, s.hostTick = some k → Completes .nonceExpiry s (fun t =>
      t = { s with host := { s.host with sec := { s.host.sec with nonces := s.host.sec.nonces.filter (fun p => decide (k ≤ p.2)) } } })) ∧
    (∀ (zmask : Byte) (item : Word) (a : Auth) (k : Nat × List Byte), s.nonceExpiry.authorityOf zmask.toNat item a = k →
      (isInline a = true → s.host.sec.hot = false) → Completes (.p0Check zmask item a) s (fun t =>
        t.host.sec.p0 = some (zmask.toNat, item, k.1, tokNat k.2 22 6) ∧
        HCounted Reg.SEC_COUNT 15 8 (if k.1 = 0 then 0 else 1) s.host t.host ∧ HRegsBut [Reg.SEC_COUNT, Reg.SEC_P0LAT, Reg.MSGQ_DROPPED] s.host t.host ∧
        t.host.sec.nonces = s.nonceExpiry.host.sec.nonces ++ (if k.1 = 0 ∧ isInline a = true ∧ tokNat k.2 1 1 / 2 % 2 = 0 then [((k.2.drop 36).take 8, tokNat k.2 22 6)] else []) ∧
        t.host.sec.open0 = s.host.sec.open0 ∧ NoZone s t)) ∧
    (s.host.sec.hot = true → ∀ (zmask : Byte) (item : Word) (tok : List Byte), Completes (.p0Check zmask item (.inline tok)) s (fun t => t = s)) ∧
    (s.host.islandOk = false → ∀ c ∈ [Instr.installOpk 0, .revokeOpk 1, .setCek, .setTgk, .installSt, .removeSt, .setFloor, .setCfloor],
      Completes c s (fun t => t.host.reg Reg.SEC_RES = 1 ∧ HRegsBut [Reg.SEC_RES] s.host t.host ∧ { t.host with regs := s.host.regs, bus := s.host.bus } = s.host ∧ NoZone s t)) ∧
    (s.host.islandOk = true → ∀ (slot : Fin 16) (key : List Byte) (n : Nat), byRead s.host.proto.bulk 0 64 = key →
      (s.host.reg Reg.SEC_ARG).toNat = n →
      (∀ j : Fin 4, slot.val = j.val → Config.verify 2 [key] = true → Completes (.installOpk slot) s (fun t =>
        t.host.sec = { s.host.sec with opk := s.host.sec.opk.set j (some ⟨key, (byGet s.host.proto.bulk 64).getLsbD 0⟩) } ∧
        t.host.reg Reg.SEC_RES = 0 ∧ t.host.proto.msgs.nseq = s.host.proto.msgs.nseq + 1 ∧ NoZone s t)) ∧
      (4 ≤ slot.val → Completes (.installOpk slot) s (fun t => t.host.sec = s.host.sec ∧ t.host.reg Reg.SEC_RES = 4 ∧ NoZone s t)) ∧
      (slot.val < 4 → Config.verify 2 [key] = false → Completes (.installOpk slot) s (fun t => t.host.sec = s.host.sec ∧ t.host.reg Reg.SEC_RES = 3 ∧ NoZone s t)) ∧
      (∀ j : Fin 4, slot.val = j.val → Completes (.revokeOpk slot) s (fun t => t.host.sec.opk = s.host.sec.opk.set j none ∧
        (∀ (k : Fin 32) (x : StandTok), s.host.sec.stok[k] = some x →
          t.host.sec.stok[k] = some (if tokNat x.tok 2 1 = j.val then { x with revoked := true } else x)) ∧
        (∀ k : Fin 32, s.host.sec.stok[k] = none → t.host.sec.stok[k] = none) ∧ t.host.reg Reg.SEC_RES = 0 ∧ NoZone s t)) ∧
      (4 ≤ slot.val → Completes (.revokeOpk slot) s (fun t => t.host.sec = s.host.sec ∧ t.host.reg Reg.SEC_RES = 4 ∧ NoZone s t)) ∧
      (∀ k : List Byte, s.host.unwrapped = some k →
        Completes .setCek s (fun t => t.host.cek = k ∧ t.host.sec = s.host.sec ∧ t.host.reg Reg.SEC_RES = 0 ∧ NoZone s t) ∧
        Completes .setTgk s (fun t => t.host.sec = { s.host.sec with tgk := k } ∧ t.host.cek = s.host.cek ∧ t.host.reg Reg.SEC_RES = 0 ∧ NoZone s t)) ∧
      (s.host.unwrapped = none →
        Completes .setCek s (fun t => t.host.cek = s.host.cek ∧ t.host.sec = s.host.sec ∧ t.host.reg Reg.SEC_RES = 6 ∧ NoZone s t) ∧
        Completes .setTgk s (fun t => t.host.cek = s.host.cek ∧ t.host.sec = s.host.sec ∧ t.host.reg Reg.SEC_RES = 6 ∧ NoZone s t)) ∧
      (∀ (r : Nat × List Byte), s.host.stCheck (s.host.reg Reg.SEC_ARG) = r →
        (r.1 ≠ 0 → Completes .installSt s (fun t => t.host.sec = s.host.sec ∧ t.host.reg Reg.SEC_RES = BitVec.ofNat 32 r.1 ∧ NoZone s t)) ∧
        (∀ j : Fin 32, r.1 = 0 → s.host.sec.stok[j] = none → (∀ k : Fin 32, k < j → s.host.sec.stok[k] ≠ none) →
          Completes .installSt s (fun t => t.host.sec = { s.host.sec with stok := s.host.sec.stok.set j (some ⟨s.host.reg Reg.SEC_ARG, r.2, false⟩) } ∧
            t.host.reg Reg.SEC_RES = 0 ∧ NoZone s t)) ∧
        (r.1 = 0 → (∀ k : Fin 32, s.host.sec.stok[k] ≠ none) → Completes .installSt s (fun t =>
          t.host.sec = s.host.sec ∧ t.host.reg Reg.SEC_RES = 4 ∧ NoZone s t))) ∧
      (∀ j : Fin 32, n = j.val → Completes .removeSt s (fun t => t.host.sec = { s.host.sec with stok := s.host.sec.stok.set j none } ∧
        t.host.reg Reg.SEC_RES = 0 ∧ NoZone s t)) ∧
      (32 ≤ n → Completes .removeSt s (fun t => t.host.sec = s.host.sec ∧ t.host.reg Reg.SEC_RES = 4 ∧ NoZone s t)) ∧
      (s.host.sec.floor ≤ n → Completes .setFloor s (fun t => t.host.sec = { s.host.sec with floor := n } ∧ t.host.reg Reg.SEC_RES = 0 ∧ NoZone s t)) ∧
      (n < s.host.sec.floor → Completes .setFloor s (fun t => t.host.sec = s.host.sec ∧ t.host.reg Reg.SEC_RES = 5 ∧ NoZone s t)) ∧
      (s.host.sec.cfloor ≤ n → Completes .setCfloor s (fun t => t.host.sec = { s.host.sec with cfloor := n } ∧ t.host.reg Reg.SEC_RES = 0 ∧ NoZone s t)) ∧
      (n < s.host.sec.cfloor → Completes .setCfloor s (fun t => t.host.sec = s.host.sec ∧ t.host.reg Reg.SEC_RES = 5 ∧ NoZone s t)))) ∧
  (∀ (s : State) (l : HLcs), s.wf = true → s.host.lcs = l →
    (∀ c : Instr, (c = .genkey ∧ l.st ≠ 0) ∨ (c = .provision ∧ l.st ≠ 0) ∨ (c = .takeOwner ∧ l.st ≠ 1) ∨
        (c = .lockField ∧ l.st ≠ 2 ∧ ¬ (l.st = 3 ∧ l.pend = some 2)) ∨ (c = .unlock ∧ l.st ≠ 3 ∧ ¬ (l.st = 2 ∧ l.pend = some 3)) ∨
        (c = .rma ∧ s.host.sessionState = false) ∨ (c = .rmaMaker ∧ s.host.sessionState = false) ∨ (c = .remake ∧ l.st ≠ 4) ∨ (c = .kill ∧ l.st = 5) →
      Completes c s (fun t => t.host = { s.host with lcs := { l with res := 1 }, bus := t.host.bus } ∧ NoZone s t)) ∧
    (l.st = 0 → s.host.pwr.testen = true → Completes .genkey s (fun t => t.host.lcs.res = 0 ∧ t.host.lcs.st = 0 ∧
      t.host.sec.dik = cryptoB 7 [(s.host.random 32).1] 64 ∧ { t.host.sec with dik := s.host.sec.dik } = s.host.sec ∧
      byRead t.host.proto.bulk 0 64 = t.host.sec.dik ∧ NoZone s t)) ∧
    (∀ c : List Byte, byRead s.host.proto.bulk 0 136 = c → l.st = 0 → s.host.sec.dik ≠ [] → c.take 64 = s.host.sec.dik →
      ecdsaOk mkp (c.take 72) (c.drop 72) = true → Completes .provision s (fun t => t.host.lcs.st = 1 ∧ t.host.lcs.res = 0 ∧
        t.host.sec = { s.host.sec with cert := c } ∧ NoZone s t)) ∧
    (∀ k : List Byte, byRead s.host.proto.bulk 0 64 = k → l.st = 1 → Config.verify 2 [k] = true → Completes .takeOwner s (fun t =>
      t.host.lcs.st = 2 ∧ t.host.lcs.res = 0 ∧ t.host.sec = { s.host.sec with owk := k } ∧ NoZone s t)) ∧
    (l.st = 2 → s.host.ownerToken 1 = 0 → Completes .lockField s (fun t => t.host.lcs.st = 2 ∧ t.host.lcs.pend = some 3 ∧
      t.host.lcs.res = 0 ∧ t.host.sec = s.host.sec ∧ NoZone s t)) ∧
    (l.st = 3 → s.host.ownerToken 2 = 0 → Completes .unlock s (fun t => t.host.lcs.st = 3 ∧ t.host.lcs.pend = some 2 ∧
      t.host.lcs.res = 0 ∧ t.host.sec = s.host.sec ∧ NoZone s t)) ∧
    (s.host.sessionState = true → s.host.ownerToken 3 = 0 → Completes .rma s (fun t => t.host.lcs.st = l.st ∧
      t.host.lcs.rmaPend = true ∧ t.host.lcs.res = 0 ∧ t.host.sec = s.host.sec ∧ NoZone s t)) ∧
    (s.host.sessionState = true → l.rmaPend = true → s.host.makerSig 7 = 0 → Completes .rmaMaker s (fun t => t.host.lcs.st = l.st ∧
      t.host.lcs.pend = some 4 ∧ t.host.lcs.res = 0 ∧ t.host.sec = s.host.sec ∧ NoZone s t)) ∧
    (l.st = 4 → l.rmaCount < 3 → s.host.makerSig 8 = 0 → Completes .remake s (fun t => t.host.lcs.st = 1 ∧
      t.host.lcs.rmaCount = l.rmaCount + 1 ∧ t.host.lcs.res = 0 ∧ t.host.sec = s.host.sec ∧ NoZone s t)) ∧
    (l.st ≠ 5 → (if s.host.sessionState then s.host.ownerToken 4 else s.host.makerSig 9) = 0 → Completes .kill s (fun t =>
      t.host.lcs.st = 5 ∧ t.host.lcs.res = 0 ∧ t.host.sec.open0 = none ∧ t.host.sec.owk = [] ∧ t.host.sec.dik = [] ∧ t.host.sec.cert = [] ∧
      t.host.cek = [] ∧ t.host.proto.bulk = [] ∧ (∀ j : ZoneId, t.zones[j].ctl.st = .off) ∧ t.pending = s.pending)) ∧
    (∀ (test : Bool) (sg : List Byte) (b : Bool), (portAccess l.st test = 2 ∧ sg.length = 64 ∧ ecdsaOk mkp (0x44 :: (devSerial ++ l.chal)) sg = true) ∨
        (portAccess l.st test = 3 ∧ sg.length = 64 ∧ s.host.ownerOk (0x44 :: (devSerial ++ l.chal)) sg = true) →
      (if test then l.testOpen else l.dbgOpen) = b → (test = true → s.host.pwr.testen = true) →
      (b = false → Completes (.debugOpen test sg) s (fun t => t.host.lcs = (if test then { l with testOpen := true } else { l with dbgOpen := true }) ∧
        t.host.proto.msgs.nseq = s.host.proto.msgs.nseq + 1 ∧ t.host.sec = s.host.sec ∧ NoZone s t)) ∧
      (b = true → Completes (.debugOpen test sg) s (fun t => t = s))) ∧
    (∀ (i : ZoneId) (z : Zone), s.zones[i] = z → Quiet s i →
      (portAccess l.st false = 1 ∨ l.dbgOpen = true → z.ctl.st ≠ .off → z.pwr.halted = false → Completes (.debugHalt i) s (fun t =>
        t.zones[i].pwr = { z.pwr with halted := true } ∧ t.zones[i].ctl = z.ctl ∧ t.zones[i].time.est = true ∧ t.zones[i].pll.lock = false ∧
        t.zones[i].time.frame = z.time.frame ∧ t.zones[i].regs = z.regs ∧ t.zones[i].voices = z.voices ∧ t.zones[i].out.ampen = t.zones[i].ampLevel ∧ Lone i s t)) ∧
      (portAccess l.st false ≠ 1 → l.dbgOpen = false → Completes (.debugHalt i) s (fun t => t.zones[i] = z ∧ Lone i s t))) ∧
    (∀ (x : Session), s.host.sec.open0 = some x →
      Completes .clkmon s (fun t => t.host.sec = { s.host.sec with open0 := none, stored := none, tgk := [], tagRun := 0, fault := true, shake := none } ∧
        t.host.lcs = l ∧ t.host.proto.bulk = [] ∧ t.host.proto.msgs.nseq = s.host.proto.msgs.nseq + 2 ∧ NoZone s t)) ∧
    Completes .vglitch s (fun t => t.host.sec = s.host.sec ∧ t.host.lcs = l ∧ t.host.proto.msgs.nseq = s.host.proto.msgs.nseq + 1 ∧ NoZone s t) ∧
    Completes .temp s (fun t => t.host.sec = { s.host.sec with hot := true } ∧ t.host.lcs = l ∧
      t.host.proto.msgs.nseq = s.host.proto.msgs.nseq + 1 ∧ NoZone s t) ∧
    (LinkFree s → Completes .tempInRange s (fun t => t = { s with host := { s.host with sec := { s.host.sec with hot := false } } })) ∧
    Completes .avharClockReturn s (fun t => t = { s with host := { s.host with sec := { s.host.sec with fault := false } } }) ∧
    (∀ n : Nat, fld (s.host.reg Reg.LCS_TCFG) 7 0 = n → n = 0 ∨ l.tamper + 1 < n → s.host.sec.open0 = none →
      Completes .puf s (fun t => t.host.sec = { s.host.sec with pufBad := true, stored := none, shake := none } ∧
        t.host.lcs = { l with tamper := min 255 (l.tamper + 1) } ∧ t.host.proto.msgs.nseq = s.host.proto.msgs.nseq + 1 ∧ NoZone s t) ∧
      Completes .shield s (fun t => t.host.sec = { s.host.sec with stored := none, shake := none } ∧
        t.host.lcs = { l with tamper := min 255 (l.tamper + 1) } ∧ t.host.proto.msgs.nseq = s.host.proto.msgs.nseq + 1 ∧ NoZone s t) ∧
      (∀ k : KeyRec, k ≠ .lifeCycle → Completes (.keyrec k) s (fun t => t.host.lcs = { l with tamper := min 255 (l.tamper + 1) } ∧
        t.host.cek = (if k = .cek then [] else s.host.cek) ∧ t.host.sec.owk = (if k = .owk then [] else s.host.sec.owk) ∧
        t.host.sec.tgk = (if k = .tgk then [] else s.host.sec.tgk) ∧ t.host.sec.dik = (if k = .dik then [] else s.host.sec.dik) ∧
        t.host.sec.stored = (if k = .session then none else s.host.sec.stored) ∧
        (∀ j : Fin 4, t.host.sec.opk[j] = if k = .opk j then none else s.host.sec.opk[j]) ∧ NoZone s t)) ∧
      Completes (.keyrec .lifeCycle) s (fun t => t.host.lcs.tamper = min 255 (l.tamper + 1) ∧
        t.host.lcs.st = (if l.st = 2 ∨ l.st = 3 then 3 else l.st) ∧ t.host.sec = s.host.sec ∧ NoZone s t)) ∧
    (∀ n : Nat, fld (s.host.reg Reg.LCS_TCFG) 7 0 = n → n ≠ 0 → n ≤ l.tamper + 1 → n ≤ 255 → l.st ≠ 5 →
      ∀ c ∈ [Instr.puf, .shield, .keyrec .cek], Completes c s (fun t => t.host.lcs.st = 5 ∧ t.host.sec.dik = [] ∧ t.host.sec.owk = [] ∧
        (∀ j : ZoneId, t.zones[j].ctl.st = .off) ∧ t.pending = s.pending)))

/-! The zone memories' background work, the register headers, reset and power (chapters 17, 18 and 19). -/

/-- Scrubber, background test and write-backs (R350–R355): a pass that is due reads every word, counts what it corrects and leaves
it to its write-back, and fences for a bad word of memories 4–6; a borrow goes on to the next segment, is counted where its march
fails or it yields, and is skipped where BT may not borrow. MRAM through its window (R358, R360), the counters of a page and its
locks (R372, R373). Reset (R381, R382, R385, R388), X32 (R383), ZVA and debug halt (R265, R51), sleep and wake (R389–R392). -/
def Obligations.MemoryAndPower : Prop :=
  (∀ (s : State) (i : ZoneId) (z : Zone), s.zones[i] = z → Quiet s i → z.ctl.st = .run ∨ z.ctl.st = .hold ∨ z.ctl.st = .recover →
    (∀ p ∈ z.mem.marks, p.1 / 2 ^ 20 < 8 ∧ p.1 % 2 ^ 20 < memWords (p.1 / 2 ^ 20)) →
    (z.memOn = false ∨ z.mem.scrub < z.scrubEvery → Completes (.scrubPass i) s (fun t => t.zones[i] = z ∧ Lone i s t)) ∧
    (z.memOn = true → z.scrubEvery ≤ z.mem.scrub → (∀ p ∈ z.mem.marks, p.2 ≠ 2) → Completes (.scrubPass i) s (fun t =>
      t.zones[i].mem.marks = z.mem.marks.map (fun p => (p.1, 3)) ∧
      (∀ c : Fin 8, t.zones[i].mem.ecc[c] =
        (min 65535 (z.mem.ecc[c].1 + (z.mem.marks.filter (fun p => p.1 / 2 ^ 20 == c.val)).length), z.mem.ecc[c].2)) ∧
      { t.zones[i].mem with marks := z.mem.marks, ecc := z.mem.ecc } = { z.mem with scrub := z.mem.scrub - z.scrubEvery } ∧
      { t.zones[i] with mem := z.mem } = z ∧ Lone i s t)) ∧
    (z.memOn = true → z.scrubEvery ≤ z.mem.scrub → (∃ p ∈ z.mem.marks, p.2 = 2 ∧ p.1 / 2 ^ 20 ∈ [4, 5, 6]) →
      (∀ p ∈ z.mem.marks, p.2 = 2 → p.1 / 2 ^ 20 ∈ [4, 5, 6]) → Completes (.scrubPass i) s (fun t =>
        t.zones[i].ctl.st = .fenced ∧ bit (t.zones[i].reg Reg.FENCE_CAUSE) 1 = true ∧ bit (t.zones[i].reg 0x680C) 0 = true ∧
        t.zones[i].out.mu = 0 ∧ OnlyZone i s t)) ∧
    Completes (.correctedWriteBack i) s (fun t =>
      t.zones[i] = (if z.memOn then { z with mem := { z.mem with marks := z.mem.marks.filter (fun p => p.2 != 3) } } else z) ∧ Lone i s t) ∧
    (∀ (c g : Nat) (yl : Bool), (segLoc z.mem.seg).1 = c → (segLoc z.mem.seg).2 = g → z.mem.seg < 5202 → z.memOn = true → z.mem.borrows < z.btSegs →
      (bit (z.reg Reg.MEM_BT_CFG) 31 = false → ∀ f : Bool, Completes (.borrow i f yl) s (fun t => t.zones[i] = z ∧ Lone i s t)) ∧
      (bit (z.reg Reg.MEM_BT_CFG) 31 = true → z.borrowable c g = false → ∀ f : Bool, Completes (.borrow i f yl) s (fun t =>
        t.zones[i].mem = { z.mem with seg := (z.mem.seg + 1) % 5202, yields := 0 } ∧
        Counted Reg.MEM_BTCNT 7 0 (if z.mem.seg = 5201 then 1 else 0) z t.zones[i] ∧ RegsBut [Reg.MEM_BTCNT] z t.zones[i] ∧
        { t.zones[i] with mem := z.mem, regs := z.regs } = z ∧ Lone i s t)) ∧
      (bit (z.reg Reg.MEM_BT_CFG) 31 = true → z.borrowable c g = true →
        (∀ p ∈ z.mem.marks, p.1 < memKey c (64 * g) ∨ memKey c (64 * g) + 64 ≤ p.1) →
        Completes (.borrow i false false) s (fun t =>
          t.zones[i].mem = { z.mem with seg := (z.mem.seg + 1) % 5202, yields := 0, borrows := z.mem.borrows + 1 } ∧
          Counted Reg.MEM_BTCNT 7 0 (if z.mem.seg = 5201 then 1 else 0) z t.zones[i] ∧ RegsBut [Reg.MEM_BTCNT] z t.zones[i] ∧
          { t.zones[i] with mem := z.mem, regs := z.regs } = z ∧ Lone i s t) ∧
        Completes (.borrow i true false) s (fun t =>
          Counted Reg.MEM_BTCNT 15 8 1 z t.zones[i] ∧ bit (t.zones[i].reg 0x680C) 2 = true ∧
          t.zones[i].reg Reg.MEM_BTFAIL = BitVec.ofNat 32 (c * 2 ^ 24 + g) ∧
          (c ∈ [4, 5, 6] → t.zones[i].ctl.st = .fenced ∧ bit (t.zones[i].reg Reg.FENCE_CAUSE) 1 = true) ∧
          (c ∉ [4, 5, 6] → RegsBut [Reg.MEM_BTCNT, Reg.MEM_BTFAIL, 0x680C, Reg.MSG_DROPPED] z t.zones[i] ∧ t.zones[i].ctl = z.ctl) ∧ OnlyZone i s t) ∧
        Completes (.borrow i false true) s (fun t =>
          Counted Reg.MEM_BTCNT 31 24 1 z t.zones[i] ∧ t.zones[i].mem.borrows = z.btSegs ∧
          (z.mem.yields < 3 → t.zones[i].mem.seg = z.mem.seg ∧ t.zones[i].mem.yields = z.mem.yields + 1 ∧
            ∃ k : Fin 9, Counted (Reg.MEM_CONF (yieldMaster c z.dsp.running)) 31 0 (16 + k.val) z t.zones[i]) ∧
          (3 ≤ z.mem.yields → t.zones[i].mem.seg = (z.mem.seg + 1) % 5202 ∧ t.zones[i].mem.yields = 0 ∧ Counted Reg.MEM_BTCNT 23 16 1 z t.zones[i]) ∧
          t.zones[i].ctl = z.ctl ∧ t.zones[i].mem.marks = z.mem.marks ∧ t.zones[i].out = z.out ∧ Lone i s t)))) ∧
  (∀ (s : State) (a : Nat) (v : Word), s.wf = true → (s.host.reg Reg.NVM_ADDR).toNat = a →
    (HostOpen s 0x1800 → nvmWritable a = true → Completes (.nvmData (some v)) s (fun t =>
      t.host.bus.reason = 0 ∧ t.host.reg Reg.NVM_ADDR = (s.host.reg Reg.NVM_ADDR + 4) &&& 0x3FFFFC ∧
      HRegsBut [Reg.NVM_ADDR] s.host t.host ∧ byRead (t.host.nvmCommit).nvm.mem a 4 = natLe v.toNat 4 ∧
      (∀ b ∈ s.host.nvm.buf, b.1 + 4 ≤ a → byRead (t.host.nvmCommit).nvm.mem b.1 4 = natLe b.2.toNat 4) ∧
      (s.host.nvm.buf = none → BytesBut a 4 s.host.nvm.mem (t.host.nvmCommit).nvm.mem) ∧
      { t.host with regs := s.host.regs, nvm := s.host.nvm, bus := s.host.bus } = s.host ∧ NoZone s t)) ∧
    (HostOpen s 0x1800 → nvmWritable a = false → Completes (.nvmData (some v)) s (fun t => t.host.bus.reason = 0x06 ∧ SameHost s t ∧ NoZone s t)) ∧
    Completes (.nvmData none) s (fun t =>
      t.host.bus.reason = (if nvmReadable a then 0 else 0x06) ∧ t.host.reg Reg.NVM_ADDR = (s.host.reg Reg.NVM_ADDR + 4) &&& 0x3FFFFC ∧
      (nvmReadable a = true → 0x11000 ≤ a → bit (t.host.reg 0x180C) 0 = true ∨ t.host.bus.data = BitVec.ofNat 32 (leNat (byRead s.host.nvm.mem a 4))) ∧
      HRegsBut [Reg.NVM_ADDR, 0x180C] s.host t.host ∧ NoZone s t)) ∧
  (∀ (s : State) (p : Nat) (v : Word), s.wf = true → hostLockable p = true → p ∈ (List.range 11).map (0x400 * ·) →
    (HostOpen s p → p ≠ 0x2800 ∨ s.host.testModes = true → Completes (.clrcnt (BitVec.ofNat 24 p) .host) s (fun t =>
      t.host.bus.reason = 0 ∧ (∀ r ∈ hostRegs, r.acc = .rc → pageOf r.off = p → r.off < 0x1480 ∨ 0x1500 ≤ r.off → t.host.reg r.off = 0) ∧
      HRegsBut ((hostRegs.filter (fun r => r.acc == .rc && pageOf r.off == p)).map RegSpec.off) s.host t.host ∧ t.pending = s.pending)) ∧
    (p ≠ 0x2800 ∨ s.host.testModes = true → Completes (.pgLock (BitVec.ofNat 24 p) v) s (fun t => t.host.bus.reason = 0 ∧
      t.host.reg (p + 0x18) = (if fld v 15 8 = 0xA5 then v &&& 3 else s.host.reg (p + 0x18)) ∧
      HRegsBut [p + 0x18] s.host t.host ∧ { t.host with regs := s.host.regs, bus := s.host.bus } = s.host ∧ NoZone s t))) ∧
  (∀ (s : State) (i : ZoneId) (z : Zone) (p : Nat) (v : Word), s.zones[i] = z → Quiet s i → p ∈ (List.range 27).map (0x800 + 0x400 * ·) →
    z.ctl.st ≠ .off → z.ctl.st ≠ .fenced →
    (z.lockH p = false → Completes (.clrcnt (BitVec.ofNat 24 (zoneAddr i p)) .host) s (fun t => t.host.bus.reason = 0 ∧
      (∀ r ∈ zoneRegs, r.acc = .rc → pageOf r.off = p → r.off ≠ Reg.MEM_ECCCNT → t.zones[i].reg r.off = 0) ∧
      (p = 0x6800 → t.zones[i].mem.ecc[z.eccSel] = (0, 0)) ∧
      RegsBut ((p + 4) :: (zoneRegs.filter (fun r => r.acc == .rc && pageOf r.off == p)).map RegSpec.off) z t.zones[i] ∧
      { t.zones[i] with regs := z.regs, mem := z.mem } = z ∧ OnlyZone i s t)) ∧
    Completes (.pgLock (BitVec.ofNat 24 (zoneAddr i p)) v) s (fun t => t.host.bus.reason = 0 ∧
      t.zones[i].reg (p + 0x18) = (if fld v 15 8 = 0xA5 then v &&& 3 else z.reg (p + 0x18)) ∧ RegsBut [p + 0x18] z t.zones[i] ∧
      { t.zones[i] with regs := z.regs } = z ∧ Lone i s t)) ∧
  (∀ (s : State) (cause : ResetCause) (ta : BitVec 2), s.wf = true → s.host.lcs.pend = none → s.host.lcs.zeroPend = false →
    (s.host.sessionState = true → s.host.bootOk = false) →
    Completes (.deviceReset cause ta) s (fun t =>
      (∀ j : ZoneId, t.zones[j].ctl = (Zone.reset j).ctl ∧ t.zones[j].time.frame = 0 ∧ t.zones[j].time.est = true ∧ t.zones[j].regs = [] ∧
        t.zones[j].voices = Vector.replicate 96 Voice.free0 ∧ t.zones[j].sched.queue = [] ∧
        t.zones[j].pwr.vanaGood = s.zones[j].pwr.vanaGood ∧ t.zones[j].out.clr = s.zones[j].out.clr) ∧
      t.host.nvm.mem = s.host.nvm.mem ∧ t.host.nvm.flog = s.host.nvm.flog ∧ t.host.cont.flash = s.host.cont.flash ∧
      t.host.lcs.st = s.host.lcs.st ∧ t.host.sec.owk = s.host.sec.owk ∧ t.host.sec.opk = s.host.sec.opk ∧ t.host.cek = s.host.cek ∧
      t.host.sec.floor = s.host.sec.floor ∧ t.host.sec.open0 = none ∧ t.host.sec.shake = none ∧ t.host.pwr.booted = false ∧
      t.host.pwr.rcause = (match cause with | .por => 0 | .resetn => 1 | .vcore => 2 | .vaux => 3 | .vio => 4) ∧
      t.host.link.ta = ta ∧ t.host.link.lmode = 0 ∧ t.host.link.txq = [] ∧ t.host.proto.held = [] ∧ t.host.proto.kept = [] ∧
      t.host.reg Reg.DEV_BOOT = (if s.host.sessionState then 0x80000000 else 0) ∧ t.host.lcs.chal.length = 16 ∧ t.pending = s.pending ∧
      (ta = s.host.link.ta → cause ≠ .por → cause ≠ .resetn → exec (.brownOut cause) s = .next t)) ∧
    (cause = .por ∨ cause = .resetn → Completes (.brownOut cause) s (fun t => t = s))) ∧
  (∀ (s : State) (i : ZoneId) (z : Zone), s.zones[i] = z → Quiet s i →
    (z.ctl.st = .off → Completes (.vanaFail i) s (fun t => t.zones[i] = { z with pwr := { z.pwr with vanaGood := false } } ∧ Lone i s t) ∧
      Completes (.zvaInRegulation i) s (fun t => t.zones[i] = { z with pwr := { z.pwr with vanaGood := true } } ∧ Lone i s t)) ∧
    (z.ctl.st ≠ .off → z.ctl.st ≠ .init → z.ctl.st ≠ .fenced → Completes (.vanaFail i) s (fun t => FenceLeaves 0x080 z t.zones[i] ∧
      t.zones[i].pwr.vanaGood = false ∧ t.zones[i].pwr.zvaReg = false ∧ t.zones[i].pwr.pinHold = true ∧ t.zones[i].out.cmok = false ∧
      t.zones[i].out.ampen = false ∧ OnlyZone i s t)) ∧
    (z.ctl.st ≠ .off → Completes (.zvaInRegulation i) s (fun t =>
      t.zones[i].pwr = { z.pwr with vanaGood := true, zvaReg := true, zvaLim := false, regaOk := true, pinHold := z.pwr.asleep } ∧
      (z.bipolar = false → z.pwr.asleep = false → t.zones[i].out.cmok = true) ∧
      (z.bipolar = true ∨ z.pwr.asleep = true → t.zones[i].out.cmok = z.out.cmok) ∧
      { t.zones[i] with pwr := z.pwr, out := z.out } = z ∧ Lone i s t)) ∧
    (z.pwr.halted = false → ∀ e : Int, Completes (.debugHaltEnd i e) s (fun t => t.zones[i] = z ∧ Lone i s t)) ∧
    (z.pwr.halted = true → ∀ e : Int, Completes (.debugHaltEnd i e) s (fun t => t.zones[i].pwr = { z.pwr with halted := false } ∧
      t.zones[i].pll.lock = true ∧ t.zones[i].pll.hold = false ∧ t.zones[i].pll.slewing = false ∧ t.zones[i].time.est = false ∧
      t.zones[i].time.frame = z.aligned e ∧ t.zones[i].time.subf = 0 ∧ t.zones[i].ctl = z.ctl ∧ t.zones[i].voices = z.voices ∧
      t.zones[i].pos = z.pos ∧ t.zones[i].sched = z.sched ∧ OnlyZone i s t))) ∧
  (∀ (s : State) (r : Bool), s.wf = true → Completes (.x32Check r) s (fun t => t.host.pwr = { s.host.pwr with x32 := r } ∧
      HCounted Reg.CLK_COUNT 31 16 (if s.host.pwr.x32 && !r then 1 else 0) s.host t.host ∧ HRegsBut [Reg.CLK_COUNT] s.host t.host ∧
      { t.host with pwr := s.host.pwr, regs := s.host.regs } = s.host ∧ NoZone s t) ∧
    (s.host.pwr.booted = true ∨ s.host.lcs.st = 5 → Completes .ready s (fun t => t = s)) ∧
    (s.host.pwr.booted = false → s.host.lcs.st ≠ 5 → Completes .ready s (fun t =>
      t.host.pwr = { s.host.pwr with booted := true, xin := true, hpll := true, cpll := true } ∧
      t.host.proto.msgs.nseq = s.host.proto.msgs.nseq + 1 ∧ t.host.link = s.host.link ∧ t.host.lcs = s.host.lcs ∧ NoZone s t))) ∧
  (∀ (s : State) (v : Word) (ok : Bool), s.wf = true → HostOpen s 0 →
    (!bit (s.host.reg Reg.DEV_SLEEP) 31 && s.host.pwr.x32 && decide (s.host.link.rx ∈ [6, 7, 8]) && decide (s.host.link.tx ∈ [6, 7, 8])) = ok →
    (ok = false → Completes (.sleepArm v) s (fun t => t.host.bus.reason = 0x16 ∧ fld (t.host.reg Reg.DEV_SLEEP) 26 24 = 5 ∧
      t.host.reg Reg.DEV_SLEEP &&& 0xF8FFFFFF = s.host.reg Reg.DEV_SLEEP &&& 0xF8FFFFFF ∧ HRegsBut [Reg.DEV_SLEEP] s.host t.host ∧
      { t.host with regs := s.host.regs, bus := s.host.bus } = s.host ∧ NoZone s t)) ∧
    (ok = true → ∀ i : ZoneId, s.stampZone = some i → Completes (.sleepArm v) s (fun t => t.host.bus.reason = 0 ∧
      bit (t.host.reg Reg.DEV_SLEEP) 31 = true ∧ bit (t.host.reg Reg.DEV_SLEEP) 30 = bit v 30 ∧ fld (t.host.reg Reg.DEV_SLEEP) 26 24 = 0 ∧
      bit (t.host.reg Reg.DEV_SLEEP) 1 = bit v 1 ∧ bit (t.host.reg Reg.DEV_SLEEP) 2 = bit v 2 ∧ HRegsBut [Reg.DEV_SLEEP] s.host t.host ∧
      t.host.pwr = { s.host.pwr with slpT := (if bit v 30 then s.zones[i].tick + 1 else s.host.reg Reg.DEV_SLEEP_TGT) } ∧
      { t.host with regs := s.host.regs, bus := s.host.bus, pwr := s.host.pwr } = s.host ∧ NoZone s t))) ∧
  (∀ (s : State) (i : ZoneId) (z : Zone) (b : Nat), s.zones[i] = z → s.wf = true → Told z → z.gov.ampFlt = false → z.vox.hostq = [] → z.sleepBar = b →
    (s.sleepDue = false ∨ z.ctl.st = .off ∨ z.pwr.asleep = true ∨ z.pwr.slp.isSome = true → Completes (.sleepEntry i) s (fun t => t = s)) ∧
    (s.sleepDue = true → z.ctl.st ≠ .off → z.pwr.asleep = false → z.pwr.slp = none →
      (b = 0 → Completes (.sleepEntry i) s (fun t =>
        t.zones[i] = { z with pwr := { z.pwr with slp := some 0 }, out := { z.out with fTicks := none } } ∧
        t.host = { s.host with pwr := { s.host.pwr with pstate := 1 } } ∧ OnlyZone i s t)) ∧
      (b ≠ 0 → Completes (.sleepEntry i) s (fun t => fld (t.host.reg Reg.DEV_SLEEP) 26 24 = b ∧ bit (t.host.reg Reg.DEV_SLEEP) 31 = false ∧
        b = (if 0 < z.heldCount 0 then 3 else 4) ∧ t.host.pwr = { s.host.pwr with pstate := 0 } ∧ HRegsBut [Reg.DEV_SLEEP] s.host t.host ∧
        (∀ j : ZoneId, t.zones[j].pwr.asleep = false ∧ t.zones[j].pwr.slp = none ∨ s.zones[j].pwr.slp.isSome = true) ∧ t.pending = s.pending)))) ∧
  (∀ s : State, s.wf = true →
    (s.host.pwr.pstate = 2 ∨ bit (s.host.reg Reg.DEV_SLEEP) 31 = false ∨ (∃ j : ZoneId, s.zones[j].ctl.st ≠ .off ∧ s.zones[j].pwr.asleep = false) →
      Completes .slept s (fun t => t = s)) ∧
    (s.host.pwr.pstate ≠ 2 → bit (s.host.reg Reg.DEV_SLEEP) 31 = true → (∀ j : ZoneId, s.zones[j].ctl.st = .off ∨ s.zones[j].pwr.asleep = true) →
      Completes .slept s (fun t =>
        t.host.pwr = { s.host.pwr with pstate := 2, xin := false, hpll := false, cpll := false, linkOsc := true } ∧
        t.host.link = { s.host.link with slow := true } ∧ bit (t.host.reg Reg.DEV_SLEEP) 31 = false ∧
        fld (t.host.reg Reg.DEV_SLEEP) 26 24 = 1 ∧ HRegsBut [Reg.DEV_SLEEP] s.host t.host ∧ NoZone s t)) ∧
    (∀ c : WakeCause, s.host.wakes c = false ∨ s.host.pwr.pstate = 0 → Completes (.wake c) s (fun t => t = s)) ∧
    (∀ c : WakeCause, s.host.wakes c = true → s.host.pwr.pstate = 1 → Completes (.wake c) s (fun t =>
      t.host.pwr = { s.host.pwr with pstate := 0 } ∧ bit (t.host.reg Reg.DEV_SLEEP) 31 = false ∧ fld (t.host.reg Reg.DEV_SLEEP) 26 24 = 2 ∧
      HRegsBut [Reg.DEV_SLEEP] s.host t.host ∧ (∀ j : ZoneId, t.zones[j].pwr.slp = none ∧ t.zones[j].time = s.zones[j].time) ∧ t.pending = s.pending)) ∧
    (∀ c : WakeCause, s.host.wakes c = true → s.host.pwr.pstate = 2 → s.host.proto.vwait = none → s.host.proto.wait = [] →
      Completes (.wake c) s (fun t =>
        t.host.pwr = { s.host.pwr with pstate := 0, xin := true, hpll := true, cpll := true, linkOsc := false } ∧ t.host.link.slow = false ∧
        HCounted Reg.CLK_COUNT 15 0 1 s.host t.host ∧ HRegsBut [Reg.CLK_COUNT, Reg.DEV_WAKE] s.host t.host ∧
        bit (t.host.reg Reg.DEV_WAKE) (match c with | .link => 0 | .timer _ => 1 | .move _ => 2) = true ∧
        (∀ j : ZoneId, c = .timer j ∨ c = .move j → fld (t.host.reg Reg.DEV_WAKE) 10 8 = j.val) ∧
        (∀ j : ZoneId, s.zones[j].pwr.slp = none → s.zones[j].pwr.asleep = true →
          t.zones[j].pwr = { s.zones[j].pwr with asleep := false, waking := true } ∧ t.zones[j].time = s.zones[j].time ∧
          t.zones[j].sched = s.zones[j].sched ∧ t.zones[j].regs = s.zones[j].regs) ∧
        (∀ j : ZoneId, s.zones[j].pwr.slp = none → s.zones[j].pwr.asleep = false → t.zones[j] = s.zones[j]) ∧ t.pending = s.pending)))

/-! The whole machine: the queue, reset, what every command keeps, and what only some commands may do. -/

/-- A step takes the command at the front of the queue and executes it with the queue's rest; with an empty queue the device
idles (assumption 1). A word that spells a command puts it at the front; one that spells none changes nothing. -/
def Obligations.QueueStep : Prop :=
  (∀ (s : State) (c : Instr) (rest : List Instr), s.pending = c :: rest → step s = exec c { s with pending := rest }) ∧
  (∀ s : State, s.pending = [] → step s = .next s) ∧
  (∀ (s : State) (nbits w : Nat), match decodeTableWord nbits w with
    | some c => step (s.withFetchWord nbits w) = exec c s
    | none => s.withFetchWord nbits w = s)

/-- What a device reset leaves (R9, R375, R385, R388): every zone is in OFF with FRAME and POSITION at 0, FRAME_EST set, no
lock, no voice, no waiting event, no swap; every register reads its reset value; no bundle is mounted and no session open; the
link has no mode and reads code 6 in both directions. -/
def Obligations.ResetValues : Prop :=
  (∀ i : ZoneId, ∀ z : Zone, State.reset.zones[i] = z →
    z.ctl.st = .off ∧ z.time.frame = 0 ∧ z.time.subf = 0 ∧ z.time.est = true ∧ z.pll.lock = false ∧ z.pos.pos = 0 ∧
      (∀ n : Fin 4, z.tmr[n].count = 0) ∧ (∀ v : Fin 96, z.voices[v].life = .free) ∧ z.sched.queue = [] ∧ z.sched.mode = none ∧
      (∀ p : Fin 6, z.swaps[p].pend = false ∧ z.swaps[p].copying = false) ∧ z.msgs.q = [] ∧ z.out.mu = 0 ∧ z.out.ampen = false ∧
      (∀ k : Nat, z.reg k = zoneRst k)) ∧
  (∀ h : HostC, State.reset.host = h →
    h.cont.mstate = 0 ∧ h.sec.open0 = none ∧ h.link.lmode = 0 ∧ h.link.rx = 6 ∧ h.link.tx = 6 ∧ h.proto.held = [] ∧
      h.proto.bulk = [] ∧ h.proto.msgs.q = [] ∧ (∀ k : Nat, h.reg k = hostRst k)) ∧
  State.reset.pending = []

/-- The device after reset is legal, its memories and registers are in canonical form, every zone bears its number and has no
notice for the host complex: the invariants of the statements below hold at reset (assumption 7). -/
def Obligations.ResetInvariant : Prop :=
  State.reset.wf = true ∧ State.reset.host.legal = true ∧ (∀ i : ZoneId, State.reset.zones[i].id = i ∧ Told State.reset.zones[i]) ∧
    State.reset.pending = []

/-- No command stops the device or touches the queue of the commands that wait: every command, with whatever operands, completes from
every state, and leaves the queue. What a command does is said by the statements about it. A frame longer than LEN can say and a
record with more parameters than PLEN can say are none, and change nothing: the model's choice (assumption 5). -/
def Obligations.QueueKept : Prop :=
  (∀ (c : Instr) (s : State), Completes c s (fun t => t.pending = s.pending)) ∧
  (∀ (f : RxFrame) (s : State), 255 < f.payload.length → exec (.frameReceived f) s = .next s) ∧
  (∀ (src : Fin 9) (cls : Fin 5) (code : BitVec 16) (p : List Byte) (s : State), 32 < p.length →
    exec (.recordCreated src cls code p) s = .next s)

/-- Every step leaves every zone with its own number and with its notices to the host complex taken: baseline records, outcomes of
device-wide mode changes, voices skipped, answers to waiting voice commands (R69, R253, R308, R331). -/
def Obligations.NoticesTaken : Prop :=
  ∀ s t : State, (∀ i : ZoneId, s.zones[i].id = i ∧ Told s.zones[i]) → step s = .next t →
    ∀ i : ZoneId, t.zones[i].id = i ∧ Told t.zones[i]

/-- Every step keeps the canonical form of the register maps of the zones and of the host complex. -/
def Obligations.RegistersCanonical : Prop :=
  ∀ s t : State, (∀ i : ZoneId, s.zones[i].regsWf = true) → s.host.regsWf = true → step s = .next t →
    (∀ i : ZoneId, t.zones[i].regsWf = true) ∧ t.host.regsWf = true

/-- Every step keeps the host complex legal: the canonical form of MRAM, content flash and bulk buffer (R358, R154, R310), the next
fault-log entry one of 8192 (R359), a power state of Table 19-10. -/
def Obligations.HostLegal : Prop :=
  ∀ s t : State, s.host.legal = true → step s = .next t → t.host.legal = true

/-- Every step keeps the canonical form of the memories of the zones. -/
def Obligations.ZoneMemoriesCanonical : Prop :=
  ∀ s t : State, (∀ i : ZoneId, s.zones[i].memWf = true) → step s = .next t → ∀ i : ZoneId, t.zones[i].memWf = true

/-- R26: a command about one zone changes nothing of any other zone: no count, no clock, no memory, no engine, no output. Only sleep
entry, while it runs, ends for all zones alike (R9, R391). A boundary changes of another zone only how long its records have
waited for MSGACK (R319, assumption 8), unless commands of the link have waited for it. -/
def Obligations.ZoneIsolation : Prop :=
  ∀ (c : Instr) (s t : State) (i : ZoneId), s.host.pwr.pstate ≠ 1 → exec c s = .next t →
    (zoneOf c = some i → ∀ j : ZoneId, j ≠ i → t.zones[j] = s.zones[j]) ∧
    (boundaryOf c = some i → s.host.proto.wait = [] → ∀ j : ZoneId, j ≠ i →
      { t.zones[j] with msgs := s.zones[j].msgs } = s.zones[j] ∧
      (t.zones[j].msgs = s.zones[j].msgs ∨ t.zones[j].msgs = { s.zones[j].msgs with q := ageRecs s.zones[j].msgs.q }))

/-- A zone leaves OFF only by an ENABLE written to its ZCTL.CMD, or at a device reset, whose boot record may write one (R9). A fenced
zone leaves FENCED only to OFF, to RECOVER by RECOVER, or to INIT by a zone-local reset or by the ENABLE that follows a
DISABLE in one burst (R6, Table 1-2). The order may come from a burst of host software that has waited for its turn (R312). -/
def Obligations.OffAndFenced : Prop :=
  ∀ (c : Instr) (s t : State) (i : ZoneId), ¬ DeviceResets c → exec c s = .next t →
    (s.zones[i].ctl.st = .off → t.zones[i].ctl.st ≠ .off → OrdersNow [1] i c s) ∧
    (s.zones[i].ctl.st = .fenced → t.zones[i].ctl.st ≠ .fenced → t.zones[i].ctl.st = .off ∨
      (t.zones[i].ctl.st = .recover ∧ OrdersNow [8] i c s) ∨ (t.zones[i].ctl.st = .init ∧ OrdersNow [1, 3, 4] i c s))

/-- R307, R306: a page beyond FENCE of a zone in OFF reads 0 with reason ZONE_OFF, but for its PG_ID, and a write to it is refused
with reason ZONE_OFF; nothing of the zone changes. -/
def Obligations.OffZoneRefuses : Prop :=
  ∀ (s : State) (i : ZoneId) (off : Nat) (v : Word) (z : Zone), s.zones[i] = z → Quiet s i → z.ctl.st = .off →
    0x800 ≤ off → off < 0x7400 →
    (off % 0x400 ≠ 0 → Completes (.rcRead (BitVec.ofNat 24 (zoneAddr i off)) .host) s (fun t =>
      t.host.bus.reason = 0x08 ∧ t.host.bus.data = 0 ∧ t.zones[i] = z ∧ Lone i s t)) ∧
    (off % 0x400 = 0 → Completes (.rcRead (BitVec.ofNat 24 (zoneAddr i off)) .host) s (fun t =>
      t.host.bus.reason = 0 ∧ t.host.bus.data = z.pgId off ∧ t.zones[i] = z ∧ Lone i s t)) ∧
    Completes (.registerWrite (BitVec.ofNat 24 (zoneAddr i off)) .host v) s (fun t =>
      t.host.bus.reason = 0x08 ∧ t.zones[i] = z ∧ Lone i s t)
end

