-- ==== Sys2Proof/Laws/State.lean ====
section
/-! SUPPORT. One lemma for each field under each named update of the state: what the update leaves as it was, and what it
writes. All hold by unfolding one record. -/

namespace Sys2Proof.Machine

/-! The device. -/

@[simp] theorem State.putZone_host (s : State) (i : ZoneId) (z : Zone) : (s.putZone i z).host = s.host := rfl
@[simp] theorem State.putZone_pending (s : State) (i : ZoneId) (z : Zone) : (s.putZone i z).pending = s.pending := rfl
@[simp] theorem State.putZone_zones (s : State) (i : ZoneId) (z : Zone) : (s.putZone i z).zones = s.zones.set i z := rfl
@[simp] theorem State.modHost_zones (s : State) (f : HostC → HostC) : (s.modHost f).zones = s.zones := rfl
@[simp] theorem State.modHost_pending (s : State) (f : HostC → HostC) : (s.modHost f).pending = s.pending := rfl
@[simp] theorem State.modHost_host (s : State) (f : HostC → HostC) : (s.modHost f).host = f s.host := rfl

/-! Zone.setReg. -/

@[simp] theorem Zone.setReg_id (z : Zone) (k : Nat) (v : Word) : (z.setReg k v).id = z.id := rfl
@[simp] theorem Zone.setReg_ctl (z : Zone) (k : Nat) (v : Word) : (z.setReg k v).ctl = z.ctl := rfl
@[simp] theorem Zone.setReg_pwr (z : Zone) (k : Nat) (v : Word) : (z.setReg k v).pwr = z.pwr := rfl
@[simp] theorem Zone.setReg_regs (z : Zone) (k : Nat) (v : Word) : (z.setReg k v).regs = smSet zoneRst z.regs k v := rfl
@[simp] theorem Zone.setReg_time (z : Zone) (k : Nat) (v : Word) : (z.setReg k v).time = z.time := rfl
@[simp] theorem Zone.setReg_pll (z : Zone) (k : Nat) (v : Word) : (z.setReg k v).pll = z.pll := rfl
@[simp] theorem Zone.setReg_pos (z : Zone) (k : Nat) (v : Word) : (z.setReg k v).pos = z.pos := rfl
@[simp] theorem Zone.setReg_tmr (z : Zone) (k : Nat) (v : Word) : (z.setReg k v).tmr = z.tmr := rfl
@[simp] theorem Zone.setReg_sched (z : Zone) (k : Nat) (v : Word) : (z.setReg k v).sched = z.sched := rfl
@[simp] theorem Zone.setReg_swaps (z : Zone) (k : Nat) (v : Word) : (z.setReg k v).swaps = z.swaps := rfl
@[simp] theorem Zone.setReg_msgs (z : Zone) (k : Nat) (v : Word) : (z.setReg k v).msgs = z.msgs := rfl
@[simp] theorem Zone.setReg_voices (z : Zone) (k : Nat) (v : Word) : (z.setReg k v).voices = z.voices := rfl
@[simp] theorem Zone.setReg_vox (z : Zone) (k : Nat) (v : Word) : (z.setReg k v).vox = z.vox := rfl
@[simp] theorem Zone.setReg_winH (z : Zone) (k : Nat) (v : Word) : (z.setReg k v).winH = z.winH := rfl
@[simp] theorem Zone.setReg_winP (z : Zone) (k : Nat) (v : Word) : (z.setReg k v).winP = z.winP := rfl
@[simp] theorem Zone.setReg_cache (z : Zone) (k : Nat) (v : Word) : (z.setReg k v).cache = z.cache := rfl
@[simp] theorem Zone.setReg_route (z : Zone) (k : Nat) (v : Word) : (z.setReg k v).route = z.route := rfl
@[simp] theorem Zone.setReg_lim (z : Zone) (k : Nat) (v : Word) : (z.setReg k v).lim = z.lim := rfl
@[simp] theorem Zone.setReg_dsp (z : Zone) (k : Nat) (v : Word) : (z.setReg k v).dsp = z.dsp := rfl
@[simp] theorem Zone.setReg_dec (z : Zone) (k : Nat) (v : Word) : (z.setReg k v).dec = z.dec := rfl
@[simp] theorem Zone.setReg_aec (z : Zone) (k : Nat) (v : Word) : (z.setReg k v).aec = z.aec := rfl
@[simp] theorem Zone.setReg_gov (z : Zone) (k : Nat) (v : Word) : (z.setReg k v).gov = z.gov := rfl
@[simp] theorem Zone.setReg_out (z : Zone) (k : Nat) (v : Word) : (z.setReg k v).out = z.out := rfl
@[simp] theorem Zone.setReg_mem (z : Zone) (k : Nat) (v : Word) : (z.setReg k v).mem = z.mem := rfl
@[simp] theorem Zone.setReg_draws (z : Zone) (k : Nat) (v : Word) : (z.setReg k v).draws = z.draws := rfl

/-! Zone.putFld. -/

@[simp] theorem Zone.putFld_id (z : Zone) (k hi lo v : Nat) : (z.putFld k hi lo v).id = z.id := rfl
@[simp] theorem Zone.putFld_ctl (z : Zone) (k hi lo v : Nat) : (z.putFld k hi lo v).ctl = z.ctl := rfl
@[simp] theorem Zone.putFld_pwr (z : Zone) (k hi lo v : Nat) : (z.putFld k hi lo v).pwr = z.pwr := rfl
@[simp] theorem Zone.putFld_time (z : Zone) (k hi lo v : Nat) : (z.putFld k hi lo v).time = z.time := rfl
@[simp] theorem Zone.putFld_pll (z : Zone) (k hi lo v : Nat) : (z.putFld k hi lo v).pll = z.pll := rfl
@[simp] theorem Zone.putFld_pos (z : Zone) (k hi lo v : Nat) : (z.putFld k hi lo v).pos = z.pos := rfl
@[simp] theorem Zone.putFld_tmr (z : Zone) (k hi lo v : Nat) : (z.putFld k hi lo v).tmr = z.tmr := rfl
@[simp] theorem Zone.putFld_sched (z : Zone) (k hi lo v : Nat) : (z.putFld k hi lo v).sched = z.sched := rfl
@[simp] theorem Zone.putFld_swaps (z : Zone) (k hi lo v : Nat) : (z.putFld k hi lo v).swaps = z.swaps := rfl
@[simp] theorem Zone.putFld_msgs (z : Zone) (k hi lo v : Nat) : (z.putFld k hi lo v).msgs = z.msgs := rfl
@[simp] theorem Zone.putFld_voices (z : Zone) (k hi lo v : Nat) : (z.putFld k hi lo v).voices = z.voices := rfl
@[simp] theorem Zone.putFld_vox (z : Zone) (k hi lo v : Nat) : (z.putFld k hi lo v).vox = z.vox := rfl
@[simp] theorem Zone.putFld_winH (z : Zone) (k hi lo v : Nat) : (z.putFld k hi lo v).winH = z.winH := rfl
@[simp] theorem Zone.putFld_winP (z : Zone) (k hi lo v : Nat) : (z.putFld k hi lo v).winP = z.winP := rfl
@[simp] theorem Zone.putFld_cache (z : Zone) (k hi lo v : Nat) : (z.putFld k hi lo v).cache = z.cache := rfl
@[simp] theorem Zone.putFld_route (z : Zone) (k hi lo v : Nat) : (z.putFld k hi lo v).route = z.route := rfl
@[simp] theorem Zone.putFld_lim (z : Zone) (k hi lo v : Nat) : (z.putFld k hi lo v).lim = z.lim := rfl
@[simp] theorem Zone.putFld_dsp (z : Zone) (k hi lo v : Nat) : (z.putFld k hi lo v).dsp = z.dsp := rfl
@[simp] theorem Zone.putFld_dec (z : Zone) (k hi lo v : Nat) : (z.putFld k hi lo v).dec = z.dec := rfl
@[simp] theorem Zone.putFld_aec (z : Zone) (k hi lo v : Nat) : (z.putFld k hi lo v).aec = z.aec := rfl
@[simp] theorem Zone.putFld_gov (z : Zone) (k hi lo v : Nat) : (z.putFld k hi lo v).gov = z.gov := rfl
@[simp] theorem Zone.putFld_out (z : Zone) (k hi lo v : Nat) : (z.putFld k hi lo v).out = z.out := rfl
@[simp] theorem Zone.putFld_mem (z : Zone) (k hi lo v : Nat) : (z.putFld k hi lo v).mem = z.mem := rfl
@[simp] theorem Zone.putFld_draws (z : Zone) (k hi lo v : Nat) : (z.putFld k hi lo v).draws = z.draws := rfl

/-! Zone.putBit. -/

@[simp] theorem Zone.putBit_id (z : Zone) (k n : Nat) (b : Bool) : (z.putBit k n b).id = z.id := rfl
@[simp] theorem Zone.putBit_ctl (z : Zone) (k n : Nat) (b : Bool) : (z.putBit k n b).ctl = z.ctl := rfl
@[simp] theorem Zone.putBit_pwr (z : Zone) (k n : Nat) (b : Bool) : (z.putBit k n b).pwr = z.pwr := rfl
@[simp] theorem Zone.putBit_time (z : Zone) (k n : Nat) (b : Bool) : (z.putBit k n b).time = z.time := rfl
@[simp] theorem Zone.putBit_pll (z : Zone) (k n : Nat) (b : Bool) : (z.putBit k n b).pll = z.pll := rfl
@[simp] theorem Zone.putBit_pos (z : Zone) (k n : Nat) (b : Bool) : (z.putBit k n b).pos = z.pos := rfl
@[simp] theorem Zone.putBit_tmr (z : Zone) (k n : Nat) (b : Bool) : (z.putBit k n b).tmr = z.tmr := rfl
@[simp] theorem Zone.putBit_sched (z : Zone) (k n : Nat) (b : Bool) : (z.putBit k n b).sched = z.sched := rfl
@[simp] theorem Zone.putBit_swaps (z : Zone) (k n : Nat) (b : Bool) : (z.putBit k n b).swaps = z.swaps := rfl
@[simp] theorem Zone.putBit_msgs (z : Zone) (k n : Nat) (b : Bool) : (z.putBit k n b).msgs = z.msgs := rfl
@[simp] theorem Zone.putBit_voices (z : Zone) (k n : Nat) (b : Bool) : (z.putBit k n b).voices = z.voices := rfl
@[simp] theorem Zone.putBit_vox (z : Zone) (k n : Nat) (b : Bool) : (z.putBit k n b).vox = z.vox := rfl
@[simp] theorem Zone.putBit_winH (z : Zone) (k n : Nat) (b : Bool) : (z.putBit k n b).winH = z.winH := rfl
@[simp] theorem Zone.putBit_winP (z : Zone) (k n : Nat) (b : Bool) : (z.putBit k n b).winP = z.winP := rfl
@[simp] theorem Zone.putBit_cache (z : Zone) (k n : Nat) (b : Bool) : (z.putBit k n b).cache = z.cache := rfl
@[simp] theorem Zone.putBit_route (z : Zone) (k n : Nat) (b : Bool) : (z.putBit k n b).route = z.route := rfl
@[simp] theorem Zone.putBit_lim (z : Zone) (k n : Nat) (b : Bool) : (z.putBit k n b).lim = z.lim := rfl
@[simp] theorem Zone.putBit_dsp (z : Zone) (k n : Nat) (b : Bool) : (z.putBit k n b).dsp = z.dsp := rfl
@[simp] theorem Zone.putBit_dec (z : Zone) (k n : Nat) (b : Bool) : (z.putBit k n b).dec = z.dec := rfl
@[simp] theorem Zone.putBit_aec (z : Zone) (k n : Nat) (b : Bool) : (z.putBit k n b).aec = z.aec := rfl
@[simp] theorem Zone.putBit_gov (z : Zone) (k n : Nat) (b : Bool) : (z.putBit k n b).gov = z.gov := rfl
@[simp] theorem Zone.putBit_out (z : Zone) (k n : Nat) (b : Bool) : (z.putBit k n b).out = z.out := rfl
@[simp] theorem Zone.putBit_mem (z : Zone) (k n : Nat) (b : Bool) : (z.putBit k n b).mem = z.mem := rfl
@[simp] theorem Zone.putBit_draws (z : Zone) (k n : Nat) (b : Bool) : (z.putBit k n b).draws = z.draws := rfl

/-! Zone.count. -/

@[simp] theorem Zone.count_id (z : Zone) (k hi lo n : Nat) : (z.count k hi lo n).id = z.id := rfl
@[simp] theorem Zone.count_ctl (z : Zone) (k hi lo n : Nat) : (z.count k hi lo n).ctl = z.ctl := rfl
@[simp] theorem Zone.count_pwr (z : Zone) (k hi lo n : Nat) : (z.count k hi lo n).pwr = z.pwr := rfl
@[simp] theorem Zone.count_time (z : Zone) (k hi lo n : Nat) : (z.count k hi lo n).time = z.time := rfl
@[simp] theorem Zone.count_pll (z : Zone) (k hi lo n : Nat) : (z.count k hi lo n).pll = z.pll := rfl
@[simp] theorem Zone.count_pos (z : Zone) (k hi lo n : Nat) : (z.count k hi lo n).pos = z.pos := rfl
@[simp] theorem Zone.count_tmr (z : Zone) (k hi lo n : Nat) : (z.count k hi lo n).tmr = z.tmr := rfl
@[simp] theorem Zone.count_sched (z : Zone) (k hi lo n : Nat) : (z.count k hi lo n).sched = z.sched := rfl
@[simp] theorem Zone.count_swaps (z : Zone) (k hi lo n : Nat) : (z.count k hi lo n).swaps = z.swaps := rfl
@[simp] theorem Zone.count_msgs (z : Zone) (k hi lo n : Nat) : (z.count k hi lo n).msgs = z.msgs := rfl
@[simp] theorem Zone.count_voices (z : Zone) (k hi lo n : Nat) : (z.count k hi lo n).voices = z.voices := rfl
@[simp] theorem Zone.count_vox (z : Zone) (k hi lo n : Nat) : (z.count k hi lo n).vox = z.vox := rfl
@[simp] theorem Zone.count_winH (z : Zone) (k hi lo n : Nat) : (z.count k hi lo n).winH = z.winH := rfl
@[simp] theorem Zone.count_winP (z : Zone) (k hi lo n : Nat) : (z.count k hi lo n).winP = z.winP := rfl
@[simp] theorem Zone.count_cache (z : Zone) (k hi lo n : Nat) : (z.count k hi lo n).cache = z.cache := rfl
@[simp] theorem Zone.count_route (z : Zone) (k hi lo n : Nat) : (z.count k hi lo n).route = z.route := rfl
@[simp] theorem Zone.count_lim (z : Zone) (k hi lo n : Nat) : (z.count k hi lo n).lim = z.lim := rfl
@[simp] theorem Zone.count_dsp (z : Zone) (k hi lo n : Nat) : (z.count k hi lo n).dsp = z.dsp := rfl
@[simp] theorem Zone.count_dec (z : Zone) (k hi lo n : Nat) : (z.count k hi lo n).dec = z.dec := rfl
@[simp] theorem Zone.count_aec (z : Zone) (k hi lo n : Nat) : (z.count k hi lo n).aec = z.aec := rfl
@[simp] theorem Zone.count_gov (z : Zone) (k hi lo n : Nat) : (z.count k hi lo n).gov = z.gov := rfl
@[simp] theorem Zone.count_out (z : Zone) (k hi lo n : Nat) : (z.count k hi lo n).out = z.out := rfl
@[simp] theorem Zone.count_mem (z : Zone) (k hi lo n : Nat) : (z.count k hi lo n).mem = z.mem := rfl
@[simp] theorem Zone.count_draws (z : Zone) (k hi lo n : Nat) : (z.count k hi lo n).draws = z.draws := rfl

/-! Zone.setFlt. -/

@[simp] theorem Zone.setFlt_id (z : Zone) (page n : Nat) : (z.setFlt page n).id = z.id := rfl
@[simp] theorem Zone.setFlt_ctl (z : Zone) (page n : Nat) : (z.setFlt page n).ctl = z.ctl := rfl
@[simp] theorem Zone.setFlt_pwr (z : Zone) (page n : Nat) : (z.setFlt page n).pwr = z.pwr := rfl
@[simp] theorem Zone.setFlt_time (z : Zone) (page n : Nat) : (z.setFlt page n).time = z.time := rfl
@[simp] theorem Zone.setFlt_pll (z : Zone) (page n : Nat) : (z.setFlt page n).pll = z.pll := rfl
@[simp] theorem Zone.setFlt_pos (z : Zone) (page n : Nat) : (z.setFlt page n).pos = z.pos := rfl
@[simp] theorem Zone.setFlt_tmr (z : Zone) (page n : Nat) : (z.setFlt page n).tmr = z.tmr := rfl
@[simp] theorem Zone.setFlt_sched (z : Zone) (page n : Nat) : (z.setFlt page n).sched = z.sched := rfl
@[simp] theorem Zone.setFlt_swaps (z : Zone) (page n : Nat) : (z.setFlt page n).swaps = z.swaps := rfl
@[simp] theorem Zone.setFlt_msgs (z : Zone) (page n : Nat) : (z.setFlt page n).msgs = z.msgs := rfl
@[simp] theorem Zone.setFlt_voices (z : Zone) (page n : Nat) : (z.setFlt page n).voices = z.voices := rfl
@[simp] theorem Zone.setFlt_vox (z : Zone) (page n : Nat) : (z.setFlt page n).vox = z.vox := rfl
@[simp] theorem Zone.setFlt_winH (z : Zone) (page n : Nat) : (z.setFlt page n).winH = z.winH := rfl
@[simp] theorem Zone.setFlt_winP (z : Zone) (page n : Nat) : (z.setFlt page n).winP = z.winP := rfl
@[simp] theorem Zone.setFlt_cache (z : Zone) (page n : Nat) : (z.setFlt page n).cache = z.cache := rfl
@[simp] theorem Zone.setFlt_route (z : Zone) (page n : Nat) : (z.setFlt page n).route = z.route := rfl
@[simp] theorem Zone.setFlt_lim (z : Zone) (page n : Nat) : (z.setFlt page n).lim = z.lim := rfl
@[simp] theorem Zone.setFlt_dsp (z : Zone) (page n : Nat) : (z.setFlt page n).dsp = z.dsp := rfl
@[simp] theorem Zone.setFlt_dec (z : Zone) (page n : Nat) : (z.setFlt page n).dec = z.dec := rfl
@[simp] theorem Zone.setFlt_aec (z : Zone) (page n : Nat) : (z.setFlt page n).aec = z.aec := rfl
@[simp] theorem Zone.setFlt_gov (z : Zone) (page n : Nat) : (z.setFlt page n).gov = z.gov := rfl
@[simp] theorem Zone.setFlt_out (z : Zone) (page n : Nat) : (z.setFlt page n).out = z.out := rfl
@[simp] theorem Zone.setFlt_mem (z : Zone) (page n : Nat) : (z.setFlt page n).mem = z.mem := rfl
@[simp] theorem Zone.setFlt_draws (z : Zone) (page n : Nat) : (z.setFlt page n).draws = z.draws := rfl

/-! Zone.modOut. -/

@[simp] theorem Zone.modOut_id (z : Zone) (f : ZOut → ZOut) : (z.modOut f).id = z.id := rfl
@[simp] theorem Zone.modOut_ctl (z : Zone) (f : ZOut → ZOut) : (z.modOut f).ctl = z.ctl := rfl
@[simp] theorem Zone.modOut_pwr (z : Zone) (f : ZOut → ZOut) : (z.modOut f).pwr = z.pwr := rfl
@[simp] theorem Zone.modOut_regs (z : Zone) (f : ZOut → ZOut) : (z.modOut f).regs = z.regs := rfl
@[simp] theorem Zone.modOut_time (z : Zone) (f : ZOut → ZOut) : (z.modOut f).time = z.time := rfl
@[simp] theorem Zone.modOut_pll (z : Zone) (f : ZOut → ZOut) : (z.modOut f).pll = z.pll := rfl
@[simp] theorem Zone.modOut_pos (z : Zone) (f : ZOut → ZOut) : (z.modOut f).pos = z.pos := rfl
@[simp] theorem Zone.modOut_tmr (z : Zone) (f : ZOut → ZOut) : (z.modOut f).tmr = z.tmr := rfl
@[simp] theorem Zone.modOut_sched (z : Zone) (f : ZOut → ZOut) : (z.modOut f).sched = z.sched := rfl
@[simp] theorem Zone.modOut_swaps (z : Zone) (f : ZOut → ZOut) : (z.modOut f).swaps = z.swaps := rfl
@[simp] theorem Zone.modOut_msgs (z : Zone) (f : ZOut → ZOut) : (z.modOut f).msgs = z.msgs := rfl
@[simp] theorem Zone.modOut_voices (z : Zone) (f : ZOut → ZOut) : (z.modOut f).voices = z.voices := rfl
@[simp] theorem Zone.modOut_vox (z : Zone) (f : ZOut → ZOut) : (z.modOut f).vox = z.vox := rfl
@[simp] theorem Zone.modOut_winH (z : Zone) (f : ZOut → ZOut) : (z.modOut f).winH = z.winH := rfl
@[simp] theorem Zone.modOut_winP (z : Zone) (f : ZOut → ZOut) : (z.modOut f).winP = z.winP := rfl
@[simp] theorem Zone.modOut_cache (z : Zone) (f : ZOut → ZOut) : (z.modOut f).cache = z.cache := rfl
@[simp] theorem Zone.modOut_route (z : Zone) (f : ZOut → ZOut) : (z.modOut f).route = z.route := rfl
@[simp] theorem Zone.modOut_lim (z : Zone) (f : ZOut → ZOut) : (z.modOut f).lim = z.lim := rfl
@[simp] theorem Zone.modOut_dsp (z : Zone) (f : ZOut → ZOut) : (z.modOut f).dsp = z.dsp := rfl
@[simp] theorem Zone.modOut_dec (z : Zone) (f : ZOut → ZOut) : (z.modOut f).dec = z.dec := rfl
@[simp] theorem Zone.modOut_aec (z : Zone) (f : ZOut → ZOut) : (z.modOut f).aec = z.aec := rfl
@[simp] theorem Zone.modOut_gov (z : Zone) (f : ZOut → ZOut) : (z.modOut f).gov = z.gov := rfl
@[simp] theorem Zone.modOut_out (z : Zone) (f : ZOut → ZOut) : (z.modOut f).out = f z.out := rfl
@[simp] theorem Zone.modOut_mem (z : Zone) (f : ZOut → ZOut) : (z.modOut f).mem = z.mem := rfl
@[simp] theorem Zone.modOut_draws (z : Zone) (f : ZOut → ZOut) : (z.modOut f).draws = z.draws := rfl

/-! Zone.modGov. -/

@[simp] theorem Zone.modGov_id (z : Zone) (f : ZGov → ZGov) : (z.modGov f).id = z.id := rfl
@[simp] theorem Zone.modGov_ctl (z : Zone) (f : ZGov → ZGov) : (z.modGov f).ctl = z.ctl := rfl
@[simp] theorem Zone.modGov_pwr (z : Zone) (f : ZGov → ZGov) : (z.modGov f).pwr = z.pwr := rfl
@[simp] theorem Zone.modGov_regs (z : Zone) (f : ZGov → ZGov) : (z.modGov f).regs = z.regs := rfl
@[simp] theorem Zone.modGov_time (z : Zone) (f : ZGov → ZGov) : (z.modGov f).time = z.time := rfl
@[simp] theorem Zone.modGov_pll (z : Zone) (f : ZGov → ZGov) : (z.modGov f).pll = z.pll := rfl
@[simp] theorem Zone.modGov_pos (z : Zone) (f : ZGov → ZGov) : (z.modGov f).pos = z.pos := rfl
@[simp] theorem Zone.modGov_tmr (z : Zone) (f : ZGov → ZGov) : (z.modGov f).tmr = z.tmr := rfl
@[simp] theorem Zone.modGov_sched (z : Zone) (f : ZGov → ZGov) : (z.modGov f).sched = z.sched := rfl
@[simp] theorem Zone.modGov_swaps (z : Zone) (f : ZGov → ZGov) : (z.modGov f).swaps = z.swaps := rfl
@[simp] theorem Zone.modGov_msgs (z : Zone) (f : ZGov → ZGov) : (z.modGov f).msgs = z.msgs := rfl
@[simp] theorem Zone.modGov_voices (z : Zone) (f : ZGov → ZGov) : (z.modGov f).voices = z.voices := rfl
@[simp] theorem Zone.modGov_vox (z : Zone) (f : ZGov → ZGov) : (z.modGov f).vox = z.vox := rfl
@[simp] theorem Zone.modGov_winH (z : Zone) (f : ZGov → ZGov) : (z.modGov f).winH = z.winH := rfl
@[simp] theorem Zone.modGov_winP (z : Zone) (f : ZGov → ZGov) : (z.modGov f).winP = z.winP := rfl
@[simp] theorem Zone.modGov_cache (z : Zone) (f : ZGov → ZGov) : (z.modGov f).cache = z.cache := rfl
@[simp] theorem Zone.modGov_route (z : Zone) (f : ZGov → ZGov) : (z.modGov f).route = z.route := rfl
@[simp] theorem Zone.modGov_lim (z : Zone) (f : ZGov → ZGov) : (z.modGov f).lim = z.lim := rfl
@[simp] theorem Zone.modGov_dsp (z : Zone) (f : ZGov → ZGov) : (z.modGov f).dsp = z.dsp := rfl
@[simp] theorem Zone.modGov_dec (z : Zone) (f : ZGov → ZGov) : (z.modGov f).dec = z.dec := rfl
@[simp] theorem Zone.modGov_aec (z : Zone) (f : ZGov → ZGov) : (z.modGov f).aec = z.aec := rfl
@[simp] theorem Zone.modGov_gov (z : Zone) (f : ZGov → ZGov) : (z.modGov f).gov = f z.gov := rfl
@[simp] theorem Zone.modGov_out (z : Zone) (f : ZGov → ZGov) : (z.modGov f).out = z.out := rfl
@[simp] theorem Zone.modGov_mem (z : Zone) (f : ZGov → ZGov) : (z.modGov f).mem = z.mem := rfl
@[simp] theorem Zone.modGov_draws (z : Zone) (f : ZGov → ZGov) : (z.modGov f).draws = z.draws := rfl

/-! Zone.modSwap. -/

@[simp] theorem Zone.modSwap_id (z : Zone) (p : Fin 6) (f : ZSwap → ZSwap) : (z.modSwap p f).id = z.id := rfl
@[simp] theorem Zone.modSwap_ctl (z : Zone) (p : Fin 6) (f : ZSwap → ZSwap) : (z.modSwap p f).ctl = z.ctl := rfl
@[simp] theorem Zone.modSwap_pwr (z : Zone) (p : Fin 6) (f : ZSwap → ZSwap) : (z.modSwap p f).pwr = z.pwr := rfl
@[simp] theorem Zone.modSwap_regs (z : Zone) (p : Fin 6) (f : ZSwap → ZSwap) : (z.modSwap p f).regs = z.regs := rfl
@[simp] theorem Zone.modSwap_time (z : Zone) (p : Fin 6) (f : ZSwap → ZSwap) : (z.modSwap p f).time = z.time := rfl
@[simp] theorem Zone.modSwap_pll (z : Zone) (p : Fin 6) (f : ZSwap → ZSwap) : (z.modSwap p f).pll = z.pll := rfl
@[simp] theorem Zone.modSwap_pos (z : Zone) (p : Fin 6) (f : ZSwap → ZSwap) : (z.modSwap p f).pos = z.pos := rfl
@[simp] theorem Zone.modSwap_tmr (z : Zone) (p : Fin 6) (f : ZSwap → ZSwap) : (z.modSwap p f).tmr = z.tmr := rfl
@[simp] theorem Zone.modSwap_sched (z : Zone) (p : Fin 6) (f : ZSwap → ZSwap) : (z.modSwap p f).sched = z.sched := rfl
@[simp] theorem Zone.modSwap_swaps (z : Zone) (p : Fin 6) (f : ZSwap → ZSwap) : (z.modSwap p f).swaps = vmod z.swaps p f := rfl
@[simp] theorem Zone.modSwap_msgs (z : Zone) (p : Fin 6) (f : ZSwap → ZSwap) : (z.modSwap p f).msgs = z.msgs := rfl
@[simp] theorem Zone.modSwap_voices (z : Zone) (p : Fin 6) (f : ZSwap → ZSwap) : (z.modSwap p f).voices = z.voices := rfl
@[simp] theorem Zone.modSwap_vox (z : Zone) (p : Fin 6) (f : ZSwap → ZSwap) : (z.modSwap p f).vox = z.vox := rfl
@[simp] theorem Zone.modSwap_winH (z : Zone) (p : Fin 6) (f : ZSwap → ZSwap) : (z.modSwap p f).winH = z.winH := rfl
@[simp] theorem Zone.modSwap_winP (z : Zone) (p : Fin 6) (f : ZSwap → ZSwap) : (z.modSwap p f).winP = z.winP := rfl
@[simp] theorem Zone.modSwap_cache (z : Zone) (p : Fin 6) (f : ZSwap → ZSwap) : (z.modSwap p f).cache = z.cache := rfl
@[simp] theorem Zone.modSwap_route (z : Zone) (p : Fin 6) (f : ZSwap → ZSwap) : (z.modSwap p f).route = z.route := rfl
@[simp] theorem Zone.modSwap_lim (z : Zone) (p : Fin 6) (f : ZSwap → ZSwap) : (z.modSwap p f).lim = z.lim := rfl
@[simp] theorem Zone.modSwap_dsp (z : Zone) (p : Fin 6) (f : ZSwap → ZSwap) : (z.modSwap p f).dsp = z.dsp := rfl
@[simp] theorem Zone.modSwap_dec (z : Zone) (p : Fin 6) (f : ZSwap → ZSwap) : (z.modSwap p f).dec = z.dec := rfl
@[simp] theorem Zone.modSwap_aec (z : Zone) (p : Fin 6) (f : ZSwap → ZSwap) : (z.modSwap p f).aec = z.aec := rfl
@[simp] theorem Zone.modSwap_gov (z : Zone) (p : Fin 6) (f : ZSwap → ZSwap) : (z.modSwap p f).gov = z.gov := rfl
@[simp] theorem Zone.modSwap_out (z : Zone) (p : Fin 6) (f : ZSwap → ZSwap) : (z.modSwap p f).out = z.out := rfl
@[simp] theorem Zone.modSwap_mem (z : Zone) (p : Fin 6) (f : ZSwap → ZSwap) : (z.modSwap p f).mem = z.mem := rfl
@[simp] theorem Zone.modSwap_draws (z : Zone) (p : Fin 6) (f : ZSwap → ZSwap) : (z.modSwap p f).draws = z.draws := rfl

/-! Zone.ampEval. -/

@[simp] theorem Zone.ampEval_id (z : Zone)  : (z.ampEval).id = z.id := rfl
@[simp] theorem Zone.ampEval_ctl (z : Zone)  : (z.ampEval).ctl = z.ctl := rfl
@[simp] theorem Zone.ampEval_pwr (z : Zone)  : (z.ampEval).pwr = z.pwr := rfl
@[simp] theorem Zone.ampEval_regs (z : Zone)  : (z.ampEval).regs = z.regs := rfl
@[simp] theorem Zone.ampEval_time (z : Zone)  : (z.ampEval).time = z.time := rfl
@[simp] theorem Zone.ampEval_pll (z : Zone)  : (z.ampEval).pll = z.pll := rfl
@[simp] theorem Zone.ampEval_pos (z : Zone)  : (z.ampEval).pos = z.pos := rfl
@[simp] theorem Zone.ampEval_tmr (z : Zone)  : (z.ampEval).tmr = z.tmr := rfl
@[simp] theorem Zone.ampEval_sched (z : Zone)  : (z.ampEval).sched = z.sched := rfl
@[simp] theorem Zone.ampEval_swaps (z : Zone)  : (z.ampEval).swaps = z.swaps := rfl
@[simp] theorem Zone.ampEval_msgs (z : Zone)  : (z.ampEval).msgs = z.msgs := rfl
@[simp] theorem Zone.ampEval_voices (z : Zone)  : (z.ampEval).voices = z.voices := rfl
@[simp] theorem Zone.ampEval_vox (z : Zone)  : (z.ampEval).vox = z.vox := rfl
@[simp] theorem Zone.ampEval_winH (z : Zone)  : (z.ampEval).winH = z.winH := rfl
@[simp] theorem Zone.ampEval_winP (z : Zone)  : (z.ampEval).winP = z.winP := rfl
@[simp] theorem Zone.ampEval_cache (z : Zone)  : (z.ampEval).cache = z.cache := rfl
@[simp] theorem Zone.ampEval_route (z : Zone)  : (z.ampEval).route = z.route := rfl
@[simp] theorem Zone.ampEval_lim (z : Zone)  : (z.ampEval).lim = z.lim := rfl
@[simp] theorem Zone.ampEval_dsp (z : Zone)  : (z.ampEval).dsp = z.dsp := rfl
@[simp] theorem Zone.ampEval_dec (z : Zone)  : (z.ampEval).dec = z.dec := rfl
@[simp] theorem Zone.ampEval_aec (z : Zone)  : (z.ampEval).aec = z.aec := rfl
@[simp] theorem Zone.ampEval_gov (z : Zone)  : (z.ampEval).gov = z.gov := rfl
@[simp] theorem Zone.ampEval_mem (z : Zone)  : (z.ampEval).mem = z.mem := rfl
@[simp] theorem Zone.ampEval_draws (z : Zone)  : (z.ampEval).draws = z.draws := rfl

/-! Zone.taken: only the notices for the host complex go. -/

@[simp] theorem Zone.taken_id (z : Zone) : z.taken.id = z.id := rfl
@[simp] theorem Zone.taken_ctl (z : Zone) : z.taken.ctl = z.ctl := rfl
@[simp] theorem Zone.taken_pwr (z : Zone) : z.taken.pwr = z.pwr := rfl
@[simp] theorem Zone.taken_regs (z : Zone) : z.taken.regs = z.regs := rfl
@[simp] theorem Zone.taken_time (z : Zone) : z.taken.time = z.time := rfl
@[simp] theorem Zone.taken_pll (z : Zone) : z.taken.pll = z.pll := rfl
@[simp] theorem Zone.taken_pos (z : Zone) : z.taken.pos = z.pos := rfl
@[simp] theorem Zone.taken_tmr (z : Zone) : z.taken.tmr = z.tmr := rfl
@[simp] theorem Zone.taken_swaps (z : Zone) : z.taken.swaps = z.swaps := rfl
@[simp] theorem Zone.taken_msgs (z : Zone) : z.taken.msgs = z.msgs := rfl
@[simp] theorem Zone.taken_voices (z : Zone) : z.taken.voices = z.voices := rfl
@[simp] theorem Zone.taken_winH (z : Zone) : z.taken.winH = z.winH := rfl
@[simp] theorem Zone.taken_winP (z : Zone) : z.taken.winP = z.winP := rfl
@[simp] theorem Zone.taken_cache (z : Zone) : z.taken.cache = z.cache := rfl
@[simp] theorem Zone.taken_route (z : Zone) : z.taken.route = z.route := rfl
@[simp] theorem Zone.taken_lim (z : Zone) : z.taken.lim = z.lim := rfl
@[simp] theorem Zone.taken_dsp (z : Zone) : z.taken.dsp = z.dsp := rfl
@[simp] theorem Zone.taken_dec (z : Zone) : z.taken.dec = z.dec := rfl
@[simp] theorem Zone.taken_aec (z : Zone) : z.taken.aec = z.aec := rfl
@[simp] theorem Zone.taken_out (z : Zone) : z.taken.out = z.out := rfl
@[simp] theorem Zone.taken_mem (z : Zone) : z.taken.mem = z.mem := rfl
@[simp] theorem Zone.taken_draws (z : Zone) : z.taken.draws = z.draws := rfl
@[simp] theorem Zone.taken_vox_hostq (z : Zone) : z.taken.vox.hostq = z.vox.hostq := rfl
@[simp] theorem Zone.taken_vox_res (z : Zone) : z.taken.vox.res = z.vox.res := rfl
@[simp] theorem Zone.taken_vox_winN (z : Zone) : z.taken.vox.winN = z.vox.winN := rfl
@[simp] theorem Zone.taken_vox_winLeft (z : Zone) : z.taken.vox.winLeft = z.vox.winLeft := rfl
@[simp] theorem Zone.taken_sched_queue (z : Zone) : z.taken.sched.queue = z.sched.queue := rfl
@[simp] theorem Zone.taken_sched_mode (z : Zone) : z.taken.sched.mode = z.sched.mode := rfl
@[simp] theorem Zone.taken_sched_seq (z : Zone) : z.taken.sched.seq = z.sched.seq := rfl
@[simp] theorem Zone.taken_sched_cur (z : Zone) : z.taken.sched.cur = z.sched.cur := rfl
@[simp] theorem Zone.taken_gov_nal (z : Zone) : z.taken.gov.nal = z.gov.nal := rfl
@[simp] theorem Zone.taken_gov_verdict (z : Zone) : z.taken.gov.verdict = z.gov.verdict := rfl
@[simp] theorem Zone.taken_gov_ampFlt (z : Zone) : z.taken.gov.ampFlt = z.gov.ampFlt := rfl
@[simp] theorem Zone.taken_gov_ampLow (z : Zone) : z.taken.gov.ampLow = z.gov.ampLow := rfl
@[simp] theorem Zone.taken_gov_ampRel (z : Zone) : z.taken.gov.ampRel = z.gov.ampRel := rfl
@[simp] theorem Zone.taken_gov_ampLock (z : Zone) : z.taken.gov.ampLock = z.gov.ampLock := rfl
@[simp] theorem Zone.taken_gov_retries (z : Zone) : z.taken.gov.retries = z.gov.retries := rfl
@[simp] theorem Zone.taken_gov_baseOk (z : Zone) : z.taken.gov.baseOk = z.gov.baseOk := rfl
@[simp] theorem Zone.taken_gov_baseMis (z : Zone) : z.taken.gov.baseMis = z.gov.baseMis := rfl
@[simp] theorem Zone.taken_gov_fenceV (z : Zone) : z.taken.gov.fenceV = z.gov.fenceV := rfl
@[simp] theorem Zone.taken_gov_hRun (z : Zone) : z.taken.gov.hRun = z.gov.hRun := rfl
@[simp] theorem Zone.taken_gov_iStart (z : Zone) : z.taken.gov.iStart = z.gov.iStart := rfl

/-! HostC.setReg. -/

@[simp] theorem HostC.setReg_regs (h : HostC) (k : Nat) (v : Word) : (h.setReg k v).regs = smSet hostRst h.regs k v := rfl
@[simp] theorem HostC.setReg_cont (h : HostC) (k : Nat) (v : Word) : (h.setReg k v).cont = h.cont := rfl
@[simp] theorem HostC.setReg_cek (h : HostC) (k : Nat) (v : Word) : (h.setReg k v).cek = h.cek := rfl
@[simp] theorem HostC.setReg_link (h : HostC) (k : Nat) (v : Word) : (h.setReg k v).link = h.link := rfl
@[simp] theorem HostC.setReg_proto (h : HostC) (k : Nat) (v : Word) : (h.setReg k v).proto = h.proto := rfl
@[simp] theorem HostC.setReg_sec (h : HostC) (k : Nat) (v : Word) : (h.setReg k v).sec = h.sec := rfl
@[simp] theorem HostC.setReg_lcs (h : HostC) (k : Nat) (v : Word) : (h.setReg k v).lcs = h.lcs := rfl
@[simp] theorem HostC.setReg_nvm (h : HostC) (k : Nat) (v : Word) : (h.setReg k v).nvm = h.nvm := rfl
@[simp] theorem HostC.setReg_pwr (h : HostC) (k : Nat) (v : Word) : (h.setReg k v).pwr = h.pwr := rfl
@[simp] theorem HostC.setReg_base (h : HostC) (k : Nat) (v : Word) : (h.setReg k v).base = h.base := rfl
@[simp] theorem HostC.setReg_bus (h : HostC) (k : Nat) (v : Word) : (h.setReg k v).bus = h.bus := rfl
@[simp] theorem HostC.setReg_draws (h : HostC) (k : Nat) (v : Word) : (h.setReg k v).draws = h.draws := rfl
@[simp] theorem HostC.putFld_cont (h : HostC) (k hi lo v : Nat) : (h.putFld k hi lo v).cont = h.cont := rfl
@[simp] theorem HostC.putFld_cek (h : HostC) (k hi lo v : Nat) : (h.putFld k hi lo v).cek = h.cek := rfl
@[simp] theorem HostC.putFld_link (h : HostC) (k hi lo v : Nat) : (h.putFld k hi lo v).link = h.link := rfl
@[simp] theorem HostC.putFld_proto (h : HostC) (k hi lo v : Nat) : (h.putFld k hi lo v).proto = h.proto := rfl
@[simp] theorem HostC.putFld_sec (h : HostC) (k hi lo v : Nat) : (h.putFld k hi lo v).sec = h.sec := rfl
@[simp] theorem HostC.putFld_lcs (h : HostC) (k hi lo v : Nat) : (h.putFld k hi lo v).lcs = h.lcs := rfl
@[simp] theorem HostC.putFld_nvm (h : HostC) (k hi lo v : Nat) : (h.putFld k hi lo v).nvm = h.nvm := rfl
@[simp] theorem HostC.putFld_pwr (h : HostC) (k hi lo v : Nat) : (h.putFld k hi lo v).pwr = h.pwr := rfl
@[simp] theorem HostC.putFld_base (h : HostC) (k hi lo v : Nat) : (h.putFld k hi lo v).base = h.base := rfl
@[simp] theorem HostC.putFld_bus (h : HostC) (k hi lo v : Nat) : (h.putFld k hi lo v).bus = h.bus := rfl
@[simp] theorem HostC.putFld_draws (h : HostC) (k hi lo v : Nat) : (h.putFld k hi lo v).draws = h.draws := rfl
@[simp] theorem HostC.putBit_cont (h : HostC) (k n : Nat) (b : Bool) : (h.putBit k n b).cont = h.cont := rfl
@[simp] theorem HostC.putBit_cek (h : HostC) (k n : Nat) (b : Bool) : (h.putBit k n b).cek = h.cek := rfl
@[simp] theorem HostC.putBit_link (h : HostC) (k n : Nat) (b : Bool) : (h.putBit k n b).link = h.link := rfl
@[simp] theorem HostC.putBit_proto (h : HostC) (k n : Nat) (b : Bool) : (h.putBit k n b).proto = h.proto := rfl
@[simp] theorem HostC.putBit_sec (h : HostC) (k n : Nat) (b : Bool) : (h.putBit k n b).sec = h.sec := rfl
@[simp] theorem HostC.putBit_lcs (h : HostC) (k n : Nat) (b : Bool) : (h.putBit k n b).lcs = h.lcs := rfl
@[simp] theorem HostC.putBit_nvm (h : HostC) (k n : Nat) (b : Bool) : (h.putBit k n b).nvm = h.nvm := rfl
@[simp] theorem HostC.putBit_pwr (h : HostC) (k n : Nat) (b : Bool) : (h.putBit k n b).pwr = h.pwr := rfl
@[simp] theorem HostC.putBit_base (h : HostC) (k n : Nat) (b : Bool) : (h.putBit k n b).base = h.base := rfl
@[simp] theorem HostC.putBit_bus (h : HostC) (k n : Nat) (b : Bool) : (h.putBit k n b).bus = h.bus := rfl
@[simp] theorem HostC.putBit_draws (h : HostC) (k n : Nat) (b : Bool) : (h.putBit k n b).draws = h.draws := rfl
@[simp] theorem HostC.count_cont (h : HostC) (k hi lo n : Nat) : (h.count k hi lo n).cont = h.cont := rfl
@[simp] theorem HostC.count_cek (h : HostC) (k hi lo n : Nat) : (h.count k hi lo n).cek = h.cek := rfl
@[simp] theorem HostC.count_link (h : HostC) (k hi lo n : Nat) : (h.count k hi lo n).link = h.link := rfl
@[simp] theorem HostC.count_proto (h : HostC) (k hi lo n : Nat) : (h.count k hi lo n).proto = h.proto := rfl
@[simp] theorem HostC.count_sec (h : HostC) (k hi lo n : Nat) : (h.count k hi lo n).sec = h.sec := rfl
@[simp] theorem HostC.count_lcs (h : HostC) (k hi lo n : Nat) : (h.count k hi lo n).lcs = h.lcs := rfl
@[simp] theorem HostC.count_nvm (h : HostC) (k hi lo n : Nat) : (h.count k hi lo n).nvm = h.nvm := rfl
@[simp] theorem HostC.count_pwr (h : HostC) (k hi lo n : Nat) : (h.count k hi lo n).pwr = h.pwr := rfl
@[simp] theorem HostC.count_base (h : HostC) (k hi lo n : Nat) : (h.count k hi lo n).base = h.base := rfl
@[simp] theorem HostC.count_bus (h : HostC) (k hi lo n : Nat) : (h.count k hi lo n).bus = h.bus := rfl
@[simp] theorem HostC.count_draws (h : HostC) (k hi lo n : Nat) : (h.count k hi lo n).draws = h.draws := rfl

/-! Records: creating one changes a zone's queue and its count of dropped records, nothing else. -/

/-- What Zone.send can do. -/
theorem Zone.send_shape (z : Zone) (cls code : Nat) (params : List Byte) :
    ∃ q r, z.send cls code params = { z with msgs := q, regs := r } := by
  unfold Zone.send
  dsimp only
  split
  · exact ⟨_, _, rfl⟩
  · split
    · exact ⟨_, _, rfl⟩
    · exact ⟨_, z.regs, rfl⟩

@[simp] theorem Zone.send_id (z : Zone) (cls code : Nat) (params : List Byte) : (z.send cls code params).id = z.id := by
  obtain ⟨q, r, h⟩ := z.send_shape cls code params; rw [h]
@[simp] theorem Zone.send_ctl (z : Zone) (cls code : Nat) (params : List Byte) : (z.send cls code params).ctl = z.ctl := by
  obtain ⟨q, r, h⟩ := z.send_shape cls code params; rw [h]
@[simp] theorem Zone.send_pwr (z : Zone) (cls code : Nat) (params : List Byte) : (z.send cls code params).pwr = z.pwr := by
  obtain ⟨q, r, h⟩ := z.send_shape cls code params; rw [h]
@[simp] theorem Zone.send_time (z : Zone) (cls code : Nat) (params : List Byte) : (z.send cls code params).time = z.time := by
  obtain ⟨q, r, h⟩ := z.send_shape cls code params; rw [h]
@[simp] theorem Zone.send_pll (z : Zone) (cls code : Nat) (params : List Byte) : (z.send cls code params).pll = z.pll := by
  obtain ⟨q, r, h⟩ := z.send_shape cls code params; rw [h]
@[simp] theorem Zone.send_pos (z : Zone) (cls code : Nat) (params : List Byte) : (z.send cls code params).pos = z.pos := by
  obtain ⟨q, r, h⟩ := z.send_shape cls code params; rw [h]
@[simp] theorem Zone.send_tmr (z : Zone) (cls code : Nat) (params : List Byte) : (z.send cls code params).tmr = z.tmr := by
  obtain ⟨q, r, h⟩ := z.send_shape cls code params; rw [h]
@[simp] theorem Zone.send_sched (z : Zone) (cls code : Nat) (params : List Byte) : (z.send cls code params).sched = z.sched := by
  obtain ⟨q, r, h⟩ := z.send_shape cls code params; rw [h]
@[simp] theorem Zone.send_swaps (z : Zone) (cls code : Nat) (params : List Byte) : (z.send cls code params).swaps = z.swaps := by
  obtain ⟨q, r, h⟩ := z.send_shape cls code params; rw [h]
@[simp] theorem Zone.send_voices (z : Zone) (cls code : Nat) (params : List Byte) : (z.send cls code params).voices = z.voices := by
  obtain ⟨q, r, h⟩ := z.send_shape cls code params; rw [h]
@[simp] theorem Zone.send_vox (z : Zone) (cls code : Nat) (params : List Byte) : (z.send cls code params).vox = z.vox := by
  obtain ⟨q, r, h⟩ := z.send_shape cls code params; rw [h]
@[simp] theorem Zone.send_winH (z : Zone) (cls code : Nat) (params : List Byte) : (z.send cls code params).winH = z.winH := by
  obtain ⟨q, r, h⟩ := z.send_shape cls code params; rw [h]
@[simp] theorem Zone.send_winP (z : Zone) (cls code : Nat) (params : List Byte) : (z.send cls code params).winP = z.winP := by
  obtain ⟨q, r, h⟩ := z.send_shape cls code params; rw [h]
@[simp] theorem Zone.send_cache (z : Zone) (cls code : Nat) (params : List Byte) : (z.send cls code params).cache = z.cache := by
  obtain ⟨q, r, h⟩ := z.send_shape cls code params; rw [h]
@[simp] theorem Zone.send_route (z : Zone) (cls code : Nat) (params : List Byte) : (z.send cls code params).route = z.route := by
  obtain ⟨q, r, h⟩ := z.send_shape cls code params; rw [h]
@[simp] theorem Zone.send_lim (z : Zone) (cls code : Nat) (params : List Byte) : (z.send cls code params).lim = z.lim := by
  obtain ⟨q, r, h⟩ := z.send_shape cls code params; rw [h]
@[simp] theorem Zone.send_dsp (z : Zone) (cls code : Nat) (params : List Byte) : (z.send cls code params).dsp = z.dsp := by
  obtain ⟨q, r, h⟩ := z.send_shape cls code params; rw [h]
@[simp] theorem Zone.send_dec (z : Zone) (cls code : Nat) (params : List Byte) : (z.send cls code params).dec = z.dec := by
  obtain ⟨q, r, h⟩ := z.send_shape cls code params; rw [h]
@[simp] theorem Zone.send_aec (z : Zone) (cls code : Nat) (params : List Byte) : (z.send cls code params).aec = z.aec := by
  obtain ⟨q, r, h⟩ := z.send_shape cls code params; rw [h]
@[simp] theorem Zone.send_gov (z : Zone) (cls code : Nat) (params : List Byte) : (z.send cls code params).gov = z.gov := by
  obtain ⟨q, r, h⟩ := z.send_shape cls code params; rw [h]
@[simp] theorem Zone.send_out (z : Zone) (cls code : Nat) (params : List Byte) : (z.send cls code params).out = z.out := by
  obtain ⟨q, r, h⟩ := z.send_shape cls code params; rw [h]
@[simp] theorem Zone.send_mem (z : Zone) (cls code : Nat) (params : List Byte) : (z.send cls code params).mem = z.mem := by
  obtain ⟨q, r, h⟩ := z.send_shape cls code params; rw [h]
@[simp] theorem Zone.send_draws (z : Zone) (cls code : Nat) (params : List Byte) : (z.send cls code params).draws = z.draws := by
  obtain ⟨q, r, h⟩ := z.send_shape cls code params; rw [h]

end Sys2Proof.Machine
end

