-- ==== Sys2Proof/Laws/Maps.lean ====
section
/-! SUPPORT. The sparse maps that hold registers and memories: a read after a write, and the canonical form, which every
write keeps. -/

namespace Sys2Proof.Machine

section maps

variable {α : Type} [DecidableEq α] (d : Nat → α)

/-- A lower bound below another one is a lower bound. -/
theorem smWf_mono : ∀ {m : List (Nat × α)} {lo hi : Nat}, lo ≤ hi → smWf d hi m = true → smWf d lo m = true
  | [], _, _, _, _ => rfl
  | (a, v) :: r, lo, hi, h, w => by
    simp only [smWf, Bool.and_eq_true, decide_eq_true_eq] at w ⊢
    exact ⟨⟨by omega, w.1.2⟩, w.2⟩

/-- A key below every listed key reads as an unlisted one. -/
theorem smGet_low : ∀ {m : List (Nat × α)} {lo k : Nat}, smWf d lo m = true → k < lo → smGet d m k = d k
  | [], _, _, _, _ => rfl
  | (a, v) :: r, lo, k, w, h => by
    simp only [smWf, Bool.and_eq_true, decide_eq_true_eq] at w
    have hne : a ≠ k := by omega
    simp only [smGet, hne, if_false]
    exact smGet_low w.2 (by omega)

/-- Writing a key keeps the canonical form. -/
theorem smSet_wf : ∀ {m : List (Nat × α)} {lo k : Nat} {v : α}, smWf d lo m = true → lo ≤ k → smWf d lo (smSet d m k v) = true
  | [], lo, k, v, _, h => by
    unfold smSet
    split
    · rfl
    · simp [smWf, *]
  | (a, w0) :: r, lo, k, v, w, h => by
    simp only [smWf, Bool.and_eq_true, decide_eq_true_eq] at w
    unfold smSet
    split
    · rename_i hak
      subst hak
      split
      · exact smWf_mono d (by omega) w.2
      · simp [smWf, w.2, *]
    · split
      · split
        · simp [smWf, w.1.1, w.1.2, w.2]
        · have : k + 1 ≤ a := by omega
          simp [smWf, w.1.2, w.2, *]
      · have := smSet_wf (v := v) w.2 (show a + 1 ≤ k by omega)
        simp [smWf, w.1.1, w.1.2, this]

/-- A key that is written reads as what was written. -/
theorem smGet_smSet_same : ∀ {m : List (Nat × α)} {lo k : Nat} {v : α}, smWf d lo m = true →
    smGet d (smSet d m k v) k = v
  | [], _, k, v, _ => by
    unfold smSet
    split
    · simp [smGet, *]
    · simp [smGet]
  | (a, w0) :: r, lo, k, v, w => by
    simp only [smWf, Bool.and_eq_true, decide_eq_true_eq] at w
    unfold smSet
    split
    · rename_i hak
      split
      · rename_i hv
        subst hak
        rw [hv]
        exact smGet_low d w.2 (Nat.lt_succ_self _)
      · simp [smGet]
    · split
      · split
        · rename_i hlt hv
          have hne : a ≠ k := by omega
          simp only [smGet, hne, if_false]
          rw [hv]
          exact smGet_low d w.2 (by omega)
        · simp [smGet]
      · rename_i hne _
        simp only [smGet, hne, if_false]
        exact smGet_smSet_same w.2

/-- A key that is not written reads as before. -/
theorem smGet_smSet_ne : ∀ {m : List (Nat × α)} {lo k j : Nat} {v : α}, smWf d lo m = true → j ≠ k →
    smGet d (smSet d m k v) j = smGet d m j
  | [], _, k, j, v, _, h => by
    unfold smSet
    split
    · rfl
    · simp [smGet, h.symm]
  | (a, w0) :: r, lo, k, j, v, w, h => by
    simp only [smWf, Bool.and_eq_true, decide_eq_true_eq] at w
    unfold smSet
    split
    · rename_i hak
      subst hak
      split
      · have : a ≠ j := fun e => h e.symm
        simp [smGet, this]
      · have : a ≠ j := fun e => h e.symm
        simp [smGet, this]
    · split
      · split
        · rfl
        · have : k ≠ j := fun e => h e.symm
          simp [smGet, this]
      · simp only [smGet]
        split
        · rfl
        · exact smGet_smSet_ne w.2 h

end maps

/-- Writing a byte keeps the canonical form. -/
theorem bySet_wf {m : Bytes} {k : Nat} {v : Byte} (h : byWf m = true) : byWf (bySet m k v) = true :=
  smSet_wf _ h (Nat.zero_le k)

/-- Writing several bytes keeps the canonical form. -/
theorem byWrite_wf : ∀ (l : List Byte) {m : Bytes} {k : Nat}, byWf m = true → byWf (byWrite m k l) = true
  | [], _, _, h => h
  | _ :: r, _, _, h => byWrite_wf r (bySet_wf h)

/-- A byte written reads as written. -/
theorem byGet_bySet_same {m : Bytes} {k : Nat} {v : Byte} (h : byWf m = true) : byGet (bySet m k v) k = v :=
  smGet_smSet_same _ h

/-- Another byte reads as before. -/
theorem byGet_bySet_ne {m : Bytes} {k j : Nat} {v : Byte} (h : byWf m = true) (hj : j ≠ k) :
    byGet (bySet m k v) j = byGet m j :=
  smGet_smSet_ne _ h hj

/-- A byte below or above a write reads as before. -/
theorem byGet_byWrite_out : ∀ (l : List Byte) {m : Bytes} {k j : Nat}, byWf m = true → (j < k ∨ k + l.length ≤ j) →
    byGet (byWrite m k l) j = byGet m j
  | [], _, _, _, _, _ => rfl
  | b :: r, m, k, j, h, hj => by
    simp only [List.length_cons] at hj
    have h1 := byGet_byWrite_out r (m := bySet m k b) (k := k + 1) (j := j) (bySet_wf h) (by omega)
    exact h1.trans (byGet_bySet_ne h (by omega))

/-- Writing a word keeps the canonical form. -/
theorem m72Set_wf {m : Mem72} {k : Nat} {v : W72} (h : m72Wf m = true) : m72Wf (m72Set m k v) = true :=
  smSet_wf _ h (Nat.zero_le k)

/-- A word written reads as written. -/
theorem m72Get_m72Set_same {m : Mem72} {k : Nat} {v : W72} (h : m72Wf m = true) : m72Get (m72Set m k v) k = v :=
  smGet_smSet_same _ h

/-- Another word reads as before. -/
theorem m72Get_m72Set_ne {m : Mem72} {k j : Nat} {v : W72} (h : m72Wf m = true) (hj : j ≠ k) :
    m72Get (m72Set m k v) j = m72Get m j :=
  smGet_smSet_ne _ h hj

/-! Registers. -/

/-- A zone register written reads as written. -/
theorem Zone.reg_setReg_same {z : Zone} {k : Nat} {v : Word} (h : smWf zoneRst 0 z.regs = true) : (z.setReg k v).reg k = v :=
  smGet_smSet_same _ h

/-- Another zone register reads as before. -/
theorem Zone.reg_setReg_ne {z : Zone} {k j : Nat} {v : Word} (h : smWf zoneRst 0 z.regs = true) (hj : j ≠ k) :
    (z.setReg k v).reg j = z.reg j :=
  smGet_smSet_ne _ h hj

/-- Writing a zone register keeps the canonical form. -/
theorem Zone.setReg_wf {z : Zone} {k : Nat} {v : Word} (h : smWf zoneRst 0 z.regs = true) :
    smWf zoneRst 0 (z.setReg k v).regs = true :=
  smSet_wf _ h (Nat.zero_le k)

/-- A host register written reads as written. -/
theorem HostC.reg_setReg_same {x : HostC} {k : Nat} {v : Word} (h : smWf hostRst 0 x.regs = true) : (x.setReg k v).reg k = v :=
  smGet_smSet_same _ h

/-- Another host register reads as before. -/
theorem HostC.reg_setReg_ne {x : HostC} {k j : Nat} {v : Word} (h : smWf hostRst 0 x.regs = true) (hj : j ≠ k) :
    (x.setReg k v).reg j = x.reg j :=
  smGet_smSet_ne _ h hj

/-- Writing a host register keeps the canonical form. -/
theorem HostC.setReg_wf {x : HostC} {k : Nat} {v : Word} (h : smWf hostRst 0 x.regs = true) :
    smWf hostRst 0 (x.setReg k v).regs = true :=
  smSet_wf _ h (Nat.zero_le k)

/-! The other ways in which a memory is rewritten: entries taken out, entries rewritten in place. -/

section others

variable {α : Type} [DecidableEq α] (d : Nat → α)

/-- Taking entries out keeps the canonical form. -/
theorem smWf_filter (f : Nat × α → Bool) : ∀ {m : List (Nat × α)} {lo : Nat}, smWf d lo m = true → smWf d lo (m.filter f) = true
  | [], _, _ => rfl
  | (a, v) :: r, lo, w => by
    simp only [smWf, Bool.and_eq_true, decide_eq_true_eq] at w
    simp only [List.filter_cons]
    split
    · simp [smWf, w.1.1, w.1.2, smWf_filter f w.2]
    · exact smWf_mono d (by omega) (smWf_filter f w.2)

end others

/-- Rewriting every stored register keeps the canonical form. -/
theorem mapRegs_wf (f : Nat → Word → Word) : ∀ {m : RegMap} {lo : Nat}, smWf zoneRst lo m = true →
    smWf zoneRst lo (mapRegs f m) = true
  | [], _, _ => rfl
  | (a, v) :: r, lo, w => by
    simp only [smWf, Bool.and_eq_true, decide_eq_true_eq] at w
    have ih := mapRegs_wf f w.2
    unfold mapRegs at ih ⊢
    simp only [List.map_cons, List.filter_cons]
    split
    · rename_i hv
      simp only [bne_iff_ne, ne_eq] at hv
      simp [smWf, w.1.1, hv, ih]
    · exact smWf_mono _ (by omega) ih

end Sys2Proof.Machine
end

