-- ==== Sys2Proof/Laws/Device.lean ====
section
/-! SUPPORT. What a step, an event in a zone and a register access can do to the device: said once, for every command. -/

namespace Sys2Proof.Machine

/-! Steps. -/

/-- With a command at the front of the queue a step is that command's effect. -/
theorem step_cons (s : State) (c : Instr) (r : List Instr) :
    step { s with pending := c :: r } = exec c { s with pending := r } := rfl

/-- With an empty queue a step changes nothing. -/
theorem step_nil (s : State) (h : s.pending = []) : step s = .next s := by
  unfold step; rw [h]

/-! Events in a zone. -/

/-- A zone in which nothing is left to settle stays as it is (R252, R253, R308). -/
theorem Zone.settle_quiet {z old : Zone} {r : Option BaseRec} (h : Settled old z) : z.settle old r = z := by
  obtain ⟨h1, h2, h3⟩ := h
  have e : z.leaveInit old r = z := by
    unfold Zone.leaveInit
    rw [if_pos h3]
  unfold Zone.settle Zone.hostqSettle Zone.ampCheck
  rw [e]
  obtain ⟨zid, zctl, zpwr, zregs, ztime, zpll, zpos, ztmr, zsched, zsw, zms, zv, zvox, zh, zp, zc, zr, zl, zd, zdec, zaec,
    zgov, zout, zmem, zdraws⟩ := z
  obtain ⟨a1, a2, a3, a4, a5, a6, a7, q, a9⟩ := zvox
  subst h2
  simp only at h1
  simp [h1]

/-- Without an amplifier fault its check does nothing (R252). -/
theorem Zone.ampCheck_quiet {z : Zone} (h : z.gov.ampFlt = false) : z.ampCheck = z := by
  unfold Zone.ampCheck
  simp [h]

/-- The host complex's power state is not what it takes from a zone. -/
theorem HostC.faultLog_pwr (h : HostC) (r : Rec) : (h.faultLog r).pwr = h.pwr := by
  unfold HostC.faultLog
  dsimp only
  split <;> rfl

theorem HostC.takeFaults_pwr (h : HostC) (o n : Zone) : (h.takeFaults o n).pwr = h.pwr := by
  unfold HostC.takeFaults
  generalize (List.filter _ _) = l
  induction l generalizing h with
  | nil => rfl
  | cons r t ih => rw [List.foldl_cons, ih, HostC.faultLog_pwr]

theorem HostC.takeBase_pwr (h : HostC) (i : ZoneId) (z : Zone) : (h.takeBase i z).pwr = h.pwr := by
  unfold HostC.takeBase
  split <;> rfl

theorem HostC.takeMode_pwr (h : HostC) (i : ZoneId) (z : Zone) : (h.takeMode i z).pwr = h.pwr := by
  unfold HostC.takeMode
  split
  · rfl
  · simp only [apply_ite HostC.pwr, HostC.putBit_pwr, HostC.putFld_pwr, ite_self]

theorem HostC.takeP0_pwr (h : HostC) (z : Zone) : (h.takeP0 z).pwr = h.pwr := by
  unfold HostC.takeP0
  split <;> rfl

theorem HostC.takeLock_pwr (h : HostC) (i : ZoneId) (o n : Zone) : (h.takeLock i o n).pwr = h.pwr := by
  unfold HostC.takeLock
  split <;> rfl

theorem HostC.takeVoice_pwr (h : HostC) (i : ZoneId) (z : Zone) : (h.takeVoice i z).pwr = h.pwr := by
  unfold HostC.takeVoice
  split <;> rfl

/-- What the host complex takes from a zone, while it does not enter sleep: the zone's notices, and nothing of another zone. -/
theorem gather_zones {s : State} {i : ZoneId} {o n : Zone} (h : s.host.pwr.pstate ≠ 1) :
    (s.gather i o n).zones = s.zones.set i n.taken := by
  unfold State.gather
  dsimp only
  rw [HostC.takeVoice_pwr, HostC.takeLock_pwr, HostC.takeP0_pwr, HostC.takeMode_pwr, HostC.takeBase_pwr,
    HostC.takeFaults_pwr]
  simp [h]

/-- The queue is not touched. -/
theorem gather_pending {s : State} {i : ZoneId} {o n : Zone} : (s.gather i o n).pending = s.pending := by
  unfold State.gather
  dsimp only
  split <;> rfl

/-- The power state, while the device does not enter sleep. -/
theorem gather_pwr {s : State} {i : ZoneId} {o n : Zone} (h : s.host.pwr.pstate ≠ 1) :
    (s.gather i o n).host.pwr = s.host.pwr := by
  unfold State.gather
  dsimp only
  have e : ((((s.host.takeFaults o n).takeBase i n).takeMode i n).takeP0 n |>.takeLock i o n |>.takeVoice i n).pwr = s.host.pwr := by
    rw [HostC.takeVoice_pwr, HostC.takeLock_pwr, HostC.takeP0_pwr, HostC.takeMode_pwr, HostC.takeBase_pwr, HostC.takeFaults_pwr]
  split
  · rename_i hc
    rw [e] at hc
    exact absurd hc.1 h
  · exact e

/-- The zones of a device of which one was replaced. -/
theorem zones_of_set {s g : State} {i : ZoneId} {n : Zone} (h : g.zones = s.zones.set i n) :
    g.zones[i] = n ∧ ∀ j : ZoneId, j ≠ i → g.zones[j] = s.zones[j] := by
  obtain ⟨gz, gh, gp⟩ := g
  subst h
  refine ⟨by simp, fun j hj => ?_⟩
  have hne : i.val ≠ j.val := fun e => hj (Fin.ext e.symm)
  simp [hne]

/-- The zone in which something happens. -/
theorem onZone_self {s : State} {i : ZoneId} {f : Zone → HostC → Zone} (h : s.host.pwr.pstate ≠ 1) :
    (s.onZone i f).zones[i] = ((f s.zones[i] s.host).settle s.zones[i] s.host.base[i]).taken := by
  exact (zones_of_set (gather_zones h)).1

/-- The other zones. -/
theorem onZone_ne {s : State} {i j : ZoneId} {f : Zone → HostC → Zone} (h : s.host.pwr.pstate ≠ 1) (hj : j ≠ i) :
    (s.onZone i f).zones[j] = s.zones[j] := by
  exact (zones_of_set (gather_zones h)).2 j hj

/-- The queue. -/
theorem onZone_pending {s : State} {i : ZoneId} {f : Zone → HostC → Zone} : (s.onZone i f).pending = s.pending :=
  gather_pending

/-- The power state. -/
theorem onZone_pwr {s : State} {i : ZoneId} {f : Zone → HostC → Zone} (h : s.host.pwr.pstate ≠ 1) :
    (s.onZone i f).host.pwr = s.host.pwr := gather_pwr h

/-- No FAULT record is new where no record is. -/
theorem HostC.takeFaults_same (h : HostC) {o n : Zone} (hm : n.msgs.nseq = o.msgs.nseq) : h.takeFaults o n = h := by
  unfold HostC.takeFaults
  have e : (n.msgs.q.filter (fun (r : Rec) => r.cls == clsFault &&
      decide ((r.mseq - o.msgs.nseq).toNat < (n.msgs.nseq - o.msgs.nseq).toNat))) = [] := by
    rw [List.filter_eq_nil_iff]
    intro r _
    simp [hm]
  rw [e]
  rfl

/-- What the host complex takes from a zone that has nothing for it: nothing. -/
theorem gather_host {s : State} {i : ZoneId} {o n : Zone} (hp : s.host.pwr.pstate ≠ 1) (ht : Told n)
    (hm : n.msgs.nseq = o.msgs.nseq) (hl : n.pll.lock = o.pll.lock) : (s.gather i o n).host = s.host := by
  obtain ⟨h1, h2, h3, h4⟩ := ht
  have e : (((((s.host.takeFaults o n).takeBase i n).takeMode i n).takeP0 n).takeLock i o n).takeVoice i n = s.host := by
    rw [HostC.takeFaults_same _ hm]
    unfold HostC.takeBase HostC.takeMode HostC.takeP0 HostC.takeLock HostC.takeVoice
    rw [h1, h2, h3, h4, hl]
    cases o.pll.lock <;> simp
  unfold State.gather
  dsimp only
  rw [e]
  simp [hp]

/-- A zone that has nothing for the host complex is as it was after its notices have been taken. -/
theorem Zone.taken_told {z : Zone} (h : Told z) : z.taken = z := by
  obtain ⟨h1, h2, h3, h4⟩ := h
  unfold Zone.taken
  rw [← h1, ← h2, ← h3, ← h4]

/-- Every zone's notices have been taken once a command's work in it is done. -/
theorem Zone.told_taken (z : Zone) : Told z.taken := ⟨rfl, rfl, rfl, rfl⟩

/-- Something happens in a zone and leaves nothing to settle. -/
theorem onZone_only {s : State} {i : ZoneId} {f : Zone → HostC → Zone} (h : s.host.pwr.pstate ≠ 1)
    (hf : Settled s.zones[i] (f s.zones[i] s.host)) :
    (s.onZone i f).zones[i] = (f s.zones[i] s.host).taken ∧ OnlyZone i s (s.onZone i f) := by
  refine ⟨?_, fun j hj => onZone_ne h hj, onZone_pending⟩
  rw [onZone_self h, Zone.settle_quiet hf]

/-- The same where the zone has nothing for the host complex. -/
theorem onZone_lone {s : State} {i : ZoneId} {f : Zone → HostC → Zone} {n : Zone} (h : s.host.pwr.pstate ≠ 1)
    (hn : f s.zones[i] s.host = n) (hf : Settled s.zones[i] n) (ht : Told n)
    (hm : n.msgs.nseq = s.zones[i].msgs.nseq) (hl : n.pll.lock = s.zones[i].pll.lock) :
    (s.onZone i f).zones[i] = n ∧ Lone i s (s.onZone i f) := by
  subst hn
  obtain ⟨h1, h2⟩ := onZone_only (s := s) (i := i) (f := f) h hf
  refine ⟨by rw [h1, Zone.taken_told ht], h2, ?_⟩
  unfold State.onZone
  rw [Zone.settle_quiet hf, SameHost, gather_host h ht hm hl]

/-! Commands. -/

/-- A completed command's effect says all that follows from it. -/
theorem Completes.imp {c : Instr} {s : State} {P Q : State → Prop} (h : Completes c s P) (hpq : ∀ t, P t → Q t) :
    Completes c s Q := by
  obtain ⟨t, h1, h2⟩ := h
  exact ⟨t, h1, hpq t h2⟩

/-- A command that is something happening in a zone, by what it does to the zone. -/
theorem event_only {s : State} {i : ZoneId} {f : Zone → HostC → Zone} {c : Instr} {n : Zone}
    (hc : exec c s = inZoneH s i f) (hq : Quiet s i) (hn : f s.zones[i] s.host = n) (hf : Settled s.zones[i] n) :
    Completes c s (fun t => t.zones[i] = n.taken ∧ OnlyZone i s t) := by
  subst hn
  exact ⟨_, hc, onZone_only hq.2.1 hf⟩

/-- The same where the zone has nothing for the host complex. -/
theorem event_lone {s : State} {i : ZoneId} {f : Zone → HostC → Zone} {c : Instr} {n : Zone}
    (hc : exec c s = inZoneH s i f) (hq : Quiet s i) (hn : f s.zones[i] s.host = n) (hf : Settled s.zones[i] n)
    (ht : Told n) (hm : n.msgs.nseq = s.zones[i].msgs.nseq) (hl : n.pll.lock = s.zones[i].pll.lock) :
    Completes c s (fun t => t.zones[i] = n ∧ Lone i s t) :=
  ⟨_, hc, onZone_lone hq.2.1 hn hf ht hm hl⟩

/-! Register accesses. -/

/-- A zone register's address lies in its zone's block (Table 18-1). -/
theorem placeOf_zoneAddr (i : ZoneId) {off : Nat} (h : off < 0x7400) : placeOf (zoneAddr i off) = .zone i off := by
  have hi := i.isLt
  unfold placeOf zoneAddr
  have h1 : ¬ (0x100000 + i.val * 0x10000 + off < 0x2C00) := by omega
  have h2 : 0x100000 ≤ 0x100000 + i.val * 0x10000 + off ∧ 0x100000 + i.val * 0x10000 + off < 0x180000 := by omega
  have h3 : (0x100000 + i.val * 0x10000 + off) % 0x10000 = off := by omega
  have h4 : (0x100000 + i.val * 0x10000 + off - 0x100000) / 0x10000 = i.val := by omega
  rw [if_neg h1, if_pos h2, h3, if_pos h, h4]
  congr 1
  exact Fin.ext (by simp [fin, Fin.ofNat])

/-- The state that a host write to a zone leaves: the zone's own answer, and the outcome of the access. -/
theorem zoneWrite_s (s : State) (p0 : Bool) (i : ZoneId) (off a : Nat) (v : Word) :
    ∃ b, (s.zoneWrite p0 i off a v).s =
      (s.onZone i (fun z x => (z.regWrite x .host p0 off v).2)).modHost (fun x => { x with bus := b }) := by
  have e : (s.onZoneR i (fun z x => z.regWrite x .host p0 off v)).2 =
      s.onZone i (fun z x => (z.regWrite x .host p0 off v).2) := rfl
  unfold State.zoneWrite
  rw [← e]
  generalize s.onZoneR i (fun z x => z.regWrite x .host p0 off v) = r
  obtain ⟨r, t⟩ := r
  by_cases h : r = 0
  · exact ⟨_, by simp only [h, if_true]; rfl⟩
  · exact ⟨t.host.bus, by simp only [h, if_false]; rfl⟩

/-- What a write by host software gives in a zone: the zone's own answer to it. -/
theorem busWrite_zone (s : State) (i : ZoneId) {off : Nat} (v : Word) (h : off < 0x7400) :
    ∃ b, s.busWrite (zoneAddr i off) v =
      (s.onZone i (fun z x => (z.regWrite x .host s.host.p0ctl off v).2)).modHost (fun x => { x with bus := b }) := by
  obtain ⟨b, hb⟩ := zoneWrite_s s s.host.p0ctl i off (zoneAddr i off) v
  unfold State.busWrite State.regWrite
  rw [placeOf_zoneAddr i h]
  dsimp only
  rw [hb]
  generalize s.onZone i (fun z x => (z.regWrite x .host s.host.p0ctl off v).2) = t
  exact ⟨_, rfl⟩

/-- A write by host software. -/
theorem hostWrite_zone (s : State) (i : ZoneId) {off : Nat} (v : Word) (h : off < 0x7400) :
    ∃ b : BusRes, s.partyWrite .host i off v =
      (s.onZone i (fun z x => (z.regWrite x .host s.host.p0ctl off v).2)).modHost (fun x => { x with bus := b }) :=
  busWrite_zone s i v h

/-- A write by the zone program, which no host write can meet: the bridge's six cycles with it (R210). -/
theorem progWrite_zone (s : State) (i : ZoneId) {off : Nat} (v : Word) (h : off < 0x7400)
    (hm : s.zones[i].mayMeet s.host off = false) :
    s.partyWrite .prog i off v = s.onZone i (fun z x => if z = s.zones[i] ∧ x = s.host then
      ((s.zones[i].regWrite s.host .prog false off v).2).dspHold 6 else (z.bridgeWrite x off v).dspHold 6) := by
  have hn : ¬ off ≥ 0x7400 := by omega
  unfold State.partyWrite State.onZone
  dsimp only
  rw [if_pos ⟨rfl, rfl⟩]
  have e : s.zones[i].bridgeWrite s.host off v = (s.zones[i].regWrite s.host .prog false off v).2 := by
    unfold Zone.bridgeWrite
    rw [if_neg hn, hm]
    rfl
  rw [e]

/-- A write that a zone takes reaches the register. -/
theorem Zone.regWrite_granted {z : Zone} {h : HostC} {p : Party} {p0 : Bool} {off : Nat} {v : Word} {r : RegSpec}
    (hg : Grants z p off) (ho : 0x20 ≤ off % 0x400) (hr : zoneSpec off = some r) :
    z.regWrite h p p0 off v = z.blockWrite h p p0 r v := by
  obtain ⟨h1, h2, h3⟩ := hg
  unfold Zone.regWrite
  have ho' : ¬ off % 0x400 < 0x20 := by omega
  cases p with
  | host =>
    simp only [if_true] at h3
    simp [h1, h2, h3, ho', hr]
  | prog =>
    have h3' : z.bridgeDenies off = false := by simpa using h3
    simp [h1, h2, h3', ho', hr]

/-- The control pages ZCTL and FENCE take accesses in every state and have no lock (R307, R372). -/
theorem Zone.regWrite_ctl {z : Zone} {h : HostC} {p0 : Bool} {off : Nat} {v : Word} {r : RegSpec}
    (hp : pageOf off < 0x800) (ho : 0x20 ≤ off % 0x400) (hr : zoneSpec off = some r) :
    z.regWrite h .host p0 off v = z.blockWrite h .host p0 r v := by
  unfold Zone.regWrite Zone.lockH
  have h1 : ¬ pageOf off ≥ 0x800 := by omega
  have h2 : ¬ off % 0x400 < 0x20 := by omega
  simp [h1, h2, hr]

/-- A write by host software, by what the zone's answer to it is. -/
theorem write_only {s : State} {i : ZoneId} {off : Nat} {v : Word} {c : Instr} {n : Zone}
    (hc : exec c s = .next (s.partyWrite .host i off v)) (hq : Quiet s i) (hoff : off < 0x7400)
    (hn : ∀ p0, (s.zones[i].regWrite s.host .host p0 off v).2 = n) (hf : Settled s.zones[i] n) :
    Completes c s (fun t => t.zones[i] = n.taken ∧ OnlyZone i s t) := by
  obtain ⟨b, hb⟩ := hostWrite_zone s i v hoff
  refine ⟨_, hc, ?_⟩
  rw [hb]
  have h := onZone_only (s := s) (i := i) (f := fun z x => (z.regWrite x .host s.host.p0ctl off v).2) hq.2.1
    (by rw [hn]; exact hf)
  rw [hn] at h
  exact h

/-- The same where the zone has nothing for the host complex. -/
theorem write_lone {s : State} {i : ZoneId} {off : Nat} {v : Word} {c : Instr} {n : Zone}
    (hc : exec c s = .next (s.partyWrite .host i off v)) (hq : Quiet s i) (hoff : off < 0x7400)
    (hn : ∀ p0, (s.zones[i].regWrite s.host .host p0 off v).2 = n) (hf : Settled s.zones[i] n)
    (ht : Told n) (hm : n.msgs.nseq = s.zones[i].msgs.nseq) (hl : n.pll.lock = s.zones[i].pll.lock) :
    Completes c s (fun t => t.zones[i] = n ∧ Lone i s t) := by
  obtain ⟨b, hb⟩ := hostWrite_zone s i v hoff
  refine ⟨_, hc, ?_⟩
  rw [hb]
  have h := onZone_lone (s := s) (i := i) (f := fun z x => (z.regWrite x .host s.host.p0ctl off v).2) hq.2.1 (hn _) hf ht hm hl
  obtain ⟨h1, h2, h3⟩ := h
  refine ⟨h1, h2, ?_⟩
  exact congrArg (fun (x : HostC) => { x with bus := s.host.bus }) h3

/-! Canonical form. -/

/-- In a device in canonical form every zone is. -/
theorem State.wf_zone {s : State} (h : s.wf = true) (i : ZoneId) :
    s.zones[i].regsWf = true ∧ s.zones[i].memWf = true := by
  simp only [State.wf, Bool.and_eq_true, List.all_eq_true, Vector.mem_toList_iff] at h
  exact h.1.1 _ (Vector.getElem_mem i.isLt)

/-- In a device in canonical form the host complex is. -/
theorem State.wf_host {s : State} (h : s.wf = true) : s.host.regsWf = true ∧ s.host.memWf = true := by
  simp only [State.wf, Bool.and_eq_true] at h
  exact ⟨h.1.2, h.2⟩

end Sys2Proof.Machine
end

