-- ==== Sys2Proof/Laws/Regs.lean ====
section
/-! SUPPORT. Registers of a zone after each named operation: what a write changes, what creating a record changes. -/

namespace Sys2Proof.Machine

/-! Stored words. -/

/-- A word read after a write. -/
theorem smGet_smSet {m : RegMap} (h : smWf zoneRst 0 m = true) (k j : Nat) (v : Word) :
    smGet zoneRst (smSet zoneRst m k v) j = if j = k then v else smGet zoneRst m j := by
  split
  · rename_i e
    subst e
    exact smGet_smSet_same _ h
  · rename_i e
    exact smGet_smSet_ne _ h e

/-- A write keeps the form of a zone's registers. -/
theorem regs_smSet_wf {m : RegMap} (h : smWf zoneRst 0 m = true) (k : Nat) (v : Word) :
    smWf zoneRst 0 (smSet zoneRst m k v) = true := smSet_wf _ h (Nat.zero_le k)

/-- The register read after a write. -/
theorem Zone.reg_setReg {z : Zone} (h : z.regsWf = true) (k j : Nat) (v : Word) :
    (z.setReg k v).reg j = if j = k then v else z.reg j := smGet_smSet h k j v

@[simp] theorem Zone.setReg_regsWf {z : Zone} (h : z.regsWf = true) (k : Nat) (v : Word) : (z.setReg k v).regsWf = true :=
  regs_smSet_wf h k v
@[simp] theorem Zone.putFld_regsWf {z : Zone} (h : z.regsWf = true) (k hi lo v : Nat) : (z.putFld k hi lo v).regsWf = true :=
  regs_smSet_wf h k _
@[simp] theorem Zone.putBit_regsWf {z : Zone} (h : z.regsWf = true) (k n : Nat) (b : Bool) : (z.putBit k n b).regsWf = true :=
  regs_smSet_wf h k _
@[simp] theorem Zone.count_regsWf {z : Zone} (h : z.regsWf = true) (k hi lo n : Nat) : (z.count k hi lo n).regsWf = true :=
  regs_smSet_wf h k _
@[simp] theorem Zone.setFlt_regsWf {z : Zone} (h : z.regsWf = true) (page n : Nat) : (z.setFlt page n).regsWf = true :=
  regs_smSet_wf h _ _
theorem Zone.reg_putFld {z : Zone} (h : z.regsWf = true) (k hi lo v j : Nat) :
    (z.putFld k hi lo v).reg j = if j = k then setFld (z.reg k) hi lo v else z.reg j := smGet_smSet h k j _
theorem Zone.reg_putBit {z : Zone} (h : z.regsWf = true) (k n : Nat) (b : Bool) (j : Nat) :
    (z.putBit k n b).reg j = if j = k then setBit (z.reg k) n b else z.reg j := smGet_smSet h k j _
theorem Zone.reg_count {z : Zone} (h : z.regsWf = true) (k hi lo n j : Nat) :
    (z.count k hi lo n).reg j =
      if j = k then setFld (z.reg k) hi lo (satAdd (2 ^ (hi + 1 - lo) - 1) (fld (z.reg k) hi lo) n) else z.reg j :=
  smGet_smSet h k j _
theorem Zone.reg_setFlt {z : Zone} (h : z.regsWf = true) (page n j : Nat) :
    (z.setFlt page n).reg j = if j = page + 0x00C then setBit (z.reg (page + 0x00C)) n true else z.reg j :=
  smGet_smSet h _ j _

/-! Records. -/

/-- The registers after a record has been created: only the count of dropped records can differ. -/
theorem Zone.send_regs_cases (z : Zone) (cls code : Nat) (params : List Byte) :
    ∃ v : Word, (z.send cls code params).regs = z.regs ∨ (z.send cls code params).regs = smSet zoneRst z.regs Reg.MSG_DROPPED v := by
  unfold Zone.send
  dsimp only
  split
  · exact ⟨_, .inr rfl⟩
  · split
    · exact ⟨_, .inr rfl⟩
    · exact ⟨0, .inl rfl⟩

@[simp] theorem Zone.send_regsWf {z : Zone} (h : z.regsWf = true) (cls code : Nat) (params : List Byte) :
    (z.send cls code params).regsWf = true := by
  obtain ⟨v, e | e⟩ := z.send_regs_cases cls code params
  · unfold Zone.regsWf; rw [e]; exact h
  · unfold Zone.regsWf; rw [e]; exact regs_smSet_wf h _ _

theorem Zone.reg_send {z : Zone} (h : z.regsWf = true) (cls code : Nat) (params : List Byte) {j : Nat}
    (hj : j ≠ Reg.MSG_DROPPED) : (z.send cls code params).reg j = z.reg j := by
  obtain ⟨v, e | e⟩ := z.send_regs_cases cls code params
  · unfold Zone.reg; rw [e]
  · unfold Zone.reg; rw [e, smGet_smSet h, if_neg hj]

/-- What creating a record does, said with its registers. -/
theorem Zone.send_full {z : Zone} (h : z.regsWf = true) (cls code : Nat) (params : List Byte) :
    ∃ q r, z.send cls code params = { z with msgs := q, regs := r } ∧ smWf zoneRst 0 r = true ∧
      (∀ k, k ≠ Reg.MSG_DROPPED → smGet zoneRst r k = z.reg k) := by
  obtain ⟨q, r, e⟩ := z.send_shape cls code params
  refine ⟨q, r, e, ?_, fun k hk => ?_⟩
  · have := Zone.send_regsWf h cls code params
    rw [e] at this; exact this
  · have := Zone.reg_send h cls code params hk
    rw [e] at this; exact this

end Sys2Proof.Machine
end

