-- ==== Sys2Proof/Laws/States.lean ====
section
/-! SUPPORT. What a change of a zone's state can do: entering a state, entering FENCED, starting anew. -/

namespace Sys2Proof.Machine

/-- The registers that a change of state can write beside its own: counts and flags of messages and verdicts, the HOLD
timer. -/
abbrev stateRegs : List Nat := [Reg.MSG_DROPPED, Reg.LINE_COUNT, linePage + 0x00C, Reg.GOV_HSTAT]

/-- A register map that differs from a zone's registers in those listed only. -/
def RegMapBut (l : List Nat) (z : Zone) (r : RegMap) : Prop :=
  smWf zoneRst 0 r = true ∧ ∀ k, k ∉ l → smGet zoneRst r k = z.reg k

theorem RegMapBut.refl {l : List Nat} {z : Zone} (h : z.regsWf = true) : RegMapBut l z z.regs := ⟨h, fun _ _ => rfl⟩

theorem RegMapBut.set {l : List Nat} {z : Zone} {r : RegMap} (h : RegMapBut l z r) {k : Nat} (hk : k ∈ l) (v : Word) :
    RegMapBut l z (smSet zoneRst r k v) := by
  refine ⟨regs_smSet_wf h.1 k v, fun j hj => ?_⟩
  have hne : j ≠ k := fun e => hj (by rw [e]; exact hk)
  rw [smGet_smSet h.1, if_neg hne, h.2 j hj]

theorem RegMapBut.trans {l : List Nat} {z z' : Zone} {r : RegMap} (h : RegMapBut l z z'.regs) (h' : RegMapBut l z' r) :
    RegMapBut l z r := ⟨h'.1, fun k hk => (h'.2 k hk).trans (h.2 k hk)⟩

theorem RegMapBut.mono {l l' : List Nat} {z : Zone} {r : RegMap} (h : RegMapBut l z r) (hl : l ⊆ l') : RegMapBut l' z r :=
  ⟨h.1, fun k hk => h.2 k (fun e => hk (hl e))⟩

/-- What creating a record does to the registers. -/
theorem Zone.send_but {z : Zone} {l : List Nat} (h : z.regsWf = true) (hl : Reg.MSG_DROPPED ∈ l) (cls code : Nat)
    (params : List Byte) : ∃ q r, z.send cls code params = { z with msgs := q, regs := r } ∧ RegMapBut l z r := by
  obtain ⟨q, r, e, w, g⟩ := Zone.send_full h cls code params
  exact ⟨q, r, e, w, fun k hk => g k (fun e => hk (e ▸ hl))⟩

/-- A zone that changes its state, and what may change with it: messages, registers of stateRegs, output, governor,
decimators, limiter, the hold of its pins. -/
def StateMove (s : ZSt) (z z' : Zone) : Prop :=
  ∃ q r o g d ph l, z' = { z with ctl := { z.ctl with st := s }, msgs := q, regs := r, out := o, gov := g, dec := d
                                  lim := l, pwr := { z.pwr with pinHold := ph } } ∧
    RegMapBut stateRegs z r ∧ g.ampFlt = z.gov.ampFlt ∧ g.baseReq = z.gov.baseReq

theorem StateMove.trans {s s' : ZSt} {a b c : Zone} (h : StateMove s a b) (h' : StateMove s' b c) : StateMove s' a c := by
  obtain ⟨q, r, o, g, d, ph, l, rfl, w, e1, e2⟩ := h
  obtain ⟨q', r', o', g', d', ph', l', rfl, w', e1', e2'⟩ := h'
  exact ⟨q', r', o', g', d', ph', l', rfl, RegMapBut.trans w w', e1'.trans e1, e2'.trans e2⟩

theorem StateMove.out {z : Zone} (h : z.regsWf = true) (o : ZOut) (ph : Bool) :
    StateMove z.ctl.st z { z with out := o, pwr := { z.pwr with pinHold := ph } } :=
  ⟨z.msgs, z.regs, o, z.gov, z.dec, ph, z.lim, rfl, .refl h, rfl, rfl⟩

theorem StateMove.gov {z : Zone} (h : z.regsWf = true) {g : ZGov} (e1 : g.ampFlt = z.gov.ampFlt)
    (e2 : g.baseReq = z.gov.baseReq) : StateMove z.ctl.st z { z with gov := g } :=
  ⟨z.msgs, z.regs, z.out, g, z.dec, z.pwr.pinHold, z.lim, rfl, .refl h, e1, e2⟩

theorem StateMove.regs {z : Zone} (h : z.regsWf = true) {k : Nat} (hk : k ∈ stateRegs) (v : Word) :
    StateMove z.ctl.st z (z.setReg k v) :=
  ⟨z.msgs, _, z.out, z.gov, z.dec, z.pwr.pinHold, z.lim, rfl, (RegMapBut.refl h).set hk v, rfl, rfl⟩

theorem StateMove.modGov {z : Zone} (h : z.regsWf = true) {f : ZGov → ZGov} (e1 : (f z.gov).ampFlt = z.gov.ampFlt)
    (e2 : (f z.gov).baseReq = z.gov.baseReq) : StateMove z.ctl.st z (z.modGov f) := StateMove.gov h e1 e2

theorem StateMove.putBit {z : Zone} (h : z.regsWf = true) {k : Nat} (hk : k ∈ stateRegs) (n : Nat) (b : Bool) :
    StateMove z.ctl.st z (z.putBit k n b) := StateMove.regs h hk _

theorem StateMove.count {z : Zone} (h : z.regsWf = true) {k : Nat} (hk : k ∈ stateRegs) (hi lo n : Nat) :
    StateMove z.ctl.st z (z.count k hi lo n) := StateMove.regs h hk _

theorem StateMove.setFlt {z : Zone} (h : z.regsWf = true) (n : Nat) : StateMove z.ctl.st z (z.setFlt linePage n) :=
  StateMove.regs h (by simp) _

theorem StateMove.refl {z : Zone} (h : z.regsWf = true) : StateMove z.ctl.st z z :=
  ⟨z.msgs, z.regs, z.out, z.gov, z.dec, z.pwr.pinHold, z.lim, rfl, .refl h, rfl, rfl⟩

theorem StateMove.dec {z : Zone} (h : z.regsWf = true) (d : Vector ZDec 4) : StateMove z.ctl.st z { z with dec := d } :=
  ⟨z.msgs, z.regs, z.out, z.gov, d, z.pwr.pinHold, z.lim, rfl, .refl h, rfl, rfl⟩

theorem StateMove.send {z : Zone} (h : z.regsWf = true) (cls code : Nat) (params : List Byte) :
    StateMove z.ctl.st z (z.send cls code params) := by
  obtain ⟨q, r, e, w⟩ := Zone.send_but (l := stateRegs) h (by simp) cls code params
  exact ⟨q, r, z.out, z.gov, z.dec, z.pwr.pinHold, z.lim, e, w, rfl, rfl⟩

theorem StateMove.wf {s : ZSt} {a b : Zone} (h : StateMove s a b) : b.regsWf = true := by
  obtain ⟨q, r, o, g, d, ph, l, rfl, w, _, _⟩ := h
  exact w.1

theorem StateMove.st {s : ZSt} {a b : Zone} (h : StateMove s a b) : b.ctl.st = s := by
  obtain ⟨q, r, o, g, d, ph, l, rfl, w, _, _⟩ := h
  rfl

/-- The two steps of a change of state. -/
theorem StateMove.next {s : ZSt} {a b c : Zone} (h : StateMove s a b) (h' : b.regsWf = true → StateMove b.ctl.st b c) :
    StateMove s a c := by
  have := h.trans (h' h.wf)
  rw [h.st] at this
  exact this

theorem Zone.goto_move {z : Zone} (h : z.regsWf = true) (s : ZSt) : StateMove s z (z.goto s) := by
  unfold Zone.goto
  dsimp only
  have h1 : StateMove s z { z with ctl := { z.ctl with st := s } } :=
    ⟨z.msgs, z.regs, z.out, z.gov, z.dec, z.pwr.pinHold, z.lim, rfl, .refl h, rfl, rfl⟩
  exact h1.next (fun w => StateMove.send w _ _ _)

theorem Zone.verdictSet_move {z : Zone} (h : z.regsWf = true) (v : Nat) : StateMove z.ctl.st z (z.verdictSet v) := by
  unfold Zone.verdictSet
  split
  · exact .refl h
  · dsimp only
    refine (StateMove.modGov h (f := fun g => { g with verdict := v }) rfl rfl).next (fun w => ?_)
    refine (StateMove.count w (k := Reg.LINE_COUNT) (by simp) 15 8 1).next (fun w => ?_)
    exact (StateMove.setFlt w 0).next (fun w => StateMove.send w _ _ _)

/-- Only the output and the hold of its pins have changed. -/
def OutMove (z z' : Zone) : Prop := ∃ o ph, z' = { z with out := o, pwr := { z.pwr with pinHold := ph } }

theorem OutMove.trans {a b c : Zone} (h : OutMove a b) (h' : OutMove b c) : OutMove a c := by
  obtain ⟨o, ph, rfl⟩ := h
  obtain ⟨o', ph', rfl⟩ := h'
  exact ⟨o', ph', rfl⟩

theorem Zone.modOut_move (z : Zone) (f : ZOut → ZOut) : OutMove z (z.modOut f) := ⟨_, z.pwr.pinHold, rfl⟩

theorem Zone.ampEval_move (z : Zone) : OutMove z z.ampEval := ⟨_, z.pwr.pinHold, rfl⟩

theorem Zone.parkCodes_move (z : Zone) : OutMove z z.parkCodes := by
  unfold Zone.parkCodes
  split
  · exact ⟨z.out, z.pwr.pinHold, rfl⟩
  · exact z.modOut_move _

theorem Zone.parkCodes_mu (z : Zone) : z.parkCodes.out.mu = z.out.mu := by
  unfold Zone.parkCodes
  split <;> rfl

theorem Zone.outState_out (z : Zone) (old : ZSt) : OutMove z (z.outState old) := by
  unfold Zone.outState
  refine (z.modOut_move (fun o => { o with ampKeep := o.ampen })).trans ?_
  generalize z.modOut (fun o => { o with ampKeep := o.ampen }) = y
  refine OutMove.trans ?_ (((Zone.modOut_move _ _).trans (Zone.ampEval_move _)).trans (Zone.parkCodes_move _))
  dsimp only
  unfold Zone.testRestart Zone.pilotAgain
  split
  · exact ⟨_, true, rfl⟩
  · exact (Zone.modOut_move _ _).trans (Zone.modOut_move _ _)
  · exact Zone.modOut_move _ _
  · exact (Zone.modOut_move _ _).trans (Zone.modOut_move _ _)
  · exact ((Zone.modOut_move _ _).trans (Zone.modOut_move _ _)).trans (Zone.modOut_move _ _)
  · split
    · exact ⟨y.out, y.pwr.pinHold, rfl⟩
    · exact Zone.modOut_move _ _

theorem Zone.outState_move {z : Zone} (h : z.regsWf = true) (old : ZSt) : StateMove z.ctl.st z (z.outState old) := by
  obtain ⟨o, ph, e⟩ := z.outState_out old
  rw [e]
  exact StateMove.out h o ph

theorem StateMove.initEnd {z : Zone} (h : z.regsWf = true) : StateMove z.ctl.st z z.initEnd :=
  ⟨z.msgs, z.regs, z.out, _, z.dec, z.pwr.pinHold, _, rfl, .refl h, rfl, rfl⟩

theorem Zone.govState_move {z : Zone} (h : z.regsWf = true) (old : ZSt) : StateMove z.ctl.st z (z.govState old) := by
  unfold Zone.govState
  dsimp only
  have h0 : StateMove z.ctl.st z (if old = .init ∧ z.ctl.st ≠ .init then z.initEnd else z) := by
    split
    · exact StateMove.initEnd h
    · exact .refl h
  generalize (if old = .init ∧ z.ctl.st ≠ .init then z.initEnd else z) = z0 at h0 ⊢
  have h1 : StateMove z.ctl.st z (if old = .hold ∧ z0.ctl.st ≠ .hold then z0.modGov (fun g => { g with hRun := false }) else z0) := by
    refine h0.next (fun w => ?_)
    split
    · exact StateMove.gov w rfl rfl
    · exact .refl w
  generalize (if old = .hold ∧ z0.ctl.st ≠ .hold then z0.modGov (fun g => { g with hRun := false }) else z0) = z1 at h1 ⊢
  have h2 : StateMove z.ctl.st z (if (z1.ctl.st.chain && !old.chain) = true then z1.chainStart else z1) := by
    refine h1.next (fun w => ?_)
    split
    · exact StateMove.dec w _
    · exact .refl w
  generalize (if (z1.ctl.st.chain && !old.chain) = true then z1.chainStart else z1) = z2 at h2 ⊢
  refine h2.next (fun w => ?_)
  split
  · unfold Zone.govReset
    dsimp only
    refine (Zone.verdictSet_move w 0).next (fun w => ?_)
    refine StateMove.next (b := (z2.verdictSet 0).modGov (fun g => { g with
      ampLock := false, retries := 0, ampLow := none, ampRel := none, measured := false, iStart := none, cand := 0, runLen := 0
      hRun := false })) (StateMove.gov w rfl rfl) (fun w => ?_)
    exact StateMove.putBit w (by simp) 31 false
  · unfold Zone.holdStart
    exact (StateMove.regs w (k := Reg.GOV_HSTAT) (by simp) _).next (fun w => StateMove.modGov w rfl rfl)
  · refine (StateMove.modGov w (f := fun g => { g with iStart := none, cand := 0, runLen := 0 }) rfl rfl).next (fun w => ?_)
    exact Zone.verdictSet_move w 0
  · exact StateMove.gov w rfl rfl
  · exact StateMove.gov w rfl rfl
  · exact .refl w

/-- Entering a state: what can change. -/
theorem Zone.enter_move {z : Zone} (h : z.regsWf = true) (s : ZSt) : StateMove s z (z.enter s) := by
  unfold Zone.enter
  dsimp only
  refine (Zone.goto_move h s).next (fun w => ?_)
  refine (Zone.outState_move w _).next (fun w => Zone.govState_move w _)

/-! The same, field by field. -/

section enter

variable {z : Zone} (h : z.regsWf = true) (s : ZSt)

include h

@[simp] theorem Zone.enter_regsWf : (z.enter s).regsWf = true := (Zone.enter_move h s).wf
@[simp] theorem Zone.enter_ctl : (z.enter s).ctl = { z.ctl with st := s } := by
  obtain ⟨q, r, o, g, d, ph, l, e, _⟩ := Zone.enter_move h s; rw [e]
@[simp] theorem Zone.enter_ampFlt : (z.enter s).gov.ampFlt = z.gov.ampFlt := by
  obtain ⟨q, r, o, g, d, ph, l, e, _, k, _⟩ := Zone.enter_move h s; rw [e, ← k]
@[simp] theorem Zone.enter_baseReq : (z.enter s).gov.baseReq = z.gov.baseReq := by
  obtain ⟨q, r, o, g, d, ph, l, e, _, _, k⟩ := Zone.enter_move h s; rw [e, ← k]
theorem Zone.enter_reg {k : Nat} (hk : k ∉ stateRegs) : (z.enter s).reg k = z.reg k := by
  obtain ⟨q, r, o, g, d, ph, l, e, w, _⟩ := Zone.enter_move h s; rw [e]; exact w.2 k hk
@[simp] theorem Zone.enter_id : (z.enter s).id = z.id := by
  obtain ⟨q, r, o, g, d, ph, l, e, _⟩ := Zone.enter_move h s; rw [e]
@[simp] theorem Zone.enter_time : (z.enter s).time = z.time := by
  obtain ⟨q, r, o, g, d, ph, l, e, _⟩ := Zone.enter_move h s; rw [e]
@[simp] theorem Zone.enter_pll : (z.enter s).pll = z.pll := by
  obtain ⟨q, r, o, g, d, ph, l, e, _⟩ := Zone.enter_move h s; rw [e]
@[simp] theorem Zone.enter_pos : (z.enter s).pos = z.pos := by
  obtain ⟨q, r, o, g, d, ph, l, e, _⟩ := Zone.enter_move h s; rw [e]
@[simp] theorem Zone.enter_tmr : (z.enter s).tmr = z.tmr := by
  obtain ⟨q, r, o, g, d, ph, l, e, _⟩ := Zone.enter_move h s; rw [e]
@[simp] theorem Zone.enter_sched : (z.enter s).sched = z.sched := by
  obtain ⟨q, r, o, g, d, ph, l, e, _⟩ := Zone.enter_move h s; rw [e]
@[simp] theorem Zone.enter_swaps : (z.enter s).swaps = z.swaps := by
  obtain ⟨q, r, o, g, d, ph, l, e, _⟩ := Zone.enter_move h s; rw [e]
@[simp] theorem Zone.enter_voices : (z.enter s).voices = z.voices := by
  obtain ⟨q, r, o, g, d, ph, l, e, _⟩ := Zone.enter_move h s; rw [e]
@[simp] theorem Zone.enter_vox : (z.enter s).vox = z.vox := by
  obtain ⟨q, r, o, g, d, ph, l, e, _⟩ := Zone.enter_move h s; rw [e]
@[simp] theorem Zone.enter_winH : (z.enter s).winH = z.winH := by
  obtain ⟨q, r, o, g, d, ph, l, e, _⟩ := Zone.enter_move h s; rw [e]
@[simp] theorem Zone.enter_winP : (z.enter s).winP = z.winP := by
  obtain ⟨q, r, o, g, d, ph, l, e, _⟩ := Zone.enter_move h s; rw [e]
@[simp] theorem Zone.enter_cache : (z.enter s).cache = z.cache := by
  obtain ⟨q, r, o, g, d, ph, l, e, _⟩ := Zone.enter_move h s; rw [e]
@[simp] theorem Zone.enter_route : (z.enter s).route = z.route := by
  obtain ⟨q, r, o, g, d, ph, l, e, _⟩ := Zone.enter_move h s; rw [e]
@[simp] theorem Zone.enter_dsp : (z.enter s).dsp = z.dsp := by
  obtain ⟨q, r, o, g, d, ph, l, e, _⟩ := Zone.enter_move h s; rw [e]
@[simp] theorem Zone.enter_aec : (z.enter s).aec = z.aec := by
  obtain ⟨q, r, o, g, d, ph, l, e, _⟩ := Zone.enter_move h s; rw [e]
@[simp] theorem Zone.enter_mem : (z.enter s).mem = z.mem := by
  obtain ⟨q, r, o, g, d, ph, l, e, _⟩ := Zone.enter_move h s; rw [e]
@[simp] theorem Zone.enter_draws : (z.enter s).draws = z.draws := by
  obtain ⟨q, r, o, g, d, ph, l, e, _⟩ := Zone.enter_move h s; rw [e]

end enter

/-! Entering FENCED (R15, R16). -/

/-- The registers that a fence can write beside stateRegs: its own, the report of a cancelled mode change. -/
abbrev fenceRegs : List Nat :=
  [Reg.FENCE_CAUSE, Reg.FENCE_FIRST, Reg.FENCE_FIRST_FRAME, Reg.FENCE_COUNT, Reg.SCHED_MREP, Reg.SCHED_MREP_TGT] ++ stateRegs

/-- What cancelling a mode change and the swaps of a fence can change. -/
def SwapMove (z z' : Zone) : Prop :=
  ∃ q r m d w, z' = { z with msgs := q, regs := r, swaps := w, sched := { z.sched with mode := m, devRep := d } } ∧
    RegMapBut [Reg.MSG_DROPPED, Reg.SCHED_MREP, Reg.SCHED_MREP_TGT] z r

theorem SwapMove.refl {z : Zone} (h : z.regsWf = true) : SwapMove z z :=
  ⟨z.msgs, z.regs, z.sched.mode, z.sched.devRep, z.swaps, rfl, .refl h⟩

theorem SwapMove.trans {a b c : Zone} (h : SwapMove a b) (h' : SwapMove b c) : SwapMove a c := by
  obtain ⟨q, r, m, d, w, rfl, e⟩ := h
  obtain ⟨q', r', m', d', w', rfl, e'⟩ := h'
  exact ⟨q', r', m', d', w', rfl, RegMapBut.trans e e'⟩

theorem SwapMove.wf {a b : Zone} (h : SwapMove a b) : b.regsWf = true := by
  obtain ⟨q, r, m, d, w, rfl, e⟩ := h
  exact e.1

theorem SwapMove.send {z : Zone} (h : z.regsWf = true) (cls code : Nat) (params : List Byte) :
    SwapMove z (z.send cls code params) := by
  obtain ⟨q, r, e, w⟩ := Zone.send_but (l := [Reg.MSG_DROPPED, Reg.SCHED_MREP, Reg.SCHED_MREP_TGT]) h (by simp) cls code params
  exact ⟨q, r, z.sched.mode, z.sched.devRep, z.swaps, e, w⟩

theorem Zone.modeReport_move {z : Zone} (h : z.regsWf = true) (mode outcome : Nat) (t a : BitVec 32) (dev : Bool) :
    SwapMove z (z.modeReport mode outcome t a dev) := by
  unfold Zone.modeReport
  dsimp only
  generalize (if outcome = 1 then min 8191 (a - t).toNat else 0) = k
  have h1 : SwapMove z (z.setReg Reg.SCHED_MREP (BitVec.ofNat 32 (outcome * 2 ^ 29 + k * 2 ^ 16 + mode % 256))) :=
    ⟨z.msgs, _, z.sched.mode, z.sched.devRep, z.swaps, rfl, (RegMapBut.refl h).set (by simp) _⟩
  generalize (z.setReg Reg.SCHED_MREP (BitVec.ofNat 32 (outcome * 2 ^ 29 + k * 2 ^ 16 + mode % 256))) = z1 at h1 ⊢
  have h2 : SwapMove z1 (z1.setReg Reg.SCHED_MREP_TGT t) :=
    ⟨z1.msgs, _, z1.sched.mode, z1.sched.devRep, z1.swaps, rfl, (RegMapBut.refl h1.wf).set (by simp) _⟩
  generalize z1.setReg Reg.SCHED_MREP_TGT t = z2 at h2 ⊢
  refine (h1.trans h2).trans ?_
  split
  · have h3 : SwapMove z2 { z2 with sched := { z2.sched with devRep := some outcome } } :=
      ⟨z2.msgs, z2.regs, z2.sched.mode, some outcome, z2.swaps, rfl, .refl h2.wf⟩
    exact h3.trans (SwapMove.send h3.wf _ _ _)
  · exact SwapMove.send h2.wf _ _ _

theorem Zone.modeCancel_move {z : Zone} (h : z.regsWf = true) (outcome : Nat) : SwapMove z (z.modeCancel outcome) := by
  unfold Zone.modeCancel
  split
  · exact .refl h
  · rename_i m _
    have h1 : SwapMove z { z.dropOwned with sched := { z.dropOwned.sched with mode := none } } :=
      ⟨z.msgs, z.regs, none, z.sched.devRep, _, rfl, .refl h⟩
    exact h1.trans (Zone.modeReport_move h1.wf _ _ _ _ _)

theorem Zone.swapsFenced_move {z : Zone} (h : z.regsWf = true) : SwapMove z z.swapsFenced := by
  unfold Zone.swapsFenced
  have key : ∀ (l : List (Fin 6)) (y : Zone), SwapMove z y → SwapMove z (l.foldl (fun (z : Zone) p =>
      if z.swaps[p].pend then
        (z.modSwap p (fun s => { s with pend := false, owned := false, result := 3 })).send clsReport 0x0021 (natLe p.val 1 ++ [1])
      else z) y) := by
    intro l
    induction l with
    | nil => exact fun y hy => hy
    | cons p l ih =>
      intro y hy
      rw [List.foldl_cons]
      apply ih
      split
      · have h3 : SwapMove y (y.modSwap p (fun s => { s with pend := false, owned := false, result := 3 })) :=
          ⟨y.msgs, y.regs, y.sched.mode, y.sched.devRep, _, rfl, .refl hy.wf⟩
        exact (hy.trans h3).trans (SwapMove.send (hy.trans h3).wf _ _ _)
      · exact hy
  have h1 := key (List.finRange 6) z (.refl h)
  exact h1.trans (Zone.modeCancel_move h1.wf 2)

/-- What the fence's own registers hold. -/
def Marked (z : Zone) (causes : Nat) (r : RegMap) : Prop :=
  RegMapBut fenceRegs z r ∧ smGet zoneRst r Reg.FENCE_CAUSE = BitVec.ofNat 32 causes ∧
    smGet zoneRst r Reg.FENCE_FIRST = BitVec.ofNat 32 ((causeList causes).headD 0 + 1) ∧
    smGet zoneRst r Reg.FENCE_FIRST_FRAME = BitVec.extractLsb' 0 32 z.time.frame

/-- They hold it still after a write of other registers of the fence. -/
theorem Marked.keep {z y : Zone} {causes : Nat} {r : RegMap} {l : List Nat} (hy : Marked z causes y.regs)
    (hb : RegMapBut l y r) (hl : l ⊆ fenceRegs) (n1 : Reg.FENCE_CAUSE ∉ l) (n2 : Reg.FENCE_FIRST ∉ l)
    (n3 : Reg.FENCE_FIRST_FRAME ∉ l) : Marked z causes r :=
  ⟨RegMapBut.trans hy.1 (hb.mono hl), (hb.2 _ n1).trans hy.2.1, (hb.2 _ n2).trans hy.2.2.1, (hb.2 _ n3).trans hy.2.2.2⟩

theorem Zone.fenceMark_full {z : Zone} (h : z.regsWf = true) (causes : Nat) :
    ∃ r, z.fenceMark causes = { z with regs := r, ctl := { z.ctl with runHeld := false, testsOk := false, resume := false } } ∧
      Marked z causes r := by
  refine ⟨(z.fenceMark causes).regs, rfl, ?_⟩
  unfold Zone.fenceMark Zone.count Zone.putFld Zone.setReg
  dsimp only
  generalize setFld _ 15 0 _ = v
  have w1 := regs_smSet_wf h Reg.FENCE_CAUSE (BitVec.ofNat 32 causes)
  have w2 := regs_smSet_wf w1 Reg.FENCE_FIRST (BitVec.ofNat 32 ((causeList causes).headD 0 + 1))
  have w3 := regs_smSet_wf w2 Reg.FENCE_FIRST_FRAME (BitVec.extractLsb' 0 32 z.time.frame)
  refine ⟨((((RegMapBut.refl h).set (by simp) _).set (by simp) _).set (by simp) _).set (by simp) _, ?_, ?_, ?_⟩
  · rw [smGet_smSet w3, if_neg (by decide), smGet_smSet w2, if_neg (by decide), smGet_smSet w1, if_neg (by decide),
      smGet_smSet h, if_pos rfl]
  · rw [smGet_smSet w3, if_neg (by decide), smGet_smSet w2, if_neg (by decide), smGet_smSet w1, if_pos rfl]
  · rw [smGet_smSet w3, if_neg (by decide), smGet_smSet w2, if_pos rfl]

theorem Zone.fenceTell_full {z : Zone} (h : z.regsWf = true) (first : Nat) :
    ∃ q r, (z.dropMsgs).fenceMsg first = { z with msgs := q, regs := r } ∧ RegMapBut [Reg.MSG_DROPPED] z r := by
  have h1 : ∃ q r, z.dropMsgs = { z with msgs := q, regs := r } ∧ RegMapBut [Reg.MSG_DROPPED] z r :=
    ⟨_, _, rfl, (RegMapBut.refl h).set (by simp) _⟩
  obtain ⟨q, r, e, w⟩ := h1
  rw [e]
  obtain ⟨q', r', e', w'⟩ := Zone.send_but (z := { z with msgs := q, regs := r }) (l := [Reg.MSG_DROPPED]) w.1 (by simp)
    clsFault 0x0001 (natLe first 1 ++ natLe (Zone.reg { z with msgs := q, regs := r } Reg.FENCE_CAUSE).toNat 2)
  exact ⟨q', r', e', RegMapBut.trans (z' := { z with msgs := q, regs := r }) w w'⟩

/-- A zone that has entered FENCED: the state, the fence registers, the engines; the queue is kept. -/
def Fenced (z : Zone) (causes : Nat) (z' : Zone) : Prop :=
  ∃ q r o g d ph l m dr w, z' =
      { z with ctl := { z.ctl with st := .fenced, runHeld := false, testsOk := false, resume := false }
               msgs := q, regs := r, out := o, gov := g, dec := d, lim := l, pwr := { z.pwr with pinHold := ph }
               voices := z.voices.map Voice.toFree
               dsp := { z.dsp with pend := [], rtn := none, loop := none, doOut := Vector.replicate 64 0, reqs := [], late := [] }
               route := { z.route with splice := [], splW := 0, splK := 0 }
               vox := { z.vox with duckA := 0, duckP := g36One, duckT := g36One, duckOn := false }
               cache := { z.cache with wait := z.cache.wait.filter (fun f => f.rank == 2) }
               swaps := w, sched := { z.sched with mode := m, devRep := dr } } ∧
      Marked z causes r ∧ g.ampFlt = z.gov.ampFlt ∧ g.baseReq = z.gov.baseReq ∧ o.mu = 0

/-- What stops at a fence. -/
theorem Zone.fenceStop_full (z : Zone) : ∃ o ph, z.fenceStop =
    { z with out := o, pwr := { z.pwr with pinHold := ph }
             voices := z.voices.map Voice.toFree
             dsp := { z.dsp with pend := [], rtn := none, loop := none, doOut := Vector.replicate 64 0, reqs := [], late := [] }
             route := { z.route with splice := [], splW := 0, splK := 0 }
             vox := { z.vox with duckA := 0, duckP := g36One, duckT := g36One, duckOn := false }
             cache := { z.cache with wait := z.cache.wait.filter (fun f => f.rank == 2) } } ∧ o.mu = 0 := by
  obtain ⟨o, ph, e⟩ : OutMove z z.outFence := by
    unfold Zone.outFence
    exact ((Zone.modOut_move _ _).trans (Zone.ampEval_move _)).trans (Zone.parkCodes_move _)
  have h : z.outFence.out.mu = 0 := by
    unfold Zone.outFence
    rw [Zone.parkCodes_mu]
    rfl
  unfold Zone.fenceStop
  rw [e] at h ⊢
  exact ⟨o, ph, rfl, h⟩

/-- What entering FENCED does. -/
theorem Zone.fenceNow_full {z : Zone} (h : z.regsWf = true) (causes : Nat) : Fenced z causes (z.fenceNow causes) := by
  unfold Zone.fenceNow
  dsimp only
  obtain ⟨r0, e0, k0⟩ := Zone.fenceMark_full h causes
  rw [e0]
  generalize hz0 : ({ z with regs := r0, ctl := { z.ctl with runHeld := false, testsOk := false, resume := false } } : Zone) = z0
  have k0' : Marked z causes z0.regs := by rw [← hz0]; exact k0
  obtain ⟨q1, r1, e1, k1⟩ := Zone.fenceTell_full (z := z0) k0'.1.1 ((causeList causes).headD 0)
  rw [e1]
  generalize hz1 : ({ z0 with msgs := q1, regs := r1 } : Zone) = z1
  have k1' : Marked z causes z1.regs := by
    rw [← hz1]; exact Marked.keep k0' k1 (by simp) (by decide) (by decide) (by decide)
  obtain ⟨q2, r2, o2, g2, d2, ph, l2, e2, k2, f1, f2⟩ := Zone.enter_move (z := z1) k1'.1.1 .fenced
  rw [e2]
  have k2' : Marked z causes r2 := Marked.keep k1' k2 (by simp) (by decide) (by decide) (by decide)
  generalize hz2 : Zone.fenceStop _ = z2
  obtain ⟨o3, ph3, f3, f4⟩ := Zone.fenceStop_full { z1 with ctl := { z1.ctl with st := .fenced }, msgs := q2, regs := r2, out := o2, gov := g2, dec := d2, lim := l2, pwr := { z1.pwr with pinHold := ph } }
  rw [f3] at hz2
  have w2 : z2.regs = r2 := by rw [← hz2]
  have k2'' : Marked z causes z2.regs := by rw [w2]; exact k2'
  obtain ⟨q3, r3, m3, dr3, w3, e3, k3⟩ := Zone.swapsFenced_move (z := z2) k2''.1.1
  rw [e3]
  refine ⟨q3, r3, z2.out, g2, d2, ph3, l2, m3, dr3, w3, ?_, Marked.keep k2'' k3 (by simp) (by decide) (by decide) (by decide), ?_, ?_, ?_⟩
  · rw [← hz2, ← hz1, ← hz0]
  · rw [f1, ← hz1, ← hz0]
  · rw [f2, ← hz1, ← hz0]
  · rw [← hz2]; exact f4

/-! Causes (R13). -/

/-- No cause of a set is disabled. -/
theorem dis_nil {c e : Nat} (h : c &&& e = c) : (causeList c).filter (fun i => e / 2 ^ i % 2 == 0) = [] := by
  rw [List.filter_eq_nil_iff]
  intro i hi
  unfold causeList at hi
  rw [List.mem_filter] at hi
  have h1 : c.testBit i = true := by
    rw [Nat.testBit_eq_decide_div_mod_eq]
    simpa using hi.2
  have h2 : e.testBit i = true := by
    have := congrArg (fun n => n.testBit i) h
    simpa [Nat.testBit_and, h1] using this
  rw [Nat.testBit_eq_decide_div_mod_eq] at h2
  simp only [decide_eq_true_eq] at h2
  simp [h2]

/-- Enabled causes that can arise in the zone's state fence it, if it is not fenced. -/
theorem Zone.raise_fences {z : Zone} {c : Nat} (h : z.regsWf = true) (h1 : z.arising c = c) (h2 : z.ctl.st ≠ .fenced)
    (he : c &&& z.fenceEn = c) (hc : c ≠ 0) : Fenced z c (z.raise c) := by
  have e : z.raise c = z.fenceNow c := by
    unfold Zone.raise
    dsimp only
    rw [h1, if_neg hc, dis_nil he, he, if_neg hc]
    simp [h2]
  rw [e]
  exact Zone.fenceNow_full h c

/-- The bits of FENCE.EN that are fixed at 1 are enabled (R13). -/
theorem Zone.fixed_enabled (z : Zone) {c : Nat} (h : c &&& 0x3E2 = c) : c &&& z.fenceEn = c := by
  unfold Zone.fenceEn
  rw [Nat.and_or_distrib_left, h]
  apply Nat.eq_of_testBit_eq
  intro i
  rw [Nat.testBit_or, Nat.testBit_and]
  cases c.testBit i <;> simp

/-! Starts (R10, R11). -/

/-- What a start takes over from the zone: FRAME, position but for FRAC, timers, swaps, governor, and the output but for the
codes that stand in the converters. -/
def StartKeeps (z y : Zone) : Prop :=
  y.time.frame = z.time.frame ∧ (∃ f, y.pos = { z.pos with frac := f }) ∧ y.tmr = z.tmr ∧ y.swaps = z.swaps ∧ y.gov = z.gov ∧
    ∃ c e, y.out = { z.out with codes := c, elem := e }

theorem StartKeeps.refl (z : Zone) : StartKeeps z z := ⟨rfl, ⟨_, rfl⟩, rfl, rfl, rfl, ⟨_, _, rfl⟩⟩

theorem StartKeeps.trans {a b c : Zone} (h : StartKeeps a b) (h' : StartKeeps b c) : StartKeeps a c := by
  obtain ⟨h1, ⟨f, h2⟩, h3, h4, h5, ⟨o, e, h6⟩⟩ := h
  obtain ⟨k1, ⟨f', k2⟩, k3, k4, k5, ⟨o', e', k6⟩⟩ := h'
  refine ⟨k1.trans h1, ⟨f', by rw [k2, h2]⟩, k3.trans h3, k4.trans h4, k5.trans h5, ⟨o', e', by rw [k6, h6]⟩⟩

/-- The memories that a warm start keeps. -/
def SameMem (z y : Zone) : Prop :=
  y.vox.battA = z.vox.battA ∧ y.vox.battB = z.vox.battB ∧ y.route.batA = z.route.batA ∧ y.route.batB = z.route.batB ∧
    y.dsp.prog = z.dsp.prog

/-- The same memories empty. -/
def NoMem (y : Zone) : Prop :=
  y.vox.battA = [] ∧ y.vox.battB = [] ∧ y.route.batA = [] ∧ y.route.batB = [] ∧ y.dsp.prog = []

/-- Falling back to ZSLOW keeps all that a start keeps (R11, R34, R50). -/
theorem Zone.toSlow_full (z : Zone) : StartKeeps z z.toSlow ∧ SameMem z z.toSlow ∧ z.toSlow.regs = z.regs ∧
    z.toSlow.mem = z.mem ∧ z.toSlow.sched = z.sched ∧ z.toSlow.voices = z.voices ∧ z.toSlow.ctl = z.ctl := by
  unfold Zone.toSlow
  dsimp only
  generalize hy : ({ z with pll := _, pos := _, time := _ } : Zone) = y
  unfold Zone.parkCodes
  split
  · subst hy
    exact ⟨⟨rfl, ⟨_, rfl⟩, rfl, rfl, rfl, ⟨_, _, rfl⟩⟩, ⟨rfl, rfl, rfl, rfl, rfl⟩, rfl, rfl, rfl, rfl, rfl⟩
  · generalize y.elems _ = e
    generalize latchCode _ _ = c
    subst hy
    exact ⟨⟨rfl, ⟨_, rfl⟩, rfl, rfl, rfl, ⟨_, _, rfl⟩⟩, ⟨rfl, rfl, rfl, rfl, rfl⟩, rfl, rfl, rfl, rfl, rfl⟩

theorem Zone.initPll_full (z : Zone) : StartKeeps z z.initPll ∧ SameMem z z.initPll ∧ z.initPll.regs = z.regs ∧
    z.initPll.mem = z.mem ∧ z.initPll.sched = z.sched ∧ z.initPll.voices = z.voices ∧ z.initPll.ctl = z.ctl := by
  unfold Zone.initPll
  split
  · exact z.toSlow_full
  · exact ⟨.refl z, ⟨rfl, rfl, rfl, rfl, rfl⟩, rfl, rfl, rfl, rfl, rfl⟩

theorem Zone.initMark_full {z : Zone} (h : z.regsWf = true) (warm : Bool) : StartKeeps z (z.initMark warm) ∧
    SameMem z (z.initMark warm) ∧ (z.initMark warm).regsWf = true ∧ (z.initMark warm).mem = z.mem ∧
    (z.initMark warm).sched = z.sched ∧ (z.initMark warm).voices = z.voices ∧ (z.initMark warm).ctl.warm = warm ∧
    (z.initMark warm).reg Reg.FENCE_CAUSE = 0 ∧ (z.initMark warm).reg Reg.FENCE_FIRST = 0 := by
  have w1 := regs_smSet_wf h Reg.FENCE_CAUSE 0
  refine ⟨.refl _, ⟨rfl, rfl, rfl, rfl, rfl⟩, regs_smSet_wf w1 _ _, rfl, rfl, rfl, rfl, ?_, ?_⟩
  · change smGet zoneRst (smSet zoneRst (smSet zoneRst z.regs Reg.FENCE_CAUSE 0) Reg.FENCE_FIRST 0) Reg.FENCE_CAUSE = 0
    rw [smGet_smSet w1, if_neg (by decide), smGet_smSet h, if_pos rfl]
  · change smGet zoneRst (smSet zoneRst (smSet zoneRst z.regs Reg.FENCE_CAUSE 0) Reg.FENCE_FIRST 0) Reg.FENCE_FIRST = 0
    rw [smGet_smSet w1, if_pos rfl]

theorem Zone.initStop_full (z : Zone) : StartKeeps z z.initStop ∧ SameMem z z.initStop ∧ z.initStop.regs = z.regs ∧
    z.initStop.mem = z.mem ∧ z.initStop.sched = { z.sched with queue := [] } ∧
    z.initStop.voices = z.voices.map Voice.toFree ∧ z.initStop.ctl = z.ctl :=
  ⟨.refl _, ⟨rfl, rfl, rfl, rfl, rfl⟩, rfl, rfl, rfl, rfl, rfl⟩

theorem Zone.coldMem_full (z : Zone) : StartKeeps z z.coldMem ∧ NoMem z.coldMem ∧ (∃ v, z.coldMem.regs = smSet zoneRst z.regs Reg.DSP_CTL v) ∧
    z.coldMem.sched = z.sched ∧ z.coldMem.voices = z.voices ∧ z.coldMem.ctl = z.ctl :=
  ⟨.refl _, ⟨rfl, rfl, rfl, rfl, rfl⟩, ⟨_, rfl⟩, rfl, rfl, rfl⟩

theorem Zone.warmMem_full (z : Zone) : StartKeeps z z.warmMem ∧ (∃ v, z.warmMem.regs = smSet zoneRst z.regs Reg.DSP_CTL v) ∧
    z.warmMem.sched = z.sched ∧ z.warmMem.voices = z.voices ∧ z.warmMem.ctl.warm = z.ctl.warm ∧
    (z.badKept = true → NoMem z.warmMem) ∧ (z.badKept = false → SameMem z z.warmMem) := by
  unfold Zone.warmMem
  split
  · rename_i hb
    refine ⟨⟨rfl, ⟨_, rfl⟩, rfl, rfl, rfl, ⟨_, _, rfl⟩⟩, ⟨_, rfl⟩, rfl, rfl, rfl, fun _ => ⟨rfl, rfl, rfl, rfl, rfl⟩, fun e => ?_⟩
    rw [hb] at e; cases e
  · rename_i hb
    refine ⟨⟨rfl, ⟨_, rfl⟩, rfl, rfl, rfl, ⟨_, _, rfl⟩⟩, ⟨_, rfl⟩, rfl, rfl, rfl, fun e => absurd e hb, fun _ => ⟨rfl, rfl, rfl, rfl, rfl⟩⟩

/-- The zone that a start hands to INIT. -/
def Zone.initZone (z : Zone) (warm : Bool) : Zone := (((z.initPll.initMark warm).initStop).initMem warm).initPower

/-- What a start does, but for the change of state: everything of Zone.toInit. -/
theorem Zone.toInit_before {z : Zone} (h : z.regsWf = true) (warm : Bool) :
    z.toInit warm = (z.initZone warm).enter .init ∧ (z.initZone warm).regsWf = true ∧ (z.initZone warm).ctl.warm = warm ∧
      StartKeeps z (z.initZone warm) ∧ (z.initZone warm).sched = { z.sched with queue := [] } ∧
      (z.initZone warm).voices = z.voices.map Voice.toFree ∧ (z.initZone warm).reg Reg.FENCE_CAUSE = 0 ∧
      (z.initZone warm).reg Reg.FENCE_FIRST = 0 ∧ ((warm = false ∨ z.badKept = true) → NoMem (z.initZone warm)) ∧
      (warm = true → z.badKept = false → SameMem z (z.initZone warm)) := by
  obtain ⟨a1, a2, a3, a4, a5, a6, a7⟩ := z.initPll_full
  obtain ⟨b1, b2, b3, b4, b5, b6, b7, b8, b9⟩ := Zone.initMark_full (z := z.initPll) (by unfold Zone.regsWf; rw [a3]; exact h) warm
  obtain ⟨c1, c2, c3, c4, c5, c6, c7⟩ := (z.initPll.initMark warm).initStop_full
  refine ⟨rfl, ?_⟩
  unfold Zone.initZone Zone.initMem
  generalize hy : (z.initPll.initMark warm).initStop = y at c1 c2 c3 c4 c5 c6 c7 ⊢
  have yk : StartKeeps z y := (a1.trans b1).trans c1
  have ym : SameMem z y :=
    ⟨c2.1.trans (b2.1.trans a2.1), c2.2.1.trans (b2.2.1.trans a2.2.1), c2.2.2.1.trans (b2.2.2.1.trans a2.2.2.1),
      c2.2.2.2.1.trans (b2.2.2.2.1.trans a2.2.2.2.1), c2.2.2.2.2.trans (b2.2.2.2.2.trans a2.2.2.2.2)⟩
  have yb : y.badKept = z.badKept := by unfold Zone.badKept; rw [c4, b4, a4]
  have ys : y.sched = { z.sched with queue := [] } := by rw [c5, b5, a5]
  have yv : y.voices = z.voices.map Voice.toFree := by rw [c6, b6, a6]
  have yw : smWf zoneRst 0 y.regs = true := by rw [c3]; exact b3
  have yc : smGet zoneRst y.regs Reg.FENCE_CAUSE = 0 := by rw [c3]; exact b8
  have yf : smGet zoneRst y.regs Reg.FENCE_FIRST = 0 := by rw [c3]; exact b9
  have yx : y.ctl.warm = warm := by rw [c7]; exact b7
  have dc : ∀ v : Word, smGet zoneRst (smSet zoneRst y.regs Reg.DSP_CTL v) Reg.FENCE_CAUSE = 0 := by
    intro v; rw [smGet_smSet yw, if_neg (by decide), yc]
  have df : ∀ v : Word, smGet zoneRst (smSet zoneRst y.regs Reg.DSP_CTL v) Reg.FENCE_FIRST = 0 := by
    intro v; rw [smGet_smSet yw, if_neg (by decide), yf]
  cases warm
  · obtain ⟨d1, d2, ⟨v, d3⟩, d4, d5, d6⟩ := y.coldMem_full
    refine ⟨?_, ?_, yk.trans d1, ?_, ?_, ?_, ?_, fun _ => d2, fun e => by cases e⟩
    · change smWf zoneRst 0 y.coldMem.regs = true
      rw [d3]; exact regs_smSet_wf yw _ _
    · change y.coldMem.ctl.warm = false
      rw [d6]; exact yx
    · change y.coldMem.sched = _
      rw [d4]; exact ys
    · change y.coldMem.voices = _
      rw [d5]; exact yv
    · change smGet zoneRst y.coldMem.regs Reg.FENCE_CAUSE = 0
      rw [d3]; exact dc v
    · change smGet zoneRst y.coldMem.regs Reg.FENCE_FIRST = 0
      rw [d3]; exact df v
  · obtain ⟨d1, ⟨v, d3⟩, d4, d5, d6, d7, d8⟩ := y.warmMem_full
    refine ⟨?_, ?_, yk.trans d1, ?_, ?_, ?_, ?_, ?_, ?_⟩
    · change smWf zoneRst 0 y.warmMem.regs = true
      rw [d3]; exact regs_smSet_wf yw _ _
    · change y.warmMem.ctl.warm = true
      rw [d6]; exact yx
    · change y.warmMem.sched = _
      rw [d4]; exact ys
    · change y.warmMem.voices = _
      rw [d5]; exact yv
    · change smGet zoneRst y.warmMem.regs Reg.FENCE_CAUSE = 0
      rw [d3]; exact dc v
    · change smGet zoneRst y.warmMem.regs Reg.FENCE_FIRST = 0
      rw [d3]; exact df v
    · rintro (e | e)
      · cases e
      · exact d7 (yb.trans e)
    · intro _ e
      obtain ⟨e1, e2, e3, e4, e5⟩ := d8 (yb.trans e)
      exact ⟨e1.trans ym.1, e2.trans ym.2.1, e3.trans ym.2.2.1, e4.trans ym.2.2.2.1, e5.trans ym.2.2.2.2⟩

end Sys2Proof.Machine
end

