-- ==== Sys2Proof/Tests/Slice0.lean ====
section
/-! SUPPORT. Tests: each check of WellFormed refuses an ill-formed command; results that the spec's own numbers give; and for
every statement with hypotheses, states and operands that meet the hypotheses of each of its clauses. -/

open Sys2Proof Sys2Proof.Machine

namespace Sys2Proof.Tests

/-! Each test is checked before the next begins: many at once would each hold a stack. -/
set_option Elab.async false

/-! Devices that differ from the device after reset in one zone, or in the host complex. -/

/-- Every element of a vector changed. -/
def each {α : Type} {n : Nat} (v : Vector α n) (f : α → α) : Vector α n :=
  (List.finRange n).foldl (fun w (i : Fin n) => w.set i (f v[i])) v
/-- The device after reset. -/
def s0 : State := State.reset
/-- The device with its first zone changed. -/
def zed (f : Zone → Zone) : State := { s0 with zones := s0.zones.set 0 (f s0.zones[(0 : Fin 8)]) }
/-- The device with its host complex changed. -/
def hed (s : State) (f : HostC → HostC) : State := { s with host := f s.host }
/-- The device with its first zone in a state. -/
def stz (st : ZSt) (f : Zone → Zone) : State := zed (fun z => f { z with ctl := { z.ctl with st := st } })
/-- The same with that zone locked. -/
def onz (st : ZSt) (f : Zone → Zone) : State := stz st (fun z => f { z with
  time := { z.time with est := false, frame := 1000 }
  pll := { z.pll with lock := true } })

/-- What a command leaves. -/
def after (c : Instr) (s : State) : State := match exec c s with | .next t => t | _ => s

/-- "123456789". -/
def digits : List Byte := [0x31, 0x32, 0x33, 0x34, 0x35, 0x36, 0x37, 0x38, 0x39]

/-! Each check of WellFormed refuses an ill-formed command. -/

theorem test_illformed_frame : wellFormed (.frameReceived ⟨0, true, 0, 0, 1, List.replicate 256 0, 0⟩) = false := by decide +kernel
theorem test_illformed_write : wellFormed (.write ⟨0, true, 0, 0, 0, false, List.replicate 256 0, 0, false⟩) = false := by decide +kernel
theorem test_illformed_read : wellFormed (.read ⟨0, true, 0, 0, 0, false, List.replicate 256 0, 0, false⟩) = false := by decide +kernel
theorem test_illformed_pingCompat : wellFormed (.pingCompat ⟨0, true, 0, 0, 0, false, List.replicate 256 0, 0, false⟩) = false := by decide +kernel
theorem test_illformed_regWrite : wellFormed (.regWrite ⟨1, 0, false⟩ 0 []) = false ∧
    wellFormed (.regWrite ⟨1, 0, false⟩ 0 (List.replicate 61 0)) = false := by decide +kernel
theorem test_illformed_voice : wellFormed (.voice ⟨1, 0, false⟩ 0 0 0 0 0 (.inline (List.replicate 242 0))) = false := by decide +kernel
theorem test_illformed_eventPost : wellFormed (.eventPost ⟨1, 0, false⟩ 0 (Vector.replicate 8 0) (.inline (List.replicate 220 0))) = false := by decide +kernel
theorem test_illformed_bulkWr : wellFormed (.bulkWr ⟨1, 0, false⟩ 0 (List.replicate 253 0)) = false := by decide +kernel
theorem test_illformed_record : wellFormed (.recordCreated 0 0 0 (List.replicate 33 0)) = false := by decide +kernel
theorem test_illformed_hello : wellFormed (.hello ⟨1, 0, false⟩ (List.replicate 63 0) (List.replicate 16 0)) = false := by decide +kernel
theorem test_illformed_auth : wellFormed (.auth ⟨1, 0, false⟩ (List.replicate 136 0) (List.replicate 65 0)) = false := by decide +kernel
theorem test_illformed_close : wellFormed (.close ⟨1, 0, false⟩ 0 []) = false := by decide +kernel
theorem test_illformed_resume : wellFormed (.resumeSession ⟨1, 0, false⟩ 0 (List.replicate 9 0)) = false := by decide +kernel
theorem test_illformed_p0Check : wellFormed (.p0Check 1 0 (.inline (List.replicate 242 0))) = false := by decide +kernel
theorem test_illformed_debugOpen : wellFormed (.debugOpen false []) = false := by decide +kernel
theorem test_illformed_brownOut : wellFormed (.brownOut .por) = false ∧ wellFormed (.brownOut .vcore) = true := by decide +kernel

/-! No row of the opcode table gives bits. -/

theorem test_no_word_spells_a_command : ∀ w : Fin 256, decodeTableWord 8 w.val = none := fun _ => rfl

/-! Results that the spec prints. -/

/-- 17_memory_and_crc.md, R361: the configuration of R160. -/
theorem test_crc32_check : crcOf crc32 digits = 0xCBF43926 := by decide +kernel
/-- 14_host_link.md, R291. -/
theorem test_crc16_check : crcOf crc16 digits = 0x29B1 := by decide +kernel
/-- 14_host_link.md, R299. -/
theorem test_crc8_check : crcOf crc8 digits = 0xF4 := by decide +kernel
/-- 14_host_link.md, the example before Table 14-3: TYPE 1 to truss address 2. -/
theorem test_frame_example : identByte 2 1 = 0x43 ∧ checkOf 0x43 [] = 0x4590 := by decide +kernel
/-- 14_host_link.md, the example of the arbitration: TYPE 12 of the devices at TA 1 and TA 2. -/
theorem test_ident_example : identByte 1 12 = 0x38 ∧ identByte 2 12 = 0x58 := by decide
/-- 18_register_pages.md, R367: Z3:DAC.SPAN_CTL. -/
theorem test_address_example : zoneAddr 3 Reg.DAC_SPAN_CTL = 0x135820 ∧ placeOf 0x135820 = .zone 3 0x5820 := by decide
/-- 04_number_formats.md, Table 4-3. -/
theorem test_round_ties : roundShift (1 * 64) 7 = 1 ∧ roundShift (-1 * 64) 7 = 0 ∧ roundShift (-1 * 65) 7 = -1 := by decide
/-- 04_number_formats.md, Table 4-4: the accumulator after steps 1 to 4, and the store. -/
theorem test_sum_wraps :
    AccSt.load AccSt.zero (200 * 2 ^ 63) = ⟨200 * 2 ^ 63, 0, false, 0, false, false⟩ ∧
    AccSt.add ⟨200 * 2 ^ 63, 0, false, 0, false, false⟩ (100 * 2 ^ 63) = ⟨-212 * 2 ^ 63, 1, false, 1, true, false⟩ ∧
    AccSt.add ⟨-212 * 2 ^ 63, 1, false, 1, true, false⟩ (-150 * 2 ^ 63) = ⟨150 * 2 ^ 63, 0, false, -1, true, false⟩ ∧
    AccSt.store ⟨28, s36Min, s36Max⟩ ⟨2 ^ 62, 0, false, -1, true, false⟩ = (0x400000000, false) ∧
    AccSt.store ⟨28, s36Min, s36Max⟩ ⟨-112 * 2 ^ 63, 1, false, 1, true, false⟩ = (0x7FFFFFFFF, true) := by decide
/-- 04_number_formats.md, the example after Table 4-4: the eighth wrap, a wrap back, and the store. -/
theorem test_accumulator_sticks :
    AccSt.add ⟨255 * 2 ^ 63 - 14 * 2 ^ 63, 7, false, 1, true, false⟩ (255 * 2 ^ 63) = ⟨-16 * 2 ^ 63, 7, true, 1, true, true⟩ ∧
    (AccSt.add ⟨-16 * 2 ^ 63, 7, true, 1, true, true⟩ (-255 * 2 ^ 63)).ldir = -1 ∧
    (AccSt.add ⟨-16 * 2 ^ 63, 7, true, 1, true, true⟩ (-255 * 2 ^ 63)).wrap = 7 ∧
    AccSt.store ⟨28, s36Min, s36Max⟩ ⟨0, 7, true, -1, true, true⟩ = (s36Min, true) := by decide
/-- 10_zone_dsp.md, Table 10-8, bundle 100: LOOP with R = 1, DRN = 1, BL = 2. -/
theorem test_bundle_loop : (bundleOf 0xCC80200000).aop = 0x19 ∧ (bundleOf 0xCC80200000).loopR = true ∧ (bundleOf 0xCC80200000).drn = 1 ∧
    (bundleOf 0xCC80200000).bl = 2 ∧ (bundleOf 0xCC80200000).eop = 0 := by decide
/-- 10_zone_dsp.md, Table 10-8, bundles 101 and 102: (Q8) LDW G34, [PT0], +2; (Q9) DMAC ACC0, G33, G35 with (Q8) LDW G36,
[PT1], +2. -/
theorem test_bundle_ldw : bundleOf 0x008000000000031002 = { Bundle.empty with ge := 8, eop := 1, ereg := 34, en := 0, eaux := 2 } ∧
    bundleOf 0x9087218C0000032102 = { Bundle.empty with gm := 9, mop := 7, ma := 0, mx := 33, my := 35, ge := 8, eop := 1, ereg := 36, en := 1, eaux := 2 } := by
  decide
/-- 18_register_pages.md, Table 18-8: a broadcast write with Z5 FENCED and Z6 in OFF. -/
def board : State :=
  { s0 with zones := ((s0.zones.set 3 { s0.zones[(3 : ZoneId)] with ctl := { s0.zones[(3 : ZoneId)].ctl with st := .run } }).set 5
      { s0.zones[(5 : ZoneId)] with ctl := { s0.zones[(5 : ZoneId)].ctl with st := .fenced } }) }

theorem test_broadcast_example : ∃ w : WrAns, board.regWrite false 0 0x182C20 0x00C80430 = w ∧
    (w.why, w.zfail, w.detail) = (0x07, 0x20, 0x182C20) ∧ (w.s.zones[(3 : ZoneId)].reg 0xAC20, w.s.zones[(3 : ZoneId)].reg 0x2C20) =
      (0x00C80430, zoneRst 0x2C20) ∧ fld (w.s.zones[(5 : ZoneId)].reg Reg.FENCE_COUNT) 31 16 = 1 ∧ w.s.zones[(6 : ZoneId)] = board.zones[(6 : ZoneId)] :=
  ⟨_, rfl, by decide +kernel⟩
/-- 02_time_and_position.md, R49: the first ZSLOW edge moves FRAME by 2 and leaves 119, the next by 3. -/
theorem test_zslow : (after (.zslowEdge 0 false false) s0).zones[(0 : ZoneId)].time.frame = 2 ∧
    (after (.zslowEdge 0 false false) s0).zones[(0 : ZoneId)].time.slowAcc = 119 ∧
    (after (.zslowEdge 0 false false) (after (.zslowEdge 0 false false) s0)).zones[(0 : ZoneId)].time.frame = 5 := by decide +kernel

/-! One command of a family each, on small devices. -/

/-- Table 1-2: ENABLE takes a zone from OFF to INIT, DISABLE back to OFF; RUN is rejected in OFF. -/
theorem test_enable : (after (.enable 0) s0).zones[(0 : ZoneId)].ctl.st = .init ∧
    (after (.disable 0) (onz .run id)).zones[(0 : ZoneId)].ctl.st = .off ∧
    fld ((after (.run 0) s0).zones[(0 : ZoneId)].reg Reg.FENCE_COUNT) 31 16 = 1 := by decide +kernel
/-- R13, R16: a FENCE command fences with cause 9, and FIRST is 10. -/
theorem test_fence : (after (.fence 0) (onz .run id)).zones[(0 : ZoneId)].reg Reg.FENCE_CAUSE = 0x200 ∧
    (after (.fence 0) (onz .run id)).zones[(0 : ZoneId)].reg Reg.FENCE_FIRST = 10 := by decide +kernel
/-- The queue is served from its front, and an empty one idles. -/
theorem test_queue : step { s0 with pending := [.enable 0, .ready] } = exec (.enable 0) { s0 with pending := [.ready] } ∧ step s0 = .next s0 :=
  ⟨rfl, rfl⟩
/-- R307: a page beyond FENCE of a zone in OFF answers ZONE_OFF. -/
theorem test_zone_off : (after (.rcRead 0x102C20 .host) s0).host.bus.reason = 0x08 := by decide +kernel
/-- R372: the key 0xA5 locks a host page. -/
theorem test_pg_lock : (after (.pgLock 0x1C00 0xA501) s0).host.reg 0x1C18 = 1 ∧ (after (.pgLock 0x1C00 0x0001) s0).host.reg 0x1C18 = 0 := by
  decide +kernel
/-- R389: SLEEP is refused with BUSY while X32 does not run. -/
theorem test_sleep_refused : (after (.sleepArm 0x80000000) s0).host.bus.reason = 0x16 := by decide +kernel
/-- R309: PING on a free link is answered by one frame. -/
theorem test_ping : (after (.ping ⟨1, 0, false⟩) s0).host.link.txq.length = 1 := by decide +kernel

/-! Statements whose hypotheses are a step, or an accumulator. -/

theorem test_meets_QueueKept : 255 < (List.replicate 256 (0 : Byte)).length ∧ 32 < (List.replicate 33 (0 : Byte)).length := by
  constructor <;> rw [List.length_replicate] <;> decide
theorem test_meets_QueueStep : ({ s0 with pending := [.ready] } : State).pending = [.ready] ∧ s0.pending = [] := ⟨rfl, rfl⟩
theorem test_meets_invariants : step s0 = .next s0 ∧ s0.wf = true ∧ s0.host.legal = true ∧
    (∀ i : ZoneId, s0.zones[i].id = i ∧ Told s0.zones[i] ∧ s0.zones[i].regsWf = true ∧ s0.zones[i].memWf = true) := by
  refine ⟨rfl, ?_, ?_, ?_⟩ <;> decide
theorem test_meets_ZoneIsolation : s0.host.pwr.pstate ≠ 1 ∧ s0.host.proto.wait = [] ∧ exec (.enable 0) s0 = .next (after (.enable 0) s0) ∧
    zoneOf (.enable 0) = some 0 ∧ exec (.tickBoundary 0) s0 = .next (after (.tickBoundary 0) s0) ∧ boundaryOf (.tickBoundary 0) = some 0 :=
  ⟨by decide, rfl, rfl, rfl, rfl, rfl⟩
theorem test_meets_OffAndFenced : ¬ DeviceResets (.enable 0) ∧ exec (.enable 0) s0 = .next (after (.enable 0) s0) ∧
    s0.zones[(0 : ZoneId)].ctl.st = .off ∧ (after (.enable 0) s0).zones[(0 : ZoneId)].ctl.st ≠ .off ∧
    (onz .fenced id).zones[(0 : ZoneId)].ctl.st = .fenced ∧ (after (.recover 0) (onz .fenced id)).zones[(0 : ZoneId)].ctl.st ≠ .fenced := by
  refine ⟨fun h => h, rfl, ?_⟩
  decide +kernel
theorem test_meets_AccumulatorRules :
    (5 + 7 = (AccSt.add ⟨5, 0, false, 0, false, false⟩ 7).val + 0 * 2 ^ 72) ∧
    (2 ^ 71 - 1 + 1 = (AccSt.add ⟨2 ^ 71 - 1, 0, false, 0, false, false⟩ 1).val + 1 * 2 ^ 72) ∧
    (2 ^ 71 - 1 + 1 = (AccSt.add ⟨2 ^ 71 - 1, 7, false, 1, true, false⟩ 1).val + 1 * 2 ^ 72) ∧
    (-2 ^ 71 - 1 = (AccSt.add ⟨-2 ^ 71, 7, true, 1, true, true⟩ (-1)).val + -1 * 2 ^ 72) := by decide

/-! Hypotheses that are met. -/

namespace W01

def a1 := stz .off id
def a2 := onz .test id
def a3 := onz .hold id
def a4 := onz .fenced id
def a5 := onz .init (fun z => { z with out := { z.out with cmok := true }, ctl := { z.ctl with initTicks := 600 } })
def a6 := onz .run (fun z => ({ z with ctl := { z.ctl with wdLen := 4, wdRun := 5, leakTicks := 5000000, wdHost := true, bucket := 3} }.setReg Reg.FENCE_EN 0x1F))
def a7 := hed a6 (fun h => { h with link := { h.link with silence := 100000 } })

set_option maxRecDepth 30000 in
/-- The clauses of StartAndStop apply. -/
theorem test_meets_StartAndStop :
    Quiet a1 (0 : ZoneId) ∧
    Quiet a2 (0 : ZoneId) ∧
    (a1.zones[(0 : ZoneId)].ctl.st = ZSt.off ∧ a1.zones[(0 : ZoneId)].pwr.vanaGood = true ∧ a1.host.lcs.st ≠ 5) ∧
    (a2.zones[(0 : ZoneId)].ctl.st ≠ ZSt.off) := by
  and_intros <;> decide

set_option maxRecDepth 30000 in
/-- The clauses of RunResumeRecover apply. -/
theorem test_meets_RunResumeRecover :
    Quiet a2 (0 : ZoneId) ∧
    Quiet a3 (0 : ZoneId) ∧
    Quiet a4 (0 : ZoneId) ∧
    (a2.zones[(0 : ZoneId)].ctl.st = ZSt.test) ∧
    (a3.zones[(0 : ZoneId)].ctl.st = ZSt.hold ∧ a3.zones[(0 : ZoneId)].ctl.orphan = false ∧ a3.zones[(0 : ZoneId)].ctl.hcloss = false) ∧
    (a4.zones[(0 : ZoneId)].ctl.st = ZSt.fenced ∧ a4.zones[(0 : ZoneId)].causesClear = true) := by
  and_intros <;> decide

set_option maxRecDepth 30000 in
/-- The clauses of RejectedCommandsCounted apply. -/
theorem test_meets_RejectedCommandsCounted :
    Quiet a1 (0 : ZoneId) ∧
    ((Instr.disable (0 : ZoneId) = Instr.enable (0 : ZoneId) ∧ a1.zones[(0 : ZoneId)].ctl.st ≠ ZSt.off ∨ Instr.disable (0 : ZoneId) = Instr.disable (0 : ZoneId) ∧ a1.zones[(0 : ZoneId)].ctl.st = ZSt.off ∨ Instr.disable (0 : ZoneId) = Instr.resetWarm (0 : ZoneId) ∧ a1.zones[(0 : ZoneId)].ctl.st = ZSt.off ∨ Instr.disable (0 : ZoneId) = Instr.resetCold (0 : ZoneId) ∧ a1.zones[(0 : ZoneId)].ctl.st = ZSt.off ∨ Instr.disable (0 : ZoneId) = Instr.run (0 : ZoneId) ∧ a1.zones[(0 : ZoneId)].ctl.st ≠ ZSt.test ∨ Instr.disable (0 : ZoneId) = Instr.resume (0 : ZoneId) ∧ a1.zones[(0 : ZoneId)].ctl.st ≠ ZSt.hold ∨ Instr.disable (0 : ZoneId) = Instr.fence (0 : ZoneId) ∧ (a1.zones[(0 : ZoneId)].ctl.st = ZSt.off ∨ a1.zones[(0 : ZoneId)].ctl.st = ZSt.fenced) ∨ Instr.disable (0 : ZoneId) = Instr.recover (0 : ZoneId) ∧ a1.zones[(0 : ZoneId)].ctl.st ≠ ZSt.fenced)) := by
  and_intros <;> decide

set_option maxRecDepth 30000 in
/-- The clauses of FenceEntry apply. -/
theorem test_meets_FenceEntry :
    Quiet a2 (0 : ZoneId) ∧
    (a2.zones[(0 : ZoneId)].ctl.st ≠ ZSt.off ∧ a2.zones[(0 : ZoneId)].ctl.st ≠ ZSt.fenced ∧ a2.zones[(0 : ZoneId)].tripArmed = true) ∧
    (a2.zones[(0 : ZoneId)].ctl.st ≠ ZSt.off ∧ a2.zones[(0 : ZoneId)].ctl.st ≠ ZSt.fenced ∧ a2.zones[(0 : ZoneId)].ctl.st = ZSt.test ∧ a2.zones[(0 : ZoneId)].ctl.testsOk = false) := by
  and_intros <;> decide

set_option maxRecDepth 30000 in
/-- The clauses of InitAndTest apply. -/
theorem test_meets_InitAndTest :
    Quiet a2 (0 : ZoneId) ∧
    Quiet a5 (0 : ZoneId) ∧
    (a2.zones[(0 : ZoneId)].ctl.st = ZSt.test ∧ a2.zones[(0 : ZoneId)].ctl.testsOk = false) ∧
    (a5.zones[(0 : ZoneId)].ctl.st = ZSt.init ∧ a5.zones[(0 : ZoneId)].pll.lock = true ∧ a5.zones[(0 : ZoneId)].out.cmok = true) ∧
    (a5.zones[(0 : ZoneId)].ctl.st = ZSt.init ∧ a5.zones[(0 : ZoneId)].ctl.initSlow = false ∧ 500 ≤ a5.zones[(0 : ZoneId)].ctl.initTicks) := by
  and_intros <;> decide

set_option maxRecDepth 30000 in
/-- The clauses of WatchdogAndBucket apply. -/
theorem test_meets_WatchdogAndBucket :
    Quiet a1 (0 : ZoneId) ∧
    Quiet a6 (0 : ZoneId) ∧
    (fld (0 : Word) 15 0 = 0) ∧
    (fld (4294967295 : Word) 15 0 ≠ 0 ∧ a1.zones[(0 : ZoneId)].ctl.wdLen = 0) ∧
    (a6.zones[(0 : ZoneId)].wdDue = true ∧ bit (a6.zones[(0 : ZoneId)].reg Reg.FENCE_EN) 3 = true ∧ a6.zones[(0 : ZoneId)].ctl.st ≠ ZSt.off ∧ a6.zones[(0 : ZoneId)].ctl.st ≠ ZSt.fenced ∧ a6.zones[(0 : ZoneId)].ctl.st ≠ ZSt.init) ∧
    (a6.zones[(0 : ZoneId)].ctl.wdHost = true ∧ a6.zones[(0 : ZoneId)].ctl.wdLen ≠ 0) ∧
    (a6.zones[(0 : ZoneId)].leakWindow ≤ a6.zones[(0 : ZoneId)].ctl.leakTicks) := by
  and_intros <;> decide

set_option maxRecDepth 30000 in
/-- The clauses of OrphanAndHcloss apply. -/
theorem test_meets_OrphanAndHcloss :
    Quiet a6 (0 : ZoneId) ∧
    Quiet a7 (0 : ZoneId) ∧
    (a6.zones[(0 : ZoneId)].ctl.st = ZSt.run ∧ a6.zones[(0 : ZoneId)].ctl.hcloss = false) ∧
    (a7.zones[(0 : ZoneId)].ctl.st = ZSt.run ∧ a7.zones[(0 : ZoneId)].ctl.orphan = false ∧ a7.zones[(0 : ZoneId)].orphanTo < a7.host.link.silence) := by
  and_intros <;> decide

end W01

namespace W02

def lk (z : Zone) : Zone := { z with pll := { z.pll with lock := false } }
def b1 := onz .init (fun z => { lk z with pll := { z.pll with lock := false, valid := 15, small := 15, rate := 3 }, pos := { z.pos with frac := 5 } })
def b2 := onz .run (fun z => { lk z with pll := { z.pll with lock := false, hold := true, valid := 15, holdTk := 99999 }, time := { z.time with free := true, frame := 1055 } })
def b4 := onz .run (fun z => ({ z with pos := { z.pos with mode := 2, stopped := false, pos := 5, hcmd := some ⟨true, true, true, 77, 12345⟩ }, time := { z.time with syncHi := true, tk := true, frame := 999999936 } }.setReg Reg.TIME_EPOCH_CTL 1).setReg Reg.TIME_EPOCH_LO 96)
def b6 := onz .hold (fun z => { z with pll := { z.pll with lock := false, hold := true, slewing := true, phase := 3 }, time := { z.time with began := true } })
def b7 := stz .off id
def b3 := onz .run (fun z => { z with pos := { z.pos with mode := 0, stopped := false, pos := 5 }, time := { z.time with syncHi := true, tk := true, frame := 999999936 } })
def sy (z : Zone) : Zone := { z with time := { z.time with syncHi := true } }
def b5 := onz .run (fun z => sy <| (({ z with pos := { z.pos with mode := 1, lvlA := false }, tmr := each z.tmr (fun (t : ZTimer) => { t with period := 5, count := 9, pend := true }) }.setReg Reg.TIME_EPOCH_CTL 3).setReg Reg.TIME_EPOCH_LO 97).setReg (Reg.TMR_CTL 0) 0x1F |>.setReg (Reg.TMR_NEXT 0) 7 |>.setReg (Reg.TMR_CTL 1) 1 |>.setReg (Reg.TMR_NEXT 2) 6)
def b10 := onz .run (fun z => sy <| z.setReg Reg.TIME_EPOCH_LO 97)
def b11 := onz .run (fun z => sy <| lk z |>.setReg Reg.TIME_EPOCH_CTL 1)

set_option maxRecDepth 30000 in
/-- The clauses of FrameCounting apply. -/
theorem test_meets_FrameCounting :
    (b1.host.proto.wait = [] ∧ b1.zones[(0 : ZoneId)].time.est = false ∧ b1.zones[(0 : ZoneId)].time.began = false) ∧
    (b2.host.proto.wait = [] ∧ b2.zones[(0 : ZoneId)].time.est = false ∧ b2.zones[(0 : ZoneId)].time.began = false ∧ (b2.zones[(0 : ZoneId)].time.frame + (1 : BitVec 48)).toNat % 96 = 0) ∧
    (b4.host.proto.wait = [] ∧ b4.zones[(0 : ZoneId)].time.est = false ∧ b4.zones[(0 : ZoneId)].time.syncHi = true ∧ b4.zones[(0 : ZoneId)].pllRuns = true ∧ b4.zones[(0 : ZoneId)].pll.lock = true ∧ bit (b4.zones[(0 : ZoneId)].reg Reg.TIME_EPOCH_CTL) 0 = true ∧ bit (b4.zones[(0 : ZoneId)].reg Reg.TIME_EPOCH_CTL) 1 = false) ∧
    (b6.host.proto.wait = [] ∧ b6.zones[(0 : ZoneId)].time.est = false ∧ b6.zones[(0 : ZoneId)].time.began = true) ∧
    (b7.host.proto.wait = [] ∧ b7.zones[(0 : ZoneId)].time.est = true ∧ b7.zones[(0 : ZoneId)].pll.hold = false) := by
  and_intros <;> decide

set_option maxRecDepth 30000 in
/-- The clauses of FrefEdges apply. -/
theorem test_meets_FrefEdges :
    Quiet b1 (0 : ZoneId) ∧
    Quiet b2 (0 : ZoneId) ∧
    Quiet b3 (0 : ZoneId) ∧
    (b1.zones[(0 : ZoneId)].pllRuns = true ∧ b1.zones[(0 : ZoneId)].pll.lock = false ∧ b1.zones[(0 : ZoneId)].pll.hold = false ∧ (true = true ∨ b1.zones[(0 : ZoneId)].time.syncHi = false) ∧ 15 ≤ b1.zones[(0 : ZoneId)].pll.small ∧ ((0 : Int) - b1.zones[(0 : ZoneId)].pll.ref).natAbs ≤ 4 ∧ frefValid b1.zones[(0 : ZoneId)].pll.rate 737280 = true) ∧
    (b2.zones[(0 : ZoneId)].pllRuns = true ∧ b2.zones[(0 : ZoneId)].pll.lock = false ∧ b2.zones[(0 : ZoneId)].pll.hold = true ∧ b2.zones[(0 : ZoneId)].ctl.st ≠ ZSt.init ∧ (true = true ∨ b2.zones[(0 : ZoneId)].time.syncHi = false) ∧ b2.zones[(0 : ZoneId)].pll.slewing = false ∧ 15 ≤ b2.zones[(0 : ZoneId)].pll.valid ∧ frefValid b2.zones[(0 : ZoneId)].pll.rate 7680 = true) ∧
    (b3.zones[(0 : ZoneId)].pllRuns = true ∧ b3.zones[(0 : ZoneId)].pll.lock = true ∧ (true = true ∨ b3.zones[(0 : ZoneId)].time.syncHi = false)) ∧
    (b3.zones[(0 : ZoneId)].pllRuns = true ∧ b3.zones[(0 : ZoneId)].pll.lock = true ∧ b3.zones[(0 : ZoneId)].time.syncHi = true ∧ frefValid b3.zones[(0 : ZoneId)].pll.rate 7680 = true ∧ b3.zones[(0 : ZoneId)].time.est = false ∧ bit (b3.zones[(0 : ZoneId)].reg Reg.TIME_EPOCH_CTL) 0 = false) := by
  and_intros <;> decide

set_option maxRecDepth 30000 in
/-- The clauses of Holdover apply. -/
theorem test_meets_Holdover :
    Quiet b1 (0 : ZoneId) ∧
    Quiet b2 (0 : ZoneId) ∧
    Quiet b3 (0 : ZoneId) ∧
    Quiet b6 (0 : ZoneId) ∧
    (Grants b1.zones[(0 : ZoneId)] Party.host Reg.PLL_CFG) ∧
    (b2.zones[(0 : ZoneId)].ctl.st ≠ ZSt.off ∧ b2.zones[(0 : ZoneId)].ctl.st ≠ ZSt.fenced ∧ b2.zones[(0 : ZoneId)].ctl.st ≠ ZSt.init ∧ b2.zones[(0 : ZoneId)].pll.hold = true ∧ b2.zones[(0 : ZoneId)].pll.slewing = false ∧ fld (b2.zones[(0 : ZoneId)].reg Reg.PLL_HOLD) 31 16 ≠ 0 ∧ fld (b2.zones[(0 : ZoneId)].reg Reg.PLL_HOLD) 31 16 < b2.zones[(0 : ZoneId)].pll.holdTk ∧ bit (b2.zones[(0 : ZoneId)].reg Reg.FENCE_EN) 0 = true) ∧
    (b3.zones[(0 : ZoneId)].pllRuns = true ∧ b3.zones[(0 : ZoneId)].pll.lock = true ∧ b3.zones[(0 : ZoneId)].pll.slewing = false ∧ 3 * (frefD b3.zones[(0 : ZoneId)].pll.rate * 7680) < 9999999 * 2) ∧
    (b6.zones[(0 : ZoneId)].pll.slewing = true ∧ b6.zones[(0 : ZoneId)].pll.phase.natAbs ≤ 4 ∧ b6.zones[(0 : ZoneId)].slewRun = true) := by
  and_intros <;> decide

set_option maxRecDepth 30000 in
/-- The clauses of Epoch apply. -/
theorem test_meets_Epoch :
    Quiet b1 (0 : ZoneId) ∧
    Quiet b3 (0 : ZoneId) ∧
    Quiet b4 (0 : ZoneId) ∧
    Quiet b5 (0 : ZoneId) ∧
    Quiet b10 (0 : ZoneId) ∧
    Quiet b11 (0 : ZoneId) ∧
    (Grants b1.zones[(0 : ZoneId)] Party.host Reg.TIME_EPOCH_CTL ∧ bit (b1.zones[(0 : ZoneId)].reg Reg.TIME_EPOCH_CTL) 0 = false ∧ b1.zones[(0 : ZoneId)].epochE.toNat % 96 = 0) ∧
    (b3.zones[(0 : ZoneId)].time.syncHi = true ∧ b3.zones[(0 : ZoneId)].time.est = false ∧ b3.zones[(0 : ZoneId)].pllRuns = true ∧ bit (b3.zones[(0 : ZoneId)].reg Reg.TIME_EPOCH_CTL) 0 = false) ∧
    (Grants b4.zones[(0 : ZoneId)] Party.host Reg.TIME_EPOCH_CTL ∧ bit (b4.zones[(0 : ZoneId)].reg Reg.TIME_EPOCH_CTL) 0 = true) ∧
    (b5.zones[(0 : ZoneId)].time.syncHi = true ∧ b5.zones[(0 : ZoneId)].time.est = false ∧ b5.zones[(0 : ZoneId)].pllRuns = true ∧ bit (b5.zones[(0 : ZoneId)].reg Reg.TIME_EPOCH_CTL) 0 = true ∧ b5.zones[(0 : ZoneId)].pll.lock = true ∧ bit (b5.zones[(0 : ZoneId)].reg Reg.TIME_EPOCH_CTL) 1 = true) ∧
    (Grants b10.zones[(0 : ZoneId)] Party.host Reg.TIME_EPOCH_CTL ∧ bit (b10.zones[(0 : ZoneId)].reg Reg.TIME_EPOCH_CTL) 0 = false ∧ b10.zones[(0 : ZoneId)].epochE.toNat % 96 ≠ 0) ∧
    (b11.zones[(0 : ZoneId)].time.syncHi = true ∧ b11.zones[(0 : ZoneId)].time.est = false ∧ b11.zones[(0 : ZoneId)].pllRuns = true ∧ bit (b11.zones[(0 : ZoneId)].reg Reg.TIME_EPOCH_CTL) 0 = true ∧ b11.zones[(0 : ZoneId)].pll.lock = false) := by
  and_intros <;> decide

set_option maxRecDepth 30000 in
/-- The clauses of Position apply. -/
theorem test_meets_Position :
    Quiet b1 (0 : ZoneId) ∧
    Quiet b3 (0 : ZoneId) ∧
    Quiet b4 (0 : ZoneId) ∧
    Quiet b5 (0 : ZoneId) ∧
    (Grants b1.zones[(0 : ZoneId)] Party.host Reg.POS_HCMD) ∧
    (Grants b1.zones[(0 : ZoneId)] Party.host Reg.POS_CFG) ∧
    (b3.zones[(0 : ZoneId)].time.est = false ∧ b3.zones[(0 : ZoneId)].pos.mode = 0 ∧ (true = b3.zones[(0 : ZoneId)].pos.lvlA) ≠ (false = b3.zones[(0 : ZoneId)].pos.lvlB)) ∧
    (b3.zones[(0 : ZoneId)].time.est = false ∧ b3.zones[(0 : ZoneId)].pos.mode = 0 ∧ true ≠ b3.zones[(0 : ZoneId)].pos.lvlA ∧ true ≠ b3.zones[(0 : ZoneId)].pos.lvlB) ∧
    (b3.zones[(0 : ZoneId)].atTick = true ∧ b3.zones[(0 : ZoneId)].pos.mode ≤ 1 ∧ b3.zones[(0 : ZoneId)].pos.stopped = false ∧ ↑b3.zones[(0 : ZoneId)].stopFrames ≤ fdist b3.zones[(0 : ZoneId)].time.frame b3.zones[(0 : ZoneId)].pos.since) ∧
    (b4.zones[(0 : ZoneId)].atTick = true ∧ b4.zones[(0 : ZoneId)].pos.mode = 2 ∧ b4.zones[(0 : ZoneId)].pos.stale = false ∧ ↑b4.zones[(0 : ZoneId)].stopFrames ≤ fdist b4.zones[(0 : ZoneId)].time.frame b4.zones[(0 : ZoneId)].pos.since) ∧
    (b4.zones[(0 : ZoneId)].pos.hcmd = some { setpos := true, setvel := true, atTick := true, pos := (77 : BitVec 48), vel := (12345 : Int) : HCmd } ∧ ({ setpos := true, setvel := true, atTick := true, pos := (77 : BitVec 48), vel := (12345 : Int) : HCmd }.atTick = false ∨ b4.zones[(0 : ZoneId)].atTick = true)) ∧
    (b5.zones[(0 : ZoneId)].time.est = false ∧ b5.zones[(0 : ZoneId)].pos.mode = 1 ∧ b5.zones[(0 : ZoneId)].pos.lvlA = false) := by
  and_intros <;> decide

set_option maxRecDepth 30000 in
/-- The clauses of Timers apply. -/
theorem test_meets_Timers :
    Quiet b1 (0 : ZoneId) ∧
    Quiet b5 (0 : ZoneId) ∧
    (Grants b1.zones[(0 : ZoneId)] Party.host (Reg.TMR_NEXT (0 : Fin 4).val)) ∧
    (bit (b5.zones[(0 : ZoneId)].reg (Reg.TMR_CTL (0 : Fin 4).val)) 0 = true ∧ b5.zones[(0 : ZoneId)].tmr[(0 : Fin 4)].period ≤ b5.zones[(0 : ZoneId)].tmr[(0 : Fin 4)].count ∧ b5.zones[(0 : ZoneId)].time.est = false) ∧
    (Grants b5.zones[(0 : ZoneId)] Party.host (Reg.TMR_CTL (0 : Fin 4).val) ∧ bit (b5.zones[(0 : ZoneId)].reg (Reg.TMR_CTL (0 : Fin 4).val)) 0 = true) ∧
    (Grants b5.zones[(0 : ZoneId)] Party.host (Reg.TMR_CTL (2 : Fin 4).val) ∧ bit (b5.zones[(0 : ZoneId)].reg (Reg.TMR_CTL (2 : Fin 4).val)) 0 = false ∧ bit (4294967295 : Word) 0 = true ∧ b5.zones[(0 : ZoneId)].reg (Reg.TMR_NEXT (2 : Fin 4).val) ≠ (0 : Word)) := by
  and_intros <;> decide

set_option maxRecDepth 30000 in
/-- The clauses of LatchedReads apply. -/
theorem test_meets_LatchedReads :
    Quiet b1 (0 : ZoneId) ∧
    (Answers b1.zones[(0 : ZoneId)] ∧ bit (b1.zones[(0 : ZoneId)].reg Reg.TIME_CTL) 0 = false) ∧
    (Answers b1.zones[(0 : ZoneId)] ∧ bit (b1.zones[(0 : ZoneId)].reg Reg.TIME_CTL) 1 = false) := by
  and_intros <;> decide

end W02

namespace W03

def c1 := onz .run (fun z => { z with dsp := { z.dsp with running := true } })
def ent (w0 w1 : Word) : Entry := { seq := 3, e := #v[w0, w1, 0, 0, 0, 0, 0, 0], posted := 0, trig := none, before := true, past := false, tend := none, p0ctl := false }
def c2 := onz .run (fun z => ({ z with swaps := each z.swaps (fun (w : ZSwap) => { w with pend := true, target := 5 }), sched := { z.sched with queue := [ent 0x10000005 9, ent 7 8] } }.setReg Reg.SCHED_E0 0x05001234))
def c3 := onz .hold (fun z => { z with swaps := each z.swaps (fun (w : ZSwap) => { w with pend := true, target := 50, active := true }), sched := { z.sched with mode := some ⟨3, 5, 100, true⟩ }, dsp := { z.dsp with handlers := List.replicate 16 (1, 2, 3, 4), running := true } })
def c4 := onz .run (fun z => { z with swaps := each z.swaps (fun (w : ZSwap) => { w with copying := true, active := true }), sched := { z.sched with queue := List.replicate 256 (ent 5 9) }, dsp := { z.dsp with parB := [(1, 2)] }, vox := { z.vox with battB := [(1, 5)], battA := [(3, 7)] } })
def vx (l : Life) (v : Voice) : Voice := { v with life := l, st := { v.st with cls := 2, handle := 77 } }
def c5 := onz .run (fun z => { z with voices := z.voices.set 0 (vx .active z.voices[(0 : Fin 96)]) })
def vy (v : Voice) : Voice := { v with sig := { v.sig with env := each v.sig.env (fun e => { e with st := 5, e := 1000 }) } }
def c6 := onz .run (fun z => { z with voices := z.voices.set 5 (vy <| vx .active z.voices[(5 : Fin 96)]), swaps := each z.swaps (fun (w : ZSwap) => { w with active := true }) })
def c7 := hed c1 (fun h => h.setReg Reg.DEV_MODE_STATE 0x101)

set_option maxRecDepth 30000 in
/-- The clauses of SwapArming apply. -/
theorem test_meets_SwapArming :
    Quiet c1 (0 : ZoneId) ∧
    Quiet c2 (0 : ZoneId) ∧
    (Grants c1.zones[(0 : ZoneId)] Party.host (bankedPage (0 : Fin 6).val + 20) ∧ Idle c1.zones[(0 : ZoneId)] (0 : Fin 6) ∧ ((0 : Fin 6) = (1 : Fin 6) → c1.zones[(0 : ZoneId)].spliceBusy (c1.zones[(0 : ZoneId)].tgtTick (0 : BitVec 24)) = false ∧ c1.zones[(0 : ZoneId)].spliceBusy (c1.zones[(0 : ZoneId)].tick + (1 : BitVec 32)) = false ∧ (validate c1.zones[(0 : ZoneId)].routeAct c1.zones[(0 : ZoneId)].routeIn true).1 = 0)) ∧
    (Grants c2.zones[(0 : ZoneId)] Party.host (bankedPage (0 : Fin 6).val + 20) ∧ ¬Idle c2.zones[(0 : ZoneId)] (0 : Fin 6)) := by
  and_intros <;> decide

set_option maxRecDepth 30000 in
/-- The clauses of SwapDisarmAndCopy apply. -/
theorem test_meets_SwapDisarmAndCopy :
    Quiet c1 (0 : ZoneId) ∧
    Quiet c3 (0 : ZoneId) ∧
    Quiet c4 (0 : ZoneId) ∧
    (Grants c1.zones[(0 : ZoneId)] Party.host (bankedPage (0 : Fin 6).val + 20) ∧ (0 : Int) ≤ tickDist c1.zones[(0 : ZoneId)].tick c1.zones[(0 : ZoneId)].swaps[(0 : Fin 6)].target) ∧
    (Grants c3.zones[(0 : ZoneId)] Party.host (bankedPage (0 : Fin 6).val + 20) ∧ c3.zones[(0 : ZoneId)].swaps[(0 : Fin 6)].pend = true ∧ c3.zones[(0 : ZoneId)].swaps[(0 : Fin 6)].owned = false ∧ tickDist c3.zones[(0 : ZoneId)].tick c3.zones[(0 : ZoneId)].swaps[(0 : Fin 6)].target < (0 : Int)) ∧
    (c4.zones[(0 : ZoneId)].swaps[(0 : Fin 6)].copying = true) := by
  and_intros <;> decide

set_option maxRecDepth 30000 in
/-- The clauses of SwapSets apply. -/
theorem test_meets_SwapSets :
    Quiet c1 (0 : ZoneId) ∧
    Quiet c2 (0 : ZoneId) ∧
    (BitVec.getLsbD (0 : BitVec 6) 1 = false ∧ (∀ (p : Fin 6), BitVec.getLsbD (0 : BitVec 6) ↑p = true → Idle c1.zones[(0 : ZoneId)] p) ∧ Grants c1.zones[(0 : ZoneId)] Party.host Reg.SCHED_SWAPSET) ∧
    (BitVec.getLsbD (0 : BitVec 6) 1 = false ∧ (∀ (p : Fin 6), BitVec.getLsbD (0 : BitVec 6) ↑p = true → Idle c1.zones[(0 : ZoneId)] p) ∧ c1.zones[(0 : ZoneId)].live = true ∧ c1.zones[(0 : ZoneId)].ctl.st ≠ ZSt.fenced) ∧
    (BitVec.getLsbD (61 : BitVec 6) 1 = false ∧ (∃ (p : Fin 6), BitVec.getLsbD (61 : BitVec 6) ↑p = true ∧ ¬Idle c2.zones[(0 : ZoneId)] p) ∧ Grants c2.zones[(0 : ZoneId)] Party.host Reg.SCHED_SWAPSET) ∧
    (BitVec.getLsbD (61 : BitVec 6) 1 = false ∧ (∃ (p : Fin 6), BitVec.getLsbD (61 : BitVec 6) ↑p = true ∧ ¬Idle c2.zones[(0 : ZoneId)] p) ∧ c2.zones[(0 : ZoneId)].live = true) := by
  and_intros <;> decide

set_option maxRecDepth 30000 in
/-- The clauses of EventQueue apply. -/
theorem test_meets_EventQueue :
    Quiet c1 (0 : ZoneId) ∧
    Quiet c2 (0 : ZoneId) ∧
    Quiet c4 (0 : ZoneId) ∧
    (Grants c1.zones[(0 : ZoneId)] Party.host Reg.SCHED_CMD) ∧
    (Grants c2.zones[(0 : ZoneId)] Party.host Reg.SCHED_CMD ∧ c2.zones[(0 : ZoneId)].sched.queue.length < 256 ∧ fld (c2.zones[(0 : ZoneId)].reg Reg.SCHED_E0) 31 28 ≤ 3 ∧ fld (c2.zones[(0 : ZoneId)].reg Reg.SCHED_E0) 27 24 ≤ 7 ∧ (fld (c2.zones[(0 : ZoneId)].reg Reg.SCHED_E0) 27 24 = 0 → 1 ≤ fld (c2.zones[(0 : ZoneId)].reg Reg.SCHED_E0) 23 21 ∧ fld (c2.zones[(0 : ZoneId)].reg Reg.SCHED_E0) 23 21 ≤ 5) ∧ fld (c2.zones[(0 : ZoneId)].reg (Reg.SCHED_E0 + 8)) 31 16 = 0) ∧
    (Grants c4.zones[(0 : ZoneId)] Party.host Reg.SCHED_CMD ∧ 256 ≤ c4.zones[(0 : ZoneId)].sched.queue.length) := by
  and_intros <;> decide

set_option maxRecDepth 30000 in
/-- The clauses of VoiceActions apply. -/
theorem test_meets_VoiceActions :
    Quiet c1 (0 : ZoneId) ∧
    Quiet c5 (0 : ZoneId) ∧
    Quiet c6 (0 : ZoneId) ∧
    (c1.zones[(0 : ZoneId)].live = true ∧ c1.zones[(0 : ZoneId)].ctl.st = ZSt.run ∧ 1 ≤ (1 : Fin 8).val ∧ (1 : Fin 8).val ≤ 5 ∧ c1.zones[(0 : ZoneId)].mayTake (1 : Fin 8).val = true ∧ c1.zones[(0 : ZoneId)].firstFree = some (0 : Fin 96)) ∧
    (c1.zones[(0 : ZoneId)].live = true ∧ c1.zones[(0 : ZoneId)].addressed (handleOf (0 : Word)) = []) ∧
    (c5.zones[(0 : ZoneId)].live = true ∧ c5.zones[(0 : ZoneId)].addressed (handleOf (5050932 : Word)) = [(0 : Fin 96)] ∧ c5.zones[(0 : ZoneId)].voices[(0 : Fin 96)].st.cls ≠ 0 ∧ c5.zones[(0 : ZoneId)].voices[(0 : Fin 96)].life = Life.active ∧ c5.zones[(0 : ZoneId)].voices[(0 : Fin 96)].ended = false ∧ (∀ (e : Fin 4), (c5.zones[(0 : ZoneId)].voices[(0 : Fin 96)].sig.env[e].advance (envP c5.zones[(0 : ZoneId)].battAct (0 : Fin 96).val ↑e)).st ∈ [0, 6])) ∧
    (c5.zones[(0 : ZoneId)].live = true ∧ c5.zones[(0 : ZoneId)].addressed (handleOf (5050932 : Word)) = [(0 : Fin 96)] ∧ c5.zones[(0 : ZoneId)].voices[(0 : Fin 96)].st.cls ≠ 0 ∧ c5.zones[(0 : ZoneId)].voices[(0 : Fin 96)].life = Life.active ∧ c5.zones[(0 : ZoneId)].voices[(0 : Fin 96)].ended = false ∧ fld (2013265925 : Word) 31 28 ≤ 7 ∧ bit (2013265925 : Word) 27 = true) ∧
    (c5.zones[(0 : ZoneId)].live = true ∧ c5.zones[(0 : ZoneId)].addressed (handleOf (5050932 : Word)) = [(0 : Fin 96)] ∧ c5.zones[(0 : ZoneId)].voices[(0 : Fin 96)].st.cls ≠ 0 ∧ c5.zones[(0 : ZoneId)].voices[(0 : Fin 96)].life = Life.active ∧ c5.zones[(0 : ZoneId)].voices[(0 : Fin 96)].ended = false ∧ c5.zones[(0 : ZoneId)].voices[(0 : Fin 96)].sig.rel = false) ∧
    (c6.zones[(0 : ZoneId)].live = true ∧ c6.zones[(0 : ZoneId)].addressed (handleOf (5050932 : Word)) = [(5 : Fin 96)] ∧ c6.zones[(0 : ZoneId)].voices[(5 : Fin 96)].st.cls ≠ 0 ∧ c6.zones[(0 : ZoneId)].voices[(5 : Fin 96)].life = Life.active ∧ c6.zones[(0 : ZoneId)].voices[(5 : Fin 96)].ended = false ∧ (∃ (e : Fin 4), (c6.zones[(0 : ZoneId)].voices[(5 : Fin 96)].sig.env[e].advance (envP c6.zones[(0 : ZoneId)].battAct (5 : Fin 96).val ↑e)).st ∉ [0, 6])) := by
  and_intros <;> decide

set_option maxRecDepth 30000 in
/-- The clauses of ScheduledActions apply. -/
theorem test_meets_ScheduledActions :
    Quiet c1 (0 : ZoneId) ∧
    Quiet c2 (0 : ZoneId) ∧
    Quiet c3 (0 : ZoneId) ∧
    (c1.zones[(0 : ZoneId)].live = true ∧ c1.zones[(0 : ZoneId)].sched.mode = none ∧ bit (0 : Word) 1 = false ∧ bit (0 : Word) 31 = false ∧ (∀ (p : Fin 6), bit (0 : Word) ↑p = true → Idle c1.zones[(0 : ZoneId)] p)) ∧
    (c1.zones[(0 : ZoneId)].live = true ∧ fld (0 : Word) 11 0 = (0 : Fin 64).val) ∧
    (c1.zones[(0 : ZoneId)].live = true ∧ 64 ≤ fld (4294967295 : Word) 11 0) ∧
    (c1.zones[(0 : ZoneId)].live = true ∧ c1.zones[(0 : ZoneId)].dsp.running = true ∧ c1.zones[(0 : ZoneId)].dsp.handlers.length < 16) ∧
    (c2.zones[(0 : ZoneId)].live = true ∧ (c2.zones[(0 : ZoneId)].dsp.running = false ∨ 16 ≤ c2.zones[(0 : ZoneId)].dsp.handlers.length)) ∧
    (c3.zones[(0 : ZoneId)].live = true ∧ c3.zones[(0 : ZoneId)].sched.mode ≠ none) := by
  and_intros <;> decide

set_option maxRecDepth 30000 in
/-- The clauses of DeviceModes apply. -/
theorem test_meets_DeviceModes :
    Quiet c1 (0 : ZoneId) ∧
    Quiet c3 (0 : ZoneId) ∧
    Quiet c7 (0 : ZoneId) ∧
    (HostOpen c1 0 ∧ BitVec.toNat (1 : Byte) = 2 ^ (0 : ZoneId).val ∧ fld (c1.host.reg Reg.DEV_MODE_STATE) 1 0 ≠ 1 ∧ c1.zones[(0 : ZoneId)].ctl.st ≠ ZSt.off ∧ c1.zones[(0 : ZoneId)].ctl.st ≠ ZSt.fenced ∧ c1.zones[(0 : ZoneId)].sched.mode = none ∧ BitVec.getLsbD (0 : BitVec 6) 1 = false ∧ (∀ (p : Fin 6), BitVec.getLsbD (0 : BitVec 6) ↑p = true → Idle c1.zones[(0 : ZoneId)] p)) ∧
    (HostOpen c3 0 ∧ BitVec.toNat (1 : Byte) = 2 ^ (0 : ZoneId).val ∧ c3.zones[(0 : ZoneId)].sched.mode = some { mode := 3, pages := (5 : BitVec 6), target := (100 : BitVec 32), dev := true : ModePend } ∧ tickDist c3.zones[(0 : ZoneId)].tick { mode := 3, pages := (5 : BitVec 6), target := (100 : BitVec 32), dev := true : ModePend }.target < (0 : Int)) ∧
    (HostOpen c7 0 ∧ BitVec.toNat (1 : Byte) = 2 ^ (0 : ZoneId).val ∧ fld (c7.host.reg Reg.DEV_MODE_STATE) 1 0 = 1) := by
  and_intros <;> decide

end W03

namespace W04

def bg (z : Zone) : Zone := { z with time := { z.time with began := true } }
def wst (it : Word) (l : Life) (v : Voice) : Voice := { v with life := l, st := { v.st with cls := 2, handle := 77, item := it, held := [0x10123456] }, ended := l == .fading, succ := if l == .fading then some { Start.none0 with cls := 3, handle := 88, note := 60 } else none }
def hI (h : HostC) : HostC := { h with cont := { h.cont with mstate := 2, items := [⟨5, 3, false, 10, 1, 288⟩, ⟨6, 4, true, 20, 2, 5184⟩, ⟨7, 4, false, 20, 2, 5184⟩] } }
def d1 := hed (onz .run (fun z => bg { z with voices := z.voices.set 0 (wst 5 .wait z.voices[(0 : Fin 96)]), cache := { z.cache with lines := [⟨3, 10, 1, []⟩], mem := [(1536, 0xABCDEF0123456789AB)] } })) hI
def d2 := hed (onz .run (fun z => bg { z with swaps := each z.swaps (fun (w : ZSwap) => { w with active := true }), voices := z.voices.set 0 (wst 9 .wait z.voices[(0 : Fin 96)]) })) hI
def d3 := hed (onz .run (fun z => bg { z with voices := z.voices.set 0 (wst 0 .fading z.voices[(0 : Fin 96)]) })) hI
def win (a b c d : Word) (w : WinSet) : WinSet := { w with vaddr := a, raddr := b, daddr := c, maddr := d, v := { w.v with p0 := 1, p1 := 2, rd := 0x123456789ABCDEF012 }, r := { w.r with p0 := 5, p1 := 6, rd := 0xF23456789ABCDEF012 } }
def d4 := onz .run (fun z => { z with winH := win 0x22123 0x22010 0x28000005 0x20007 z.winH, winP := win 0x10123 0x11010 0x40000005 0x20000007 z.winP, dsp := { z.dsp with data := [(5, 77)] }, vox := { z.vox with battB := [(0x123, 99)] } })
def d6 := onz .run (fun z => { z with dsp := { z.dsp with running := true }, winH := win 0x2003 0x1F 0x08000005 0x1FFFF z.winH, swaps := each z.swaps (fun (w : ZSwap) => { w with pend := true }), route := { z.route with splW := 5, splK := 5, g := each z.route.g (fun (g : GainReg) => { g with pend := true, wait := 5000 }), batB := [(0, 0xFF0000000000000000)] } })
def d7 := hed (onz .test id) (fun h => (hI h).setReg Reg.CONT_LOAD_ITEM 7)
def d10 := hed (onz .run (fun z => { z with cache := { z.cache with queue := [⟨0, 1, 5, 21, 0, 0, false, 0, false⟩, ⟨1, 1, 5, 21, 0, 0, false, 0, false⟩] } })) (fun h => (hI h).setReg Reg.CONT_CFG 0x1401)
def d11 := hed s0 (fun h => h.setReg Reg.CONT_CFG 0x1401)
def d9 := hed (onz .test (fun z => { z with cache := { z.cache with fenced := [4] } })) (fun h => { h with cont := { h.cont with job := some ⟨none, [1, 2, 3], [], [], false, 0, false, false⟩, mstate := 1 } })
def d12 := hed d9 (fun h => h.setReg Reg.CONT_CFG 0x1401)

set_option maxRecDepth 30000 in
/-- The clauses of VoiceCompletions apply. -/
theorem test_meets_VoiceCompletions :
    Quiet d1 (0 : ZoneId) ∧
    Quiet d2 (0 : ZoneId) ∧
    Quiet d3 (0 : ZoneId) ∧
    (d1.zones[(0 : ZoneId)].live = true ∧ d1.zones[(0 : ZoneId)].time.began = true ∧ d1.zones[(0 : ZoneId)].voices[(0 : VoiceId)].life = Life.wait ∧ d1.zones[(0 : ZoneId)].voices[(0 : VoiceId)].ended = false ∧ d1.zones[(0 : ZoneId)].presetItem d1.host d1.zones[(0 : ZoneId)].voices[(0 : VoiceId)].st.item = some { id := (5 : Word), ty := 3, enc := false, first := 10, nblk := 1, len := 288 : Item } ∧ d1.zones[(0 : ZoneId)].presetHere { id := (5 : Word), ty := 3, enc := false, first := 10, nblk := 1, len := 288 : Item } = true) ∧
    (d2.zones[(0 : ZoneId)].live = true ∧ d2.zones[(0 : ZoneId)].time.began = true ∧ d2.zones[(0 : ZoneId)].voices[(0 : VoiceId)].life = Life.wait ∧ d2.zones[(0 : ZoneId)].voices[(0 : VoiceId)].ended = false ∧ d2.zones[(0 : ZoneId)].presetItem d2.host d2.zones[(0 : ZoneId)].voices[(0 : VoiceId)].st.item = none) ∧
    (d3.zones[(0 : ZoneId)].live = true ∧ d3.zones[(0 : ZoneId)].time.began = true ∧ d3.zones[(0 : ZoneId)].voices[(0 : VoiceId)].life = Life.fading ∧ d3.zones[(0 : ZoneId)].voices[(0 : VoiceId)].ended = true ∧ d3.zones[(0 : ZoneId)].voices[(0 : VoiceId)].succ =   some     (let __src := Start.none0;     { item := __src.item, cls := 3, handle := (88 : BitVec 16), note := 60, vel := __src.vel, dl := __src.dl, held := __src.held, cnt := __src.cnt : Start }) ∧ (let __src := Start.none0;     { item := __src.item, cls := 3, handle := (88 : BitVec 16), note := 60, vel := __src.vel, dl := __src.dl, held := __src.held, cnt := __src.cnt : Start }).item =   (0 : Word)) := by
  and_intros <;> decide

set_option maxRecDepth 30000 in
/-- The clauses of WindowWrites apply. -/
theorem test_meets_WindowWrites :
    Quiet d1 (0 : ZoneId) ∧
    Quiet d4 (0 : ZoneId) ∧
    Quiet d6 (0 : ZoneId) ∧
    (Grants d1.zones[(0 : ZoneId)] Party.host Reg.VWIN_DATA ∧ Alone d1 (0 : ZoneId) Party.host Reg.VWIN_DATA ∧ Idle d1.zones[(0 : ZoneId)] (0 : Fin 6) ∧ winPart (d1.zones[(0 : ZoneId)].win Party.host).vaddr 12 ≠ 2) ∧
    (Grants d1.zones[(0 : ZoneId)] Party.host Reg.RWIN_DATA ∧ Alone d1 (0 : ZoneId) Party.host Reg.RWIN_DATA ∧ Idle d1.zones[(0 : ZoneId)] (1 : Fin 6) ∧ winPart (d1.zones[(0 : ZoneId)].win Party.host).raddr 12 ≠ 2) ∧
    (Grants d1.zones[(0 : ZoneId)] Party.host Reg.DWIN_DATA ∧ Alone d1 (0 : ZoneId) Party.host Reg.DWIN_DATA ∧ fld (d1.zones[(0 : ZoneId)].win Party.host).daddr 31 30 = 0 ∧ d1.zones[(0 : ZoneId)].dsp.running = false ∧ bit (d1.zones[(0 : ZoneId)].reg Reg.DSP_CTL) 0 = false ∧ winPart (d1.zones[(0 : ZoneId)].win Party.host).daddr 26 ≠ 2) ∧
    (Grants d4.zones[(0 : ZoneId)] Party.host Reg.VWIN_DATA ∧ Alone d4 (0 : ZoneId) Party.host Reg.VWIN_DATA ∧ Idle d4.zones[(0 : ZoneId)] (0 : Fin 6) ∧ winPart (d4.zones[(0 : ZoneId)].win Party.host).vaddr 12 = 2 ∧ fld (d4.zones[(0 : ZoneId)].win Party.host).vaddr 11 0 < 3072) ∧
    (Grants d4.zones[(0 : ZoneId)] Party.host Reg.RWIN_DATA ∧ Alone d4 (0 : ZoneId) Party.host Reg.RWIN_DATA ∧ Idle d4.zones[(0 : ZoneId)] (1 : Fin 6) ∧ winPart (d4.zones[(0 : ZoneId)].win Party.host).raddr 12 = 2 ∧ fld (d4.zones[(0 : ZoneId)].win Party.host).raddr 11 0 < 576) ∧
    (Grants d4.zones[(0 : ZoneId)] Party.host Reg.DWIN_DATA ∧ Alone d4 (0 : ZoneId) Party.host Reg.DWIN_DATA ∧ fld (d4.zones[(0 : ZoneId)].win Party.host).daddr 31 30 = 0 ∧ d4.zones[(0 : ZoneId)].dsp.running = false ∧ bit (d4.zones[(0 : ZoneId)].reg Reg.DSP_CTL) 0 = false ∧ winPart (d4.zones[(0 : ZoneId)].win Party.host).daddr 26 = 2 ∧ fld (d4.zones[(0 : ZoneId)].win Party.host).daddr 16 0 < 16384) ∧
    (Grants d6.zones[(0 : ZoneId)] Party.host Reg.VWIN_DATA ∧ ¬Idle d6.zones[(0 : ZoneId)] (0 : Fin 6)) ∧
    (Grants d6.zones[(0 : ZoneId)] Party.host Reg.DWIN_DATA ∧ fld d6.zones[(0 : ZoneId)].winH.daddr 31 30 = 0 ∧ (d6.zones[(0 : ZoneId)].dsp.running = true ∨ bit (d6.zones[(0 : ZoneId)].reg Reg.DSP_CTL) 0 = true)) := by
  and_intros <;> decide

set_option maxRecDepth 30000 in
/-- The clauses of WindowReads apply. -/
theorem test_meets_WindowReads :
    Quiet d1 (0 : ZoneId) ∧
    Quiet d4 (0 : ZoneId) ∧
    (Answers d1.zones[(0 : ZoneId)] ∧ fld (d1.zones[(0 : ZoneId)].win Party.host).vaddr 11 0 < 3072 ∧ winPart (d1.zones[(0 : ZoneId)].win Party.host).vaddr 12 = 0 ∧ d1.zones[(0 : ZoneId)].mem.mark memBatten (d1.zones[(0 : ZoneId)].battWord (0 : Fin 6) 3072 (bit (d1.zones[(0 : ZoneId)].win Party.host).vaddr 16) (fld (d1.zones[(0 : ZoneId)].win Party.host).vaddr 11 0)) = 0) ∧
    (Answers d1.zones[(0 : ZoneId)] ∧ fld (d1.zones[(0 : ZoneId)].win Party.host).raddr 11 0 < 576 ∧ winPart (d1.zones[(0 : ZoneId)].win Party.host).raddr 12 = 0 ∧ d1.zones[(0 : ZoneId)].mem.mark memRoute (d1.zones[(0 : ZoneId)].battWord (1 : Fin 6) 576 (bit (d1.zones[(0 : ZoneId)].win Party.host).raddr 16) (fld (d1.zones[(0 : ZoneId)].win Party.host).raddr 11 0)) = 0) ∧
    (Answers d1.zones[(0 : ZoneId)] ∧ winPart (d1.zones[(0 : ZoneId)].win Party.host).maddr 18 = 0 ∧ fld (d1.zones[(0 : ZoneId)].win Party.host).maddr 31 29 = 0 ∧ d1.zones[(0 : ZoneId)].mem.mark memCache (fld (d1.zones[(0 : ZoneId)].win Party.host).maddr 16 0) = 0) ∧
    (Answers d4.zones[(0 : ZoneId)] ∧ winPart (d4.zones[(0 : ZoneId)].win Party.host).vaddr 12 ≠ 0) ∧
    (Answers d4.zones[(0 : ZoneId)] ∧ fld (d4.zones[(0 : ZoneId)].win Party.prog).daddr 16 0 < 30720 ∧ winPart (d4.zones[(0 : ZoneId)].win Party.prog).daddr 26 = 0 ∧ fld (d4.zones[(0 : ZoneId)].win Party.prog).daddr 31 30 = 1 ∧ d4.zones[(0 : ZoneId)].mem.mark memData (fld (d4.zones[(0 : ZoneId)].win Party.prog).daddr 16 0) = 0) := by
  and_intros <;> decide

set_option maxRecDepth 30000 in
/-- The clauses of ContentPort apply. -/
theorem test_meets_ContentPort :
    d1.wf = true ∧
    d7.wf = true ∧
    d10.wf = true ∧
    Quiet d10 (0 : ZoneId) ∧
    d11.wf = true ∧
    d12.wf = true ∧
    (HostOpen d1 5120 ∧ d1.contBusy = true) ∧
    (HostOpen d7 5120 ∧ d7.contBusy = false) ∧
    (d10.host.pwr.pstate ≠ 2 ∧ bit (d10.host.reg Reg.CONT_CFG) 0 = true ∧ d10.slotOwn = some (0 : ZoneId) ∧ d10.zones[(0 : ZoneId)].nextFetch true = some { rank := 0, cls := 1, age := (5 : BitVec 48), blk := 21, entry := (0 : BitVec 32), voice := 0, retry := false, got := 0, hbad := false : Fetch } ∧ d10.host.itemOfBlk { rank := 0, cls := 1, age := (5 : BitVec 48), blk := 21, entry := (0 : BitVec 32), voice := 0, retry := false, got := 0, hbad := false : Fetch }.blk = some { id := (6 : Word), ty := 4, enc := true, first := 20, nblk := 2, len := 5184 : Item } ∧ d10.host.noKey { id := (6 : Word), ty := 4, enc := true, first := 20, nblk := 2, len := 5184 : Item } = true ∧ d10.zones[(0 : ZoneId)].cache.fenced = []) ∧
    (d11.host.pwr.pstate ≠ 2 ∧ bit (d11.host.reg Reg.CONT_CFG) 0 = true ∧ d11.slotOwn = none ∧ d11.host.cont.job = none ∧ d11.slotTurn = none) ∧
    (d12.host.pwr.pstate ≠ 2 ∧ bit (d12.host.reg Reg.CONT_CFG) 0 = true ∧ d12.slotOwn = none ∧ d12.host.cont.job = some { load := none, todo := [1, 2, 3], bad := [], lost := [], again := false, got := 0, hbad := false, seen := false : PortJob } ∧ { load := none, todo := [1, 2, 3], bad := [], lost := [], again := false, got := 0, hbad := false, seen := false : PortJob }.load = none ∧ { load := none, todo := [1, 2, 3], bad := [], lost := [], again := false, got := 0, hbad := false, seen := false : PortJob }.todo = [1, 2, 3]) := by
  and_intros <;> decide

set_option maxRecDepth 30000 in
/-- The clauses of Routing apply. -/
theorem test_meets_Routing :
    Quiet d1 (0 : ZoneId) ∧
    Quiet d6 (0 : ZoneId) ∧
    (Grants d1.zones[(0 : ZoneId)] Party.host Reg.ROUTE_CMD) ∧
    (Grants d1.zones[(0 : ZoneId)] Party.host Reg.ROUTE_GREQ_LO) ∧
    (Grants d1.zones[(0 : ZoneId)] Party.host Reg.STONE_CFG) ∧
    (d6.zones[(0 : ZoneId)].route.splW ≠ 0 ∧ d6.zones[(0 : ZoneId)].route.splW ≤ d6.zones[(0 : ZoneId)].route.splK) ∧
    (d6.zones[(0 : ZoneId)].route.g[(0 : Fin 64)].pend = true ∧ d6.zones[(0 : ZoneId)].zto ≤ d6.zones[(0 : ZoneId)].route.g[(0 : Fin 64)].wait) := by
  and_intros <;> decide

end W04

namespace W04c

def bg (z : Zone) : Zone := { z with time := { z.time with began := true } }
def wst (it : Word) (l : Life) (v : Voice) : Voice := { v with life := l, st := { v.st with cls := 2, handle := 77, item := it, held := [0x10123456] }, ended := l == .fading, succ := if l == .fading then some { Start.none0 with cls := 3, handle := 88, note := 60 } else none }
def hI (h : HostC) : HostC := { h with cont := { h.cont with mstate := 2, items := [⟨5, 3, false, 10, 1, 288⟩, ⟨6, 4, true, 20, 2, 5184⟩, ⟨7, 4, false, 20, 2, 5184⟩] } }
def d1 := hed (onz .run (fun z => bg { z with voices := z.voices.set 0 (wst 5 .wait z.voices[(0 : Fin 96)]), cache := { z.cache with lines := [⟨3, 10, 1, []⟩], mem := [(1536, 0xABCDEF0123456789AB)] } })) hI
def d7 := hed (onz .test id) (fun h => (hI h).setReg Reg.CONT_LOAD_ITEM 7)

set_option maxRecDepth 30000 in
/-- The clauses of Bundle apply. -/
theorem test_meets_Bundle :
    Quiet d1 (0 : ZoneId) ∧
    (HostOpen d1 5120 ∧ d1.contBusy = true) ∧
    (HostOpen d1 5120 ∧ d1.host.cont.job = none) ∧
    (HostOpen d1 5120) ∧
    (HostOpen d7 5120 ∧ d7.contBusy = false) := by
  and_intros <;> decide

end W04c

namespace W05

def dsp0 (d : ZDsp) : ZDsp := { d with
  g := Vector.replicate 64 0x9E3779B97F4A7C15F3
  acc := #v[⟨5, 0, false, 0, false, false⟩, ⟨2^71 - 1, 7, false, 1, true, false⟩, ⟨-(2^71), -3, false, -1, true, false⟩, ⟨77, 7, true, -1, true, true⟩]
  accOld := #v[⟨2^60+2^27, 0, false, 0, false, false⟩, ⟨2^71 - 1, 0, false, 1, true, false⟩, ⟨-(2^71), -3, false, -1, true, false⟩, ⟨77, 7, true, -1, true, true⟩]
  pend := [⟨1, 5, 0, 99⟩, ⟨2, 6, 1, 98⟩, ⟨2, 40, 2, 97⟩]
  lc := 3, ro := 5, q := 0x0A05, pc := 100, cycle := 50, rtn := some 3, hnum := 3 }
def e1 := onz .run (fun z => { z with dsp := dsp0 z.dsp })
def e2 := onz .run (fun z => { z with dsp := { dsp0 z.dsp with loop := some ⟨98, 100, 3, true, 3⟩, sat := true, pt := each z.dsp.pt (fun (p : Ptr) => { p with base := 512, len := 100, a := 99 }) } })
def e3 := onz .run (fun z => ({ z with dsp := { dsp0 z.dsp with loop := some ⟨98, 100, 1, false, 3⟩, running := true, lc := 0, loaded := true, pt := each z.dsp.pt (fun (p : Ptr) => { p with y := true, base := 512, len := 0, a := 99 }), stale := [(4, true)], dly := [(257,3),(299,5),(305,6)] } }.setReg Reg.DSP_CTL 7).setReg 0x3010 0xFFFF)
def e7 := onz .run (fun z => { z with dsp := { dsp0 z.dsp with loop := some ⟨98, 100, 2, false, 3⟩ } })
def e8 := onz .run (fun z => { z with dsp := { dsp0 z.dsp with loop := some ⟨98, 101, 2, false, 3⟩ } })
def e6 := onz .run (fun z => { z with dsp := { dsp0 z.dsp with rtn := none, pc := 16383, pt := each z.dsp.pt (fun (p : Ptr) => { p with y := true, base := 512, len := 0, a := 99 }) } })
def e9 := onz .run (fun z => { z with dsp := { dsp0 z.dsp with g := (dsp0 z.dsp).g.set 6 5, data := [(303, 17777), (305, 0xABCDEF0123456789AB)], pt := each z.dsp.pt (fun (p : Ptr) => { p with base := 512, len := 0, a := 99 }) } })
def e4b := onz .run (fun z => { z with dsp := { dsp0 z.dsp with reqs := List.replicate 16 ⟨0,0,0,0⟩, g := (dsp0 z.dsp).g.set 6 5 } })
def e4c := onz .run (fun z => { z with dsp := { dsp0 z.dsp with g := (dsp0 z.dsp).g.set 6 7 } })
def e10 := onz .run (fun z => (({ z with dsp := { dsp0 z.dsp with pt := each z.dsp.pt (fun (p : Ptr) => { p with base := 65530, len := 100, a := 99 }) } }).setReg Reg.DSP_CTL 4).setReg Reg.FENCE_STORM 0x20)
def e11 := onz .run (fun z => ({ z with dsp := { dsp0 z.dsp with running := true, loaded := true } }).setReg Reg.FENCE_STORM 0x20)
def e12 := onz .run (fun z => ({ z with dsp := { dsp0 z.dsp with rtn := none, handlers := [], timerEv := 0, loaded := false } }).setReg Reg.FENCE_STORM 0x20)

set_option maxRecDepth 30000 in
/-- The clauses of DspMac apply. -/
theorem test_meets_DspMac :
    Quiet e1 (0 : ZoneId) ∧
    (e1.zones[(0 : ZoneId)].dsp.guard ↑{ g := (0 : Fin 16), a := (3 : Fin 4), x := (5 : Fin 64), y := (0 : Fin 64), hx := false, hy := false : MacF }.g = true ∧ { g := (0 : Fin 16), a := (3 : Fin 4), x := (5 : Fin 64), y := (0 : Fin 64), hx := false, hy := false : MacF }.hx = false ∧ { g := (0 : Fin 16), a := (3 : Fin 4), x := (5 : Fin 64), y := (0 : Fin 64), hx := false, hy := false : MacF }.hy = false) ∧
    (e1.zones[(0 : ZoneId)].dsp.guard ↑{ g := (0 : Fin 16), a := (3 : Fin 4), x := (5 : Fin 64), y := (0 : Fin 64), hx := false, hy := false : MacF }.g = true ∧ { g := (0 : Fin 16), a := (3 : Fin 4), x := (5 : Fin 64), y := (0 : Fin 64), hx := false, hy := false : MacF }.y = (0 : Fin 64) ∧ { g := (0 : Fin 16), a := (3 : Fin 4), x := (5 : Fin 64), y := (0 : Fin 64), hx := false, hy := false : MacF }.hy = false) ∧
    (e1.zones[(0 : ZoneId)].dsp.guard ↑{ g := (0 : Fin 16), a := (0 : Fin 4), x := (0 : Fin 64), y := (0 : Fin 64), hx := false, hy := false : MacF }.g = true ∧ { g := (0 : Fin 16), a := (0 : Fin 4), x := (0 : Fin 64), y := (0 : Fin 64), hx := false, hy := false : MacF }.a = (0 : Fin 4) ∧ { g := (0 : Fin 16), a := (0 : Fin 4), x := (0 : Fin 64), y := (0 : Fin 64), hx := false, hy := false : MacF }.x = (0 : Fin 64) ∧ { g := (0 : Fin 16), a := (0 : Fin 4), x := (0 : Fin 64), y := (0 : Fin 64), hx := false, hy := false : MacF }.y = (0 : Fin 64) ∧ { g := (0 : Fin 16), a := (0 : Fin 4), x := (0 : Fin 64), y := (0 : Fin 64), hx := false, hy := false : MacF }.hx = false ∧ { g := (0 : Fin 16), a := (0 : Fin 4), x := (0 : Fin 64), y := (0 : Fin 64), hx := false, hy := false : MacF }.hy = false) := by
  and_intros <;> decide

set_option maxRecDepth 30000 in
/-- The clauses of DspAlu apply. -/
theorem test_meets_DspAlu :
    Quiet e1 (0 : ZoneId) ∧
    (e1.zones[(0 : ZoneId)].dsp.guard (0 : Fin 16).val = true) := by
  and_intros <;> decide

set_option maxRecDepth 30000 in
/-- The clauses of DspFlags apply. -/
theorem test_meets_DspFlags :
    Quiet e2 (0 : ZoneId) ∧
    (e2.zones[(0 : ZoneId)].dsp.guard (0 : Fin 16).val = true ∧ (0 : Fin 8).val < 7 ∧ true = (e2.zones[(0 : ZoneId)].dsp.rd (2 : Fin 64) == e2.zones[(0 : ZoneId)].dsp.rd (2 : Fin 64))) ∧
    (e2.zones[(0 : ZoneId)].dsp.guard (0 : Fin 16).val = true ∧ (0 : Fin 8).val < 7 ∧ true = decide (BitVec.toInt (e2.zones[(0 : ZoneId)].dsp.rd (2 : Fin 64)) ≤ BitVec.toInt (e2.zones[(0 : ZoneId)].dsp.rd (2 : Fin 64)))) ∧
    (e2.zones[(0 : ZoneId)].dsp.guard (0 : Fin 16).val = true ∧ (0 : Fin 8).val < 7 ∧ false = decide (BitVec.toInt (e2.zones[(0 : ZoneId)].dsp.rd (2 : Fin 64)) < BitVec.toInt (e2.zones[(0 : ZoneId)].dsp.rd (2 : Fin 64)))) ∧
    (e2.zones[(0 : ZoneId)].dsp.guard (0 : Fin 16).val = true ∧ (2 : Fin 64).val = (2 : Fin 4).val) := by
  and_intros <;> decide

set_option maxRecDepth 30000 in
/-- The clauses of DspControl apply. -/
theorem test_meets_DspControl :
    Quiet e1 (0 : ZoneId) ∧
    Quiet e2 (0 : ZoneId) ∧
    Quiet e3 (0 : ZoneId) ∧
    Quiet e7 (0 : ZoneId) ∧
    Quiet e8 (0 : ZoneId) ∧
    (e1.zones[(0 : ZoneId)].dsp.guard (0 : Fin 16).val = true ∧ (2047 : BitVec 11) ≠ (0 : BitVec 11) ∧ e1.zones[(0 : ZoneId)].dsp.pc + BitVec.toNat (2047 : BitVec 11) ≤ 16383 ∧ e1.zones[(0 : ZoneId)].dsp.loop = none ∧ e1.zones[(0 : ZoneId)].dsp.lc ≠ (0 : BitVec 16)) ∧
    (e1.zones[(0 : ZoneId)].dsp.guard (1 : Fin 16).val = false ∧ e1.zones[(0 : ZoneId)].dsp.loop = none) ∧
    (e2.zones[(0 : ZoneId)].dsp.guard (1 : Fin 16).val = false ∧ e2.zones[(0 : ZoneId)].dsp.loop = some { first := 98, last := 100, left := 3, rot := true, trip := 3 : DspLoop } ∧ e2.zones[(0 : ZoneId)].dsp.pc = { first := 98, last := 100, left := 3, rot := true, trip := 3 : DspLoop }.last ∧ 1 < { first := 98, last := 100, left := 3, rot := true, trip := 3 : DspLoop }.left ∧ { first := 98, last := 100, left := 3, rot := true, trip := 3 : DspLoop }.rot = true) ∧
    (e3.zones[(0 : ZoneId)].dsp.guard (1 : Fin 16).val = false ∧ e3.zones[(0 : ZoneId)].dsp.loop = some { first := 98, last := 100, left := 1, rot := false, trip := 3 : DspLoop } ∧ e3.zones[(0 : ZoneId)].dsp.pc = { first := 98, last := 100, left := 1, rot := false, trip := 3 : DspLoop }.last ∧ { first := 98, last := 100, left := 1, rot := false, trip := 3 : DspLoop }.left ≤ 1) ∧
    (e7.zones[(0 : ZoneId)].dsp.guard (1 : Fin 16).val = false ∧ e7.zones[(0 : ZoneId)].dsp.loop = some { first := 98, last := 100, left := 2, rot := false, trip := 3 : DspLoop } ∧ e7.zones[(0 : ZoneId)].dsp.pc = { first := 98, last := 100, left := 2, rot := false, trip := 3 : DspLoop }.last ∧ 1 < { first := 98, last := 100, left := 2, rot := false, trip := 3 : DspLoop }.left ∧ { first := 98, last := 100, left := 2, rot := false, trip := 3 : DspLoop }.rot = false) ∧
    (e8.zones[(0 : ZoneId)].dsp.guard (1 : Fin 16).val = false ∧ e8.zones[(0 : ZoneId)].dsp.loop = some { first := 98, last := 101, left := 2, rot := false, trip := 3 : DspLoop } ∧ e8.zones[(0 : ZoneId)].dsp.pc ≠ { first := 98, last := 101, left := 2, rot := false, trip := 3 : DspLoop }.last) := by
  and_intros <;> decide

set_option maxRecDepth 30000 in
/-- The clauses of DspMemory apply. -/
theorem test_meets_DspMemory :
    Quiet e2 (0 : ZoneId) ∧
    Quiet e3 (0 : ZoneId) ∧
    Quiet e6 (0 : ZoneId) ∧
    Quiet e9 (0 : ZoneId) ∧
    (e2.zones[(0 : ZoneId)].dsp.guard (0 : Fin 16).val = true ∧ e2.zones[(0 : ZoneId)].dsp.pt[fin 8 (BitVec.toNat (7 : BitVec 3))].addr = some 611 ∧ e2.zones[(0 : ZoneId)].dsp.pt[fin 8 (BitVec.toNat (7 : BitVec 3))].y = false ∧ e2.zones[(0 : ZoneId)].mem.mark memData (e2.zones[(0 : ZoneId)].dPhys (611 / 2 : Nat)) = 0) ∧
    (e2.zones[(0 : ZoneId)].dsp.guard (0 : Fin 16).val = true ∧ e2.zones[(0 : ZoneId)].dsp.pt[fin 8 (BitVec.toNat (7 : BitVec 3))].addr = some 611 ∧ e2.zones[(0 : ZoneId)].dsp.pt[fin 8 (BitVec.toNat (7 : BitVec 3))].y = false ∧ (611 / 2 : Nat) < 30720) ∧
    (e3.zones[(0 : ZoneId)].dsp.guard (0 : Fin 16).val = true ∧ e3.zones[(0 : ZoneId)].dsp.pt[fin 8 (BitVec.toNat (7 : BitVec 3))].addr = some 611 ∧ e3.zones[(0 : ZoneId)].dsp.pt[fin 8 (BitVec.toNat (7 : BitVec 3))].y = true ∧ e3.zones[(0 : ZoneId)].dsp.isStale ((611 / 2 : Nat) / 64) = true) ∧
    (e6.zones[(0 : ZoneId)].dsp.guard (0 : Fin 16).val = true ∧ e6.zones[(0 : ZoneId)].dsp.pt[fin 8 (BitVec.toNat (7 : BitVec 3))].addr = some 611 ∧ e6.zones[(0 : ZoneId)].dsp.pt[fin 8 (BitVec.toNat (7 : BitVec 3))].y = true ∧ e6.zones[(0 : ZoneId)].dsp.isStale ((611 / 2 : Nat) / 64) = false) ∧
    (e9.zones[(0 : ZoneId)].dsp.guard (0 : Fin 16).val = true ∧ e9.zones[(0 : ZoneId)].dsp.pt[fin 8 (BitVec.toNat (7 : BitVec 3))].addr = some 611 ∧ 1 ≤ BitVec.toNat (e9.zones[(0 : ZoneId)].dsp.rd (6 : Fin 64)) % 2 ^ 18 ∧ BitVec.toNat (e9.zones[(0 : ZoneId)].dsp.rd (6 : Fin 64)) % 2 ^ 18 ≤ e9.zones[(0 : ZoneId)].dsp.pt[fin 8 (BitVec.toNat (7 : BitVec 3))].a ∧ (e9.zones[(0 : ZoneId)].dsp.pt[fin 8 (BitVec.toNat (7 : BitVec 3))].len = 0 ∨ BitVec.toNat (e9.zones[(0 : ZoneId)].dsp.rd (6 : Fin 64)) % 2 ^ 18 < e9.zones[(0 : ZoneId)].dsp.pt[fin 8 (BitVec.toNat (7 : BitVec 3))].len) ∧ e9.zones[(0 : ZoneId)].dsp.pt[fin 8 (BitVec.toNat (7 : BitVec 3))].beyond = false ∧ e9.zones[(0 : ZoneId)].dsp.pt[fin 8 (BitVec.toNat (7 : BitVec 3))].y = false ∧ e9.zones[(0 : ZoneId)].mem.mark memData (e9.zones[(0 : ZoneId)].dPhys ((e9.zones[(0 : ZoneId)].dsp.pt[fin 8 (BitVec.toNat (7 : BitVec 3))].baseOf + e9.zones[(0 : ZoneId)].dsp.pt[fin 8 (BitVec.toNat (7 : BitVec 3))].a - BitVec.toNat (e9.zones[(0 : ZoneId)].dsp.rd (6 : Fin 64)) % 2 ^ 18) / 2)) = 0) := by
  and_intros <;> decide

set_option maxRecDepth 30000 in
/-- The clauses of DspIo apply. -/
theorem test_meets_DspIo :
    Quiet e1 (0 : ZoneId) ∧
    Quiet e4b (0 : ZoneId) ∧
    Quiet e4c (0 : ZoneId) ∧
    (e1.zones[(0 : ZoneId)].dsp.guard (0 : Fin 16).val = true ∧ ioReads (BitVec.toNat (6 : BitVec 8)) = true ∧ (6 : BitVec 8) ≠ (153 : BitVec 8) ∧ BitVec.toNat (6 : BitVec 8) = (6 : Fin 64).val) ∧
    (e1.zones[(0 : ZoneId)].dsp.guard (0 : Fin 16).val = true ∧ ioReads (BitVec.toNat (70 : BitVec 8)) = true ∧ (70 : BitVec 8) ≠ (153 : BitVec 8) ∧ BitVec.toNat (70 : BitVec 8) = 64 + (6 : Fin 64).val) ∧
    (e1.zones[(0 : ZoneId)].dsp.guard (0 : Fin 16).val = true ∧ ioReads (BitVec.toNat (136 : BitVec 8)) = true ∧ (136 : BitVec 8) ≠ (153 : BitVec 8)) ∧
    (e1.zones[(0 : ZoneId)].dsp.guard (0 : Fin 16).val = true ∧ ioReads (BitVec.toNat (137 : BitVec 8)) = true ∧ (137 : BitVec 8) ≠ (153 : BitVec 8)) ∧
    (e1.zones[(0 : ZoneId)].dsp.guard (0 : Fin 16).val = true ∧ ioReads (BitVec.toNat (138 : BitVec 8)) = true ∧ (138 : BitVec 8) ≠ (153 : BitVec 8)) ∧
    (e1.zones[(0 : ZoneId)].dsp.guard (0 : Fin 16).val = true ∧ ioReads (BitVec.toNat (139 : BitVec 8)) = true ∧ (139 : BitVec 8) ≠ (153 : BitVec 8)) ∧
    (e1.zones[(0 : ZoneId)].dsp.guard (0 : Fin 16).val = true ∧ ioReads (BitVec.toNat (144 : BitVec 8)) = true ∧ (144 : BitVec 8) ≠ (153 : BitVec 8)) ∧
    (e1.zones[(0 : ZoneId)].dsp.guard (0 : Fin 16).val = true ∧ ioReads (BitVec.toNat (145 : BitVec 8)) = true ∧ (145 : BitVec 8) ≠ (153 : BitVec 8)) ∧
    (e1.zones[(0 : ZoneId)].dsp.guard (0 : Fin 16).val = true ∧ ioReads (BitVec.toNat (148 : BitVec 8)) = true ∧ (148 : BitVec 8) ≠ (153 : BitVec 8)) ∧
    (e1.zones[(0 : ZoneId)].dsp.guard (0 : Fin 16).val = true ∧ fld (BitVec.extractLsb' 0 32 (e1.zones[(0 : ZoneId)].dsp.rd (6 : Fin 64))) 3 0 ≤ 5 ∧ e1.zones[(0 : ZoneId)].dsp.reqs.length < 16) ∧
    (e4b.zones[(0 : ZoneId)].dsp.guard (0 : Fin 16).val = true ∧ fld (BitVec.extractLsb' 0 32 (e4b.zones[(0 : ZoneId)].dsp.rd (6 : Fin 64))) 3 0 ≤ 5 ∧ 16 ≤ e4b.zones[(0 : ZoneId)].dsp.reqs.length) ∧
    (e4c.zones[(0 : ZoneId)].dsp.guard (0 : Fin 16).val = true ∧ 5 < fld (BitVec.extractLsb' 0 32 (e4c.zones[(0 : ZoneId)].dsp.rd (6 : Fin 64))) 3 0) := by
  and_intros <;> decide

set_option maxRecDepth 30000 in
/-- The clauses of DspTraps apply. -/
theorem test_meets_DspTraps :
    Quiet e10 (0 : ZoneId) ∧
    Quiet e11 (0 : ZoneId) ∧
    Quiet e12 (0 : ZoneId) ∧
    (e10.zones[(0 : ZoneId)].ctl.bucket + 1 < fld (e10.zones[(0 : ZoneId)].reg Reg.FENCE_STORM) 7 0 ∧ e10.zones[(0 : ZoneId)].ctl.bucket < 255 ∧ bit (e10.zones[(0 : ZoneId)].reg Reg.DSP_CTL) 2 = true ∧ e10.zones[(0 : ZoneId)].dsp.rtn ≠ some 18) ∧
    (e10.zones[(0 : ZoneId)].ctl.bucket + 1 < fld (e10.zones[(0 : ZoneId)].reg Reg.FENCE_STORM) 7 0 ∧ e10.zones[(0 : ZoneId)].ctl.bucket < 255 ∧ e10.zones[(0 : ZoneId)].dsp.pt[fin 8 (BitVec.toNat (0 : BitVec 3))].addr = none ∧ Instr.ldw (0 : ZoneId) { g := (0 : Fin 16), reg := (6 : Fin 64), n := (0 : BitVec 3), aux := (0 : BitVec 8) : MemF } ∈ [Instr.ldw (0 : ZoneId) { g := (0 : Fin 16), reg := (6 : Fin 64), n := (0 : BitVec 3), aux := (0 : BitVec 8) : MemF }, Instr.stw (0 : ZoneId) { g := (0 : Fin 16), reg := (6 : Fin 64), n := (0 : BitVec 3), aux := (0 : BitVec 8) : MemF }, Instr.lde (0 : ZoneId) { g := (0 : Fin 16), reg := (6 : Fin 64), n := (0 : BitVec 3), aux := (0 : BitVec 8) : MemF }, Instr.ste (0 : ZoneId) { g := (0 : Fin 16), reg := (6 : Fin 64), n := (0 : BitVec 3), aux := (0 : BitVec 8) : MemF }]) ∧
    (Grants e10.zones[(0 : ZoneId)] Party.host Reg.DSP_CTL ∧ (e10.zones[(0 : ZoneId)].dsp.loaded = true ∨ bit (0 : Word) 0 = false)) ∧
    (Grants e10.zones[(0 : ZoneId)] Party.host Reg.DSP_CTL ∧ e10.zones[(0 : ZoneId)].dsp.loaded = false ∧ bit (1 : Word) 0 = true) ∧
    (e11.zones[(0 : ZoneId)].ctl.bucket + 1 < fld (e11.zones[(0 : ZoneId)].reg Reg.FENCE_STORM) 7 0 ∧ e11.zones[(0 : ZoneId)].ctl.bucket < 255 ∧ bit (e11.zones[(0 : ZoneId)].reg Reg.DSP_CTL) 2 = false ∧ Instr.anop (0 : ZoneId) { g := (0 : Fin 16), arg := (1 : BitVec 15) : AluF } ∈ [Instr.anop (0 : ZoneId) { g := { g := (0 : Fin 16), arg := (0 : BitVec 15) : AluF }.g, arg := (1 : BitVec 15) : AluF }, Instr.rdacc (0 : ZoneId) (aluOf { g := (0 : Fin 16), arg := (0 : BitVec 15) : AluF }.g (5 : Fin 64) (4 : Fin 64) (0 : Fin 8)), Instr.cmpeq (0 : ZoneId) (aluOf { g := (0 : Fin 16), arg := (0 : BitVec 15) : AluF }.g (1 : Fin 64) (2 : Fin 64) (7 : Fin 8)), Instr.macMnop (0 : ZoneId) { g := { g := (0 : Fin 16), arg := (0 : BitVec 15) : AluF }.g, a := (1 : Fin 4), x := (0 : Fin 64), y := (0 : Fin 64), hx := false, hy := false : MacF }, Instr.loop (0 : ZoneId) { g := { g := (0 : Fin 16), arg := (0 : BitVec 15) : AluF }.g, arg := (0 : BitVec 15) : AluF }, Instr.br (0 : ZoneId) { g := { g := (0 : Fin 16), arg := (0 : BitVec 15) : AluF }.g, arg := (16384 : BitVec 15) : AluF }, Instr.ldw (0 : ZoneId) { g := { g := (0 : Fin 16), arg := (0 : BitVec 15) : AluF }.g, reg := (0 : Fin 64), n := (0 : BitVec 3), aux := (128 : BitVec 8) : MemF }, Instr.ioRead (0 : ZoneId) { g := { g := (0 : Fin 16), arg := (0 : BitVec 15) : AluF }.g, reg := (0 : Fin 64), nHi := (0 : BitVec 2), aux := (128 : BitVec 8) : IoF }, Instr.ioWrite (0 : ZoneId) { g := { g := (0 : Fin 16), arg := (0 : BitVec 15) : AluF }.g, reg := (0 : Fin 64), nHi := (0 : BitVec 2), aux := (0 : BitVec 8) : IoF }, Instr.pts (0 : ZoneId) { g := { g := (0 : Fin 16), arg := (0 : BitVec 15) : AluF }.g, reg := (0 : Fin 64), n := (0 : BitVec 3), aux := (8 : BitVec 8) : MemF }, Instr.memMnop (0 : ZoneId) { g := { g := (0 : Fin 16), arg := (0 : BitVec 15) : AluF }.g, reg := (1 : Fin 64), n := (0 : BitVec 3), aux := (0 : BitVec 8) : MemF }]) ∧
    (e11.zones[(0 : ZoneId)].ctl.bucket + 1 < fld (e11.zones[(0 : ZoneId)].reg Reg.FENCE_STORM) 7 0 ∧ e11.zones[(0 : ZoneId)].ctl.bucket < 255 ∧ e11.zones[(0 : ZoneId)].dsp.running = true ∧ e11.zones[(0 : ZoneId)].live = true ∧ e11.zones[(0 : ZoneId)].dsp.dead = false ∧ e11.zones[(0 : ZoneId)].dsp.rtn ≠ none) ∧
    (e12.zones[(0 : ZoneId)].dsp.rtn = none ∧ e12.zones[(0 : ZoneId)].dsp.timerEv = (0 : BitVec 4) ∧ e12.zones[(0 : ZoneId)].dsp.handlers = []) := by
  and_intros <;> decide

end W05

namespace W06a

def f2 := stz .fenced (fun z => (z.setReg Reg.FENCE_CAUSE 0x011).setReg Reg.FENCE_FIRST 1)
def f3 := onz .run (fun z => (z.setReg Reg.ZCRC_CFG 0x8000031F).setReg Reg.ZCRC_CUR 0x12345678)
def f1 := stz .off (fun z => z.setReg Reg.ZCTL_CFG 0xFFFFFFFF)

set_option maxRecDepth 30000 in
/-- The clauses of SeveralCauses apply. -/
theorem test_meets_SeveralCauses :
    Quiet f2 (0 : ZoneId) ∧
    Quiet f3 (0 : ZoneId) ∧
    (f2.zones[(0 : ZoneId)].ctl.st = ZSt.fenced) ∧
    (f3.zones[(0 : ZoneId)].ctl.st ≠ ZSt.off ∧ f3.zones[(0 : ZoneId)].ctl.st ≠ ZSt.fenced ∧ (1 : Fin 1024).val ≠ 0 ∧ f3.zones[(0 : ZoneId)].arising (1 : Fin 1024).val = (1 : Fin 1024).val ∧ (1 : Fin 1024).val &&& f3.zones[(0 : ZoneId)].fenceEn = (1 : Fin 1024).val) ∧
    (f3.zones[(0 : ZoneId)].ctl.st ≠ ZSt.off ∧ f3.zones[(0 : ZoneId)].ctl.st ≠ ZSt.fenced ∧ f3.zones[(0 : ZoneId)].tripArmed = true) := by
  and_intros <;> decide

set_option maxRecDepth 30000 in
/-- The clauses of StuckAccumulator apply. -/
theorem test_meets_StuckAccumulator :
    (-(2 : Int) ^ 71 ≤ { val := (2 : Int) ^ 71 - (1 : Int), wrap := (7 : Int), stuck := false, ldir := (1 : Int), aov := true, lost := false : AccSt }.val + (1 : Int) - (1 : Int) * (2 : Int) ^ 72 ∧ { val := (2 : Int) ^ 71 - (1 : Int), wrap := (7 : Int), stuck := false, ldir := (1 : Int), aov := true, lost := false : AccSt }.val + (1 : Int) - (1 : Int) * (2 : Int) ^ 72 < (2 : Int) ^ 71 ∧ (1 : Int) ≠ (0 : Int) ∧ { val := (2 : Int) ^ 71 - (1 : Int), wrap := (7 : Int), stuck := false, ldir := (1 : Int), aov := true, lost := false : AccSt }.stuck = false ∧ ({ val := (2 : Int) ^ 71 - (1 : Int), wrap := (7 : Int), stuck := false, ldir := (1 : Int), aov := true, lost := false : AccSt }.wrap + (1 : Int) < (-7 : Int) ∨ (7 : Int) < { val := (2 : Int) ^ 71 - (1 : Int), wrap := (7 : Int), stuck := false, ldir := (1 : Int), aov := true, lost := false : AccSt }.wrap + (1 : Int))) ∧
    (-(2 : Int) ^ 71 ≤ { val := (77 : Int), wrap := (7 : Int), stuck := true, ldir := (-1 : Int), aov := true, lost := true : AccSt }.val + (2 : Int) ^ 71 - (1 : Int) * (2 : Int) ^ 72 ∧ { val := (77 : Int), wrap := (7 : Int), stuck := true, ldir := (-1 : Int), aov := true, lost := true : AccSt }.val + (2 : Int) ^ 71 - (1 : Int) * (2 : Int) ^ 72 < (2 : Int) ^ 71 ∧ (1 : Int) ≠ (0 : Int) ∧ { val := (77 : Int), wrap := (7 : Int), stuck := true, ldir := (-1 : Int), aov := true, lost := true : AccSt }.stuck = true) := by
  and_intros <;> decide

set_option maxRecDepth 30000 in
/-- The clauses of ControlPagesAnswer apply. -/
theorem test_meets_ControlPagesAnswer :
    Quiet f1 (0 : ZoneId) ∧
    (Reg.ZCTL_CFG ∈ [Reg.ZCTL_CFG, Reg.FENCE_EN, Reg.FENCE_CAUSE, Reg.FENCE_PEND, Reg.FENCE_FIRST, Reg.FENCE_FIRST_FRAME, Reg.FENCE_ACT, Reg.FENCE_VERDICT]) ∧
    (f1.zones[(0 : ZoneId)].lockH 0 = false) ∧
    (f1.zones[(0 : ZoneId)].lockH 1024 = false) := by
  and_intros <;> decide

end W06a

namespace W06b

def f3 := onz .run (fun z => (z.setReg Reg.ZCRC_CFG 0x8000031F).setReg Reg.ZCRC_CUR 0x12345678)

set_option maxRecDepth 30000 in
/-- The clauses of CheckValueOwner apply. -/
theorem test_meets_CheckValueOwner :
    Quiet f3 (0 : ZoneId) ∧
    (Grants f3.zones[(0 : ZoneId)] Party.host Reg.ZCRC_CFG ∧ f3.zones[(0 : ZoneId)].covered = false ∧ Reg.ZCRC_CUR ∈ [Reg.ZCRC_CFG, Reg.ZCRC_POLY, Reg.ZCRC_INIT, Reg.ZCRC_XOROUT, Reg.ZCRC_CUR, Reg.ZCRC_RES]) ∧
    (Grants f3.zones[(0 : ZoneId)] Party.prog Reg.ZCRC_CFG ∧ bit (f3.zones[(0 : ZoneId)].reg Reg.ZCRC_CFG) 31 ≠ (Party.prog == Party.host) ∧ Reg.ZCRC_DATA8 ∈ [Reg.ZCRC_DATA8, Reg.ZCRC_DATA16, Reg.ZCRC_DATA32, Reg.ZCRC_CUR, Reg.ZCRC_CMD, Reg.ZCRC_POLY, Reg.ZCRC_INIT, Reg.ZCRC_XOROUT] ∧ Alone f3 (0 : ZoneId) Party.prog Reg.ZCRC_DATA8) ∧
    (Grants f3.zones[(0 : ZoneId)] Party.prog Reg.ZCRC_CFG ∧ bit (f3.zones[(0 : ZoneId)].reg Reg.ZCRC_CFG) 31 ≠ (Party.prog == Party.host) ∧ Alone f3 (0 : ZoneId) Party.prog Reg.ZCRC_CFG) := by
  and_intros <;> decide

set_option maxRecDepth 30000 in
/-- The clauses of CheckValues apply. -/
theorem test_meets_CheckValues :
    Quiet f3 (0 : ZoneId) ∧
    f3.wf = true ∧
    (Grants f3.zones[(0 : ZoneId)] Party.host Reg.ZCRC_CFG ∧ bit (f3.zones[(0 : ZoneId)].reg Reg.ZCRC_CFG) 31 = (Party.host == Party.host) ∧ Alone f3 (0 : ZoneId) Party.host Reg.ZCRC_CMD) ∧
    (Grants f3.zones[(0 : ZoneId)] Party.host Reg.ZCRC_CFG ∧ bit (f3.zones[(0 : ZoneId)].reg Reg.ZCRC_CFG) 31 = (Party.host == Party.host) ∧ Alone f3 (0 : ZoneId) Party.host Reg.ZCRC_CUR) ∧
    (Grants f3.zones[(0 : ZoneId)] Party.host Reg.ZCRC_CFG ∧ bit (f3.zones[(0 : ZoneId)].reg Reg.ZCRC_CFG) 31 = (Party.host == Party.host) ∧ Alone f3 (0 : ZoneId) Party.host Reg.ZCRC_DATA8) ∧
    (Grants f3.zones[(0 : ZoneId)] Party.host Reg.ZCRC_CFG ∧ bit (f3.zones[(0 : ZoneId)].reg Reg.ZCRC_CFG) 31 = (Party.host == Party.host) ∧ Alone f3 (0 : ZoneId) Party.host Reg.ZCRC_DATA16) ∧
    (Grants f3.zones[(0 : ZoneId)] Party.host Reg.ZCRC_CFG ∧ bit (f3.zones[(0 : ZoneId)].reg Reg.ZCRC_CFG) 31 = (Party.host == Party.host) ∧ f3.zones[(0 : ZoneId)].covered = false) ∧
    (HostOpen f3 7168) := by
  and_intros <;> decide

end W06b

namespace W07a

def ch1 (a : AecCh) : AecCh := { a with w := [5, -7] ++ List.replicate 2046 0, ed := 100, ee := 0, wn := 3, wAdapt := true, copy := some [1, 2], dt := 5 }
def g1 := onz .run (fun z => { z with aec := { z.aec with ch := each z.aec.ch ch1, x := List.replicate 3071 77 }, dec := each z.dec (fun (d : ZDec) => { d with valid := true, out := 123456, winH := { d.winH with addr := 0xFF, hi := 0x80000 }, ma3 := setFld d.ma3 19 18 2 }) })
def g2 := onz .run (fun z => ({ z with aec := { z.aec with ch := each z.aec.ch (fun a => { ch1 a with clr := true, copy := none, wDt := true }), x := [3], win := 3 }, dec := each z.dec (fun (d : ZDec) => { d with ovl := true, xf := 100, xk := 100, ma3 := setFld d.ma3 19 18 2 }) }.setReg Reg.AEC_CFG 0x00000003))
def g3 := onz .run (fun z => ({ z with aec := { z.aec with ch := each z.aec.ch ch1, x := List.replicate 100 (2^34) }, dec := each z.dec (fun (d : ZDec) => { d with valid := true, out := -123456, xf := 100, xk := 5, ma3 := setFld d.ma3 19 18 2 }) }.setReg Reg.AEC_CFG 0x0000000F))

set_option maxRecDepth 30000 in
/-- The clauses of Decimators apply. -/
theorem test_meets_Decimators :
    Quiet g1 (0 : ZoneId) ∧
    Quiet g2 (0 : ZoneId) ∧
    Quiet g3 (0 : ZoneId) ∧
    (g1.zones[(0 : ZoneId)].chainOn = true ∧ g1.zones[(0 : ZoneId)].dec[(0 : Fin 4)].ovl = false) ∧
    (Grants g1.zones[(0 : ZoneId)] Party.host (Reg.DEC_CMD (0 : Fin 4).val)) ∧
    (Grants g1.zones[(0 : ZoneId)] Party.host (Reg.DEC_CDATA_LO (0 : Fin 4).val) ∧ g1.zones[(0 : ZoneId)].dec[(0 : Fin 4)].xf = 0 ∧ bit g1.zones[(0 : ZoneId)].dec[(0 : Fin 4)].winH.addr 6 ≠ g1.zones[(0 : ZoneId)].dec[(0 : Fin 4)].bank) ∧
    (Answers g1.zones[(0 : ZoneId)]) ∧
    (Grants g1.zones[(0 : ZoneId)] Party.host (Reg.DEC_FREQ (0 : Fin 4).val)) ∧
    (g2.zones[(0 : ZoneId)].chainOn = true ∧ g2.zones[(0 : ZoneId)].dec[(0 : Fin 4)].ovl = true) ∧
    (Grants g2.zones[(0 : ZoneId)] Party.host (Reg.DEC_CDATA_LO (0 : Fin 4).val) ∧ (g2.zones[(0 : ZoneId)].dec[(0 : Fin 4)].xf ≠ 0 ∨ bit g2.zones[(0 : ZoneId)].dec[(0 : Fin 4)].winH.addr 6 = g2.zones[(0 : ZoneId)].dec[(0 : Fin 4)].bank)) ∧
    (g2.zones[(0 : ZoneId)].dec[(0 : Fin 4)].xf ≠ 0 ∧ g2.zones[(0 : ZoneId)].dec[(0 : Fin 4)].xf ≤ g2.zones[(0 : ZoneId)].dec[(0 : Fin 4)].xk) ∧
    (g3.zones[(0 : ZoneId)].dec[(0 : Fin 4)].xk < g3.zones[(0 : ZoneId)].dec[(0 : Fin 4)].xf) := by
  and_intros <;> decide

end W07a

namespace W07b

def ch1 (a : AecCh) : AecCh := { a with w := [5, -7] ++ List.replicate 2046 0, ed := 100, wEnd := true, ee := 0, wn := 3, wAdapt := true, copy := some [1, 2], dt := 5 }
def g1 := onz .run (fun z => { z with aec := { z.aec with ch := each z.aec.ch ch1, x := List.replicate 3071 77 }, dec := each z.dec (fun (d : ZDec) => { d with valid := true, out := 123456, winH := { d.winH with addr := 0xFF, hi := 0x80000 }, ma3 := setFld d.ma3 19 18 2 }) })
def g2 := onz .run (fun z => ({ z with aec := { z.aec with ch := each z.aec.ch (fun a => { ch1 a with clr := true, copy := none, wDt := true, dt := 1 }), x := [3], win := 3 }, dec := each z.dec (fun (d : ZDec) => { d with ovl := true, xf := 100, xk := 100, ma3 := setFld d.ma3 19 18 2 }) }.setReg Reg.AEC_CFG 0x00000003))
def g4 := onz .off (fun z => { z with aec := { z.aec with last := some 1000 } })

set_option maxRecDepth 30000 in
/-- The clauses of EchoCanceller apply. -/
theorem test_meets_EchoCanceller :
    Quiet g1 (0 : ZoneId) ∧
    Quiet g2 (0 : ZoneId) ∧
    Quiet g4 (0 : ZoneId) ∧
    (g1.zones[(0 : ZoneId)].chainOn = true ∧ g1.zones[(0 : ZoneId)].time.frame.toNat % 4 = 0 ∧ g1.zones[(0 : ZoneId)].aec.last ≠ some g1.zones[(0 : ZoneId)].time.frame ∧ g1.zones[(0 : ZoneId)].aec.win < 1535 ∧ ((g1.zones[(0 : ZoneId)].mem.marks.all fun (p : Nat × Nat) => p.1 / 2 ^ 20 != memAec) = true) ∧ decQ (fin 4 (0 : Fin 2).val) g1.zones[(0 : ZoneId)].dec[fin 4 (0 : Fin 2).val].ma3 = 4) ∧
    (g1.zones[(0 : ZoneId)].aec.ch[(0 : Fin 2)].wEnd = true ∧ (0 : Int) < g1.zones[(0 : ZoneId)].aec.ch[(0 : Fin 2)].ed ∧ g1.zones[(0 : ZoneId)].aec.ch[(0 : Fin 2)].ee = (0 : Int)) ∧
    (g1.zones[(0 : ZoneId)].aec.ch[(0 : Fin 2)].copy = some [(1 : Int), (2 : Int)]) ∧
    (Grants g1.zones[(0 : ZoneId)] Party.host Reg.AEC_CMD) ∧
    (Answers g1.zones[(0 : ZoneId)]) ∧
    (g2.zones[(0 : ZoneId)].aec.ch[(0 : Fin 2)].dt ≤ 1) ∧
    (g2.zones[(0 : ZoneId)].aec.ch[(0 : Fin 2)].copy = none) ∧
    ((g4.zones[(0 : ZoneId)].chainOn = false ∨ g4.zones[(0 : ZoneId)].time.frame.toNat % 4 ≠ 0 ∨ g4.zones[(0 : ZoneId)].aec.last = some g4.zones[(0 : ZoneId)].time.frame)) := by
  and_intros <;> decide

end W07b

namespace W07c

def ch1 (a : AecCh) : AecCh := { a with w := [5, -7] ++ List.replicate 2046 0, ed := 100, wEnd := true, ee := 0, wn := 3, wAdapt := true, copy := some [1, 2], dt := 5 }
def g3 := onz .run (fun z => ({ z with aec := { z.aec with ch := each z.aec.ch ch1, x := List.replicate 100 (2^34) }, dec := each z.dec (fun (d : ZDec) => { d with valid := true, out := -123456, xf := 100, xk := 5, ma3 := setFld d.ma3 19 18 2 }) }.setReg Reg.AEC_CFG 0x0000000F))

set_option maxRecDepth 30000 in
/-- The clauses of EchoCanceller apply. -/
theorem test_meets_EchoCanceller :
    Quiet g3 (0 : ZoneId) ∧
    (g3.zones[(0 : ZoneId)].chainOn = true ∧ g3.zones[(0 : ZoneId)].time.frame.toNat % 4 = 0 ∧ g3.zones[(0 : ZoneId)].aec.last ≠ some g3.zones[(0 : ZoneId)].time.frame ∧ g3.zones[(0 : ZoneId)].aec.win < 1535 ∧ ((g3.zones[(0 : ZoneId)].mem.marks.all fun (p : Nat × Nat) => p.1 / 2 ^ 20 != memAec) = true) ∧ decQ (fin 4 (0 : Fin 2).val) g3.zones[(0 : ZoneId)].dec[fin 4 (0 : Fin 2).val].ma3 = 4) ∧
    (g3.zones[(0 : ZoneId)].aec.ch[(0 : Fin 2)].wEnd = true ∧ (0 : Int) < g3.zones[(0 : ZoneId)].aec.ch[(0 : Fin 2)].ed ∧ g3.zones[(0 : ZoneId)].aec.ch[(0 : Fin 2)].ee = (0 : Int)) ∧
    (g3.zones[(0 : ZoneId)].aec.ch[(0 : Fin 2)].copy = some [(1 : Int), (2 : Int)]) ∧
    (Grants g3.zones[(0 : ZoneId)] Party.host Reg.AEC_CMD) ∧
    (Answers g3.zones[(0 : ZoneId)]) := by
  and_intros <;> decide

end W07c

namespace W08

def g1 := onz .run id
def g2 := onz .run (fun z => { z with time := { z.time with frame := 24000 * 3, tk := true }, gov := { z.gov with iStart := some 500, iOk := true, iN := 24000 } }.setReg Reg.GOV_LCFG 0x80000000)
def mk (conf : Word) (v c r : Nat) (vr ir : Int) (f : Zone → Zone := id) := onz .hold (fun z => f <| ((({ z with time := { z.time with frame := 24000 * 3, tk := true }, gov := { z.gov with iStart := some 500, iOk := true, iN := 24000, vRe := vr, vIm := vr / 3, iRe := ir, iIm := -ir, verdict := v, cand := c, runLen := r } }.setReg Reg.GOV_LCFG (0x80002828 ||| conf)).setReg Reg.LINE_VSCALE 200000).setReg Reg.LINE_ISCALE 2000000).setReg Reg.GOV_ZHI 0x01000000)
def g5 := mk 0x02000000 1 1 14 (2^92) (2^92) (fun z => z.setReg Reg.FENCE_VERDICT 0xFFFFFFFC)
def amp (st : ZSt) (gam : Word) (f : ZGov → ZGov) (r : Zone → Zone := id) := onz st (fun z => r <| { z with gov := f z.gov, out := { z.out with ampen := true, ampAuto := true, cmok := true, mu := 768 } }.setReg Reg.GOV_AMP gam)
def g10 := amp .run 0x80020330 (fun g => { g with ampFlt := true, verdict := 5, ampLow := some 3000, retries := 2 })
def g13 := amp .run 0x80020330 (fun g => { g with measured := true, verdict := 1, zRep := 77 })
def g15 := amp .test 0x80020330 id
def vo (l : Life) (c : Nat) : Voice := { Voice.free0 with life := l, st := { Voice.free0.st with cls := c } }
def vs : Vector Voice 96 := ((((((Vector.replicate 96 Voice.free0).set 3 (vo .active 4)).set 4 (vo .released 5)).set 5 (vo .active 3)).set 6 (vo .wait 5)).set 7 (vo .fading 4)).set 95 (vo .active 5)
def g16 := onz .hold (fun z => { z with voices := vs, gov := { z.gov with hRun := true } })
def gv (f : ZGov → ZGov) (z : Zone) : Zone := { z with gov := f z.gov }
def g18 := mk 0 0 0 0 0 0 (fun z => gv (fun g => { g with iN := 77 }) z)
def g19 := amp .run 0x80020330 (fun g => { g with ampFlt := true, verdict := 5, ampLow := none, ampLock := true, retries := 3 }) (fun z => z.setReg Reg.FENCE_VERDICT 0)

set_option maxRecDepth 30000 in
/-- The clauses of GovernorCommands apply. -/
theorem test_meets_GovernorCommands :
    Calm g1 (0 : ZoneId) ∧
    Calm g2 (0 : ZoneId) ∧
    Calm g5 (0 : ZoneId) ∧
    Calm g10 (0 : ZoneId) ∧
    Calm g13 (0 : ZoneId) ∧
    Calm g15 (0 : ZoneId) ∧
    Calm g16 (0 : ZoneId) ∧
    Calm g18 (0 : ZoneId) ∧
    Calm g19 (0 : ZoneId) ∧
    (g1.zones[(0 : ZoneId)].gov.ampFlt = false ∧ g1.zones[(0 : ZoneId)].intervalDue = false) ∧
    (g1.zones[(0 : ZoneId)].gov.ampFlt = false ∧ g1.zones[(0 : ZoneId)].ctl.st.sounds = true ∧ g1.zones[(0 : ZoneId)].gov.verdict ≠ 5 ∧ g1.zones[(0 : ZoneId)].verdictFences 5 = true ∧ bit (g1.zones[(0 : ZoneId)].reg Reg.FENCE_EN) 4 = true) ∧
    ((g1.zones[(0 : ZoneId)].gov.ampFlt = false ∨ g1.zones[(0 : ZoneId)].gov.verdict = 5) ∧ g1.zones[(0 : ZoneId)].gov.ampLow = none) ∧
    (Grants g1.zones[(0 : ZoneId)] Party.host Reg.LINE_CMD ∧ g1.zones[(0 : ZoneId)].gov.ampFlt = false ∧ (g1.zones[(0 : ZoneId)].ctl.st.sounds = false ∨ g1.zones[(0 : ZoneId)].gov.measured = false ∨ g1.zones[(0 : ZoneId)].gov.verdict ∈ [2, 3, 5, 6])) ∧
    (g2.zones[(0 : ZoneId)].verdictFences (g2.zones[(0 : ZoneId)].baseMisSet.candidate (g2.zones[(0 : ZoneId)].lineMeas (g2.zones[(0 : ZoneId)].rws (3 : Fin 6) Reg.GOV_LCFG)) (g2.zones[(0 : ZoneId)].rws (3 : Fin 6) Reg.GOV_LCFG) (g2.zones[(0 : ZoneId)].rws (3 : Fin 6) Reg.GOV_ZLO) (g2.zones[(0 : ZoneId)].rws (3 : Fin 6) Reg.GOV_ZHI)) = false → g2.zones[(0 : ZoneId)].gov.ampFlt = false ∧ g2.zones[(0 : ZoneId)].intervalDue = true ∧ g2.zones[(0 : ZoneId)].lineRuns = true ∧ g2.zones[(0 : ZoneId)].gov.iStart = some (g2.zones[(0 : ZoneId)].tick - (250 : BitVec 32)) ∧ g2.zones[(0 : ZoneId)].gov.iOk = true ∧ g2.zones[(0 : ZoneId)].gov.iN = 24000 ∧ g2.zones[(0 : ZoneId)].gov.verdict ≠ 5) ∧
    (g5.zones[(0 : ZoneId)].gov.ampFlt = false ∧ g5.zones[(0 : ZoneId)].ctl.st.sounds = true ∧ g5.zones[(0 : ZoneId)].gov.verdict ≠ 5 ∧ g5.zones[(0 : ZoneId)].verdictFences 5 = false ∧ g5.zones[(0 : ZoneId)].ampRetry ≠ 0 ∧ g5.zones[(0 : ZoneId)].gov.ampLow = none ∧ g5.zones[(0 : ZoneId)].gov.ampRel = none ∧ g5.zones[(0 : ZoneId)].gov.ampLock = false) ∧
    ((g10.zones[(0 : ZoneId)].gov.ampFlt = false ∨ g10.zones[(0 : ZoneId)].gov.verdict = 5) ∧ g10.zones[(0 : ZoneId)].gov.ampLow = some 3000 ∧ g10.zones[(0 : ZoneId)].ampRetry * 960 ≤ 3000) ∧
    (Grants g13.zones[(0 : ZoneId)] Party.host Reg.LINE_CMD ∧ g13.zones[(0 : ZoneId)].gov.ampFlt = false ∧ g13.zones[(0 : ZoneId)].ctl.st.sounds = true ∧ g13.zones[(0 : ZoneId)].gov.measured = true ∧ g13.zones[(0 : ZoneId)].gov.verdict ∈ [0, 1, 4]) ∧
    (g15.zones[(0 : ZoneId)].gov.ampFlt = false ∧ g15.zones[(0 : ZoneId)].ctl.st.sounds = false) ∧
    (g16.zones[(0 : ZoneId)].gov.ampFlt = false ∧ g16.zones[(0 : ZoneId)].ctl.st = ZSt.hold ∧ g16.zones[(0 : ZoneId)].gov.hRun = true ∧ fld (g16.zones[(0 : ZoneId)].reg Reg.GOV_HSTAT) 15 0 = 0) ∧
    (g18.zones[(0 : ZoneId)].gov.ampFlt = false ∧ g18.zones[(0 : ZoneId)].intervalDue = true ∧ g18.zones[(0 : ZoneId)].lineRuns = true ∧ (¬(g18.zones[(0 : ZoneId)].gov.iStart = some (g18.zones[(0 : ZoneId)].tick - (250 : BitVec 32)) ∧ g18.zones[(0 : ZoneId)].gov.iOk = true ∧ g18.zones[(0 : ZoneId)].gov.iN = 24000))) ∧
    (Grants g19.zones[(0 : ZoneId)] Party.host Reg.LINE_CMD ∧ g19.zones[(0 : ZoneId)].gov.ampFlt = true ∧ g19.zones[(0 : ZoneId)].gov.verdict = 5 ∧ g19.zones[(0 : ZoneId)].verdictFences 5 = false ∧ g19.zones[(0 : ZoneId)].ampRetry ≠ 0) := by
  and_intros <;> first | decide | (intros; and_intros <;> decide)

end W08

namespace W09

def ot (st : ZSt) (f : ZOut → ZOut) (r : Zone → Zone := id) := onz st (fun z => r { z with out := f { z.out with cmok := true, ampAuto := true, mu := 500 }, pwr := { z.pwr with pinHold := false, zvaReg := true } })
def o1 := ot .run id
def o2 := ot .hold (fun o => { o with seqDue := true, seqTgt := 4, seq := 2, onT := some 300 }) (fun z => z.setReg Reg.GEN_PCFG 0x80200010)
def o3 := ot .recover (fun o => { o with seqDue := true, seqTgt := 2, seq := 2, clr := true, seqCut := true, onT := some 0 })
def o4 := ot .run (fun o => { o with span := 5, seqDue := true, seqTgt := 2, seq := 2, clrHold := some 0, seqCut := true }) (fun z => { z with time := { z.time with began := true } })
def o5 := ot .test (fun o => { o with span := 4, seq := 2, clrHold := some 1, tcfg := 0x80000001 }) (fun z => { z with time := { z.time with frame := 95 } })
def o7 := ot .fenced (fun o => { o with fTicks := some 0 }) (fun z => ({ z with time := { z.time with began := true } }.setReg Reg.FENCE_ACT 1).setReg Reg.GEN_FCAD 0x00050005)

set_option maxRecDepth 30000 in
/-- The clauses of OutputCommands apply. -/
theorem test_meets_OutputCommands :
    Quiet o1 (0 : ZoneId) ∧
    Quiet o2 (0 : ZoneId) ∧
    Quiet o3 (0 : ZoneId) ∧
    Quiet o4 (0 : ZoneId) ∧
    Quiet o5 (0 : ZoneId) ∧
    Quiet o7 (0 : ZoneId) ∧
    (Grants o1.zones[(0 : ZoneId)] Party.host Reg.DAC_SPAN_CTL ∧ fld (0 : Word) 2 0 ∈ [0, 1, 2, 4, 5]) ∧
    (Grants o1.zones[(0 : ZoneId)] Party.host Reg.DAC_SPAN_CTL ∧ fld (3 : Word) 2 0 ∈ [3, 6, 7]) ∧
    (o1.zones[(0 : ZoneId)].out.seqDue = false) ∧
    (o1.zones[(0 : ZoneId)].cmReached = false) ∧
    (Grants o1.zones[(0 : ZoneId)] Party.host Reg.DAC_CTL) ∧
    (o1.zones[(0 : ZoneId)].out.clr = false) ∧
    (o1.zones[(0 : ZoneId)].out.clrHold ≠ some 0) ∧
    (Grants o1.zones[(0 : ZoneId)] Party.host Reg.GEN_PCFG) ∧
    (Grants o1.zones[(0 : ZoneId)] Party.host Reg.TDM_CFG) ∧
    (o2.zones[(0 : ZoneId)].out.seqDue = true) ∧
    (o2.zones[(0 : ZoneId)].out.onT = some 300 ∧ o2.zones[(0 : ZoneId)].onDly ≤ 300) ∧
    (o3.zones[(0 : ZoneId)].out.clr = true) ∧
    (o4.zones[(0 : ZoneId)].cmReached = true ∧ o4.zones[(0 : ZoneId)].ctl.st ≠ ZSt.off ∧ o4.zones[(0 : ZoneId)].pwr.pinHold = false ∧ o4.zones[(0 : ZoneId)].pwr.zvaReg = true ∧ o4.zones[(0 : ZoneId)].pwr.asleep = false ∧ o4.zones[(0 : ZoneId)].sleepLow = false) ∧
    (o4.zones[(0 : ZoneId)].out.clrHold = some 0) ∧
    (o5.zones[(0 : ZoneId)].tdmSlave = true ∧ Int.natAbs (0 : Int) ≤ 64) ∧
    (o5.zones[(0 : ZoneId)].tdmSlave = true ∧ 64 < Int.natAbs (65 : Int)) ∧
    (o7.zones[(0 : ZoneId)].time.began = true ∧ o7.zones[(0 : ZoneId)].burstTick = some 0) := by
  and_intros <;> decide

end W09

namespace W10

def lk (f : HostC → HostC) : State := { s0 with host := f { s0.host with pwr := { s0.host.pwr with booted := true, pstate := 0 } }, pending := [] }
def l1 := lk id
def mkId (ta ty : Nat) (bc : Nat) : Byte := let b := BitVec.ofNat 8 (bc * 128 + ta * 32 + ty * 2); if ones b % 2 = 0 then b + 1 else b
def mkF (ta ty bc : Nat) (p : List Byte) (bad : Nat := 0) : RxFrame := { t8 := 256, syncOk := true, glitches := 3, ferrs := 1, ident := mkId ta ty bc, payload := p, check := checkOf (mkId ta ty bc) p + BitVec.ofNat 16 bad }
def mkC (c : Nat) (d : List Byte) : CompatFrame := ⟨320, true, 1, 0, 0, false, d, (compatBytes 0 false c d).getLastD 0, false⟩
def tx1 : TxFrame := ⟨1, [1,2,3], [], false⟩
def tx2 : TxFrame := ⟨12, [1,2,3], [(0,5)], true⟩
def l2 := lk (fun h => { h with link := { h.link with rxBusy := true, txq := [tx1, tx2] } })
def ses : Session := { sid := 7, roles := 0, kh2d := List.replicate 16 3, kd2h := List.replicate 16 4, kconf := [], hfloor := 5, dseq := 9, hc := 100, bc := 3, dc := 1000, rekey := false }
def l3 := lk (fun h => { h with link := { h.link with rxBusy := false, txq := [tx1] }, sec := { h.sec with open0 := some ses } })
def secF (ty : Nat) (seq : Nat) (b : List Byte) (bad : Bool := false) : RxFrame := let p := natLe seq 4 ++ b; mkF 0 ty 0 (p ++ (if bad then List.replicate 8 0 else tagOf ses.kh2d ses.sid (mkId 0 ty 0) p))
def l4 := lk (fun h => { h with pwr := { h.pwr with pstate := 2 }, link := { h.link with slow := true } })
def l5 := { onz .run id with host := (lk (fun h => { h with pwr := { h.pwr with pstate := 0 }, link := { h.link with slow := true, sgArm := some 1000 } })).host }
def l6 := { onz .off id with host := (lk (fun h => { (h.setReg Reg.TRUSS_SG_LO 9600) with link := { h.link with slow := true, sgArm := some 9600 } })).host }
def l8 := lk (fun h => { h.setReg Reg.MSGQ_CFG 0xC0000064 with link := { h.link with rxBusy := true, txq := [tx2] }, proto := { h.proto with msgs := { h.proto.msgs with q := [⟨8,0,5,0,1,0,0,[],none⟩] } } })

set_option maxRecDepth 30000 in
/-- The clauses of LinkAndTruss apply. -/
theorem test_meets_LinkAndTruss :
    AllQuiet l1 ∧
    LinkFree l1 ∧
    AllQuiet l2 ∧
    LinkFree l2 ∧
    AllQuiet l3 ∧
    AllQuiet l4 ∧
    AllQuiet l5 ∧
    AllQuiet l6 ∧
    AllQuiet l8 ∧
    LinkFree l8 ∧
    (l1.host.link.rxBusy = false) ∧
    (l1.host.hearsNative = true ∧ l1.host.pwr.pstate ≠ 2 ∧ (mkF 0 3 0 [(9 : Byte), (1 : Byte), (2 : Byte), (3 : Byte), (4 : Byte)] 1).payload.length ≤ 255 ∧ l1.host.rxRate (mkF 0 3 0 [(9 : Byte), (1 : Byte), (2 : Byte), (3 : Byte), (4 : Byte)] 1) = some 5 ∧ ones (mkF 0 3 0 [(9 : Byte), (1 : Byte), (2 : Byte), (3 : Byte), (4 : Byte)] 1).ident % 2 = 1 ∧ BitVec.toNat (mkF 0 3 0 [(9 : Byte), (1 : Byte), (2 : Byte), (3 : Byte), (4 : Byte)] 1).ident < 128 ∧ BitVec.toNat (mkF 0 3 0 [(9 : Byte), (1 : Byte), (2 : Byte), (3 : Byte), (4 : Byte)] 1).ident / 32 % 4 = l1.host.link.ta.toNat ∧ (mkF 0 3 0 [(9 : Byte), (1 : Byte), (2 : Byte), (3 : Byte), (4 : Byte)] 1).check ≠ checkOf (mkF 0 3 0 [(9 : Byte), (1 : Byte), (2 : Byte), (3 : Byte), (4 : Byte)] 1).ident (mkF 0 3 0 [(9 : Byte), (1 : Byte), (2 : Byte), (3 : Byte), (4 : Byte)] 1).payload) ∧
    (FrameTaken l1 (mkF 0 1 0 [(9 : Byte)]) 5 ∧ l1.host.lcs.st ≠ 3 ∧ l1.host.proto.held.length < 4 ∧ (∀ k ∈ l1.host.proto.kept, k.check ≠ (mkF 0 1 0 [(9 : Byte)]).check) ∧ (mkF 0 1 0 [(9 : Byte)]).payload ≠ [] ∧ typeOk (BitVec.toNat (mkF 0 1 0 [(9 : Byte)]).ident / 2 % 16) = true ∧ BitVec.toNat (mkF 0 1 0 [(9 : Byte)]).ident < 128 ∧ BitVec.toNat (mkF 0 1 0 [(9 : Byte)]).ident / 32 % 4 = l1.host.link.ta.toNat ∧ (l1.host.sec.open0 = none ∨ openType false (BitVec.toNat (mkF 0 1 0 [(9 : Byte)]).ident / 2 % 16) = true) ∧ lenFits (BitVec.toNat (mkF 0 1 0 [(9 : Byte)]).ident / 2 % 16) false (List.drop 1 (mkF 0 1 0 [(9 : Byte)]).payload) = true) ∧
    (FrameTaken l1 (mkF 0 2 1 [(9 : Byte), (0 : Byte), (0 : Byte), (0 : Byte), (1 : Byte), (2 : Byte), (3 : Byte), (4 : Byte)]) 5 ∧ l1.host.lcs.st ≠ 3 ∧ l1.host.proto.held.length < 4 ∧ (∀ k ∈ l1.host.proto.kept, k.check ≠ (mkF 0 2 1 [(9 : Byte), (0 : Byte), (0 : Byte), (0 : Byte), (1 : Byte), (2 : Byte), (3 : Byte), (4 : Byte)]).check) ∧ (mkF 0 2 1 [(9 : Byte), (0 : Byte), (0 : Byte), (0 : Byte), (1 : Byte), (2 : Byte), (3 : Byte), (4 : Byte)]).payload ≠ [] ∧ typeOk (BitVec.toNat (mkF 0 2 1 [(9 : Byte), (0 : Byte), (0 : Byte), (0 : Byte), (1 : Byte), (2 : Byte), (3 : Byte), (4 : Byte)]).ident / 2 % 16) = true ∧ 128 ≤ BitVec.toNat (mkF 0 2 1 [(9 : Byte), (0 : Byte), (0 : Byte), (0 : Byte), (1 : Byte), (2 : Byte), (3 : Byte), (4 : Byte)]).ident ∧ BitVec.toNat (mkF 0 2 1 [(9 : Byte), (0 : Byte), (0 : Byte), (0 : Byte), (1 : Byte), (2 : Byte), (3 : Byte), (4 : Byte)]).ident / 32 % 4 = 0 ∧ BitVec.toNat (mkF 0 2 1 [(9 : Byte), (0 : Byte), (0 : Byte), (0 : Byte), (1 : Byte), (2 : Byte), (3 : Byte), (4 : Byte)]).ident / 2 % 16 ∈ [2, 4, 5] ∧ l1.host.sec.open0 = none ∧ lenFits (BitVec.toNat (mkF 0 2 1 [(9 : Byte), (0 : Byte), (0 : Byte), (0 : Byte), (1 : Byte), (2 : Byte), (3 : Byte), (4 : Byte)]).ident / 2 % 16) false (List.drop 1 (mkF 0 2 1 [(9 : Byte), (0 : Byte), (0 : Byte), (0 : Byte), (1 : Byte), (2 : Byte), (3 : Byte), (4 : Byte)]).payload) = true) ∧
    (CompatTaken l1 (mkC 3 []) 3 6) ∧
    (l1.host.hearsCompat = true ∧ (let __src := mkC 3 [];       { t8 := __src.t8, syncOk := __src.syncOk, glitches := __src.glitches, ferrs := __src.ferrs, ta := __src.ta, dir := __src.dir, data := __src.data, chk := (85 : Byte), collision := __src.collision : CompatFrame }).data.length ≤   64 ∧ l1.host.lswRate     (let __src := mkC 3 [];     { t8 := __src.t8, syncOk := __src.syncOk, glitches := __src.glitches, ferrs := __src.ferrs, ta := __src.ta, dir := __src.dir, data := __src.data, chk := (85 : Byte), collision := __src.collision : CompatFrame }) =   some 6 ∧ (let __src := mkC 3 [];     { t8 := __src.t8, syncOk := __src.syncOk, glitches := __src.glitches, ferrs := __src.ferrs, ta := __src.ta, dir := __src.dir, data := __src.data, chk := (85 : Byte), collision := __src.collision : CompatFrame }).dir =   false ∧ (let __src := mkC 3 [];     { t8 := __src.t8, syncOk := __src.syncOk, glitches := __src.glitches, ferrs := __src.ferrs, ta := __src.ta, dir := __src.dir, data := __src.data, chk := (85 : Byte), collision := __src.collision : CompatFrame }).ta =   l1.host.link.ta ∧ (let __src := mkC 3 [];     { t8 := __src.t8, syncOk := __src.syncOk, glitches := __src.glitches, ferrs := __src.ferrs, ta := __src.ta, dir := __src.dir, data := __src.data, chk := (85 : Byte), collision := __src.collision : CompatFrame }).collision =   false ∧ compatBytes     (let __src := mkC 3 [];       { t8 := __src.t8, syncOk := __src.syncOk, glitches := __src.glitches, ferrs := __src.ferrs, ta := __src.ta, dir := __src.dir, data := __src.data, chk := (85 : Byte), collision := __src.collision : CompatFrame }).ta     false 3     (let __src := mkC 3 [];       { t8 := __src.t8, syncOk := __src.syncOk, glitches := __src.glitches, ferrs := __src.ferrs, ta := __src.ta, dir := __src.dir, data := __src.data, chk := (85 : Byte), collision := __src.collision : CompatFrame }).data ≠   (compatBytes         (let __src := mkC 3 [];           { t8 := __src.t8, syncOk := __src.syncOk, glitches := __src.glitches, ferrs := __src.ferrs, ta := __src.ta, dir := __src.dir, data := __src.data, chk := (85 : Byte), collision := __src.collision : CompatFrame }).ta         false 3         (let __src := mkC 3 [];           { t8 := __src.t8, syncOk := __src.syncOk, glitches := __src.glitches, ferrs := __src.ferrs, ta := __src.ta, dir := __src.dir, data := __src.data, chk := (85 : Byte), collision := __src.collision : CompatFrame }).data).dropLast ++     [(let __src := mkC 3 [];         { t8 := __src.t8, syncOk := __src.syncOk, glitches := __src.glitches, ferrs := __src.ferrs, ta := __src.ta, dir := __src.dir, data := __src.data, chk := (85 : Byte), collision := __src.collision : CompatFrame }).chk]) ∧
    (CompatTaken l1 (mkC 1 [(32 : Byte), (8 : Byte), (0 : Byte), (1 : Byte), (2 : Byte), (3 : Byte), (4 : Byte)]) 1 6 ∧ 7 ≤ (mkC 1 [(32 : Byte), (8 : Byte), (0 : Byte), (1 : Byte), (2 : Byte), (3 : Byte), (4 : Byte)]).data.length ∧ ((mkC 1 [(32 : Byte), (8 : Byte), (0 : Byte), (1 : Byte), (2 : Byte), (3 : Byte), (4 : Byte)]).data.length - 3) % 4 = 0 ∧ (mkC 1 [(32 : Byte), (8 : Byte), (0 : Byte), (1 : Byte), (2 : Byte), (3 : Byte), (4 : Byte)]).data.length ≤ 63 ∧ (compatAddr (mkC 1 [(32 : Byte), (8 : Byte), (0 : Byte), (1 : Byte), (2 : Byte), (3 : Byte), (4 : Byte)]).data).toNat % 4 = 0 ∧ (l1.host.sessionless.burstRight (compatAddr (mkC 1 [(32 : Byte), (8 : Byte), (0 : Byte), (1 : Byte), (2 : Byte), (3 : Byte), (4 : Byte)]).data) (((mkC 1 [(32 : Byte), (8 : Byte), (0 : Byte), (1 : Byte), (2 : Byte), (3 : Byte), (4 : Byte)]).data.length - 3) / 4)).1 = 0 ∧ burstOk (compatAddr (mkC 1 [(32 : Byte), (8 : Byte), (0 : Byte), (1 : Byte), (2 : Byte), (3 : Byte), (4 : Byte)]).data) (((mkC 1 [(32 : Byte), (8 : Byte), (0 : Byte), (1 : Byte), (2 : Byte), (3 : Byte), (4 : Byte)]).data.length - 3) / 4) = true) ∧
    (CompatTaken l1 (mkC 1 [(32 : Byte), (8 : Byte), (0 : Byte), (1 : Byte), (2 : Byte), (3 : Byte)]) 1 6 ∧ ((mkC 1 [(32 : Byte), (8 : Byte), (0 : Byte), (1 : Byte), (2 : Byte), (3 : Byte)]).data.length < 7 ∨ ((mkC 1 [(32 : Byte), (8 : Byte), (0 : Byte), (1 : Byte), (2 : Byte), (3 : Byte)]).data.length - 3) % 4 ≠ 0 ∨ 63 < (mkC 1 [(32 : Byte), (8 : Byte), (0 : Byte), (1 : Byte), (2 : Byte), (3 : Byte)]).data.length ∨ (compatAddr (mkC 1 [(32 : Byte), (8 : Byte), (0 : Byte), (1 : Byte), (2 : Byte), (3 : Byte)]).data).toNat % 4 ≠ 0)) ∧
    (CompatTaken l1 (mkC 2 [(32 : Byte), (8 : Byte), (0 : Byte), (2 : Byte)]) 2 6 ∧ (mkC 2 [(32 : Byte), (8 : Byte), (0 : Byte), (2 : Byte)]).data.length = 4 ∧ 1 ≤ BitVec.toNat ((List.drop 3 (mkC 2 [(32 : Byte), (8 : Byte), (0 : Byte), (2 : Byte)]).data).headD (0 : Byte)) ∧ BitVec.toNat ((List.drop 3 (mkC 2 [(32 : Byte), (8 : Byte), (0 : Byte), (2 : Byte)]).data).headD (0 : Byte)) ≤ 15 ∧ (compatAddr (mkC 2 [(32 : Byte), (8 : Byte), (0 : Byte), (2 : Byte)]).data).toNat % 4 = 0 ∧ (l1.host.sessionless.readRight (readsPgId (compatAddr (mkC 2 [(32 : Byte), (8 : Byte), (0 : Byte), (2 : Byte)]).data) (BitVec.toNat ((List.drop 3 (mkC 2 [(32 : Byte), (8 : Byte), (0 : Byte), (2 : Byte)]).data).headD (0 : Byte))))).1 = 0 ∧ burstOk (compatAddr (mkC 2 [(32 : Byte), (8 : Byte), (0 : Byte), (2 : Byte)]).data) (BitVec.toNat ((List.drop 3 (mkC 2 [(32 : Byte), (8 : Byte), (0 : Byte), (2 : Byte)]).data).headD (0 : Byte))) = true) ∧
    (CompatTaken l1 (mkC 2 [(32 : Byte), (8 : Byte), (0 : Byte), (16 : Byte)]) 2 6 ∧ ((mkC 2 [(32 : Byte), (8 : Byte), (0 : Byte), (16 : Byte)]).data.length ≠ 4 ∨ BitVec.toNat ((List.drop 3 (mkC 2 [(32 : Byte), (8 : Byte), (0 : Byte), (16 : Byte)]).data).headD (0 : Byte)) = 0 ∨ 15 < BitVec.toNat ((List.drop 3 (mkC 2 [(32 : Byte), (8 : Byte), (0 : Byte), (16 : Byte)]).data).headD (0 : Byte)) ∨ (compatAddr (mkC 2 [(32 : Byte), (8 : Byte), (0 : Byte), (16 : Byte)]).data).toNat % 4 ≠ 0)) ∧
    (HostOpen l1 3072 ∧ l1.sgRefuses (fin 8 (fld (2147483648 : Word) 2 0)) (BitVec.extractLsb' 0 16 (l1.host.reg Reg.TRUSS_SG_HI) ++ l1.host.reg Reg.TRUSS_SG_LO) = true) ∧
    (l2.host.link.rxBusy = true) ∧
    (l2.host.link.txq = [tx1, tx2] ∧ l2.host.link.lmode ≠ 2 ∧ tx1.msg = false ∧ l2.host.link.oweTx = false) ∧
    (tagOf ses.kh2d ses.sid (secF 3 6 [(1 : Byte), (2 : Byte), (3 : Byte), (4 : Byte), (5 : Byte)] true).ident (List.take ((secF 3 6 [(1 : Byte), (2 : Byte), (3 : Byte), (4 : Byte), (5 : Byte)] true).payload.length - 8) (secF 3 6 [(1 : Byte), (2 : Byte), (3 : Byte), (4 : Byte), (5 : Byte)] true).payload) = List.drop ((secF 3 6 [(1 : Byte), (2 : Byte), (3 : Byte), (4 : Byte), (5 : Byte)] true).payload.length - 8) (secF 3 6 [(1 : Byte), (2 : Byte), (3 : Byte), (4 : Byte), (5 : Byte)] true).payload → FrameTaken l3 (secF 3 6 [(1 : Byte), (2 : Byte), (3 : Byte), (4 : Byte), (5 : Byte)] true) 5 ∧ l3.host.lcs.st ≠ 3 ∧ l3.host.proto.held.length < 4 ∧ (∀ k ∈ l3.host.proto.kept, k.check ≠ (secF 3 6 [(1 : Byte), (2 : Byte), (3 : Byte), (4 : Byte), (5 : Byte)] true).check) ∧ (secF 3 6 [(1 : Byte), (2 : Byte), (3 : Byte), (4 : Byte), (5 : Byte)] true).payload ≠ [] ∧ typeOk (BitVec.toNat (secF 3 6 [(1 : Byte), (2 : Byte), (3 : Byte), (4 : Byte), (5 : Byte)] true).ident / 2 % 16) = true ∧ l3.host.sec.open0 = some ses ∧ openType false (BitVec.toNat (secF 3 6 [(1 : Byte), (2 : Byte), (3 : Byte), (4 : Byte), (5 : Byte)] true).ident / 2 % 16) = false ∧ BitVec.toNat (secF 3 6 [(1 : Byte), (2 : Byte), (3 : Byte), (4 : Byte), (5 : Byte)] true).ident < 128 ∧ BitVec.toNat (secF 3 6 [(1 : Byte), (2 : Byte), (3 : Byte), (4 : Byte), (5 : Byte)] true).ident / 32 % 4 = l3.host.link.ta.toNat ∧ 13 ≤ (secF 3 6 [(1 : Byte), (2 : Byte), (3 : Byte), (4 : Byte), (5 : Byte)] true).payload.length ∧ ses.hfloor < leNat (List.take 4 (secF 3 6 [(1 : Byte), (2 : Byte), (3 : Byte), (4 : Byte), (5 : Byte)] true).payload) ∧ leNat (List.take 4 (secF 3 6 [(1 : Byte), (2 : Byte), (3 : Byte), (4 : Byte), (5 : Byte)] true).payload) ≤ ses.hc ∧ lenFits (BitVec.toNat (secF 3 6 [(1 : Byte), (2 : Byte), (3 : Byte), (4 : Byte), (5 : Byte)] true).ident / 2 % 16) true (List.drop 1 (Machine.inner (secF 3 6 [(1 : Byte), (2 : Byte), (3 : Byte), (4 : Byte), (5 : Byte)] true).payload)) = true) ∧
    (l4.host.pwr.pstate = 2 ∧ ((if true = true then l4.host.hearsCompat else l4.host.hearsNative) = true)) ∧
    (l5.host.link.sgArm = some (1000 : BitVec 48) ∧ l5.syncDue (1000 : BitVec 48) = true ∧ l5.sgZone.pll.lock = true) ∧
    (HostOpen l6 3072 ∧ l6.sgRefuses (fin 8 (fld (2147483648 : Word) 2 0)) (BitVec.extractLsb' 0 16 (l6.host.reg Reg.TRUSS_SG_HI) ++ l6.host.reg Reg.TRUSS_SG_LO) = false) ∧
    (l6.host.link.sgArm = some (9600 : BitVec 48) ∧ l6.syncDue (9600 : BitVec 48) = false) ∧
    (l8.host.link.txq = [tx2] ∧ l8.host.link.lmode ≠ 2 ∧ tx2.msg = true ∧ l8.host.link.oweTx = false) := by
  and_intros <;> first | decide | (intros; and_intros <;> decide)

end W10

namespace W11a

def lk (f : HostC → HostC) : State := { s0 with host := f { s0.host with pwr := { s0.host.pwr with booted := true, pstate := 0 } }, pending := [] }
def p1 := lk (fun h => { h with proto := { h.proto with held := [⟨2, 8, 1, false⟩, ⟨2, 9, 0x1234, false⟩, ⟨2, 9, 0x1234, true⟩] } })
def h1 : Hdr := ⟨9, 0x1234, false⟩
def h2 : Hdr := ⟨9, 0x1234, true⟩
def ev (k : Nat) : Vector Word 8 := #v[BitVec.ofNat 32 (k * 2^24 + 2^21 * 3), 5000, 0, 0, 0, 0, 0, 0]
def ses (r : Word) : Session := { sid := 7, roles := r, kh2d := List.replicate 16 3, kd2h := List.replicate 16 4, kconf := [], hfloor := 5, dseq := 9, hc := 100, bc := 3, dc := 1000, rekey := false }
def p2 := { onz .run id with host := (lk (fun h => { h with lcs := { h.lcs with st := 2 }, link := { h.link with lmode := 1, txq := [⟨12,[1],[],true⟩] }, sec := { h.sec with open0 := some (ses 7) } })).host }
def p3 := { onz .run id with host := (lk (fun h => { h with lcs := { h.lcs with st := 3 }, link := { h.link with lmode := 1 }, proto := { h.proto with msgs := { h.proto.msgs with q := [⟨8,0,5,0,1,0,0,[],none⟩, ⟨8,0,6,0,1,0,0,[],some 200⟩] } } })).host }
def p5 := { onz .fenced id with host := (lk (fun h => { h with lcs := { h.lcs with st := 5 } })).host }
def tok : List Byte := [1,3,0,0, 1,0,0,0, 0xFF] ++ List.replicate 13 0 ++ List.replicate 6 255 ++ List.replicate 80 0
def p8 := { onz .run id with host := (lk (fun h => { h with lcs := { h.lcs with st := 2 }, sec := { h.sec with open0 := some (ses 7), opk := h.sec.opk.set 0 (some ⟨[1], true⟩), stok := h.sec.stok.set 3 (some ⟨1, tok, false⟩) } })).host }

set_option maxRecDepth 30000 in
/-- The clauses of ProtocolCommands apply. -/
theorem test_meets_ProtocolCommands :
    LinkFree p1 ∧
    Quiet p1 (0 : ZoneId) ∧
    LinkFree p2 ∧
    Quiet p2 (0 : ZoneId) ∧
    LinkFree p3 ∧
    LinkFree p5 ∧
    LinkFree p8 ∧
    Quiet p8 (0 : ZoneId) ∧
    ((p1.host.sec.open0 = none ∨ openType true 1 = true) ∧ h1.bcast = false ∧ (List.find? (fun (x : Held) => x.cn == h1.cn && x.check == h1.check && x.bcast == h1.bcast) p1.host.proto.held = some { ty := 2, cn := (9 : Byte), check := (4660 : BitVec 16), bcast := false : Held })) ∧
    (h2.bcast = true) ∧
    (1 ≤ [(42241 : Word)].length ∧ ([(42241 : Word)].length ≤ if p1.host.sec.open0.isSome = true then 59 else 60) ∧ (p1.host.burstRight (1048608 : BitVec 24) [(42241 : Word)].length).1 = 0 ∧ BitVec.toNat (1048608 : BitVec 24) / 2 % 2 = 0 ∧ burstOk (1048608 : BitVec 24) [(42241 : Word)].length = true ∧ (burstRun p1.host.p0ctl (1048608 : BitVec 24) 0 [(42241 : Word)] { why := 0, zfail := 0, detail := (0 : Word), s := p1 : WrAns }).why = 0) ∧
    ((([] : List Word).length = 0 ∨ 60 < ([] : List Word).length)) ∧
    (1 ≤ [(1 : Word), (2 : Word)].length ∧ ([(1 : Word), (2 : Word)].length ≤ if p1.host.sec.open0.isSome = true then 59 else 60) ∧ (p1.host.burstRight (1048608 : BitVec 24) [(1 : Word), (2 : Word)].length).1 = 0 ∧ BitVec.toNat (1048608 : BitVec 24) / 2 % 2 = 0 ∧ burstOk (1048608 : BitVec 24) [(1 : Word), (2 : Word)].length = true ∧ (burstRun p1.host.p0ctl (1048608 : BitVec 24) 0 [(1 : Word), (2 : Word)] { why := 0, zfail := 0, detail := (0 : Word), s := p1 : WrAns }).why ≠ 0) ∧
    (1 ≤ [(42241 : Word)].length ∧ [(42241 : Word)].length ≤ 59 ∧ (p1.host.burstRight (1056771 : BitVec 24) [(42241 : Word)].length).1 = 0 ∧ BitVec.toNat (1056771 : BitVec 24) / 2 % 2 = 1) ∧
    (1 ≤ [(42241 : Word)].length ∧ [(42241 : Word)].length ≤ 59 ∧ (p1.host.burstRight (16777200 : BitVec 24) [(42241 : Word)].length).1 = 0 ∧ BitVec.toNat (16777200 : BitVec 24) / 2 % 2 = 0 ∧ burstOk (16777200 : BitVec 24) [(42241 : Word)].length = false) ∧
    ((p1.host.readRight (readsPgId (1048608 : BitVec 24) (BitVec.toNat (0 : Byte)))).1 = 0 ∧ BitVec.toNat (1048608 : BitVec 24) / 2 % 2 = 0 ∧ (BitVec.toNat (0 : Byte) = 0 ∨ 60 < BitVec.toNat (0 : Byte))) ∧
    ((p1.host.readRight (readsPgId (1048608 : BitVec 24) (BitVec.toNat (1 : Byte)))).1 = 0 ∧ BitVec.toNat (1048608 : BitVec 24) / 2 % 2 = 0 ∧ 1 ≤ BitVec.toNat (1 : Byte) ∧ BitVec.toNat (1 : Byte) ≤ 60 ∧ burstOk (1048608 : BitVec 24) (BitVec.toNat (1 : Byte)) = true) ∧
    ((p1.host.readRight (readsPgId (1056771 : BitVec 24) (BitVec.toNat (0 : Byte)))).1 = 0 ∧ BitVec.toNat (1056771 : BitVec 24) / 2 % 2 = 1) ∧
    ((p1.host.readRight (readsPgId (16777200 : BitVec 24) (BitVec.toNat (1 : Byte)))).1 = 0 ∧ BitVec.toNat (16777200 : BitVec 24) / 2 % 2 = 0 ∧ 1 ≤ BitVec.toNat (1 : Byte) ∧ BitVec.toNat (1 : Byte) ≤ 60 ∧ burstOk (16777200 : BitVec 24) (BitVec.toNat (1 : Byte)) = false) ∧
    (p1.host.lenOf 12 ≤ 255 ∧ (BitVec.toNat (0 : Byte) ≠ 0 ∨ BitVec.toNat (1 : Byte) ≠ 0) ∧ p1.host.voiceRight false = (0, 0) ∧ BitVec.toNat (0 : Byte) ≤ 3) ∧
    (p1.host.lenOf 34 ≤ 255 ∧ entryP0 (ev 0) = false ∧ p1.host.voiceRight false = (0, 0) ∧ (p1.zones[(0 : ZoneId)].ctl.st = ZSt.off ∨ p1.zones[(0 : ZoneId)].ctl.st = ZSt.fenced)) ∧
    (1 ≤ [(1 : Byte), (2 : Byte), (3 : Byte)].length ∧ [(1 : Byte), (2 : Byte), (3 : Byte)].length ≤ 240 ∧ p1.host.bulkRight.1 = 0 ∧ BitVec.toNat (0 : BitVec 16) + [(1 : Byte), (2 : Byte), (3 : Byte)].length ≤ 4096) ∧
    (1 ≤ (List.replicate 200 (7 : Byte)).length ∧ (List.replicate 200 (7 : Byte)).length ≤ 240 ∧ p1.host.bulkRight.1 = 0 ∧ 4096 < BitVec.toNat (4000 : BitVec 16) + (List.replicate 200 (7 : Byte)).length) ∧
    (p1.host.bulkRight.1 = 0 ∧ (BitVec.toNat (0 : Byte) = 0 ∨ 240 < BitVec.toNat (0 : Byte))) ∧
    (p1.host.bulkRight.1 = 0 ∧ 1 ≤ BitVec.toNat (1 : Byte) ∧ BitVec.toNat (1 : Byte) ≤ 240 ∧ BitVec.toNat (0 : BitVec 16) + BitVec.toNat (1 : Byte) ≤ 4096) ∧
    (p1.host.bulkRight.1 = 0 ∧ 1 ≤ BitVec.toNat (1 : Byte) ∧ BitVec.toNat (1 : Byte) ≤ 240 ∧ 4096 < BitVec.toNat (32767 : BitVec 16) + BitVec.toNat (1 : Byte)) ∧
    ((p1.host.readRight false).1 = 0 ∧ BitVec.toNat (0 : Byte) = (0 : ZoneId).val) ∧
    ((p1.host.readRight false).1 = 0 ∧ 8 < BitVec.toNat (60 : Byte)) ∧
    ((p1.host.readRight false).1 = 0 ∧ BitVec.toNat (8 : Byte) = 8) ∧
    (p2.host.lenOf 12 ≤ 255 ∧ (BitVec.toNat (0 : Byte) ≠ 0 ∨ BitVec.toNat (1 : Byte) ≠ 0) ∧ p2.host.voiceRight false = (0, 0) ∧ BitVec.toNat (0 : Byte) ≤ 3 ∧ BitVec.toNat (1 : Byte) ≤ 5 ∧ (1 : Byte) ≠ (0 : Byte) ∧ (∀ (j : ZoneId), bit (BitVec.setWidth 32 (1 : Byte)) ↑j = true → Quiet p2 j ∧ p2.zones[j].live = true)) ∧
    (p2.host.lenOf 12 ≤ 255 ∧ p2.host.voiceRight true = (0, 0) ∧ (1 : Byte) ≠ (0 : Byte) ∧ noAuth (Auth.standing (1 : Word)) = false ∧ badAuth (Auth.standing (1 : Word)) = false ∧ p2.host.lenOf (12 + authBytes (Auth.standing (1 : Word))) ≤ 255 ∧ (isInline (Auth.standing (1 : Word)) = true → p2.host.sec.hot = false) ∧ (p2.authority (BitVec.toNat (1 : Byte)) (0 : Word) (Auth.standing (1 : Word))).1 ≠ 0) ∧
    (p2.host.lenOf 34 ≤ 255 ∧ entryP0 (ev 0) = false ∧ p2.host.voiceRight false = (0, 0) ∧ p2.zones[(0 : ZoneId)].ctl.st ≠ ZSt.off ∧ p2.zones[(0 : ZoneId)].ctl.st ≠ ZSt.fenced ∧ (p2.zones[(0 : ZoneId)].post (ev 0) none p2.host.p0ctl).1 = 0) ∧
    (p2.host.lenOf 34 ≤ 255 ∧ entryP0 #v[(0 : Word), (0 : Word), (0 : Word), (0 : Word), (1 : Word), (0 : Word), (0 : Word), (0 : Word)] = true ∧ p2.host.voiceRight true = (0, 0) ∧ noAuth (Auth.standing (1 : Word)) = false ∧ badAuth (Auth.standing (1 : Word)) = false ∧ p2.host.lenOf (34 + authBytes (Auth.standing (1 : Word))) ≤ 255 ∧ (isInline (Auth.standing (1 : Word)) = true → p2.host.sec.hot = false) ∧ (p2.authority (2 ^ (0 : ZoneId).val) #v[(0 : Word), (0 : Word), (0 : Word), (0 : Word), (1 : Word), (0 : Word), (0 : Word), (0 : Word)][(4 : Fin 8)] (Auth.standing (1 : Word))).1 ≠ 0) ∧
    (1 ≤ [(42241 : Word)].length ∧ [(42241 : Word)].length ≤ 59 ∧ (p3.host.burstRight (1048608 : BitVec 24) [(42241 : Word)].length).1 ≠ 0) ∧
    ((p3.host.readRight (readsPgId (1048608 : BitVec 24) (BitVec.toNat (0 : Byte)))).1 ≠ 0) ∧
    (p3.host.lenOf 12 ≤ 255 ∧ (BitVec.toNat (0 : Byte) ≠ 0 ∨ BitVec.toNat (1 : Byte) ≠ 0) ∧ (p3.host.voiceRight false).1 ≠ 0) ∧
    (1 ≤ [(1 : Byte), (2 : Byte), (3 : Byte)].length ∧ [(1 : Byte), (2 : Byte), (3 : Byte)].length ≤ 240 ∧ p5.host.bulkRight.1 ≠ 0) ∧
    (p8.host.lenOf 12 ≤ 255 ∧ p8.host.voiceRight true = (0, 0) ∧ (1 : Byte) ≠ (0 : Byte) ∧ noAuth (Auth.standing (1 : Word)) = false ∧ badAuth (Auth.standing (1 : Word)) = false ∧ p8.host.lenOf (12 + authBytes (Auth.standing (1 : Word))) ≤ 255 ∧ (isInline (Auth.standing (1 : Word)) = true → p8.host.sec.hot = false) ∧ (p8.authority (BitVec.toNat (1 : Byte)) (1 : Word) (Auth.standing (1 : Word))).1 = 0) ∧
    (p8.host.lenOf 34 ≤ 255 ∧ entryP0 #v[(0 : Word), (0 : Word), (0 : Word), (0 : Word), (1 : Word), (0 : Word), (0 : Word), (0 : Word)] = true ∧ p8.host.voiceRight true = (0, 0) ∧ noAuth (Auth.standing (1 : Word)) = false ∧ badAuth (Auth.standing (1 : Word)) = false ∧ p8.host.lenOf (34 + authBytes (Auth.standing (1 : Word))) ≤ 255 ∧ (isInline (Auth.standing (1 : Word)) = true → p8.host.sec.hot = false) ∧ (p8.authority (2 ^ (0 : ZoneId).val) #v[(0 : Word), (0 : Word), (0 : Word), (0 : Word), (1 : Word), (0 : Word), (0 : Word), (0 : Word)][(4 : Fin 8)] (Auth.standing (1 : Word))).1 = 0 ∧ p8.zones[(0 : ZoneId)].ctl.st ≠ ZSt.off ∧ p8.zones[(0 : ZoneId)].ctl.st ≠ ZSt.fenced ∧ (p8.zones[(0 : ZoneId)].post #v[(0 : Word), (0 : Word), (0 : Word), (0 : Word), (1 : Word), (0 : Word), (0 : Word), (0 : Word)] (some (BitVec.ofNat 48 (p8.authority (2 ^ (0 : ZoneId).val) #v[(0 : Word), (0 : Word), (0 : Word), (0 : Word), (1 : Word), (0 : Word), (0 : Word), (0 : Word)][(4 : Fin 8)] (Auth.standing (1 : Word))).2.1)) (p8.authority (2 ^ (0 : ZoneId).val) #v[(0 : Word), (0 : Word), (0 : Word), (0 : Word), (1 : Word), (0 : Word), (0 : Word), (0 : Word)][(4 : Fin 8)] (Auth.standing (1 : Word))).2.2.host.p0ctl).1 = 0) := by
  and_intros <;> decide

end W11a

namespace W11b

def lk (f : HostC → HostC) : State := { s0 with host := f { s0.host with pwr := { s0.host.pwr with booted := true, pstate := 0 } }, pending := [] }
def p1 := lk (fun h => { h with proto := { h.proto with held := [⟨2, 8, 1, false⟩, ⟨2, 9, 0x1234, false⟩, ⟨2, 9, 0x1234, true⟩] } })
def p3 := { onz .run id with host := (lk (fun h => { h with lcs := { h.lcs with st := 3 }, link := { h.link with lmode := 1 }, proto := { h.proto with msgs := { h.proto.msgs with q := [⟨8,0,5,0,1,0,0,[],none⟩, ⟨8,0,6,0,1,0,0,[],some 200⟩] } } })).host }
def p7 := lk (fun h => { h.setReg Reg.MSGQ_CFG 0xC0000064 with link := { h.link with lmode := 1 } })

set_option maxRecDepth 30000 in
/-- The clauses of MessageQueue apply. -/
theorem test_meets_MessageQueue :
    Quiet p1 (0 : ZoneId) ∧
    (([] : List Word).length ≤ 32 ∧ p1.zones[(0 : ZoneId)].msgs.q.length < 56) ∧
    (([] : List Word).length ≤ 32 ∧ p1.host.proto.msgs.q.length < 24) ∧
    (p3.host.link.lmode = 1 ∧ p3.host.pwr.pstate ≠ 2 ∧ bit (p3.host.reg Reg.MSGQ_CFG) 31 = true ∧ (∀ f ∈ p3.host.link.txq, f.msg = false) ∧ (p3.fillMsg 400 ((p3.host.proto.last + 2) % 9) (if p3.host.sec.open0.isSome = true then 243 else 255) 0 [] ≠ [])) ∧
    (p7.host.link.lmode = 1 ∧ p7.host.pwr.pstate ≠ 2 ∧ bit (p7.host.reg Reg.MSGQ_CFG) 31 = true ∧ (∀ f ∈ p7.host.link.txq, f.msg = false) ∧ (p7.fillMsg 400 ((p7.host.proto.last + 2) % 9) (if p7.host.sec.open0.isSome = true then 243 else 255) 0 [] = [])) := by
  and_intros <;> decide

end W11b

namespace W13

def lk (f : HostC → HostC) : State := { s0 with host := f { s0.host with pwr := { s0.host.pwr with booted := true, pstate := 0 } }, pending := [] }
def ses (r : Word) : Session := { sid := 7, roles := r, kh2d := List.replicate 16 3, kd2h := List.replicate 16 4, kconf := [], hfloor := 5, dseq := 9, hc := 100, bc := 3, dc := 1000, rekey := false }
def sh (a : Nat) : Shake := ⟨[1], [2], a⟩
def tok : List Byte := [1,3,0,0, 1,0,0,0, 0xFF] ++ List.replicate 13 0 ++ List.replicate 6 255 ++ List.replicate 80 0
def p1 := lk (fun h => { h with lcs := { h.lcs with st := 2, tamper := 3 }, sec := { h.sec with open0 := some (ses 7), shake := some (sh 5), tagRun := 3, opk := h.sec.opk.set 0 (some ⟨[1], true⟩), stok := h.sec.stok.set 3 (some ⟨1, tok, false⟩) }, proto := { h.proto with bulk := [(3,5)] } })
def p2 := { onz .run id with host := lk (fun h => { h with lcs := { h.lcs with st := 3, tamper := 3 }, sec := { h.sec with stored := some (ses 7), shake := some (sh 100), opk := h.sec.opk.set 0 (some ⟨[1], true⟩) , floor := 3, cfloor := 1, nonces := [([1], 5), ([2], 500)] }, proto := { h.proto with bulk := [(3,5)] } }.setReg Reg.LCS_TCFG 5) |>.host }
def p3 := { onz .run id with host := lk (fun h => { h with lcs := { h.lcs with st := 2, tamper := 255 }, sec := { h.sec with open0 := some (ses 3), fault := true, shake := some (sh 6), stok := each h.sec.stok (fun _ => some ⟨1, tok, false⟩) } }.setReg Reg.SEC_ARG 31) |>.host }
def p7 := { onz .off id with host := lk (fun h => { h with lcs := { h.lcs with st := 5 } }) |>.host }
def p4 := { onz .run id with host := lk (fun h => { h with lcs := { h.lcs with st := 0 }, pwr := { h.pwr with testen := true }, sec := { h.sec with hot := true, dik := List.replicate 64 0 } }.setReg Reg.SEC_ARG 32) |>.host }
def it7 : Item := ⟨1, 7, false, 20, 1, 108⟩
def fl0 (f : Bytes) (full : Bool) : State := { onz .run id with host := lk (fun h => { h with lcs := { h.lcs with st := 2 }, cek := [], sec := { h.sec with owk := [1], open0 := some (ses 7), shake := some (sh 5), opk := h.sec.opk.set 0 (some ⟨[1], true⟩), stok := if full then each h.sec.stok (fun _ => some ⟨9, tok, false⟩) else h.sec.stok.set 0 (some ⟨9, tok, false⟩) }, cont := { h.cont with mstate := 2, items := [it7], flash := f } }.setReg Reg.SEC_ARG 1) |>.host }
def ad7 : Nat := (fl0 [] false).host.blkAddr 20
def fl1 : Bytes := [(ad7, 1), (ad7 + 1, 5), (ad7 + 4100, 1)]
/-- The CRC32 of the block that holds the token. -/
def cr7 : Nat := 3202468066
def fl2 : Bytes := byWrite fl1 (ad7 + 4096) (natLe cr7 4)
def p10 := fl0 fl2 false
def kk := cryptoB 4 [List.replicate 16 3, p10.host.bulkAt 0 24] 16
def p11 := fl0 fl2 true
def p5 := { onz .run id with host := lk (fun h => { h with lcs := { h.lcs with st := 1 }, pwr := { h.pwr with testen := true } }.setReg Reg.SEC_ARG 2) |>.host }
def p6 := { onz .hold (fun z => { z with pwr := { z.pwr with halted := false } }) with host := lk (fun h => { h with lcs := { h.lcs with st := 4, rmaCount := 2, dbgOpen := true } }.setReg Reg.LCS_TCFG 1) |>.host }
def p8 := { onz .run id with host := lk (fun h => { h with lcs := { h.lcs with st := 2, rmaPend := true }, sec := { h.sec with owk := [1], open0 := some (ses 7), stok := (h.sec.stok.set 0 (some ⟨1, tok, false⟩)), opk := h.sec.opk.set 0 (some ⟨[1], true⟩) }, proto := { h.proto with bulk := [(0,1)] } }.setReg Reg.SEC_ARG 2) |>.host }
def tk (op : Byte) : Bytes := (List.range 28).map (fun k => (k, (([op,0,0,0] ++ devSerial ++ List.replicate 16 0).getD k 0))) |>.filter (fun p => p.2 ≠ 0)
def p9 (st : Nat) (op : Byte) := { onz .run id with host := lk (fun h => { h with lcs := { h.lcs with st := st, rmaPend := true, chal := List.replicate 16 0 }, sec := { h.sec with owk := [1], open0 := none }, proto := { h.proto with bulk := tk op } }) |>.host }

set_option maxRecDepth 30000 in
/-- The clauses of SecurityCommands apply. -/
theorem test_meets_SecurityCommands :
    LinkFree p1 ∧
    LinkFree p2 ∧
    LinkFree p3 ∧
    LinkFree p7 ∧
    p1.wf = true ∧
    p2.wf = true ∧
    p3.wf = true ∧
    p4.wf = true ∧
    Quiet p1 (0 : ZoneId) ∧
    Quiet p4 (0 : ZoneId) ∧
    LinkFree p10 ∧
    p10.wf = true ∧
    p11.wf = true ∧
    p5.wf = true ∧
    p6.wf = true ∧
    p8.wf = true ∧
    ((p1.host.sessionRight true).1 = 0 ∧ (BitVec.toNat (0 : Byte) = 0 ∨ 200 < BitVec.toNat (0 : Byte))) ∧
    ((p1.host.sessionRight true).1 = 0 ∧ 1 ≤ BitVec.toNat (1 : Byte) ∧ BitVec.toNat (1 : Byte) ≤ 200) ∧
    ((List.replicate 64 (1 : Byte)).length = 64 ∧ (List.replicate 16 (2 : Byte)).length = 16 ∧ p1.host.sec.hot = false ∧ p1.host.sessionState = true ∧ p1.host.islandOk = true) ∧
    (p1.host.authCheck (List.replicate 136 (0 : Byte)) (List.replicate 64 (1 : Byte)) ≠ 0 → (List.replicate 136 (0 : Byte)).length = 136 ∧ (List.replicate 64 (1 : Byte)).length = 64 ∧ p1.host.sec.hot = false ∧ p1.host.sessionState = true) ∧
    ([(1 : Byte), (2 : Byte), (3 : Byte), (4 : Byte), (5 : Byte), (6 : Byte), (7 : Byte), (8 : Byte)] ≠ (ses (7 : Word)).mac (5 : Byte) (ses (7 : Word)).hfloor → [(1 : Byte), (2 : Byte), (3 : Byte), (4 : Byte), (5 : Byte), (6 : Byte), (7 : Byte), (8 : Byte)].length = 8 ∧ p1.host.sessionState = true ∧ p1.host.sec.open0 = some (ses (7 : Word)) ∧ (ses (7 : Word)).sid = (7 : Word)) ∧
    (List.replicate 8 (0 : Byte) = (ses (7 : Word)).mac (5 : Byte) (ses (7 : Word)).hfloor → (List.replicate 8 (0 : Byte)).length = 8 ∧ p1.host.sessionState = true ∧ p1.host.sec.open0 = some (ses (7 : Word)) ∧ (ses (7 : Word)).sid = (7 : Word)) ∧
    ([(1 : Byte), (2 : Byte), (3 : Byte), (4 : Byte), (5 : Byte), (6 : Byte), (7 : Byte), (8 : Byte)].length = 8 ∧ p1.host.sessionState = true ∧ p1.host.sec.open0 = some (ses (7 : Word)) ∧ (ses (7 : Word)).sid ≠ (1 : Word)) ∧
    ([(1 : Byte), (2 : Byte), (3 : Byte), (4 : Byte), (5 : Byte), (6 : Byte), (7 : Byte), (8 : Byte)] ≠ (ses (7 : Word)).mac (7 : Byte) (ses (7 : Word)).hc → [(1 : Byte), (2 : Byte), (3 : Byte), (4 : Byte), (5 : Byte), (6 : Byte), (7 : Byte), (8 : Byte)].length = 8 ∧ p2.host.sessionState = true ∧ p2.host.islandOk = true ∧ p2.host.sec.stored = some (ses (7 : Word)) ∧ (ses (7 : Word)).sid = (7 : Word)) ∧
    (List.replicate 8 (0 : Byte) = (ses (7 : Word)).mac (7 : Byte) (ses (7 : Word)).hc → (List.replicate 8 (0 : Byte)).length = 8 ∧ p2.host.sessionState = true ∧ p2.host.islandOk = true ∧ p2.host.sec.stored = some (ses (7 : Word)) ∧ (ses (7 : Word)).sid = (7 : Word)) ∧
    ([(1 : Byte), (2 : Byte), (3 : Byte), (4 : Byte), (5 : Byte), (6 : Byte), (7 : Byte), (8 : Byte)].length = 8 ∧ p2.host.sessionState = true ∧ p2.host.islandOk = true ∧ p2.host.sec.stored = some (ses (7 : Word)) ∧ (ses (7 : Word)).sid ≠ (1 : Word)) ∧
    ((List.replicate 64 (1 : Byte)).length = 64 ∧ (List.replicate 16 (2 : Byte)).length = 16 ∧ p3.host.sec.hot = false ∧ p3.host.sessionState = true ∧ p3.host.islandOk = false) ∧
    ((p7.host.sessionRight true).1 ≠ 0) ∧
    ((p1.tickZone = none ∨ ∀ (k : Shake), p1.host.sec.shake = some k → 100 ≤ k.age)) ∧
    ((isInline (Auth.standing (1 : Word)) = true → p1.host.sec.hot = false)) ∧
    (Config.verify 2 [byRead p1.host.proto.bulk 0 64] = false → p1.host.islandOk = true ∧ (0 : Fin 16).val < 4) ∧
    (p1.host.unwrapped = none → p1.host.islandOk = true) ∧
    ((p1.host.stCheck (p1.host.reg Reg.SEC_ARG)).1 ≠ 0 → p1.host.islandOk = true) ∧
    (p1.host.islandOk = true ∧ BitVec.toNat (p1.host.reg Reg.SEC_ARG) = (0 : Fin 32).val) ∧
    (p1.host.islandOk = true ∧ p1.host.sec.floor ≤ BitVec.toNat (p1.host.reg Reg.SEC_ARG)) ∧
    (p1.host.islandOk = true ∧ p1.host.sec.cfloor ≤ BitVec.toNat (p1.host.reg Reg.SEC_ARG)) ∧
    (p1.host.islandOk = true ∧ 4 ≤ (4 : Fin 16).val) ∧
    (p2.hostTick = some 10) ∧
    (p2.host.islandOk = true ∧ BitVec.toNat (p2.host.reg Reg.SEC_ARG) < p2.host.sec.floor) ∧
    (p2.host.islandOk = true ∧ BitVec.toNat (p2.host.reg Reg.SEC_ARG) < p2.host.sec.cfloor) ∧
    (p3.tickZone = some (0 : ZoneId) ∧ p3.host.sec.shake = some (sh 6) ∧ (sh 6).age < 100) ∧
    (p3.host.islandOk = false ∧ Instr.setFloor ∈ [Instr.installOpk (0 : Fin 16), Instr.revokeOpk (1 : Fin 16), Instr.setCek, Instr.setTgk, Instr.installSt, Instr.removeSt, Instr.setFloor, Instr.setCfloor]) ∧
    (p4.host.sec.hot = true) ∧
    (p4.host.islandOk = true ∧ 32 ≤ BitVec.toNat (p4.host.reg Reg.SEC_ARG)) ∧
    ((Instr.genkey = Instr.genkey ∧ p1.host.lcs.st ≠ 0 ∨ Instr.genkey = Instr.provision ∧ p1.host.lcs.st ≠ 0 ∨ Instr.genkey = Instr.takeOwner ∧ p1.host.lcs.st ≠ 1 ∨ Instr.genkey = Instr.lockField ∧ p1.host.lcs.st ≠ 2 ∧ ¬(p1.host.lcs.st = 3 ∧ p1.host.lcs.pend = some 2) ∨ Instr.genkey = Instr.unlock ∧ p1.host.lcs.st ≠ 3 ∧ ¬(p1.host.lcs.st = 2 ∧ p1.host.lcs.pend = some 3) ∨ Instr.genkey = Instr.rma ∧ p1.host.sessionState = false ∨ Instr.genkey = Instr.rmaMaker ∧ p1.host.sessionState = false ∨ Instr.genkey = Instr.remake ∧ p1.host.lcs.st ≠ 4 ∨ Instr.genkey = Instr.kill ∧ p1.host.lcs.st = 5)) ∧
    (portAccess p1.host.lcs.st false ≠ 1 ∧ p1.host.lcs.dbgOpen = false) ∧
    (p1.host.sec.open0 = some (ses (7 : Word))) ∧
    ((fld (p2.host.reg Reg.LCS_TCFG) 7 0 = 0 ∨ p2.host.lcs.tamper + 1 < fld (p2.host.reg Reg.LCS_TCFG) 7 0) ∧ p2.host.sec.open0 = none ∧ KeyRec.opk (0 : Fin 4) ≠ KeyRec.lifeCycle) ∧
    (fld (p3.host.reg Reg.LCS_TCFG) 7 0 ≠ 0 ∧ fld (p3.host.reg Reg.LCS_TCFG) 7 0 ≤ p3.host.lcs.tamper + 1 ∧ fld (p3.host.reg Reg.LCS_TCFG) 7 0 ≤ 255 ∧ p3.host.lcs.st ≠ 5 ∧ Instr.puf ∈ [Instr.puf, Instr.shield, Instr.keyrec KeyRec.cek]) ∧
    (p4.host.lcs.st = 0 ∧ p4.host.pwr.testen = true) ∧
    ((portAccess p4.host.lcs.st false = 1 ∨ p4.host.lcs.dbgOpen = true) ∧ p4.zones[(0 : ZoneId)].ctl.st ≠ ZSt.off ∧ p4.zones[(0 : ZoneId)].pwr.halted = false) ∧
    (p10.host.authCheck (List.replicate 136 (0 : Byte)) (List.replicate 64 (1 : Byte)) = 0 → (List.replicate 136 (0 : Byte)).length = 136 ∧ (List.replicate 64 (1 : Byte)).length = 64 ∧ p10.host.sec.hot = false ∧ p10.host.sessionState = true) ∧
    (Config.verify 2 [byRead p1.host.proto.bulk 0 64] = true → p1.host.islandOk = true ∧ (0 : Fin 16).val = (0 : Fin 4).val) ∧
    (p1.host.unwrapped = some kk → p1.host.islandOk = true) ∧
    ((p10.host.stCheck (p10.host.reg Reg.SEC_ARG)).1 = 0 → p10.host.islandOk = true ∧ p10.host.sec.stok[(1 : Fin 32)] = none ∧ (∀ k < (1 : Fin 32), p10.host.sec.stok[k] ≠ none)) ∧
    ((p11.host.stCheck (p11.host.reg Reg.SEC_ARG)).1 = 0 → p11.host.islandOk = true ∧ (∀ (k : Fin 32), p11.host.sec.stok[k] ≠ none)) ∧
    (ecdsaOk mkp (List.take 72 (byRead p4.host.proto.bulk 0 136)) (List.drop 72 (byRead p4.host.proto.bulk 0 136)) = true → p4.host.lcs.st = 0 ∧ p4.host.sec.dik ≠ [] ∧ List.take 64 (byRead p4.host.proto.bulk 0 136) = p4.host.sec.dik) ∧
    (((if p4.host.sessionState = true then p4.host.ownerToken (4 : Byte) else p4.host.makerSig (9 : Byte)) = 0) → p4.host.lcs.st ≠ 5) ∧
    (Config.verify 2 [byRead p5.host.proto.bulk 0 64] = true → p5.host.lcs.st = 1) ∧
    ((portAccess p5.host.lcs.st true = 2 ∧ (List.replicate 64 (1 : Byte)).length = 64 ∧ ecdsaOk mkp ((68 : Byte) :: (devSerial ++ p5.host.lcs.chal)) (List.replicate 64 (1 : Byte)) = true ∨ portAccess p5.host.lcs.st true = 3 ∧ (List.replicate 64 (1 : Byte)).length = 64 ∧ p5.host.ownerOk ((68 : Byte) :: (devSerial ++ p5.host.lcs.chal)) (List.replicate 64 (1 : Byte)) = true) → (true = true → p5.host.pwr.testen = true) ∧ ((if true = true then p5.host.lcs.testOpen else p5.host.lcs.dbgOpen) = false)) ∧
    (p6.host.makerSig (8 : Byte) = 0 → p6.host.lcs.st = 4 ∧ p6.host.lcs.rmaCount < 3) ∧
    ((portAccess p6.host.lcs.st false = 2 ∧ (List.replicate 64 (1 : Byte)).length = 64 ∧ ecdsaOk mkp ((68 : Byte) :: (devSerial ++ p6.host.lcs.chal)) (List.replicate 64 (1 : Byte)) = true ∨ portAccess p6.host.lcs.st false = 3 ∧ (List.replicate 64 (1 : Byte)).length = 64 ∧ p6.host.ownerOk ((68 : Byte) :: (devSerial ++ p6.host.lcs.chal)) (List.replicate 64 (1 : Byte)) = true) → (false = true → p6.host.pwr.testen = true) ∧ ((if false = true then p6.host.lcs.testOpen else p6.host.lcs.dbgOpen) = true)) ∧
    (p8.host.makerSig (7 : Byte) = 0 → p8.host.sessionState = true ∧ p8.host.lcs.rmaPend = true) ∧
    ((p9 2 (1 : Byte)).wf = true → (p9 2 (1 : Byte)).host.ownerToken (1 : Byte) = 0 → (p9 2 (1 : Byte)).host.lcs.st = 2) ∧
    ((p9 3 (2 : Byte)).wf = true → (p9 3 (2 : Byte)).host.ownerToken (2 : Byte) = 0 → (p9 3 (2 : Byte)).host.lcs.st = 3) ∧
    ((p9 2 (3 : Byte)).wf = true → (p9 2 (3 : Byte)).host.ownerToken (3 : Byte) = 0 → (p9 2 (3 : Byte)).host.sessionState = true) := by
  and_intros <;> first | decide +kernel | (intros; and_intros <;> decide +kernel)

end W13

namespace W14

def fx (l : List (Nat × Nat)) (e : Word) (f : ZMem → ZMem := id) (st : ZSt := .run) := onz st (fun z => { z with mem := f { z.mem with marks := l, scrub := 70000 } }.setReg Reg.MEM_BT_CFG e)
def m1 := fx [] 0x80010001
def m3 := fx [(memKey 4 7, 2), (memKey 4 9, 1)] 0x80020005 id .hold
def mm (s : State) (f : HostC → HostC) : State := { s with host := f s.host }
def m8 := { onz .run (fun z => { z with pwr := { z.pwr with halted := true } }) with host := (mm s0 (fun h => { h with lcs := { h.lcs with st := 3 }, pwr := { h.pwr with x32 := true, booted := true } }.setReg Reg.NVM_ADDR 0x10FFC)).host }
def m10 := fx [] 0x00040005 (fun m => { m with seg := 77 })
def m11 := let s := fx [] 0x80040005 (fun m => { m with seg := 4700 }); { s with zones := s.zones.set 0 { s.zones[(0:Fin 8)] with dsp := { s.zones[(0:Fin 8)].dsp with running := true } } }
def m5 := { fx [] 0x80040005 (fun m => { m with seg := 4200, yields := 2, borrows := 1 }) .recover with host := (mm s0 (fun h => { h with nvm := { h.nvm with buf := some (0x11000, 5) } }.setReg Reg.NVM_ADDR 0x11004)).host }
def m7 := { onz .off id with host := (mm s0 (fun h => (h.setReg Reg.NVM_ADDR 0x21000))).host }
def m9 := { onz .run (fun z => { z with out := { z.out with span := 4 } }) with host := (mm s0 (fun h => { h with lcs := { h.lcs with st := 2 }, pwr := { h.pwr with x32 := true, slpT := 5 } }.setReg Reg.DEV_SLEEP 0x80000006)).host }
def sl (st : ZSt) (p : Nat) (as : Bool) (sp : Option Nat) (w : Word) := mm (onz st (fun z => { z with pwr := { z.pwr with asleep := as, slp := sp } })) (fun h => { h with lcs := { h.lcs with st := 5 }, pwr := { h.pwr with x32 := true, slpT := 5, pstate := p } }.setReg Reg.DEV_SLEEP w)
def n4 := sl .init 1 false none 0x80000000
def n1 := sl .run 1 false (some 5) 0x80000006
def n2 := sl .run 2 true none 0x00000006
def n3 := sl .run 1 true none 0x80000000

set_option maxRecDepth 30000 in
/-- The clauses of MemoryAndPower apply. -/
theorem test_meets_MemoryAndPower :
    Quiet m1 (0 : ZoneId) ∧
    Quiet m3 (0 : ZoneId) ∧
    Quiet m8 (0 : ZoneId) ∧
    Quiet m10 (0 : ZoneId) ∧
    Quiet m11 (0 : ZoneId) ∧
    m1.wf = true ∧
    m5.wf = true ∧
    Quiet m7 (0 : ZoneId) ∧
    m8.wf = true ∧
    m9.wf = true ∧
    n4.wf = true ∧
    n1.wf = true ∧
    n2.wf = true ∧
    n3.wf = true ∧
    ((m1.zones[(0 : ZoneId)].ctl.st = ZSt.run ∨ m1.zones[(0 : ZoneId)].ctl.st = ZSt.hold ∨ m1.zones[(0 : ZoneId)].ctl.st = ZSt.recover) ∧ (∀ p ∈ m1.zones[(0 : ZoneId)].mem.marks, p.1 / 2 ^ 20 < 8 ∧ p.1 % 2 ^ 20 < memWords (p.1 / 2 ^ 20)) ∧ m1.zones[(0 : ZoneId)].memOn = true ∧ m1.zones[(0 : ZoneId)].scrubEvery ≤ m1.zones[(0 : ZoneId)].mem.scrub ∧ (∀ p ∈ m1.zones[(0 : ZoneId)].mem.marks, p.2 ≠ 2)) ∧
    ((m1.zones[(0 : ZoneId)].ctl.st = ZSt.run ∨ m1.zones[(0 : ZoneId)].ctl.st = ZSt.hold ∨ m1.zones[(0 : ZoneId)].ctl.st = ZSt.recover) ∧ (∀ p ∈ m1.zones[(0 : ZoneId)].mem.marks, p.1 / 2 ^ 20 < 8 ∧ p.1 % 2 ^ 20 < memWords (p.1 / 2 ^ 20)) ∧ m1.zones[(0 : ZoneId)].mem.seg < 5202 ∧ m1.zones[(0 : ZoneId)].memOn = true ∧ m1.zones[(0 : ZoneId)].mem.borrows < m1.zones[(0 : ZoneId)].btSegs ∧ bit (m1.zones[(0 : ZoneId)].reg Reg.MEM_BT_CFG) 31 = true ∧ m1.zones[(0 : ZoneId)].borrowable (segLoc m1.zones[(0 : ZoneId)].mem.seg).1 (segLoc m1.zones[(0 : ZoneId)].mem.seg).2 = true ∧ (∀ p ∈ m1.zones[(0 : ZoneId)].mem.marks, p.1 < memKey (segLoc m1.zones[(0 : ZoneId)].mem.seg).1 (64 * (segLoc m1.zones[(0 : ZoneId)].mem.seg).2) ∨ memKey (segLoc m1.zones[(0 : ZoneId)].mem.seg).1 (64 * (segLoc m1.zones[(0 : ZoneId)].mem.seg).2) + 64 ≤ p.1)) ∧
    ((m3.zones[(0 : ZoneId)].ctl.st = ZSt.run ∨ m3.zones[(0 : ZoneId)].ctl.st = ZSt.hold ∨ m3.zones[(0 : ZoneId)].ctl.st = ZSt.recover) ∧ (∀ p ∈ m3.zones[(0 : ZoneId)].mem.marks, p.1 / 2 ^ 20 < 8 ∧ p.1 % 2 ^ 20 < memWords (p.1 / 2 ^ 20)) ∧ m3.zones[(0 : ZoneId)].memOn = true ∧ m3.zones[(0 : ZoneId)].scrubEvery ≤ m3.zones[(0 : ZoneId)].mem.scrub ∧ (∃ p ∈ m3.zones[(0 : ZoneId)].mem.marks, p.2 = 2 ∧ p.1 / 2 ^ 20 ∈ [4, 5, 6]) ∧ (∀ p ∈ m3.zones[(0 : ZoneId)].mem.marks, p.2 = 2 → p.1 / 2 ^ 20 ∈ [4, 5, 6])) ∧
    ((m8.zones[(0 : ZoneId)].ctl.st = ZSt.run ∨ m8.zones[(0 : ZoneId)].ctl.st = ZSt.hold ∨ m8.zones[(0 : ZoneId)].ctl.st = ZSt.recover) ∧ (∀ p ∈ m8.zones[(0 : ZoneId)].mem.marks, p.1 / 2 ^ 20 < 8 ∧ p.1 % 2 ^ 20 < memWords (p.1 / 2 ^ 20)) ∧ (m8.zones[(0 : ZoneId)].memOn = false ∨ m8.zones[(0 : ZoneId)].mem.scrub < m8.zones[(0 : ZoneId)].scrubEvery)) ∧
    ((m10.zones[(0 : ZoneId)].ctl.st = ZSt.run ∨ m10.zones[(0 : ZoneId)].ctl.st = ZSt.hold ∨ m10.zones[(0 : ZoneId)].ctl.st = ZSt.recover) ∧ (∀ p ∈ m10.zones[(0 : ZoneId)].mem.marks, p.1 / 2 ^ 20 < 8 ∧ p.1 % 2 ^ 20 < memWords (p.1 / 2 ^ 20)) ∧ m10.zones[(0 : ZoneId)].mem.seg < 5202 ∧ m10.zones[(0 : ZoneId)].memOn = true ∧ m10.zones[(0 : ZoneId)].mem.borrows < m10.zones[(0 : ZoneId)].btSegs ∧ bit (m10.zones[(0 : ZoneId)].reg Reg.MEM_BT_CFG) 31 = false) ∧
    ((m11.zones[(0 : ZoneId)].ctl.st = ZSt.run ∨ m11.zones[(0 : ZoneId)].ctl.st = ZSt.hold ∨ m11.zones[(0 : ZoneId)].ctl.st = ZSt.recover) ∧ (∀ p ∈ m11.zones[(0 : ZoneId)].mem.marks, p.1 / 2 ^ 20 < 8 ∧ p.1 % 2 ^ 20 < memWords (p.1 / 2 ^ 20)) ∧ m11.zones[(0 : ZoneId)].mem.seg < 5202 ∧ m11.zones[(0 : ZoneId)].memOn = true ∧ m11.zones[(0 : ZoneId)].mem.borrows < m11.zones[(0 : ZoneId)].btSegs ∧ bit (m11.zones[(0 : ZoneId)].reg Reg.MEM_BT_CFG) 31 = true ∧ m11.zones[(0 : ZoneId)].borrowable (segLoc m11.zones[(0 : ZoneId)].mem.seg).1 (segLoc m11.zones[(0 : ZoneId)].mem.seg).2 = false) ∧
    (HostOpen m1 6144 ∧ nvmWritable (BitVec.toNat (m1.host.reg Reg.NVM_ADDR)) = false) ∧
    (HostOpen m5 6144 ∧ nvmWritable (BitVec.toNat (m5.host.reg Reg.NVM_ADDR)) = true) ∧
    (hostLockable 0 = true ∧ (0 ∈ List.map (fun (x : Nat) => 1024 * x) (List.range 11)) ∧ HostOpen m1 0 ∧ (0 ≠ 10240 ∨ m1.host.testModes = true)) ∧
    ((5120 ∈ List.map (fun (x : Nat) => 2048 + 1024 * x) (List.range 27)) ∧ m1.zones[(0 : ZoneId)].ctl.st ≠ ZSt.off ∧ m1.zones[(0 : ZoneId)].ctl.st ≠ ZSt.fenced ∧ m1.zones[(0 : ZoneId)].lockH 5120 = false) ∧
    (m1.host.lcs.pend = none ∧ m1.host.lcs.zeroPend = false ∧ (m1.host.sessionState = true → m1.host.bootOk = false) ∧ (ResetCause.por = ResetCause.por ∨ ResetCause.por = ResetCause.resetn)) ∧
    (m1.zones[(0 : ZoneId)].ctl.st ≠ ZSt.off ∧ m1.zones[(0 : ZoneId)].ctl.st ≠ ZSt.init ∧ m1.zones[(0 : ZoneId)].ctl.st ≠ ZSt.fenced) ∧
    (m1.zones[(0 : ZoneId)].pwr.halted = false) ∧
    (m7.zones[(0 : ZoneId)].ctl.st = ZSt.off) ∧
    (m8.zones[(0 : ZoneId)].pwr.halted = true) ∧
    (m1.host.pwr.booted = false ∧ m1.host.lcs.st ≠ 5) ∧
    ((m8.host.pwr.booted = true ∨ m8.host.lcs.st = 5)) ∧
    (HostOpen m1 0 ∧ (!bit (m1.host.reg Reg.DEV_SLEEP) 31 && m1.host.pwr.x32 && decide (m1.host.link.rx ∈ [6, 7, 8]) && decide (m1.host.link.tx ∈ [6, 7, 8])) = false) ∧
    (HostOpen m8 0 ∧ (!bit (m8.host.reg Reg.DEV_SLEEP) 31 && m8.host.pwr.x32 && decide (m8.host.link.rx ∈ [6, 7, 8]) && decide (m8.host.link.tx ∈ [6, 7, 8])) = true ∧ m8.stampZone = some (0 : ZoneId)) ∧
    (Told m1.zones[(0 : ZoneId)] ∧ m1.zones[(0 : ZoneId)].gov.ampFlt = false ∧ m1.zones[(0 : ZoneId)].vox.hostq = [] ∧ (m1.sleepDue = false ∨ m1.zones[(0 : ZoneId)].ctl.st = ZSt.off ∨ m1.zones[(0 : ZoneId)].pwr.asleep = true ∨ m1.zones[(0 : ZoneId)].pwr.slp.isSome = true)) ∧
    (Told m9.zones[(0 : ZoneId)] ∧ m9.zones[(0 : ZoneId)].gov.ampFlt = false ∧ m9.zones[(0 : ZoneId)].vox.hostq = [] ∧ m9.sleepDue = true ∧ m9.zones[(0 : ZoneId)].ctl.st ≠ ZSt.off ∧ m9.zones[(0 : ZoneId)].pwr.asleep = false ∧ m9.zones[(0 : ZoneId)].pwr.slp = none ∧ m9.zones[(0 : ZoneId)].sleepBar = 0) ∧
    (Told n4.zones[(0 : ZoneId)] ∧ n4.zones[(0 : ZoneId)].gov.ampFlt = false ∧ n4.zones[(0 : ZoneId)].vox.hostq = [] ∧ n4.sleepDue = true ∧ n4.zones[(0 : ZoneId)].ctl.st ≠ ZSt.off ∧ n4.zones[(0 : ZoneId)].pwr.asleep = false ∧ n4.zones[(0 : ZoneId)].pwr.slp = none ∧ n4.zones[(0 : ZoneId)].sleepBar ≠ 0) ∧
    ((m1.host.pwr.pstate = 2 ∨ bit (m1.host.reg Reg.DEV_SLEEP) 31 = false ∨ ∃ (j : ZoneId), m1.zones[j].ctl.st ≠ ZSt.off ∧ m1.zones[j].pwr.asleep = false)) ∧
    ((m1.host.wakes WakeCause.link = false ∨ m1.host.pwr.pstate = 0)) ∧
    (n1.host.wakes WakeCause.link = true ∧ n1.host.pwr.pstate = 1) ∧
    (n2.host.wakes WakeCause.link = true ∧ n2.host.pwr.pstate = 2 ∧ n2.host.proto.vwait = none ∧ n2.host.proto.wait = []) ∧
    (n3.host.pwr.pstate ≠ 2 ∧ bit (n3.host.reg Reg.DEV_SLEEP) 31 = true ∧ (∀ (j : ZoneId), n3.zones[j].ctl.st = ZSt.off ∨ n3.zones[j].pwr.asleep = true)) := by
  and_intros <;> decide

end W14

namespace W12

def a1 := stz .off id

set_option maxRecDepth 30000 in
/-- The clauses of OffZoneRefuses apply. -/
theorem test_meets_OffZoneRefuses :
    Quiet a1 (0 : ZoneId) ∧
    (a1.zones[(0 : ZoneId)].ctl.st = ZSt.off ∧ 2048 ≤ 2048 ∧ 2048 < 29696 ∧ 2048 % 1024 = 0) ∧
    (a1.zones[(0 : ZoneId)].ctl.st = ZSt.off ∧ 2048 ≤ 2052 ∧ 2052 < 29696 ∧ 2052 % 1024 ≠ 0) := by
  and_intros <;> decide

end W12

end Sys2Proof.Tests
end

section
namespace Sys2Proof.Machine

/-- Settles O50: the queue's front is executed with the queue's rest; no word of the table spells a command. -/
theorem queueStep : Obligations.QueueStep := by
  refine ⟨fun s c rest h => ?_, fun s h => step_nil s h, fun s nbits w => ?_⟩
  · rw [← step_cons, ← h]
  · rfl

/-- Settles O51: the state after reset, field by field. -/
theorem resetValues : Obligations.ResetValues := by
  refine ⟨?_, ?_, rfl⟩
  · rintro i z rfl
    have e : State.reset.zones[i] = Zone.reset i := by simp [State.reset]
    rw [e]
    refine ⟨rfl, rfl, rfl, rfl, rfl, rfl, ?_, ?_, rfl, rfl, ?_, rfl, rfl, rfl, fun k => rfl⟩
    · simp [Zone.reset]
    · simp [Zone.reset, Voice.free0]
    · simp [Zone.reset]
  · rintro h rfl
    exact ⟨rfl, rfl, rfl, rfl, rfl, rfl, rfl, rfl, fun k => rfl⟩
end Sys2Proof.Machine
end

section
namespace Sys2Proof.Machine

/-! The host complex: what each of its operations leaves of the protocol engine. -/

@[simp] theorem HostC.faultLog_proto (h : HostC) (r : Rec) : (h.faultLog r).proto = h.proto := by
  unfold HostC.faultLog
  dsimp only
  split <;> rfl

@[simp] theorem HostC.enqueue_wait (h : HostC) (r : Rec) : (h.enqueue r).proto.wait = h.proto.wait := by
  unfold HostC.enqueue
  dsimp only
  split_ifs <;> simp

@[simp] theorem HostC.takeFaults_proto (h : HostC) (o n : Zone) : (h.takeFaults o n).proto = h.proto := by
  unfold HostC.takeFaults
  generalize List.filter _ _ = l
  induction l generalizing h with
  | nil => rfl
  | cons r t ih => rw [List.foldl_cons, ih, HostC.faultLog_proto]

@[simp] theorem HostC.takeBase_proto (h : HostC) (i : ZoneId) (z : Zone) : (h.takeBase i z).proto = h.proto := by
  unfold HostC.takeBase
  split <;> rfl

@[simp] theorem HostC.takeMode_proto (h : HostC) (i : ZoneId) (z : Zone) : (h.takeMode i z).proto = h.proto := by
  unfold HostC.takeMode
  split
  · rfl
  · simp only [apply_ite HostC.proto, HostC.putBit_proto, HostC.putFld_proto, ite_self]

@[simp] theorem HostC.takeP0_proto (h : HostC) (z : Zone) : (h.takeP0 z).proto = h.proto := by
  unfold HostC.takeP0
  split <;> rfl

@[simp] theorem HostC.takeLock_proto (h : HostC) (i : ZoneId) (o n : Zone) : (h.takeLock i o n).proto = h.proto := by
  unfold HostC.takeLock
  split <;> rfl

@[simp] theorem HostC.takeVoice_wait (h : HostC) (i : ZoneId) (z : Zone) :
    (h.takeVoice i z).proto.wait = h.proto.wait := by
  unfold HostC.takeVoice
  split <;> rfl

@[simp] theorem HostC.mountEnd_proto (h : HostC) (m : Manifest) (fail : Nat) : (h.mountEnd m fail).proto = h.proto := by
  unfold HostC.mountEnd
  split <;> rfl

@[simp] theorem HostC.mountBegin_proto (h : HostC) : h.mountBegin.proto = h.proto := by
  unfold HostC.mountBegin
  dsimp only
  split <;> simp

@[simp] theorem HostC.mountPass_proto (h : HostC) (j : PortJob) : (h.mountPass j).proto = h.proto := by
  unfold HostC.mountPass
  dsimp only
  split_ifs <;> simp

@[simp] theorem HostC.mountSlot_proto (h : HostC) (j : PortJob) (cdqs : Bool) : (h.mountSlot j cdqs).proto = h.proto := by
  unfold HostC.mountSlot
  split
  · simp
  · dsimp only
    split_ifs <;> simp

@[simp] theorem HostC.tooEarly_proto (s : State) : s.tooEarly.2.proto = s.host.proto := by
  unfold State.tooEarly
  split <;> rfl

@[simp] theorem HostC.dropKey_proto (h : HostC) (k : KeyRec) : (h.dropKey k).proto = h.proto := by
  unfold HostC.dropKey
  split
  case h_7 => split <;> rfl
  all_goals rfl

@[simp] theorem HostC.nvmAddr_proto (h : HostC) (v : Word) : (h.nvmAddr v).proto = h.proto := by
  unfold HostC.nvmAddr HostC.nvmCommit
  dsimp only
  split
  · split
    · rfl
    · split <;> rfl
  · rfl

@[simp] theorem HostC.nvmNext_proto (h : HostC) : h.nvmNext.proto = h.proto := HostC.nvmAddr_proto h _

@[simp] theorem HostC.nvmWord_proto (h : HostC) (w : Word) : (h.nvmWord w).2.proto = h.proto := by
  unfold HostC.nvmWord
  dsimp only
  split <;> rfl

@[simp] theorem HostC.nvmRead_proto (h : HostC) : h.nvmRead.2.2.proto = h.proto := by
  unfold HostC.nvmRead
  dsimp only
  split_ifs <;> simp [HostC.freeWord]

@[simp] theorem HostC.nvmWrite_proto (h : HostC) (v : Word) : (h.nvmWrite v).2.proto = h.proto := by
  unfold HostC.nvmWrite
  dsimp only
  split
  · rfl
  · split
    · split <;> simp
    · simp

@[simp] theorem HostC.crcWrite_proto (h : HostC) (a : Nat) (v : Word) : (h.crcWrite a v).proto = h.proto := by
  unfold HostC.crcWrite HostC.crcFeed
  split_ifs <;> rfl

@[simp] theorem HostC.queueAns_proto (h : HostC) (f : TxFrame) : (h.queueAns f).proto = h.proto := rfl

@[simp] theorem HostC.linkErr_proto (h : HostC) (k hi lo n flt : Nat) : (h.linkErr k hi lo n flt).proto = h.proto := by
  unfold HostC.linkErr
  split <;> rfl

@[simp] theorem HostC.wakeMark_proto (h : HostC) (c : WakeCause) : (h.wakeMark c).proto = h.proto := by
  unfold HostC.wakeMark
  split <;> rfl

/-! Work of the host complex alone. -/

/-- The zones, the queue and the commands of the link that wait for their turn are as before. -/
abbrev HostWork (s t : State) : Prop :=
  t.zones = s.zones ∧ t.pending = s.pending ∧ t.host.proto.wait = s.host.proto.wait

theorem HostWork.trans {a b c : State} (h : HostWork a b) (h' : HostWork b c) : HostWork a c :=
  ⟨h'.1.trans h.1, h'.2.1.trans h.2.1, h'.2.2.trans h.2.2⟩

@[simp] theorem State.hsend_hostWork (s : State) (cls code : Nat) (params : List Byte) :
    HostWork s (s.hsend cls code params) := by
  unfold State.hsend
  simp [HostWork]

@[simp] theorem State.secMsg_hostWork (s : State) (code : Nat) (params : List Byte) : HostWork s (s.secMsg code params) :=
  s.hsend_hostWork _ _ _


/-! Sessions, keys and the life-cycle. -/

@[simp] theorem State.closeSession_hostWork (s : State) (reason : Nat) : HostWork s (s.closeSession reason) := by
  unfold State.closeSession
  split
  · exact ⟨rfl, rfl, rfl⟩
  · simp [HostWork, HostC.dropSession]

theorem HostC.newSession_wait (h : HostC) (k : Shake) (roles : Nat) :
    (h.newSession k roles).2.proto.wait = h.proto.wait := rfl

@[simp] theorem State.openSession_hostWork (s : State) (hcert : List Byte) : HostWork s (s.openSession hcert).2 := by
  unfold State.openSession
  split
  · exact ⟨rfl, rfl, rfl⟩
  · dsimp only
    simp [HostWork, HostC.dropSession, HostC.newSession_wait]

@[simp] theorem State.resumeSession_hostWork (s : State) (x : Session) : HostWork s (s.resumeSession x).2 := by
  unfold State.resumeSession
  simp [HostWork]

@[simp] theorem State.nonceExpiry_hostWork (s : State) : HostWork s s.nonceExpiry := by
  unfold State.nonceExpiry
  split <;> simp [HostWork]

@[simp] theorem State.p0Pass_hostWork (s : State) (zmask : Nat) (item : Word) (inline : Bool) (t : List Byte) :
    HostWork s (s.p0Pass zmask item inline t) := by
  have h1 (u : State) : HostWork u (match u.refZone zmask with
      | some i => if bit (u.zones[i].reg Reg.TIME_STAT) 1 then
          u.secMsg 0x0096 (natLe i.val 1 ++ natLe u.zones[i].tick48 6) else u
      | none => u) := by
    split
    · split <;> simp [HostWork]
    · exact ⟨rfl, rfl, rfl⟩
  refine HostWork.trans ?_ (HostWork.trans (h1 _) (State.secMsg_hostWork _ _ _))
  split <;> simp [HostWork]

@[simp] theorem State.p0Check_hostWork (s : State) (zmask : Nat) (item : Word) (a : Auth) :
    HostWork s (s.p0Check zmask item a) := by
  unfold State.p0Check
  dsimp only
  split <;> simp [HostWork, HostC.freeWord]

@[simp] theorem State.lcsChange_hostWork (s : State) (old new pend : Nat) : HostWork s (s.lcsChange old new pend) :=
  s.secMsg_hostWork _ _

@[simp] theorem State.keyDone_hostWork (s : State) (op slot r : Nat) : HostWork s (s.keyDone op slot r) := by
  unfold State.keyDone HostC.secRes
  dsimp only
  split <;> simp [HostWork]

@[simp] theorem State.installOpk_hostWork (s : State) (slot : Nat) : HostWork s (s.installOpk slot) := by
  unfold State.installOpk
  dsimp only
  split_ifs <;> simp [HostWork]

@[simp] theorem State.revokeOpk_hostWork (s : State) (slot : Nat) : HostWork s (s.revokeOpk slot) := by
  unfold State.revokeOpk
  dsimp only
  split_ifs <;> simp [HostWork]

@[simp] theorem State.setCek_hostWork (s : State) : HostWork s s.setCek := by
  unfold State.setCek
  split <;> simp [HostWork]

@[simp] theorem State.setTgk_hostWork (s : State) : HostWork s s.setTgk := by
  unfold State.setTgk
  split <;> simp [HostWork]

@[simp] theorem State.installSt_hostWork (s : State) : HostWork s s.installSt := by
  unfold State.installSt
  dsimp only
  split
  · simp [HostWork]
  · split <;> simp [HostWork]

@[simp] theorem State.removeSt_hostWork (s : State) : HostWork s s.removeSt := by
  unfold State.removeSt
  dsimp only
  split <;> simp [HostWork]

@[simp] theorem State.setFloor_hostWork (s : State) : HostWork s s.setFloor := by
  unfold State.setFloor
  dsimp only
  split <;> simp [HostWork]

@[simp] theorem State.setCfloor_hostWork (s : State) : HostWork s s.setCfloor := by
  unfold State.setCfloor
  dsimp only
  split <;> simp [HostWork]

@[simp] theorem State.secCmd_hostWork (s : State) (v : Word) : HostWork s (s.secCmd v) := by
  unfold State.secCmd
  dsimp only
  split
  · exact ⟨rfl, rfl, rfl⟩
  · split
    · simp [HostWork, HostC.secRes]
    · split <;> simp [HostWork]

@[simp] theorem State.lcsEnd_hostWork (s : State) (r : Nat) : HostWork s (s.lcsEnd r) := by
  unfold State.lcsEnd
  by_cases h : r = 0
  · simp only [h, if_true]; exact ⟨rfl, rfl, rfl⟩
  · simp only [h, if_false]; exact ⟨rfl, rfl, rfl⟩

@[simp] theorem State.modLcs_hostWork (s : State) (f : HLcs → HLcs) : HostWork s (s.modLcs f) := ⟨rfl, rfl, rfl⟩

@[simp] theorem State.genkey_hostWork (s : State) : HostWork s s.genkey := by
  unfold State.genkey
  dsimp only
  split_ifs <;> simp [HostWork, HostC.random]

@[simp] theorem State.provision_hostWork (s : State) : HostWork s s.provision := by
  unfold State.provision
  dsimp only
  split_ifs <;> simp [HostWork]

@[simp] theorem State.takeOwner_hostWork (s : State) : HostWork s s.takeOwner := by
  unfold State.takeOwner
  dsimp only
  split_ifs <;> simp [HostWork]

@[simp] theorem State.pendTo_hostWork (s : State) (new : Nat) : HostWork s (s.pendTo new) := by
  unfold State.pendTo
  split <;> simp [HostWork]

@[simp] theorem State.lockField_hostWork (s : State) : HostWork s s.lockField := by
  unfold State.lockField
  dsimp only
  split_ifs <;> simp [HostWork]

@[simp] theorem State.unlock_hostWork (s : State) : HostWork s s.unlock := by
  unfold State.unlock
  dsimp only
  split_ifs <;> simp [HostWork]

@[simp] theorem State.rma_hostWork (s : State) : HostWork s s.rma := by
  unfold State.rma
  dsimp only
  split_ifs <;> simp [HostWork]

@[simp] theorem State.rmaMaker_hostWork (s : State) : HostWork s s.rmaMaker := by
  unfold State.rmaMaker
  dsimp only
  split_ifs <;> simp [HostWork]

@[simp] theorem State.remake_hostWork (s : State) : HostWork s s.remake := by
  unfold State.remake
  dsimp only
  split_ifs <;> simp [HostWork]

@[simp] theorem State.debugOpen_hostWork (s : State) (test : Bool) (sig : List Byte) : HostWork s (s.debugOpen test sig) := by
  unfold State.debugOpen
  dsimp only
  split_ifs <;> simp [HostWork]

/-! The content port. -/

@[simp] theorem State.load_hostWork (s : State) : HostWork s s.load.2 := by
  unfold State.load
  dsimp only
  split
  · exact ⟨rfl, rfl, rfl⟩
  · split
    · exact ⟨rfl, rfl, rfl⟩
    · split_ifs <;> exact ⟨rfl, rfl, rfl⟩

@[simp] theorem State.xcmd_hostWork (s : State) (v : Word) : HostWork s (s.xcmd v).2 := by
  unfold State.xcmd
  split <;> exact ⟨rfl, rfl, rfl⟩

@[simp] theorem State.slotNext_hostWork (s : State) (turn : Option ZoneId) : HostWork s (s.slotNext turn) := ⟨rfl, rfl, rfl⟩

/-! Frames and answers of the link. -/

@[simp] theorem State.useDseq_hostWork (s : State) : HostWork s s.useDseq := by
  unfold State.useDseq
  split
  · exact ⟨rfl, rfl, rfl⟩
  · dsimp only
    split_ifs <;> simp [HostWork]

@[simp] theorem State.frameOf_hostWork (s : State) (ty : Nat) (pre body : List Byte) : HostWork s (s.frameOf ty pre body).2 := by
  unfold State.frameOf
  split <;> simp [HostWork]

@[simp] theorem State.nakNow_hostWork (s : State) (cn : Byte) (reason detail : Nat) : HostWork s (s.nakNow cn reason detail) := by
  unfold State.nakNow
  dsimp only
  simp [HostWork]

@[simp] theorem State.reply_hostWork (s : State) (c : Hdr) (ty : Nat) (body : List Byte) : HostWork s (s.reply c ty body) := by
  unfold State.reply
  dsimp only
  cases c.bcast <;> simp [HostWork]

@[simp] theorem State.ack_hostWork (s : State) (c : Hdr) (zok : Nat) : HostWork s (s.ack c zok) := s.reply_hostWork _ _ _

@[simp] theorem State.nak_hostWork (s : State) (c : Hdr) (reason zfail detail : Nat) :
    HostWork s (s.nak c reason zfail detail) := s.reply_hostWork _ _ _

@[simp] theorem State.takeSeq_hostWork (s : State) (x : Session) (seq : Nat) : HostWork s (s.takeSeq x seq).2 := by
  unfold State.takeSeq
  dsimp only
  split_ifs <;> simp [HostWork]

@[simp] theorem State.tagFail_hostWork (s : State) (cn : Byte) : HostWork s (s.tagFail cn) := by
  unfold State.tagFail
  dsimp only
  split <;> simp [HostWork]

@[simp] theorem State.holdOrLength_hostWork (s : State) (ty : Nat) (cn : Byte) (f : RxFrame) (secured bcast : Bool)
    (body : List Byte) : HostWork s (s.holdOrLength ty cn f secured bcast body) := by
  unfold State.holdOrLength
  split_ifs <;> simp [HostWork, HostC.hold]

@[simp] theorem State.addressed_hostWork (s : State) (f : RxFrame) : HostWork s (s.addressed f) := by
  unfold State.addressed
  dsimp only
  split
  · split <;> simp [HostWork]
  · split
    · simp [HostWork]
    · split
      · simp [HostWork]
      · split
        · simp [HostWork]
        · split
          · simp [HostWork]
          · split <;> simp [HostWork]

@[simp] theorem State.takeBseq_hostWork (s : State) (x : Session) (seq : Nat) : HostWork s (s.takeBseq x seq).2 := by
  unfold State.takeBseq
  dsimp only
  split_ifs <;> simp [HostWork]

@[simp] theorem State.bcastIgnored_hostWork (s : State) : HostWork s s.bcastIgnored := ⟨rfl, rfl, rfl⟩

@[simp] theorem State.broadcast_hostWork (s : State) (f : RxFrame) : HostWork s (s.broadcast f) := by
  unfold State.broadcast
  dsimp only
  generalize (if f.ident.toNat / 32 % 2 = 1 then _ else _ : Byte) = cn
  split
  · exact ⟨rfl, rfl, rfl⟩
  · split
    · split <;> simp [HostWork]
    · split
      · simp [HostWork]
      · split <;> simp [HostWork]

@[simp] theorem State.linkBreak_hostWork (s : State) : HostWork s s.linkBreak := by
  unfold State.linkBreak
  split
  · exact ⟨rfl, rfl, rfl⟩
  · simp only [State.modHost_host, State.modHost_zones, State.modHost_pending, HostWork, true_and]
    split <;> rfl

@[simp] theorem State.linkTimeout_hostWork (s : State) : HostWork s s.linkTimeout := by
  unfold State.linkTimeout
  split <;> simp [HostWork]

@[simp] theorem State.wakeEdge_hostWork (s : State) (lsw low : Bool) : HostWork s (s.wakeEdge lsw low) := by
  unfold State.wakeEdge
  dsimp only
  split_ifs <;> simp [HostWork]

@[simp] theorem State.message_hostWork (s : State) : HostWork s s.message := by
  unfold State.message
  dsimp only
  split_ifs <;> simp [HostWork]

@[simp] theorem State.syncPulse_hostWork (s : State) (low : Bool) : HostWork s (s.syncPulse low) := by
  unfold State.syncPulse
  dsimp only
  split
  · exact ⟨rfl, rfl, rfl⟩
  · split
    · exact ⟨rfl, rfl, rfl⟩
    · split <;> exact ⟨rfl, rfl, rfl⟩

@[simp] theorem State.voiceDone_hostWork (s : State) : HostWork s s.voiceDone := by
  unfold State.voiceDone
  split
  · exact ⟨rfl, rfl, rfl⟩
  · dsimp only
    split_ifs <;> simp [HostWork]

@[simp] theorem State.authority_hostWork (s : State) (zmask : Nat) (item : Word) (a : Auth) :
    HostWork s (s.authority zmask item a).2.2 := by
  unfold State.authority
  dsimp only
  split <;> split <;> simp [HostWork]

@[simp] theorem State.lswAnswer_hostWork (s : State) (collision : Bool) (cmd : Nat) (d : List Byte) :
    HostWork s (s.lswAnswer collision cmd d) := by
  unfold State.lswAnswer
  split <;> simp [HostWork]

/-! Commands of the protocol engine that are the host complex's own. -/

@[simp] theorem State.ping_hostWork (s : State) (c : Hdr) : HostWork s (s.ping c) := s.reply_hostWork _ _ _

@[simp] theorem State.ident_hostWork (s : State) (c : Hdr) : HostWork s (s.ident c) := s.reply_hostWork _ _ _

@[simp] theorem State.bulkWr_hostWork (s : State) (c : Hdr) (off : BitVec 16) (d : List Byte) : HostWork s (s.bulkWr c off d) := by
  unfold State.bulkWr
  dsimp only
  split_ifs <;> simp [HostWork]

@[simp] theorem State.bulkRd_hostWork (s : State) (c : Hdr) (off : BitVec 16) (count : Byte) : HostWork s (s.bulkRd c off count) := by
  unfold State.bulkRd
  dsimp only
  split_ifs <;> simp [HostWork]

@[simp] theorem State.helloCmd_hostWork (s : State) (c : Hdr) (qh nh : List Byte) : HostWork s (s.helloCmd c qh nh) := by
  unfold State.helloCmd
  dsimp only
  split_ifs <;> simp [HostWork, HostC.hello, HostC.random]

@[simp] theorem State.authCmd_hostWork (s : State) (c : Hdr) (hcert sigh : List Byte) : HostWork s (s.authCmd c hcert sigh) := by
  unfold State.authCmd
  dsimp only
  split_ifs <;> simp [HostWork]

@[simp] theorem State.closeCmd_hostWork (s : State) (c : Hdr) (sid : Word) (mac : List Byte) : HostWork s (s.closeCmd c sid mac) := by
  unfold State.closeCmd
  dsimp only
  split
  · simp [HostWork]
  · split
    · simp [HostWork]
    · split
      · simp [HostWork]
      · split_ifs <;> simp [HostWork]

@[simp] theorem State.resumeCmd_hostWork (s : State) (c : Hdr) (sid : Word) (mac : List Byte) : HostWork s (s.resumeCmd c sid mac) := by
  unfold State.resumeCmd
  dsimp only
  split
  · simp [HostWork]
  · split
    · simp [HostWork]
    · split
      · simp [HostWork]
      · split
        · simp [HostWork]
        · split_ifs <;> simp [HostWork]

@[simp] theorem State.statusCmd_hostWork (s : State) (c : Hdr) : HostWork s (s.statusCmd c) := by
  unfold State.statusCmd
  dsimp only
  split <;> simp [HostWork]

@[simp] theorem State.getcertCmd_hostWork (s : State) (c : Hdr) (off : BitVec 16) (count : Byte) :
    HostWork s (s.getcertCmd c off count) := by
  unfold State.getcertCmd
  dsimp only
  split_ifs <;> simp [HostWork]

/-! Registers and power of the host complex. -/

@[simp] theorem State.sgWrite_hostWork (s : State) (v : Word) : HostWork s (s.sgWrite v) := by
  unfold State.sgWrite
  dsimp only
  split_ifs <;> exact ⟨rfl, rfl, rfl⟩

@[simp] theorem State.wrote_hostWork (s : State) (off mask : Nat) : HostWork s (s.wrote off mask) := ⟨rfl, rfl, rfl⟩

@[simp] theorem State.ready_hostWork (s : State) : HostWork s s.ready := by
  unfold State.ready
  split <;> simp [HostWork]

@[simp] theorem State.x32Check_hostWork (s : State) (running : Bool) : HostWork s (s.x32Check running) := by
  unfold State.x32Check
  simp only [State.modHost_host, State.modHost_zones, State.modHost_pending, HostWork, true_and]
  split <;> rfl

@[simp] theorem State.slept_hostWork (s : State) : HostWork s s.slept := by
  unfold State.slept
  split <;> simp [HostWork]

end Sys2Proof.Machine
end

section
namespace Sys2Proof.Machine

/-! The queue, and the commands of the link that wait, under what happens in a zone and at a boundary. -/

/-- The queue and the commands of the link that wait for their turn are as before. -/
abbrev SameQueues (s t : State) : Prop := t.pending = s.pending ∧ t.host.proto.wait = s.host.proto.wait

theorem SameQueues.trans {a b c : State} (h : SameQueues a b) (h' : SameQueues b c) : SameQueues a c :=
  ⟨h'.1.trans h.1, h'.2.trans h.2⟩

@[simp] theorem State.gather_queues (s : State) (i : ZoneId) (o n : Zone) : SameQueues s (s.gather i o n) := by
  unfold State.gather State.abandonSleep
  dsimp only
  split <;> simp [SameQueues]

@[simp] theorem State.onZone_queues (s : State) (i : ZoneId) (f : Zone → HostC → Zone) : SameQueues s (s.onZone i f) :=
  s.gather_queues _ _ _

@[simp] theorem State.hostTicks_queues (s : State) (i : ZoneId) : SameQueues s (s.hostTicks i) := by
  unfold State.hostTicks
  split <;> exact ⟨rfl, rfl⟩

@[simp] theorem State.setBegan_queues (s : State) (i : ZoneId) (b : Bool) : SameQueues s (s.setBegan i b) := ⟨rfl, rfl⟩

@[simp] theorem State.frameStart_queues (s : State) (i : ZoneId) : SameQueues s (s.frameStart i) := by
  unfold State.frameStart
  dsimp only
  split <;> simp [SameQueues]

@[simp] theorem State.frameBoundary_queues (s : State) (i : ZoneId) (inp : FrameIn) : SameQueues s (s.frameBoundary i inp) := by
  unfold State.frameBoundary
  split
  · exact ⟨rfl, rfl⟩
  · dsimp only
    split <;> simp [SameQueues]

@[simp] theorem State.tickBoundary_queues (s : State) (i : ZoneId) : SameQueues s (s.tickBoundary i) := by
  unfold State.tickBoundary
  dsimp only
  split <;> simp [SameQueues]

@[simp] theorem State.zslowEdge_queues (s : State) (i : ZoneId) (a b : Bool) : SameQueues s (s.zslowEdge i a b) := by
  unfold State.zslowEdge
  split
  · exact ⟨rfl, rfl⟩
  · dsimp only
    split <;> simp [SameQueues]

/-- Where no command of the link waits, the protocol engine at most answers the VOICE command under way. -/
theorem State.flush_hostWork {s : State} (h : s.host.proto.wait = []) : HostWork s s.flush := by
  unfold State.flush
  rw [h]
  exact s.voiceDone_hostWork

/-! A command about one zone, and the other zones (R26). -/

/-- The other zones are as before. -/
abbrev OthersKept (i : ZoneId) (s t : State) : Prop := ∀ j : ZoneId, j ≠ i → t.zones[j] = s.zones[j]

/-- A write of CONT.CMD, which host software may lock (R372). -/
theorem State.hostWrite_contCmd (s : State) (v : Word) : s.hostWrite Reg.CONT_CMD v =
    if bit (s.host.reg 0x1418) 0 then (0x06, s) else s.contCmd v := by
  have hl : pageOf Reg.CONT_CMD = 0x1400 ∧ Reg.CONT_CMD % 0x400 = 0x30 ∧ hostLockable 0x1400 = true := by decide
  obtain ⟨r, hr, ha, hb⟩ : ∃ r, hostSpec Reg.CONT_CMD = some r ∧ r.acc ≠ .ro ∧ r.acc ≠ .rc :=
    ⟨_, rfl, by decide, by decide⟩
  have hx : s.hostSpecial Reg.CONT_CMD v = some (s.contCmd v) := rfl
  unfold State.hostWrite
  dsimp only
  simp [hl, hr, ha, hb, hx]

section others
variable {s : State} {i : ZoneId} (hp : s.host.pwr.pstate ≠ 1)
include hp

theorem onZone_others (f : Zone → HostC → Zone) : OthersKept i s (s.onZone i f) := fun _ hj => onZone_ne hp hj

theorem busWrite_others {off : Nat} (v : Word) (h : off < 0x7400) :
    OthersKept i s (s.busWrite (zoneAddr i off) v) := by
  obtain ⟨b, e⟩ := busWrite_zone s i v h
  rw [e, OthersKept, State.modHost_zones]
  exact onZone_others hp _

theorem busRead_others {off : Nat} (h : off < 0x7400) : OthersKept i s (s.busRead (zoneAddr i off)) := by
  unfold State.busRead State.regRead OthersKept
  rw [placeOf_zoneAddr i h, State.modHost_zones]
  exact (zones_of_set (gather_zones hp)).2

theorem partyWrite_others (p : Party) {off : Nat} (v : Word) (h : off < 0x7400) :
    OthersKept i s (s.partyWrite p i off v) := by
  cases p with
  | host => exact busWrite_others hp v h
  | prog => exact onZone_others hp fun z h => (z.bridgeWrite h off v).dspHold 6

theorem partyRead_others (p : Party) {off : Nat} (h : off < 0x7400) : OthersKept i s (s.partyRead p i off) := by
  cases p with
  | host => exact busRead_others hp h
  | prog => exact onZone_others hp fun z _ => (z.bridgeRead off).2.dspHold 6

/-- UNFENCE is a write of CONT.CMD that names its zone (R170). -/
theorem unfence_others : OthersKept i s (s.busWrite Reg.CONT_CMD (BitVec.ofNat 32 (i.val * 2 ^ 8 + 4))) := by
  have hop : fld (BitVec.ofNat 32 (i.val * 2 ^ 8 + 4)) 3 0 = 4 := by revert i; decide
  have hz : fin 8 (fld (BitVec.ofNat 32 (i.val * 2 ^ 8 + 4)) 10 8) = i := by revert i; decide
  have hpl : placeOf Reg.CONT_CMD = .host := by decide
  have hc : s.contCmd (BitVec.ofNat 32 (i.val * 2 ^ 8 + 4)) = (0, s.unfence i) := by
    unfold State.contCmd
    simp only [hop, hz]
  unfold State.busWrite State.regWrite OthersKept
  rw [hpl, State.modHost_zones]
  dsimp only
  rw [State.hostWrite_contCmd, hc]
  split
  · exact fun _ _ => rfl
  · exact onZone_others hp fun z _ => { z with cache := { z.cache with fenced := [] } }

theorem busWrite_next_others {off : Nat} {v : Word} {t : State} (he : (.next (s.busWrite (zoneAddr i off) v) : Out) = .next t)
    (h : off < 0x7400) : OthersKept i s t := by
  cases he
  exact busWrite_others hp v h

theorem slotRow_others {b : Bundle} {t : State} (he : slotRow s i b = .next t) : OthersKept i s t := by
  cases he
  exact onZone_others hp fun z h => z.issue h b

/-- A command about one zone leaves the others. -/
theorem exec_others {c : Instr} {t : State} (hz : zoneOf c = some i) (he : exec c s = .next t) : OthersKept i s t := by
  cases c
  -- events of the zone
  case initComplete | initSlow | testComplete | wdog | trapBucketLeak | router | regulatorTrip | orphan | hcloss | frefEdge
      | holdover | holdoverLimit | slewComplete | loadEdge | tachEdge | standstill | stale | hcmdApply | periodEnd | copyDone
      | vstart | vrel | vkill | vctl | retrig | swap | mode | msg | gain | handler | presetCopy | successorStart
      | spliceWindowEnd | gramp | overrun | ovl | ovlClear | crossFadeEnd | aecInstant | dtHoldEnd | erleWindow | checkpoint
      | intervalEnd | ampfault | ampenRelease | holdTimeout | spanSwitch | cmok | unmute | clrnAssert | clrnRelease
      | clrCrossFade | burst | slip | tdmLock | debugHalt | debugHaltEnd | scrubPass | borrow | correctedWriteBack | vanaFail
      | zvaInRegulation =>
    cases hz
    cases he
    exact onZone_others hp _
  -- bundles of the zone's DSP
  case macMnop | mpy | mac | msu | gmpy | gmac | dmpy | dmac | dmac2 | wmpy | wmac | wgmac | ald | aadd | asub | aclr | anop
      | mov | add | sub | neg | abs | min | max | and | or | xor | shra | shra8 | shl | ldi | ldis | cmpeq | cmplt | cmple
      | rdacc | sts | stg | fclr | hmov | br | loop | endRoutine | memMnop | ldw | stw | lde | ste | tap | ioRead | ioWrite
      | pts =>
    cases hz
    exact slotRow_others hp he
  -- writes of host software
  case enable | disable | resetWarm | resetCold | run | resume | fence | recover | wdogWrite | frefRate | epochArm
      | epochDisarm | setpos | setvel | posMode | swapset | post | cancel | flush | validate | greqLo | stoneCfg | dspRun
      | clra | clrb | storeBase | clearBase | ampReset | spanRequest | mute | pilotRequest | tdmCfg =>
    cases hz
    exact busWrite_next_others hp he (by decide)
  -- writes of host software to one of several like registers
  case tmrNext n _ | tmrCtl n _ | forceEnd n | srst n | cdataLo n _ | freq n _ =>
    cases hz
    cases he
    exact busWrite_others hp _ (by revert n; decide)
  case armAtTgt p _ | armNext p | armAtTgtCopy p _ | armNextCopy p | disarm p =>
    cases hz
    cases he
    exact busWrite_others hp _ (by revert p; decide)
  case cdataHi n =>
    cases hz
    cases he
    exact busRead_others hp (by revert n; decide)
  -- accesses of either party
  case wdogKick | vwinDataWrite | dwinDataWrite | rwinDataWrite =>
    cases hz
    cases he
    exact partyWrite_others hp _ _ (by decide)
  case vwinDataRead | dwinDataRead | rwinDataRead | btickRead | wdataRead =>
    cases hz
    cases he
    exact partyRead_others hp _ (by decide)
  case latchRead pos =>
    cases hz
    cases he
    exact partyRead_others hp _ (by cases pos <;> decide)
  case unfence =>
    cases hz
    cases he
    exact unfence_others hp
  all_goals cases hz

end others

/-! A boundary, and the other zones (R319). -/

/-- A zone after a boundary of another: at most, a tick more that its records have waited for MSGACK. -/
abbrev Aged (z z' : Zone) : Prop :=
  { z' with msgs := z.msgs } = z ∧ (z'.msgs = z.msgs ∨ z'.msgs = { z.msgs with q := ageRecs z.msgs.q })

theorem State.hostTicks_aged (s : State) (i j : ZoneId) : Aged s.zones[j] (s.hostTicks i).zones[j] := by
  unfold State.hostTicks
  split
  · exact ⟨rfl, .inl rfl⟩
  · have e : ∀ f : Zone → Zone, (s.zones.map f)[j] = f s.zones[j] := fun f => by simp
    simp only [e]
    exact ⟨rfl, .inr rfl⟩

theorem State.hostTicks_pwr (s : State) (i : ZoneId) : (s.hostTicks i).host.pwr = s.host.pwr := by
  unfold State.hostTicks
  split <;> rfl

theorem State.setBegan_others (s : State) (i : ZoneId) (b : Bool) : OthersKept i s (s.setBegan i b) := by
  intro j hj
  have hne : i.val ≠ j.val := fun e => hj (Fin.ext e.symm)
  simp [State.setBegan, vmod, hne]

section boundary
variable {s : State} {i j : ZoneId} (hp : s.host.pwr.pstate ≠ 1) (hj : j ≠ i)
include hp

/-- Something in the zone, then, at a tick, what the host complex counts and something more in the zone. -/
theorem tick_aged (f g : Zone → HostC → Zone) (b : Bool) (hj : j ≠ i) :
    let u := s.onZone i f
    Aged s.zones[j] (if b then (u.hostTicks i).onZone i g else u).zones[j] := by
  intro u
  have hu : u.zones[j] = s.zones[j] := onZone_ne hp hj
  have hpu : (u.hostTicks i).host.pwr.pstate ≠ 1 := by
    rw [State.hostTicks_pwr, onZone_pwr hp]; exact hp
  cases b
  · simp only [Bool.false_eq_true, if_false, hu]; exact ⟨rfl, .inl rfl⟩
  · simp only [if_true, onZone_ne hpu hj]
    rw [← hu]
    exact u.hostTicks_aged i j

theorem tick_pstate (f g : Zone → HostC → Zone) (b : Bool) :
    let u := s.onZone i f
    (if b then (u.hostTicks i).onZone i g else u).host.pwr.pstate ≠ 1 := by
  intro u
  have hpu : u.host.pwr = s.host.pwr := onZone_pwr hp
  cases b
  · simpa [hpu] using hp
  · have : (u.hostTicks i).host.pwr.pstate ≠ 1 := by rw [State.hostTicks_pwr, hpu]; exact hp
    simp only [if_true, onZone_pwr this]
    exact this

include hj

theorem frameBoundary_aged (inp : FrameIn) : Aged s.zones[j] (s.frameBoundary i inp).zones[j] := by
  unfold State.frameBoundary
  split
  · exact ⟨rfl, .inl rfl⟩
  · dsimp only
    split
    · have hs : (s.setBegan i false).host.pwr.pstate ≠ 1 := hp
      rw [onZone_ne hs hj, State.setBegan_others s i false j hj]
      exact ⟨rfl, .inl rfl⟩
    · have hs : (s.frameStart i).host.pwr.pstate ≠ 1 := tick_pstate hp _ _ _
      rw [onZone_ne hs hj]
      exact tick_aged hp _ _ _ hj

theorem tickBoundary_aged : Aged s.zones[j] (s.tickBoundary i).zones[j] := by
  unfold State.tickBoundary
  dsimp only
  split
  · exact ⟨rfl, .inl rfl⟩
  · rw [State.setBegan_others _ i true j hj]
    exact tick_aged hp _ _ _ hj

theorem zslowEdge_aged (a b : Bool) : Aged s.zones[j] (s.zslowEdge i a b).zones[j] := by
  unfold State.zslowEdge
  split
  · exact ⟨rfl, .inl rfl⟩
  · exact tick_aged hp _ _ _ hj

end boundary

/-- Settles O58: a command about one zone by its shape (an event, a register access); a boundary by what the host complex counts
at its tick. -/
theorem zoneIsolation : Obligations.ZoneIsolation := by
  intro c s t i hp he
  refine ⟨fun hz j hj => exec_others hp hz he j hj, fun hb hw j hj => ?_⟩
  -- the protocol engine goes on after the boundary, but nothing has waited for it
  have flushed {u : State} (hq : SameQueues s u) (ha : Aged s.zones[j] u.zones[j]) : Aged s.zones[j] u.flush.zones[j] := by
    rw [(State.flush_hostWork (hq.2.trans hw)).1]
    exact ha
  cases c
  case frameBoundary inp =>
    cases hb
    cases he
    exact flushed (s.frameBoundary_queues _ _) (frameBoundary_aged hp hj _)
  case tickBoundary =>
    cases hb
    cases he
    exact flushed (s.tickBoundary_queues _) (tickBoundary_aged hp hj)
  case zslowEdge a b =>
    cases hb
    cases he
    exact flushed (s.zslowEdge_queues _ _ _) (zslowEdge_aged hp hj _ _)
  all_goals cases hb

end Sys2Proof.Machine
end

section
namespace Sys2Proof.Machine

/-! What a command in a zone leaves, when it may take the zone out of INIT (R253). -/

/-- The registers that the baseline's load on leaving INIT can write. -/
abbrev baseRegs : List Nat := [Reg.LINE_BMAG, Reg.LINE_BPH, Reg.LINE_BFREQ, Reg.LINE_BTICK, linePage + 0x00C]

/-- A zone after the load of its baseline: governor, registers of baseRegs, open choices taken. -/
def BaseMove (z z' : Zone) : Prop :=
  ∃ g r d, z' = { z with gov := g, regs := r, draws := d } ∧ RegMapBut baseRegs z r ∧ g.ampFlt = z.gov.ampFlt

theorem BaseMove.refl {z : Zone} (h : z.regsWf = true) : BaseMove z z := ⟨z.gov, z.regs, z.draws, rfl, .refl h, rfl⟩

theorem BaseMove.trans {a b c : Zone} (h : BaseMove a b) (h' : BaseMove b c) : BaseMove a c := by
  obtain ⟨g, r, d, rfl, w, e⟩ := h
  obtain ⟨g', r', d', rfl, w', e'⟩ := h'
  exact ⟨g', r', d', rfl, RegMapBut.trans w w', e'.trans e⟩

theorem BaseMove.wf {a b : Zone} (h : BaseMove a b) : b.regsWf = true := by
  obtain ⟨g, r, d, rfl, w, _⟩ := h
  exact w.1

theorem BaseMove.next {a b c : Zone} (h : BaseMove a b) (h' : b.regsWf = true → BaseMove b c) : BaseMove a c :=
  h.trans (h' h.wf)

theorem BaseMove.setReg {z : Zone} (h : z.regsWf = true) {k : Nat} (hk : k ∈ baseRegs) (v : Word) :
    BaseMove z (z.setReg k v) := ⟨z.gov, _, z.draws, rfl, (RegMapBut.refl h).set hk v, rfl⟩

theorem BaseMove.modGov {z : Zone} (h : z.regsWf = true) {f : ZGov → ZGov} (hf : (f z.gov).ampFlt = z.gov.ampFlt) :
    BaseMove z (z.modGov f) := ⟨_, z.regs, z.draws, rfl, .refl h, hf⟩

theorem BaseMove.setFlt {z : Zone} (h : z.regsWf = true) (n : Nat) : BaseMove z (z.setFlt linePage n) :=
  BaseMove.setReg h (by simp) _

theorem Zone.baseMisSet_move {z : Zone} (h : z.regsWf = true) : BaseMove z z.baseMisSet := by
  unfold Zone.baseMisSet
  dsimp only
  have h1 : ∀ m : Bool, BaseMove z (z.modGov (fun g => { g with baseMis := m })) := fun m => .modGov h rfl
  split
  · exact (h1 _).next (fun w => .setFlt w 2)
  · exact h1 _

theorem Zone.baseLoad_move {z : Zone} (h : z.regsWf = true) (r : Option BaseRec) (bad : Bool) :
    BaseMove z (z.baseLoad r bad) := by
  unfold Zone.baseLoad
  split
  · exact ((BaseMove.modGov h rfl).next (fun w => .setFlt w 4)).next Zone.baseMisSet_move
  · split
    · exact ((((((BaseMove.setReg h (by simp) _).next (fun w => .setReg w (by simp) _)).next
        (fun w => .setReg w (by simp) _)).next (fun w => .setReg w (by simp) _)).next (fun w => .modGov w rfl))).next
        Zone.baseMisSet_move
    · exact (BaseMove.modGov h rfl).next Zone.baseMisSet_move

theorem Zone.leaveInit_move {z : Zone} (h : z.regsWf = true) (old : Zone) (r : Option BaseRec) :
    BaseMove z (z.leaveInit old r) := by
  unfold Zone.leaveInit
  split
  · exact .refl h
  · split
    · exact Zone.baseLoad_move h _ _
    · have hd : BaseMove z (z.freeCond 6).2 := ⟨z.gov, z.regs, _, rfl, .refl h, rfl⟩
      exact hd.next (fun w => Zone.baseLoad_move w _ _)

/-- A zone that is not leaving INIT loads no baseline. -/
theorem Zone.leaveInit_self (z : Zone) (r : Option BaseRec) : z.leaveInit z r = z :=
  if_pos (by by_cases h : z.ctl.st = .init <;> simp [h])

/-- Without an amplifier fault and without a waiting voice command, leaving INIT is all there is to settle. -/
theorem Zone.settle_move {z : Zone} (h : z.regsWf = true) (ha : z.gov.ampFlt = false) (hq : z.vox.hostq = []) (old : Zone)
    (r : Option BaseRec) : BaseMove z (z.settle old r) := by
  have hm := Zone.leaveInit_move h old r
  have hy : Settled (z.leaveInit old r) (z.leaveInit old r) := by
    obtain ⟨g, rg, d, e, _, k⟩ := hm
    rw [e]
    exact ⟨k.trans ha, hq, by by_cases hi : z.ctl.st = .init <;> simp [hi]⟩
  have hs : z.settle old r = z.leaveInit old r := calc
    z.settle old r = (z.leaveInit old r).settle (z.leaveInit old r) r := by
      unfold Zone.settle; rw [Zone.leaveInit_self]
    _ = z.leaveInit old r := Zone.settle_quiet hy
  rw [hs]
  exact hm

/-- What a command has left of a zone n: the zone, but for its notices, and for its baseline where the zone left INIT. -/
def Leaves (n z' : Zone) : Prop := ∃ m, BaseMove n m ∧ z' = m.taken

section leaves
variable {n z' : Zone} (h : Leaves n z')
include h

theorem Leaves.ctl : z'.ctl = n.ctl := by obtain ⟨_, ⟨g, r, d, rfl, w, _⟩, rfl⟩ := h; rfl
theorem Leaves.reg {k : Nat} (hk : k ∉ baseRegs) : z'.reg k = n.reg k := by
  obtain ⟨_, ⟨g, r, d, rfl, w, _⟩, rfl⟩ := h; exact w.2 k hk
theorem Leaves.time : z'.time = n.time := by obtain ⟨_, ⟨g, r, d, rfl, w, _⟩, rfl⟩ := h; rfl
theorem Leaves.pll : z'.pll = n.pll := by obtain ⟨_, ⟨g, r, d, rfl, w, _⟩, rfl⟩ := h; rfl
theorem Leaves.pos : z'.pos = n.pos := by obtain ⟨_, ⟨g, r, d, rfl, w, _⟩, rfl⟩ := h; rfl
theorem Leaves.tmr : z'.tmr = n.tmr := by obtain ⟨_, ⟨g, r, d, rfl, w, _⟩, rfl⟩ := h; rfl
theorem Leaves.pwr : z'.pwr = n.pwr := by obtain ⟨_, ⟨g, r, d, rfl, w, _⟩, rfl⟩ := h; rfl
theorem Leaves.out : z'.out = n.out := by obtain ⟨_, ⟨g, r, d, rfl, w, _⟩, rfl⟩ := h; rfl
theorem Leaves.voices : z'.voices = n.voices := by obtain ⟨_, ⟨g, r, d, rfl, w, _⟩, rfl⟩ := h; rfl
theorem Leaves.dsp : z'.dsp = n.dsp := by obtain ⟨_, ⟨g, r, d, rfl, w, _⟩, rfl⟩ := h; rfl
theorem Leaves.route : z'.route = n.route := by obtain ⟨_, ⟨g, r, d, rfl, w, _⟩, rfl⟩ := h; rfl
theorem Leaves.msgs : z'.msgs = n.msgs := by obtain ⟨_, ⟨g, r, d, rfl, w, _⟩, rfl⟩ := h; rfl
theorem Leaves.battA : z'.vox.battA = n.vox.battA := by obtain ⟨_, ⟨g, r, d, rfl, w, _⟩, rfl⟩ := h; rfl
theorem Leaves.sched : z'.sched = { n.sched with devRep := none, p0prot := 0 } := by
  obtain ⟨_, ⟨g, r, d, rfl, w, _⟩, rfl⟩ := h; rfl

end leaves

/-- Something happens in a zone and leaves neither an amplifier fault nor a voice command to settle. -/
theorem onZone_leaves {s : State} {i : ZoneId} {f : Zone → HostC → Zone} {n : Zone} (h : s.host.pwr.pstate ≠ 1)
    (hn : f s.zones[i] s.host = n) (hw : n.regsWf = true) (ha : n.gov.ampFlt = false) (hq : n.vox.hostq = []) :
    Leaves n (s.onZone i f).zones[i] ∧ OnlyZone i s (s.onZone i f) := by
  subst hn
  refine ⟨⟨_, Zone.settle_move hw ha hq _ _, onZone_self h⟩, fun j hj => onZone_ne h hj, onZone_pending⟩

/-- A command that is something happening in a zone. -/
theorem event_leaves {s : State} {i : ZoneId} {f : Zone → HostC → Zone} {c : Instr} {n : Zone}
    (hc : exec c s = inZoneH s i f) (hq : Quiet s i) (hn : f s.zones[i] s.host = n) (hw : n.regsWf = true)
    (ha : n.gov.ampFlt = false) (hv : n.vox.hostq = []) :
    Completes c s (fun t => Leaves n t.zones[i] ∧ OnlyZone i s t) :=
  ⟨_, hc, onZone_leaves hq.2.1 hn hw ha hv⟩

/-- A command of ZCTL.CMD: what the zone's own command does. -/
theorem Zone.regWrite_zctlCmd (z : Zone) (h : HostC) (p0 : Bool) (v : Word) :
    z.regWrite h .host p0 Reg.ZCTL_CMD v = (0, z.zctlCmd h v) := by
  obtain ⟨r, hr, hw⟩ : ∃ r, zoneSpec Reg.ZCTL_CMD = some r ∧ z.blockWrite h .host p0 r v = (0, z.zctlCmd h v) :=
    ⟨_, rfl, rfl⟩
  rw [Zone.regWrite_ctl (by decide) (by decide) hr, hw]

/-- A command that is a write of host software. -/
theorem write_leaves {s : State} {i : ZoneId} {off : Nat} {v : Word} {c : Instr} {n : Zone}
    (hc : exec c s = .next (s.partyWrite .host i off v)) (hq : Quiet s i) (hoff : off < 0x7400)
    (hn : ∀ p0, (s.zones[i].regWrite s.host .host p0 off v).2 = n) (hw : n.regsWf = true) (ha : n.gov.ampFlt = false)
    (hv : n.vox.hostq = []) : Completes c s (fun t => Leaves n t.zones[i] ∧ OnlyZone i s t) := by
  obtain ⟨b, hb⟩ := hostWrite_zone s i v hoff
  refine ⟨_, hc, ?_⟩
  rw [hb]
  exact onZone_leaves (f := fun z x => (z.regWrite x .host s.host.p0ctl off v).2) hq.2.1 (hn _) hw ha hv

section order
variable {s : State} {i : ZoneId} {op : Fin 16} {c : Instr} {n : Zone}

/-- The zone's own command of an operation of ZCTL.CMD (Table 1-6). -/
theorem zctl_write (hn : s.zones[i].zctlCmd s.host (BitVec.ofNat 32 (0xA500 + op.val)) = n) (p0 : Bool) :
    (s.zones[i].regWrite s.host .host p0 Reg.ZCTL_CMD (BitVec.ofNat 32 (0xA500 + op.val))).2 = n := by
  rw [Zone.regWrite_zctlCmd, hn]

theorem order_leaves (hc : exec c s = .next (s.zctl i op.val)) (hq : Quiet s i)
    (hn : s.zones[i].zctlCmd s.host (BitVec.ofNat 32 (0xA500 + op.val)) = n) (hw : n.regsWf = true)
    (ha : n.gov.ampFlt = false) (hv : n.vox.hostq = []) :
    Completes c s (fun t => Leaves n t.zones[i] ∧ OnlyZone i s t) :=
  write_leaves hc hq (by decide) (zctl_write hn) hw ha hv

theorem order_lone (hc : exec c s = .next (s.zctl i op.val)) (hq : Quiet s i)
    (hn : s.zones[i].zctlCmd s.host (BitVec.ofNat 32 (0xA500 + op.val)) = n) (hf : Settled s.zones[i] n)
    (ht : Told n) (hm : n.msgs.nseq = s.zones[i].msgs.nseq) (hl : n.pll.lock = s.zones[i].pll.lock) :
    Completes c s (fun t => t.zones[i] = n ∧ Lone i s t) :=
  write_lone hc hq (by decide) (zctl_write hn) hf ht hm hl

end order

end Sys2Proof.Machine
end

section
namespace Sys2Proof.Machine

/-! Fields of a word. -/

/-- What stands above a field, the field, what stands below it. -/
theorem toNat_setFld {w : Word} {hi lo v : Nat} (h : lo ≤ hi) (h' : hi < 32) :
    (setFld w hi lo v).toNat =
      w.toNat / 2 ^ (hi + 1) * 2 ^ (hi + 1) + v % 2 ^ (hi + 1 - lo) * 2 ^ lo + w.toNat % 2 ^ lo := by
  have hw := w.isLt
  have e1 : 2 ^ (hi + 1) = 2 ^ (hi + 1 - lo) * 2 ^ lo := by rw [← pow_add]; congr 1; omega
  have e2 : 2 ^ (31 - hi) * 2 ^ (hi + 1) = 2 ^ 32 := by rw [← pow_add]; congr 1; omega
  have hp : 0 < 2 ^ lo := by positivity
  have hf : v % 2 ^ (hi + 1 - lo) < 2 ^ (hi + 1 - lo) := Nat.mod_lt _ (by positivity)
  have d1 := Nat.div_add_mod w.toNat (2 ^ lo)
  have d2 := Nat.div_add_mod (w.toNat / 2 ^ lo) (2 ^ (hi + 1 - lo))
  have d3 : w.toNat / 2 ^ lo / 2 ^ (hi + 1 - lo) = w.toNat / 2 ^ (hi + 1) := by
    rw [Nat.div_div_eq_div_mul, mul_comm, ← e1]
  rw [d3] at d2
  have hdiv : w.toNat / 2 ^ (hi + 1) < 2 ^ (31 - hi) := Nat.div_lt_of_lt_mul (by rw [mul_comm, e2]; exact hw)
  have hm : w.toNat % 2 ^ lo < 2 ^ lo := Nat.mod_lt _ hp
  have split : w.toNat = w.toNat / 2 ^ (hi + 1) * 2 ^ (hi + 1) + fld w hi lo * 2 ^ lo + w.toNat % 2 ^ lo := by
    calc w.toNat = 2 ^ lo * (2 ^ (hi + 1 - lo) * (w.toNat / 2 ^ (hi + 1)) + fld w hi lo) + w.toNat % 2 ^ lo := by
          rw [fld, d2, d1]
      _ = _ := by rw [show 2 ^ (hi + 1) = 2 ^ (hi + 1 - lo) * 2 ^ lo from e1]; ring
  have bound : w.toNat / 2 ^ (hi + 1) * 2 ^ (hi + 1) + v % 2 ^ (hi + 1 - lo) * 2 ^ lo + w.toNat % 2 ^ lo < 2 ^ 32 := by
    have : (w.toNat / 2 ^ (hi + 1) + 1) * 2 ^ (hi + 1) ≤ 2 ^ 32 := by rw [← e2]; exact Nat.mul_le_mul_right _ hdiv
    have : (v % 2 ^ (hi + 1 - lo) + 1) * 2 ^ lo ≤ 2 ^ (hi + 1) := by rw [e1]; exact Nat.mul_le_mul_right _ hf
    linarith
  unfold setFld
  rw [BitVec.toNat_ofNat, Nat.mod_eq_of_lt] <;> omega

/-- A field read after it has been written. -/
theorem fld_setFld_same {w : Word} {hi lo v : Nat} (h : lo ≤ hi) (h' : hi < 32) :
    fld (setFld w hi lo v) hi lo = v % 2 ^ (hi + 1 - lo) := by
  have e1 : 2 ^ (hi + 1) = 2 ^ (hi + 1 - lo) * 2 ^ lo := by rw [← pow_add]; congr 1; omega
  have hp : 0 < 2 ^ lo := by positivity
  have e2 : w.toNat / 2 ^ (hi + 1) * 2 ^ (hi + 1) + v % 2 ^ (hi + 1 - lo) * 2 ^ lo + w.toNat % 2 ^ lo =
      w.toNat % 2 ^ lo + 2 ^ lo * (v % 2 ^ (hi + 1 - lo) + 2 ^ (hi + 1 - lo) * (w.toNat / 2 ^ (hi + 1))) := by
    rw [e1]; ring
  rw [fld, toNat_setFld h h', e2, Nat.add_mul_div_left _ _ hp, Nat.div_eq_of_lt (Nat.mod_lt _ hp), zero_add,
    Nat.add_mul_mod_self_left, Nat.mod_mod]

/-- A field below one that is written. -/
theorem fld_setFld_below {w : Word} {hi lo hi' lo' v : Nat} (h : lo ≤ hi) (h' : hi < 32) (hb : hi' < lo) (hl : lo' ≤ hi') :
    fld (setFld w hi lo v) hi' lo' = fld w hi' lo' := by
  have field (x : Nat) : x / 2 ^ lo' % 2 ^ (hi' + 1 - lo') = x % 2 ^ lo / 2 ^ lo' % 2 ^ (hi' + 1 - lo') := by
    have e : lo = lo' + (lo - lo') := by omega
    have e' : lo - lo' = (hi' + 1 - lo') + (lo - (hi' + 1)) := by omega
    rw [e, pow_add, Nat.mod_mul_right_div_self, e', pow_add, Nat.mod_mul_right_mod]
  have e1 : 2 ^ (hi + 1) = 2 ^ (hi + 1 - lo) * 2 ^ lo := by rw [← pow_add]; congr 1; omega
  have low : (setFld w hi lo v).toNat % 2 ^ lo = w.toNat % 2 ^ lo := by
    rw [toNat_setFld h h', e1, ← mul_assoc, ← add_mul, Nat.mul_add_mod_self_right, Nat.mod_mod]
  rw [fld, fld, field, low, ← field]

/-- A saturating count of a field stays within it. -/
theorem satAdd_eq_min (hi v n : Nat) : satAdd hi v n = min hi (v + n) := by
  unfold satAdd
  split <;> omega

/-! The zone's command of each operation of ZCTL.CMD (Table 1-6). -/

section operations
variable (z : Zone) (h : HostC)

theorem Zone.zctlCmd_enable : z.zctlCmd h (BitVec.ofNat 32 (0xA500 + (1 : Fin 16).val)) = z.cmdEnable h := rfl
theorem Zone.zctlCmd_disable : z.zctlCmd h (BitVec.ofNat 32 (0xA500 + (2 : Fin 16).val)) = z.cmdDisable := rfl
theorem Zone.zctlCmd_resetWarm : z.zctlCmd h (BitVec.ofNat 32 (0xA500 + (3 : Fin 16).val)) = z.cmdReset true := rfl
theorem Zone.zctlCmd_resetCold : z.zctlCmd h (BitVec.ofNat 32 (0xA500 + (4 : Fin 16).val)) = z.cmdReset false := rfl
theorem Zone.zctlCmd_run : z.zctlCmd h (BitVec.ofNat 32 (0xA500 + (5 : Fin 16).val)) = z.cmdRun := rfl
theorem Zone.zctlCmd_resume : z.zctlCmd h (BitVec.ofNat 32 (0xA500 + (6 : Fin 16).val)) = z.cmdResume := rfl
theorem Zone.zctlCmd_fence : z.zctlCmd h (BitVec.ofNat 32 (0xA500 + (7 : Fin 16).val)) = z.cmdFence := rfl
theorem Zone.zctlCmd_recover : z.zctlCmd h (BitVec.ofNat 32 (0xA500 + (8 : Fin 16).val)) = z.cmdRecover := rfl

end operations

/-- A zone that keeps its state has nothing to settle if it had nothing. -/
theorem Settled.of_st {old z : Zone} (ha : z.gov.ampFlt = false) (hv : z.vox.hostq = []) (hs : z.ctl.st = old.ctl.st) :
    Settled old z := ⟨ha, hv, by rw [hs]; by_cases hi : old.ctl.st = .init <;> simp [hi]⟩

/-! Orders that a zone rejects (R6). -/

/-- A command without effect is counted, and nothing else changes. -/
def RejectOnly (i : ZoneId) (s t : State) : Prop :=
  fld (t.zones[i].reg Reg.FENCE_COUNT) 31 16 = min 0xFFFF (fld (s.zones[i].reg Reg.FENCE_COUNT) 31 16 + 1) ∧
    fld (t.zones[i].reg Reg.FENCE_COUNT) 15 0 = fld (s.zones[i].reg Reg.FENCE_COUNT) 15 0 ∧
    RegsBut [Reg.FENCE_COUNT] s.zones[i] t.zones[i] ∧ { t.zones[i] with regs := s.zones[i].regs } = s.zones[i] ∧ Lone i s t

theorem Zone.reg_reject {z : Zone} (h : z.regsWf = true) (k : Nat) : z.reject.reg k =
    if k = Reg.FENCE_COUNT then setFld (z.reg Reg.FENCE_COUNT) 31 16 (min 0xFFFF (fld (z.reg Reg.FENCE_COUNT) 31 16 + 1))
    else z.reg k := by
  rw [Zone.reject, Zone.reg_count h, satAdd_eq_min]
  rfl

theorem order_rejected {s : State} {i : ZoneId} {op : Fin 16} {c : Instr} (hc : exec c s = .next (s.zctl i op.val))
    (hq : Quiet s i) (hn : s.zones[i].zctlCmd s.host (BitVec.ofNat 32 (0xA500 + op.val)) = s.zones[i].reject) :
    Completes c s (RejectOnly i s) := by
  obtain ⟨ha, hp, ht, hwf, hv⟩ := hq
  have hw := (State.wf_zone hwf i).1
  have hset : Settled s.zones[i] s.zones[i].reject :=
    Settled.of_st ha hv rfl
  refine (order_lone hc ⟨ha, hp, ht, hwf, hv⟩ hn hset ht rfl rfl).imp (fun t h => ?_)
  obtain ⟨e, hl⟩ := h
  refine ⟨?_, ?_, fun k hk => ?_, ?_, hl⟩
  · rw [e, Zone.reg_reject hw, if_pos rfl, fld_setFld_same (by decide) (by decide), Nat.mod_eq_of_lt]
    exact Nat.lt_of_le_of_lt (Nat.min_le_left _ _) (by decide)
  · rw [e, Zone.reg_reject hw, if_pos rfl, fld_setFld_below (by decide) (by decide) (by decide) (by decide)]
  · rw [e, Zone.reg_reject hw, if_neg (by simpa using hk)]
  · rw [e]; rfl

/-- Settles O3: each order outside its state is the zone's reject. -/
theorem rejectedCommandsCounted : Obligations.RejectedCommandsCounted := by
  intro s i c hq hc
  rcases hc with ⟨rfl, h⟩ | ⟨rfl, h⟩ | ⟨rfl, h⟩ | ⟨rfl, h⟩ | ⟨rfl, h⟩ | ⟨rfl, h⟩ | ⟨rfl, h⟩ | ⟨rfl, h⟩
  · exact order_rejected (op := 1) rfl hq ((Zone.zctlCmd_enable _ _).trans (if_neg fun e => h e.1))
  · exact order_rejected (op := 2) rfl hq ((Zone.zctlCmd_disable _ _).trans (if_pos h))
  · exact order_rejected (op := 3) rfl hq ((Zone.zctlCmd_resetWarm _ _).trans (if_pos h))
  · exact order_rejected (op := 4) rfl hq ((Zone.zctlCmd_resetCold _ _).trans (if_pos h))
  · exact order_rejected (op := 5) rfl hq ((Zone.zctlCmd_run _ _).trans (if_neg h))
  · exact order_rejected (op := 6) rfl hq ((Zone.zctlCmd_resume _ _).trans (if_neg fun e => h e.1))
  · exact order_rejected (op := 7) rfl hq ((Zone.zctlCmd_fence _ _).trans (if_pos h))
  · exact order_rejected (op := 8) rfl hq ((Zone.zctlCmd_recover _ _).trans (if_neg fun e => h e.1))

end Sys2Proof.Machine
end

section
namespace Sys2Proof.Machine

/-! What starts and stops leave beside what Laws says of them. -/

/-- Falling back to ZSLOW: PLL, FRAC, the time's own marks, and the codes that stand in the converters (R34, R50). -/
theorem Zone.toSlow_out (z : Zone) : ∃ p t o ph, z.toSlow =
    { z with pll := p, pos := { z.pos with frac := 0 }, time := t, out := o, pwr := { z.pwr with pinHold := ph } } ∧
      p.lock = false ∧ t.est = true ∧ t.frame = z.time.frame := by
  unfold Zone.toSlow
  dsimp only
  obtain ⟨o, ph, e⟩ := Zone.parkCodes_move { z with
    pll := { z.pll with lock := false, hold := false, slewing := false, small := 0, valid := 0, big := 0 }
    pos := { z.pos with frac := 0 }
    time := { z.time with
      est := true, slowAcc := 0, subf := 0
      free := z.time.free || z.pll.lock || z.pll.hold
      hFr := if (z.pll.lock && !z.time.free) = true then 0 else z.time.hFr
      sFr := if (z.pll.lock && !z.time.free) = true then 0 else z.time.sFr } }
  exact ⟨_, _, o, ph, e, rfl, rfl, rfl⟩

@[simp] theorem Zone.toSlow_vox (z : Zone) : z.toSlow.vox = z.vox := by
  obtain ⟨p, t, o, ph, e, _⟩ := z.toSlow_out
  rw [e]

@[simp] theorem Zone.toSlow_gov (z : Zone) : z.toSlow.gov = z.gov := by
  obtain ⟨p, t, o, ph, e, _⟩ := z.toSlow_out
  rw [e]

@[simp] theorem Zone.initPll_vox (z : Zone) : z.initPll.vox = z.vox := by
  unfold Zone.initPll
  split
  · exact z.toSlow_vox
  · rfl

/-- Voice commands that wait are no part of what a start clears. -/
theorem Zone.initZone_hostq (z : Zone) (warm : Bool) : (z.initZone warm).vox.hostq = z.vox.hostq := by
  have h0 : ((z.initPll.initMark warm).initStop).vox = z.vox := z.initPll_vox
  have mem (y : Zone) : (y.initMem warm).initPower.vox.hostq = y.vox.hostq := by
    unfold Zone.initMem Zone.warmMem
    split_ifs <;> rfl
  rw [← h0]
  exact mem _

/-- What DISABLE leaves (R6, R50). -/
theorem Zone.toOff_full {z : Zone} (h : z.regsWf = true) (hs : z.ctl.st ≠ .off) :
    z.toOff.ctl.st = .off ∧ z.toOff.pll.lock = false ∧ z.toOff.time.est = true ∧ z.toOff.time.frame = z.time.frame ∧
      z.toOff.pos = { z.pos with frac := 0 } ∧ z.toOff.regsWf = true ∧ z.toOff.gov.ampFlt = z.gov.ampFlt ∧
      z.toOff.vox.hostq = z.vox.hostq := by
  unfold Zone.toOff
  rw [if_neg hs]
  dsimp only
  obtain ⟨p, t, o, ph, e, hl, he, hf⟩ := (z.enter .off).toSlow_out
  rw [e]
  refine ⟨?_, hl, he, hf.trans (by rw [Zone.enter_time h]), ?_, Zone.enter_regsWf h .off, Zone.enter_ampFlt h .off, ?_⟩
  · change (z.enter .off).ctl.st = .off
    rw [Zone.enter_ctl h]
  · change ({ (z.enter .off).pos with frac := 0 } : ZPos) = _
    rw [Zone.enter_pos h]
  · change (z.enter .off).vox.hostq = _
    rw [Zone.enter_vox h]

theorem Zone.enableRegs_wf {z : Zone} (h : z.regsWf = true) : z.enableRegs.regsWf = true := mapRegs_wf enableReg h

/-! O1. -/

section start
variable {s : State} {i : ZoneId} {op : Fin 16} {c : Instr} {y : Zone} {warm : Bool}

/-- What an order that starts the zone leaves of it. -/
structure Started (y z' : Zone) (warm : Bool) : Prop where
  st : z'.ctl.st = .init
  isWarm : z'.ctl.warm = warm
  queue : z'.sched.queue = []
  cause : z'.reg Reg.FENCE_CAUSE = 0
  frame : z'.time.frame = y.time.frame
  pos : { z'.pos with frac := y.pos.frac } = y.pos
  tmr : z'.tmr = y.tmr
  noMem : warm = false → z'.vox.battA = [] ∧ z'.route.batA = [] ∧ z'.dsp.prog = []
  sameMem : warm = true → y.badKept = false →
    z'.vox.battA = y.vox.battA ∧ z'.route.batA = y.route.batA ∧ z'.dsp.prog = y.dsp.prog

theorem Leaves.started {z' : Zone} (h : y.regsWf = true) (hl : Leaves (y.toInit warm) z') : Started y z' warm := by
  obtain ⟨e, w, hw, ⟨kf, ⟨f, kp⟩, kt, _⟩, hsch, _, hc, _, hn, hm⟩ := Zone.toInit_before h warm
  rw [e] at hl
  have battA : z'.vox.battA = (y.initZone warm).vox.battA := by rw [hl.battA, Zone.enter_vox w]
  have batA : z'.route.batA = (y.initZone warm).route.batA := by rw [hl.route, Zone.enter_route w]
  have prog : z'.dsp.prog = (y.initZone warm).dsp.prog := by rw [hl.dsp, Zone.enter_dsp w]
  refine ⟨?_, ?_, ?_, ?_, ?_, ?_, ?_, fun hf => ?_, fun ht hb => ?_⟩
  · rw [hl.ctl, Zone.enter_ctl w]
  · rw [hl.ctl, Zone.enter_ctl w]; exact hw
  · rw [hl.sched, Zone.enter_sched w, hsch]
  · rw [hl.reg (by decide), Zone.enter_reg w _ (by decide), hc]
  · rw [hl.time, Zone.enter_time w, kf]
  · rw [hl.pos, Zone.enter_pos w, kp]
  · rw [hl.tmr, Zone.enter_tmr w, kt]
  · obtain ⟨n1, _, n2, _, n3⟩ := hn (.inl hf)
    rw [battA, batA, prog]
    exact ⟨n1, n2, n3⟩
  · obtain ⟨n1, _, n2, _, n3⟩ := hm ht hb
    rw [battA, batA, prog]
    exact ⟨n1, n2, n3⟩

/-- An order whose effect is a start of the zone y. -/
theorem order_starts (hc : exec c s = .next (s.zctl i op.val)) (hq : Quiet s i)
    (hn : s.zones[i].zctlCmd s.host (BitVec.ofNat 32 (0xA500 + op.val)) = y.toInit warm) (hw : y.regsWf = true)
    (ha : y.gov.ampFlt = false) (hv : y.vox.hostq = []) :
    Completes c s (fun t => Started y t.zones[i] warm ∧ OnlyZone i s t) := by
  obtain ⟨e, w, _, ⟨_, _, _, _, kg, _⟩, _⟩ := Zone.toInit_before hw warm
  have ha' : (y.toInit warm).gov.ampFlt = false := by rw [e, Zone.enter_ampFlt w, kg, ha]
  have hv' : (y.toInit warm).vox.hostq = [] := by rw [e, Zone.enter_vox w, Zone.initZone_hostq, hv]
  have hw' : (y.toInit warm).regsWf = true := by rw [e]; exact Zone.enter_regsWf w _
  exact (order_leaves hc hq hn hw' ha' hv').imp (fun t h => ⟨h.1.started hw, h.2⟩)

end start

/-- Settles O1: ENABLE and the resets are starts, DISABLE a stop. -/
theorem startAndStop : Obligations.StartAndStop := by
  intro s i hq
  obtain ⟨ha, hp, ht, hwf, hv⟩ := id hq
  have hw := (State.wf_zone hwf i).1
  refine ⟨fun hs hg hd => ?_, fun hs => ?_, fun hs => ?_, fun hs => ?_⟩
  · have hn := (Zone.zctlCmd_enable s.zones[i] s.host).trans (if_pos ⟨hs, hg, hd⟩)
    refine (order_starts (op := 1) rfl hq hn (Zone.enableRegs_wf hw) ha hv).imp (fun t h => ?_)
    obtain ⟨h, ho⟩ := h
    exact ⟨h.st, h.isWarm, h.queue, h.cause, (h.noMem rfl).1, (h.noMem rfl).2.1, (h.noMem rfl).2.2, ho⟩
  · obtain ⟨o1, o2, o3, o4, o5, ow, oa, ov⟩ := Zone.toOff_full hw hs
    have hn := (Zone.zctlCmd_disable s.zones[i] s.host).trans (if_neg hs)
    refine (order_leaves (op := 2) rfl hq hn ow (oa.trans ha) (ov.trans hv)).imp (fun t h => ?_)
    obtain ⟨h, ho⟩ := h
    exact ⟨by rw [h.ctl, o1], by rw [h.pll, o2], by rw [h.time, o3], by rw [h.time, o4], by rw [h.pos, o5], ho⟩
  · have hn := (Zone.zctlCmd_resetWarm s.zones[i] s.host).trans (if_neg hs)
    refine (order_starts (op := 3) rfl hq hn hw ha hv).imp (fun t h => ?_)
    obtain ⟨h, ho⟩ := h
    exact ⟨h.st, h.isWarm, h.queue, h.cause, h.frame, h.pos, h.tmr, h.sameMem rfl, ho⟩
  · have hn := (Zone.zctlCmd_resetCold s.zones[i] s.host).trans (if_neg hs)
    refine (order_starts (op := 4) rfl hq hn hw ha hv).imp (fun t h => ?_)
    obtain ⟨h, ho⟩ := h
    exact ⟨h.st, h.isWarm, h.queue, h.cause, h.frame, h.pos, h.tmr, (h.noMem rfl).1, (h.noMem rfl).2.1, (h.noMem rfl).2.2, ho⟩

/-! O2. -/

theorem Leaves.sched_told {n z z' : Zone} (h : Leaves n z') (hs : n.sched = z.sched) (ht : Told z) : z'.sched = z.sched := by
  obtain ⟨_, hd, hp, _⟩ := ht
  rw [h.sched, hs, ← hd, ← hp]

/-- Settles O2: RUN and RESUME mark the zone, RECOVER enters its state. -/
theorem runResumeRecover : Obligations.RunResumeRecover := by
  intro s i hq
  obtain ⟨ha, hp, ht, hwf, hv⟩ := id hq
  have hw := (State.wf_zone hwf i).1
  refine ⟨fun hs => ?_, fun hs ho hl => ?_, fun hs hc => ?_⟩
  · have hn := (Zone.zctlCmd_run s.zones[i] s.host).trans (if_pos hs)
    exact order_lone (op := 5) rfl hq hn (Settled.of_st ha hv rfl) ht rfl rfl
  · have hn := (Zone.zctlCmd_resume s.zones[i] s.host).trans (if_pos ⟨hs, by rw [ho]; rfl, by rw [hl]; rfl⟩)
    exact order_lone (op := 6) rfl hq hn (Settled.of_st ha hv rfl) ht rfl rfl
  · generalize hy : ({ s.zones[i] with pwr := { s.zones[i].pwr with gated := false, zvcReg := true, zvcLim := false } } : Zone) = y
    have hn : s.zones[i].zctlCmd s.host (BitVec.ofNat 32 (0xA500 + (8 : Fin 16).val)) = y.enter .recover := by
      rw [Zone.zctlCmd_recover, Zone.cmdRecover, if_pos ⟨hs, hc⟩, hy]
    have w : y.regsWf = true := by rw [← hy]; exact hw
    refine (order_leaves (op := 8) rfl hq hn (Zone.enter_regsWf w _) ?_ ?_).imp (fun t h => ?_)
    · rw [Zone.enter_ampFlt w, ← hy]; exact ha
    · rw [Zone.enter_vox w, ← hy]; exact hv
    · obtain ⟨h, ho⟩ := h
      refine ⟨?_, ?_, ?_, h.sched_told (by rw [Zone.enter_sched w, ← hy]) ht, ?_, ho⟩
      · rw [h.ctl, Zone.enter_ctl w, ← hy]
      · rw [h.time, Zone.enter_time w, ← hy]
      · rw [h.pos, Zone.enter_pos w, ← hy]
      · rw [h.reg (by decide), Zone.enter_reg w _ (by decide), ← hy]
        rfl

end Sys2Proof.Machine
end

section
namespace Sys2Proof.Machine

/-! Fences as the statements say them (R15, R16). -/

theorem Fenced.leaves {c : Nat} {z n : Zone} (h : Fenced z c n) : FenceLeaves c z n := by
  obtain ⟨q, r, o, g, d, ph, l, m, dr, w, rfl, ⟨_, k1, k2, k3⟩, _, _, hmu⟩ := h
  exact ⟨rfl, k1, k2, k3, hmu, rfl, rfl, rfl, rfl, rfl, rfl, rfl⟩

theorem Fenced.wf {c : Nat} {z n : Zone} (h : Fenced z c n) : n.regsWf = true := by
  obtain ⟨q, r, o, g, d, ph, l, m, dr, w, rfl, k, _⟩ := h
  exact k.1.1

theorem Fenced.ampFlt {c : Nat} {z n : Zone} (h : Fenced z c n) : n.gov.ampFlt = z.gov.ampFlt := by
  obtain ⟨q, r, o, g, d, ph, l, m, dr, w, rfl, _, k, _⟩ := h
  exact k

theorem Fenced.hostq {c : Nat} {z n : Zone} (h : Fenced z c n) : n.vox.hostq = z.vox.hostq := by
  obtain ⟨q, r, o, g, d, ph, l, m, dr, w, rfl, _⟩ := h
  rfl

theorem Fenced.ctl {c : Nat} {z n : Zone} (h : Fenced z c n) :
    n.ctl = { z.ctl with st := .fenced, runHeld := false, testsOk := false, resume := false } := by
  obtain ⟨q, r, o, g, d, ph, l, m, dr, w, rfl, _⟩ := h
  rfl

/-- What a command leaves of a fenced zone. -/
theorem FenceLeaves.of_leaves {c : Nat} {z n z' : Zone} (h : FenceLeaves c z n) (hl : Leaves n z') : FenceLeaves c z z' := by
  obtain ⟨h1, h2, h3, h4, h5, h6, h7, h8, h9, h10, h11, h12⟩ := h
  exact ⟨by rw [hl.ctl, h1], by rw [hl.reg (by decide), h2], by rw [hl.reg (by decide), h3], by rw [hl.reg (by decide), h4],
    by rw [hl.out, h5], by rw [hl.voices, h6], by rw [hl.sched, ← h7], by rw [hl.time, h8], by rw [hl.pos, h9],
    by rw [hl.tmr, h10], by rw [hl.dsp, h11], by rw [hl.route, h12]⟩

/-- Outside OFF every cause arises that INIT lets arise (Table 1-2). -/
theorem Zone.arising_fixed {z : Zone} (h : z.ctl.st ≠ .off) {c : Nat} (hc : c &&& 0x2E0 = c) : z.arising c = c := by
  unfold Zone.arising
  rw [if_neg h, hc, ite_self]

theorem Zone.arising_all {z : Zone} (h : z.ctl.st ≠ .off) (h' : z.ctl.st ≠ .init) (c : Nat) : z.arising c = c := by
  unfold Zone.arising
  rw [if_neg h, if_neg h']

/-! A regulator's trip (R20, R21). -/

/-- The zone as a trip finds it: the regulators in limit. -/
def Zone.limited (z : Zone) (core analog : Bool) : Zone :=
  { z with pwr := { z.pwr with
      zvcLim := z.pwr.zvcLim || core, zvaLim := z.pwr.zvaLim || analog
      zvcReg := z.pwr.zvcReg && !core, zvaReg := z.pwr.zvaReg && !analog, regaOk := z.pwr.regaOk && !analog } }

theorem Zone.regTrip_armed {z : Zone} (h : z.tripArmed = true) (core analog : Bool) : z.regTrip core analog =
    let n := (z.limited core analog).raise ((if core then 0x40 else 0) + (if analog then 0x80 else 0))
    let n := if core then { n.toSlow with pwr := { n.toSlow.pwr with gated := true } } else n
    if analog then n.pinsOff else n.ampEval := by
  unfold Zone.regTrip
  rw [h]
  rfl

theorem Zone.pinsOff_move (z : Zone) : OutMove z z.pinsOff := by
  have h : OutMove z { z with pwr := { z.pwr with pinHold := true } } := ⟨z.out, true, rfl⟩
  exact ((h.trans (Zone.modOut_move _ _)).trans (Zone.ampEval_move _)).trans (Zone.parkCodes_move _)

theorem Zone.pinsOff_pinHold (z : Zone) : z.pinsOff.pwr.pinHold = true := by
  unfold Zone.pinsOff Zone.parkCodes
  split <;> rfl

theorem Zone.pinsOff_mu (z : Zone) : z.pinsOff.out.mu = z.out.mu := by
  unfold Zone.pinsOff
  rw [Zone.parkCodes_mu]
  rfl

/-- The end of a core's trip: clock and supply gone (R20). -/
def Zone.gate (z : Zone) : Zone := { z.toSlow with pwr := { z.toSlow.pwr with gated := true } }

/-- A core's trip falls back to ZSLOW, and the output with it. -/
theorem Zone.gate_out {n m : Zone} (h : OutMove n.gate m) : ∃ p t o w,
    m = { n with pll := p, pos := { n.pos with frac := 0 }, time := t, out := o, pwr := w } ∧
      p.lock = false ∧ t.frame = n.time.frame ∧ w.gated = true := by
  obtain ⟨p, t, o, ph, e, hl, _, hf⟩ := n.toSlow_out
  obtain ⟨o', ph', rfl⟩ := h
  unfold Zone.gate
  rw [e]
  exact ⟨p, t, o', _, rfl, hl, hf, rfl⟩

/-! The tests of TEST (R12). -/

/-- The zone once its tests have been judged. -/
def Zone.tested (z : Zone) (march ladder : Bool) : Zone :=
  { z.ladderEnd with ctl := { z.ladderEnd.ctl with marchFail := march, ladFail := ladder, testsOk := !march && !ladder } }

theorem Zone.testComplete_first {z : Zone} (h : z.ctl.st = .test) (h' : z.ctl.testsOk = false) (march ladder : Bool) :
    z.testComplete march ladder =
      let l := ladder && bit (z.reg Reg.ZCTL_CFG) 2
      if march || l then (z.tested march l).raise 0x100 else z.tested march l :=
  if_neg (by rw [h, h']; decide)

theorem Zone.tested_dec (z : Zone) (march ladder : Bool) : ∃ d, z.tested march ladder =
    { z with dec := d, ctl := { z.ctl with marchFail := march, ladFail := ladder, testsOk := !march && !ladder } } := by
  unfold Zone.tested Zone.ladderEnd
  split
  · exact ⟨_, rfl⟩
  · exact ⟨z.dec, rfl⟩

/-! O4. -/

section fences
variable {s : State} {i : ZoneId} {c : Instr} {z n : Zone} {m : Nat}

/-- The zone of a quiet device once it is fenced. -/
theorem Fenced.quiet (h : Fenced z m n) (hq : Quiet s i) (hz : z.gov = s.zones[i].gov ∧ z.vox = s.zones[i].vox) :
    n.regsWf = true ∧ n.gov.ampFlt = false ∧ n.vox.hostq = [] := by
  obtain ⟨ha, _, _, _, hv⟩ := hq
  obtain ⟨hg, hx⟩ := hz
  exact ⟨h.wf, by rw [h.ampFlt, hg, ha], by rw [h.hostq, hx, hv]⟩

/-- A core's trip of a zone that is not fenced. -/
theorem coreTrip_fences (hq : Quiet s i) (hs : s.zones[i].ctl.st ≠ .off) (hf : s.zones[i].ctl.st ≠ .fenced)
    (ha : s.zones[i].tripArmed = true) (analog : Bool) :
    Completes (.regulatorTrip i true analog) s (fun t => t.zones[i].ctl.st = .fenced ∧
      t.zones[i].reg Reg.FENCE_CAUSE = (if analog then 0x0C0 else 0x040) ∧ t.zones[i].reg Reg.FENCE_FIRST = 7 ∧
      t.zones[i].pwr.gated = true ∧ t.zones[i].pll.lock = false ∧ t.zones[i].time.frame = s.zones[i].time.frame ∧
      OnlyZone i s t) := by
  have hw := (State.wf_zone hq.2.2.2.1 i).1
  have hc : Fenced (s.zones[i].limited true analog) (0x40 + if analog then 0x80 else 0)
      ((s.zones[i].limited true analog).raise (0x40 + if analog then 0x80 else 0)) := by
    cases analog
    · exact Zone.raise_fences hw (Zone.arising_fixed hs rfl) hf (Zone.fixed_enabled _ rfl) (by decide)
    · exact Zone.raise_fences hw (Zone.arising_fixed hs rfl) hf (Zone.fixed_enabled _ rfl) (by decide)
  generalize hn : (s.zones[i].limited true analog).raise (0x40 + if analog then 0x80 else 0) = n at hc
  obtain ⟨nw, na, nv⟩ := hc.quiet hq ⟨rfl, rfl⟩
  obtain ⟨k1, k2, k3, _, _, _, _, k8, _⟩ := hc.leaves
  have ho : OutMove n.gate (if analog then n.gate.pinsOff else n.gate.ampEval) := by
    cases analog
    · exact Zone.ampEval_move _
    · exact Zone.pinsOff_move _
  have he : s.zones[i].regTrip true analog = if analog then n.gate.pinsOff else n.gate.ampEval := by
    rw [Zone.regTrip_armed ha, ← hn]; rfl
  generalize (if analog then n.gate.pinsOff else n.gate.ampEval) = y at ho he
  obtain ⟨p, t, o, w, rfl, hl, ht, hg⟩ := Zone.gate_out ho
  refine (event_leaves (f := fun z _ => z.regTrip true analog) rfl hq he nw na nv).imp (fun t h => ?_)
  obtain ⟨h, hz⟩ := h
  refine ⟨by rw [h.ctl]; exact k1, ?_, ?_, by rw [h.pwr]; exact hg, by rw [h.pll]; exact hl, ?_, hz⟩
  · rw [h.reg (by decide)]
    refine Eq.trans k2 ?_
    cases analog <;> rfl
  · rw [h.reg (by decide)]
    refine Eq.trans k3 ?_
    cases analog <;> decide
  · rw [h.time]
    exact ht.trans (congrArg ZTime.frame k8)

/-- An analog regulator's trip of a zone that is not fenced. -/
theorem analogTrip_fences (hq : Quiet s i) (hs : s.zones[i].ctl.st ≠ .off) (hf : s.zones[i].ctl.st ≠ .fenced)
    (ha : s.zones[i].tripArmed = true) :
    Completes (.regulatorTrip i false true) s (fun t => FenceLeaves 0x080 s.zones[i] t.zones[i] ∧
      t.zones[i].pwr.pinHold = true ∧ OnlyZone i s t) := by
  have hw := (State.wf_zone hq.2.2.2.1 i).1
  have hc : Fenced (s.zones[i].limited false true) 0x80 ((s.zones[i].limited false true).raise 0x80) :=
    Zone.raise_fences hw (Zone.arising_fixed hs rfl) hf (Zone.fixed_enabled _ rfl) (by decide)
  generalize hn : (s.zones[i].limited false true).raise 0x80 = n at hc
  obtain ⟨nw, na, nv⟩ := hc.quiet hq ⟨rfl, rfl⟩
  have he : s.zones[i].regTrip false true = n.pinsOff := by
    rw [Zone.regTrip_armed ha, ← hn]; rfl
  have hp := n.pinsOff_pinHold
  have hm := n.pinsOff_mu
  have hl : FenceLeaves 0x80 s.zones[i] n.pinsOff := by
    obtain ⟨k1, k2, k3, k4, k5, k6, k7, k8, k9, k10, k11, k12⟩ := hc.leaves
    obtain ⟨o, ph, e⟩ := n.pinsOff_move
    rw [e] at hm ⊢
    exact ⟨k1, k2, k3, k4, hm.trans k5, k6, k7, k8, k9, k10, k11, k12⟩
  have ho := n.pinsOff_move
  generalize n.pinsOff = y at he hp hl ho
  have hy : y.regsWf = true ∧ y.gov.ampFlt = false ∧ y.vox.hostq = [] := by
    obtain ⟨o, ph, rfl⟩ := ho
    exact ⟨nw, na, nv⟩
  refine (event_leaves (f := fun z _ => z.regTrip false true) rfl hq he hy.1 hy.2.1 hy.2.2).imp (fun t h => ?_)
  exact ⟨hl.of_leaves h.1, by rw [h.1.pwr, hp], h.2⟩

end fences

/-- Settles O4: each cause fences by `Zone.raise_fences`; a core's trip and an analog one by what follows their fence. -/
theorem fenceEntry : Obligations.FenceEntry := by
  intro s i hq hs hf
  have hw := (State.wf_zone hq.2.2.2.1 i).1
  refine ⟨?_, ?_, fun ha => ?_, fun ha => analogTrip_fences hq hs hf ha, fun ht hok ladder => ?_⟩
  · have hc : Fenced s.zones[i] 0x200 (s.zones[i].raise 0x200) :=
      Zone.raise_fences hw (Zone.arising_fixed hs rfl) hf (Zone.fixed_enabled _ rfl) (by decide)
    obtain ⟨nw, na, nv⟩ := hc.quiet hq ⟨rfl, rfl⟩
    have hn := (Zone.zctlCmd_fence s.zones[i] s.host).trans (if_neg (fun h => h.elim hs hf))
    exact (order_leaves (op := 7) rfl hq hn nw na nv).imp (fun t h => ⟨hc.leaves.of_leaves h.1, h.2⟩)
  · have hc : Fenced s.zones[i] 0x20 (s.zones[i].raise 0x20) :=
      Zone.raise_fences hw (Zone.arising_fixed hs rfl) hf (Zone.fixed_enabled _ rfl) (by decide)
    obtain ⟨nw, na, nv⟩ := hc.quiet hq ⟨rfl, rfl⟩
    exact (event_leaves (f := fun z _ => z.raise 0x20) rfl hq rfl nw na nv).imp (fun t h => ⟨hc.leaves.of_leaves h.1, h.2⟩)
  · exact (coreTrip_fences hq hs hf ha false).imp (fun t h => ⟨h.1, h.2.1, h.2.2.2⟩)
  · have he := Zone.testComplete_first ht hok true ladder
    obtain ⟨d, hy⟩ := s.zones[i].tested_dec true (ladder && bit (s.zones[i].reg Reg.ZCTL_CFG) 2)
    simp only [Bool.true_or, if_true] at he
    generalize s.zones[i].tested true (ladder && bit (s.zones[i].reg Reg.ZCTL_CFG) 2) = y at he hy
    have hst : y.ctl.st = .test := by rw [hy]; exact ht
    have hc : Fenced y 0x100 (y.raise 0x100) :=
      Zone.raise_fences (by rw [hy]; exact hw) (Zone.arising_all (by rw [hst]; decide) (by rw [hst]; decide) _)
        (by rw [hst]; decide) (Zone.fixed_enabled _ rfl) (by decide)
    obtain ⟨nw, na, nv⟩ := hc.quiet hq (by rw [hy]; exact ⟨rfl, rfl⟩)
    refine (event_leaves (f := fun z _ => z.testComplete true ladder) rfl hq he nw na nv).imp (fun t h => ?_)
    obtain ⟨h, hz⟩ := h
    refine ⟨?_, ?_, ?_, hz⟩
    · rw [h.ctl, hc.ctl]
    · rw [h.reg (by decide)]; exact hc.leaves.2.1
    · rw [h.ctl, hc.ctl, hy]

end Sys2Proof.Machine
end

section
namespace Sys2Proof.Machine

/-! The number of records that a zone has created. -/

theorem MsgQ.add_nseq (m : MsgQ) (cap low : Nat) (r : Rec) : (m.add cap low r).1.nseq = m.nseq + 1 := by
  unfold MsgQ.add
  dsimp only
  generalize (if clsRank r.cls < 3 then _ else _ : Bool) = room
  cases room
  · simp only [Bool.false_eq_true, if_false]
    split <;> rfl
  · rfl

theorem Zone.send_nseq (z : Zone) (cls code : Nat) (params : List Byte) :
    (z.send cls code params).msgs.nseq = z.msgs.nseq + 1 := by
  unfold Zone.send
  dsimp only
  split
  · exact z.msgs.add_nseq _ _ _
  · split <;> exact z.msgs.add_nseq _ _ _

/-! O5. -/

/-- Settles O5: INIT_COMPLETE enters TEST, INIT_SLOW is a record, tests that pass are marks. -/
theorem initAndTest : Obligations.InitAndTest := by
  intro s i hq
  obtain ⟨ha, hp, ht, hwf, hv⟩ := id hq
  have hw := (State.wf_zone hwf i).1
  refine ⟨fun hs hl hc => ?_, fun hs hi h500 => ?_, fun hs hok => ?_⟩
  · generalize hy : ({ s.zones[i] with ctl := { s.zones[i].ctl with testsOk := false } } : Zone) = y
    have he : s.zones[i].initComplete = y.enter .test := by
      unfold Zone.initComplete Zone.initDone
      rw [hs, hl, hc, ← hy]
      rfl
    have w : y.regsWf = true := by rw [← hy]; exact hw
    have ya : (y.enter .test).gov.ampFlt = false := by rw [Zone.enter_ampFlt w, ← hy]; exact ha
    have yv : (y.enter .test).vox.hostq = [] := by rw [Zone.enter_vox w, ← hy]; exact hv
    refine (event_leaves (f := fun z _ => z.initComplete) rfl hq he (Zone.enter_regsWf w _) ya yv).imp (fun t h => ?_)
    obtain ⟨h, ho⟩ := h
    refine ⟨?_, ?_, ?_, ?_, ho⟩
    · rw [h.ctl, Zone.enter_ctl w]
    · rw [h.ctl, Zone.enter_ctl w, ← hy]
    · rw [h.time, Zone.enter_time w, ← hy]
    · rw [h.pos, Zone.enter_pos w, ← hy]
  · generalize hy : ({ s.zones[i] with ctl := { s.zones[i].ctl with initSlow := true } } : Zone) = y
    have he : s.zones[i].initSlowEv = y.send clsFault 0x0003 [] := by
      unfold Zone.initSlowEv
      rw [if_pos ⟨hs, by rw [hi]; rfl, h500⟩, hy]
    have w : y.regsWf = true := by rw [← hy]; exact hw
    have hn := y.send_nseq clsFault 0x0003 []
    obtain ⟨q, r, e, hr⟩ := Zone.send_but (l := [Reg.MSG_DROPPED]) w (by simp) clsFault 0x0003 []
    rw [e] at he hn
    refine (event_only (f := fun z _ => z.initSlowEv) rfl hq he ?_).imp (fun t h => ?_)
    · exact .of_st (by rw [← hy]; exact ha) (by rw [← hy]; exact hv) (by rw [← hy])
    · obtain ⟨h, ho⟩ := h
      rw [Zone.taken_told (by rw [← hy]; exact ht), ← hy] at h
      rw [← hy] at hn hr
      refine ⟨by rw [h], by rw [h]; exact hn, fun k hk => by rw [h]; exact hr.2 k hk, by rw [h], ho⟩
  · have he := Zone.testComplete_first hs hok false false
    obtain ⟨d, hy⟩ := s.zones[i].tested_dec false false
    simp only [Bool.false_and, Bool.or_false, Bool.false_eq_true, if_false, hy] at he
    refine (event_leaves (f := fun z _ => z.testComplete false false) rfl hq he hw ha hv).imp (fun t h => ?_)
    obtain ⟨h, ho⟩ := h
    exact ⟨h.ctl, h.time, h.sched_told rfl ht, ho⟩

/-! O6. -/

/-- The watchdog's own writes of host software. -/
theorem Zone.regWrite_wdog (z : Zone) (h : HostC) (p0 : Bool) (v : Word) :
    z.regWrite h .host p0 Reg.ZCTL_WDOG v = (0, z.wdogWrite v) := by
  obtain ⟨r, hr, hw⟩ : ∃ r, zoneSpec Reg.ZCTL_WDOG = some r ∧ z.blockWrite h .host p0 r v = (0, z.wdogWrite v) :=
    ⟨_, rfl, rfl⟩
  rw [Zone.regWrite_ctl (by decide) (by decide) hr, hw]

theorem Zone.regWrite_wdogKick (z : Zone) (h : HostC) (p0 : Bool) (v : Word) :
    z.regWrite h .host p0 Reg.ZCTL_WDOG_KICK v = (0, z.wdogKick .host v) := by
  obtain ⟨r, hr, hw⟩ : ∃ r, zoneSpec Reg.ZCTL_WDOG_KICK = some r ∧ z.blockWrite h .host p0 r v = (0, z.wdogKick .host v) :=
    ⟨_, rfl, rfl⟩
  rw [Zone.regWrite_ctl (by decide) (by decide) hr, hw]

/-- A field within the low bits that a mask keeps. -/
theorem fld_mask {v : Word} {hi lo n : Nat} (h : hi < n) (h' : lo ≤ hi) (hn : n ≤ 32) :
    fld (v &&& BitVec.ofNat 32 (2 ^ n - 1)) hi lo = fld v hi lo := by
  have hp : 2 ^ n ≤ 2 ^ 32 := Nat.pow_le_pow_right (by decide) hn
  have hpos : 0 < 2 ^ n := by positivity
  have e : n = lo + (n - lo) := by omega
  have e' : n - lo = (hi + 1 - lo) + (n - (hi + 1)) := by omega
  unfold fld
  rw [BitVec.toNat_and, BitVec.toNat_ofNat, Nat.mod_eq_of_lt (lt_of_lt_of_le (Nat.sub_lt hpos one_pos) hp),
    Nat.and_two_pow_sub_one_eq_mod, e, pow_add, Nat.mod_mul_right_div_self, e', pow_add, Nat.mod_mul_right_mod]

theorem bit_mask {v : Word} {k n : Nat} (h : k < n) (hn : n ≤ 32) : bit (v &&& BitVec.ofNat 32 (2 ^ n - 1)) k = bit v k := by
  have := fld_mask (v := v) (hi := k) (lo := k) h (le_refl k) hn
  simp only [fld, Nat.add_sub_cancel_left, pow_one] at this
  unfold bit
  rw [this]

/-- A write of WDOG that stops the watchdog. -/
theorem Zone.wdogWrite_stop {z : Zone} {v : Word} (hv : fld v 15 0 = 0) : z.wdogWrite v =
    { z.setReg Reg.ZCTL_WDOG (v &&& 0x1FFFF) with ctl := { z.ctl with wdLen := 0 } } := if_pos hv

/-- A write of WDOG that starts it: PERIOD and SRC of the word. -/
theorem Zone.wdogWrite_start {z : Zone} (h : z.regsWf = true) {v : Word} (hv : fld v 15 0 ≠ 0) (hl : z.ctl.wdLen = 0) :
    z.wdogWrite v = { z.setReg Reg.ZCTL_WDOG (v &&& 0x1FFFF) with
      ctl := { z.ctl with wdLen := fld v 15 0, wdHost := bit v 16, wdRun := 0 } } := by
  have hr : (z.setReg Reg.ZCTL_WDOG (v &&& 0x1FFFF)).reg Reg.ZCTL_WDOG = v &&& 0x1FFFF :=
    (Zone.reg_setReg h _ _ _).trans (if_pos rfl)
  have hf : fld (v &&& 0x1FFFF) 15 0 = fld v 15 0 := fld_mask (n := 17) (by decide) (by decide) (by decide)
  have hb : bit (v &&& 0x1FFFF) 16 = bit v 16 := bit_mask (n := 17) (by decide) (by decide)
  have hw : z.wdogWrite v = (z.setReg Reg.ZCTL_WDOG (v &&& 0x1FFFF)).wdStart := (if_neg hv).trans (if_pos hl)
  rw [hw, Zone.wdStart, hr, hf, hb]
  rfl

/-- A write of WDOG by host software, by what it makes of the zone's watchdog. -/
theorem wdogWrite_lone {s : State} {i : ZoneId} {v : Word} {ct : ZCtl} (hq : Quiet s i)
    (hn : s.zones[i].wdogWrite v = { s.zones[i].setReg Reg.ZCTL_WDOG (v &&& 0x1FFFF) with ctl := ct })
    (hs : ct.st = s.zones[i].ctl.st) :
    Completes (.wdogWrite i v) s (fun t => t.zones[i].ctl = ct ∧ t.zones[i].reg Reg.ZCTL_WDOG = v &&& 0x1FFFF ∧
      RegsBut [Reg.ZCTL_WDOG] s.zones[i] t.zones[i] ∧ Lone i s t) := by
  have hw := (State.wf_zone hq.2.2.2.1 i).1
  generalize hy : ({ s.zones[i].setReg Reg.ZCTL_WDOG (v &&& 0x1FFFF) with ctl := ct } : Zone) = y at hn
  have hr (k : Nat) : y.reg k = if k = Reg.ZCTL_WDOG then v &&& 0x1FFFF else s.zones[i].reg k := by
    rw [← hy]; exact Zone.reg_setReg hw _ _ _
  have hset : Settled s.zones[i] y := .of_st (by rw [← hy]; exact hq.1) (by rw [← hy]; exact hq.2.2.2.2) (by rw [← hy]; exact hs)
  refine (write_lone (off := Reg.ZCTL_WDOG) (v := v) rfl hq (by decide) (fun p0 => by rw [Zone.regWrite_wdog, hn]) hset
    (by rw [← hy]; exact hq.2.2.1) (by rw [← hy]; rfl) (by rw [← hy]; rfl)).imp (fun t h => ?_)
  obtain ⟨h, ho⟩ := h
  rw [h]
  exact ⟨by rw [← hy], by rw [hr, if_pos rfl], fun k hk => by rw [hr, if_neg (by simpa using hk)], ho⟩

/-- An enable bit of FENCE.EN that is set. -/
theorem Zone.enabled_of_bit {z : Zone} {k : Nat} (h : bit (z.reg Reg.FENCE_EN) k = true) :
    2 ^ k &&& z.fenceEn = 2 ^ k := by
  have hb : (z.reg Reg.FENCE_EN).toNat.testBit k = true := by
    rw [Nat.testBit_eq_decide_div_mod_eq]
    simpa [bit] using h
  unfold Zone.fenceEn
  apply Nat.eq_of_testBit_eq
  intro j
  rw [Nat.testBit_and, Nat.testBit_or, Nat.testBit_two_pow]
  by_cases e : k = j
  · subst e; simp [hb]
  · simp [e]

/-- Settles O6: an expired period is a cause of its own; kick, write and leak are the zone's own operations. -/
theorem watchdogAndBucket : Obligations.WatchdogAndBucket := by
  intro s i hq
  obtain ⟨ha, hp, ht, hwf, hv⟩ := id hq
  have hw := (State.wf_zone hwf i).1
  refine ⟨fun hd he h1 h2 h3 => ?_, fun hh hl => ?_, fun v hz => ?_, fun v hz hl => ?_, fun hl => ?_⟩
  · have hc : Fenced s.zones[i].wdStart 0x08 (s.zones[i].wdStart.raise 0x08) :=
      Zone.raise_fences hw (Zone.arising_all h1 h3 _) h2 (Zone.enabled_of_bit (k := 3) he) (by decide)
    obtain ⟨nw, na, nv⟩ := hc.quiet hq ⟨rfl, rfl⟩
    have hn : s.zones[i].wdCheck = s.zones[i].wdStart.raise 0x08 := if_pos hd
    refine (event_leaves (f := fun z _ => z.wdCheck) rfl hq hn nw na nv).imp (fun t h => ?_)
    obtain ⟨h, ho⟩ := h
    exact ⟨by rw [h.ctl, hc.ctl], by rw [h.reg (by decide)]; exact hc.leaves.2.1, by rw [h.ctl, hc.ctl]; rfl, ho⟩
  · have hn : s.zones[i].wdogKick .host 0x5A = s.zones[i].wdStart := if_pos ⟨rfl, by rw [hh]; rfl, hl⟩
    exact write_lone rfl hq (by decide) (fun p0 => by rw [Zone.regWrite_wdogKick, hn]; rfl) (.of_st ha hv rfl) ht rfl rfl
  · exact wdogWrite_lone hq (Zone.wdogWrite_stop hz) rfl
  · refine (wdogWrite_lone hq (Zone.wdogWrite_start hw hz hl) rfl).imp (fun t h => ?_)
    obtain ⟨h, hr⟩ := h
    exact ⟨by rw [h], by rw [h], by rw [h], hr⟩
  · have hn : s.zones[i].leakCheck = s.zones[i].bucketLeak := if_pos hl
    exact event_lone (f := fun z _ => z.leakCheck) rfl hq hn (.of_st ha hv rfl) ht rfl rfl

/-! O7. -/

/-- A WHY condition that arises in RUN: the zone holds if HOLD_EN says so. -/
theorem Zone.whyHold_run {z : Zone} (h : z.regsWf = true) (hs : z.ctl.st = .run) :
    StateMove (if bit (z.reg Reg.ZCTL_CFG) 3 then .hold else .run) z z.whyHold := by
  unfold Zone.whyHold
  cases hb : bit (z.reg Reg.ZCTL_CFG) 3
  · simp only [Bool.false_eq_true, and_false, if_false]
    have := StateMove.refl h
    rwa [hs] at this
  · simp only [hs, and_self, if_true]
    exact Zone.enter_move h _

section why
variable {s : State} {i : ZoneId} {c : Instr} {f : Zone → HostC → Zone} {y n : Zone} {st : ZSt}

/-- A command that moves a zone, whose marks it has set, to a state. -/
theorem event_moves (hc : exec c s = inZoneH s i f) (hq : Quiet s i) (hn : f s.zones[i] s.host = n) (hm : StateMove st y n)
    (hy : ∃ ct, y = { s.zones[i] with ctl := ct }) :
    Completes c s (fun t => t.zones[i].ctl = { y.ctl with st := st } ∧ t.zones[i].time = s.zones[i].time ∧
      t.zones[i].sched = s.zones[i].sched ∧ t.zones[i].voices = s.zones[i].voices ∧ OnlyZone i s t) := by
  obtain ⟨ct, rfl⟩ := hy
  obtain ⟨q, r, o, g, d, ph, l, rfl, hr, hg, _⟩ := hm
  refine (event_leaves hc hq hn hr.1 (hg.trans hq.1) hq.2.2.2.2).imp (fun t h => ?_)
  obtain ⟨h, ho⟩ := h
  exact ⟨h.ctl, h.time, h.sched_told rfl hq.2.2.1, h.voices, ho⟩

end why

/-- Settles O7: either condition sets its WHY bit and holds a zone in RUN with HOLD_EN. -/
theorem orphanAndHcloss : Obligations.OrphanAndHcloss := by
  intro s i hq
  have hw := (State.wf_zone hq.2.2.2.1 i).1
  refine ⟨fun hs ho hl => ?_, fun hs ho => ?_⟩
  · generalize hy : ({ s.zones[i] with ctl := { s.zones[i].ctl with orphan := true } } : Zone) = y
    have hn : s.zones[i].orphanSet s.host.link.silence = y.whyHold := by
      have hd : decide (s.host.link.silence > s.zones[i].orphanTo) = true := decide_eq_true hl
      unfold Zone.orphanSet
      rw [if_neg (by rw [hs]; decide), hd, ho, ← hy]
      rfl
    have hm := Zone.whyHold_run (z := y) (by rw [← hy]; exact hw) (by rw [← hy]; exact hs)
    refine (event_moves (f := fun z h => z.orphanSet h.link.silence) rfl hq hn hm ⟨_, hy.symm⟩).imp (fun t h => ?_)
    obtain ⟨h, ht, hsc, hvo, hz⟩ := h
    exact ⟨by rw [h, ← hy], by rw [h, ← hy]; rfl, ht, hsc, hvo, hz⟩
  · generalize hy : ({ s.zones[i] with ctl := { s.zones[i].ctl with hcloss := true } } : Zone) = y
    generalize hx : ({ y with ctl := { y.ctl with hbMiss := 16 } } : Zone) = x
    have hm := Zone.whyHold_run (z := y) (by rw [← hy]; exact hw) (by rw [← hy]; exact hs)
    have hm' : StateMove (if bit (y.reg Reg.ZCTL_CFG) 3 then .hold else .run) x
        { y.whyHold with ctl := { y.whyHold.ctl with hbMiss := 16 } } := by
      obtain ⟨q, r, o, g, d, ph, l, e, hr, h1, h2⟩ := hm
      rw [e, ← hx]
      exact ⟨q, r, o, g, d, ph, l, rfl, hr, h1, h2⟩
    have hn : ({ s.zones[i].hclossSet true with ctl := { (s.zones[i].hclossSet true).ctl with hbMiss := 16 } } : Zone) =
        { y.whyHold with ctl := { y.whyHold.ctl with hbMiss := 16 } } := by
      have : s.zones[i].hclossSet true = y.whyHold := by
        unfold Zone.hclossSet
        rw [if_neg (by rw [hs]; decide), ho, ← hy]
        rfl
      rw [this]
    refine (event_moves (f := fun z _ => { z.hclossSet true with ctl := { (z.hclossSet true).ctl with hbMiss := 16 } })
      rfl hq hn hm' ⟨_, by rw [← hx, ← hy]⟩).imp (fun t h => ?_)
    obtain ⟨h, ht, hsc, hvo, hz⟩ := h
    exact ⟨by rw [h, ← hx, ← hy], by rw [h, ← hx, ← hy]; rfl, ht, hsc, hvo, hz⟩

end Sys2Proof.Machine
end

section
namespace Sys2Proof.Machine

/-! Causes of a zone that is already fenced (R15). -/

/-- A bit that is set. -/
theorem setBit_true {w : Word} {i : Nat} (h : i < 32) : setBit w i true = w ||| BitVec.ofNat 32 (2 ^ i) := by
  apply BitVec.eq_of_toNat_eq
  have hlt : 2 ^ i < 2 ^ 32 := Nat.pow_lt_pow_right (by decide) h
  have hm : w.toNat % 2 ^ i < 2 ^ i := Nat.mod_lt _ (by positivity)
  have e : w.toNat / 2 ^ (i + 1) * 2 ^ (i + 1) + 2 ^ i + w.toNat % 2 ^ i =
      2 ^ i * (2 * (w.toNat / 2 ^ (i + 1)) + 1) + w.toNat % 2 ^ i := by ring
  have hd : w.toNat / 2 ^ (i + 1) = w.toNat / 2 ^ i / 2 := by rw [pow_succ, Nat.div_div_eq_div_mul]
  rw [setBit, toNat_setFld (le_refl i) h, BitVec.toNat_or, BitVec.toNat_ofNat, Nat.mod_eq_of_lt hlt]
  simp only [if_true, Nat.add_sub_cancel_left, pow_one, Nat.one_mod, one_mul]
  rw [e]
  apply Nat.eq_of_testBit_eq
  intro j
  rw [Nat.testBit_two_pow_mul_add _ hm, Nat.testBit_or, Nat.testBit_two_pow]
  by_cases hj : j < i
  · have hne : i ≠ j := by omega
    simp [hj, hne, Nat.testBit_mod_two_pow]
  · rw [if_neg hj]
    obtain ⟨k, rfl⟩ : ∃ k, j = i + k := ⟨j - i, by omega⟩
    rw [Nat.add_sub_cancel_left]
    cases k with
    | zero => simp
    | succ k =>
      have hne : i ≠ i + (k + 1) := by omega
      rw [Nat.testBit_succ, show (2 * (w.toNat / 2 ^ (i + 1)) + 1) / 2 = w.toNat / 2 ^ (i + 1) by omega,
        Nat.testBit_div_two_pow]
      simp [Nat.add_left_comm]

/-- A zone with k more FAULT records and with w in FENCE.CAUSE. -/
def CauseMove (w : Word) (k : BitVec 16) (z z' : Zone) : Prop :=
  ∃ q r, z' = { z with msgs := q, regs := r } ∧ RegMapBut [Reg.FENCE_CAUSE, Reg.MSG_DROPPED] z r ∧
    smGet zoneRst r Reg.FENCE_CAUSE = w ∧ q.nseq = z.msgs.nseq + k

theorem CauseMove.trans {w w' : Word} {k k' : BitVec 16} {a b c : Zone} (h : CauseMove w k a b) (h' : CauseMove w' k' b c) :
    CauseMove w' (k + k') a c := by
  obtain ⟨q, r, rfl, hr, _, hq⟩ := h
  obtain ⟨q', r', rfl, hr', hw', hq'⟩ := h'
  exact ⟨q', r', rfl, RegMapBut.trans hr hr', hw', by rw [hq', hq, BitVec.add_assoc]⟩

theorem CauseMove.wf {w : Word} {k : BitVec 16} {a b : Zone} (h : CauseMove w k a b) : b.regsWf = true := by
  obtain ⟨q, r, rfl, hr, _⟩ := h
  exact hr.1

theorem CauseMove.cause {w : Word} {k : BitVec 16} {a b : Zone} (h : CauseMove w k a b) : b.reg Reg.FENCE_CAUSE = w := by
  obtain ⟨q, r, rfl, _, hw, _⟩ := h
  exact hw

/-- One cause: its bit and its message. -/
theorem Zone.cause_move {z : Zone} (h : z.regsWf = true) {i : Nat} (hi : i < 32) :
    CauseMove (z.reg Reg.FENCE_CAUSE ||| BitVec.ofNat 32 (2 ^ i)) 1 z ((z.putBit Reg.FENCE_CAUSE i true).fenceMsg i) := by
  have w := Zone.putBit_regsWf h Reg.FENCE_CAUSE i true
  have hc : (z.putBit Reg.FENCE_CAUSE i true).reg Reg.FENCE_CAUSE = z.reg Reg.FENCE_CAUSE ||| BitVec.ofNat 32 (2 ^ i) := by
    rw [Zone.reg_putBit h, if_pos rfl, setBit_true hi]
  have hb : RegMapBut [Reg.FENCE_CAUSE, Reg.MSG_DROPPED] z (z.putBit Reg.FENCE_CAUSE i true).regs :=
    (RegMapBut.refl h).set (by simp) _
  unfold Zone.fenceMsg
  generalize natLe i 1 ++ _ = ps
  have hs := (z.putBit Reg.FENCE_CAUSE i true).send_nseq clsFault 0x0001 ps
  obtain ⟨q, r, e, hr⟩ := Zone.send_but (l := [Reg.MSG_DROPPED]) w (by simp) clsFault 0x0001 ps
  rw [e] at hs ⊢
  exact ⟨q, r, rfl, RegMapBut.trans hb (hr.mono (by simp)), (hr.2 _ (by decide)).trans hc, hs⟩

theorem Zone.raise_fenced {z : Zone} {c : Nat} (h1 : z.arising c = c) (h2 : z.ctl.st = .fenced) (he : c &&& z.fenceEn = c)
    (hc : c ≠ 0) :
    z.raise c = (causeList c).foldl (fun z i => (z.putBit Reg.FENCE_CAUSE i true).fenceMsg i) z := by
  unfold Zone.raise
  dsimp only
  rw [h1, if_neg hc, dis_nil he, he, if_neg hc]
  simp [h2]

/-! O36. -/

section fenced
variable {s : State} {i : ZoneId} (hq : Quiet s i) (hs : s.zones[i].ctl.st = .fenced)
include hq hs

theorem router_fenced : Completes (.router i) s (fun t =>
    t.zones[i].reg Reg.FENCE_CAUSE = (s.zones[i].reg Reg.FENCE_CAUSE ||| 0x020) ∧
      t.zones[i].reg Reg.FENCE_FIRST = s.zones[i].reg Reg.FENCE_FIRST ∧
      t.zones[i].msgs.nseq = s.zones[i].msgs.nseq + 1 ∧ RegsBut [Reg.FENCE_CAUSE, Reg.MSG_DROPPED] s.zones[i] t.zones[i] ∧
      { t.zones[i] with regs := s.zones[i].regs, msgs := s.zones[i].msgs } = s.zones[i] ∧ OnlyZone i s t) := by
  have hw := (State.wf_zone hq.2.2.2.1 i).1
  have hr : s.zones[i].raise 0x20 = (s.zones[i].putBit Reg.FENCE_CAUSE 5 true).fenceMsg 5 :=
    Zone.raise_fenced (Zone.arising_fixed (by rw [hs]; decide) rfl) hs (Zone.fixed_enabled _ rfl) (by decide)
  obtain ⟨q, r, e, hb, hc, hn⟩ := Zone.cause_move hw (i := 5) (by decide)
  rw [e] at hr
  refine (event_only (f := fun z _ => z.raise 0x20) rfl hq hr (.of_st hq.1 hq.2.2.2.2 rfl)).imp (fun t h => ?_)
  obtain ⟨h, ho⟩ := h
  rw [Zone.taken_told (by exact hq.2.2.1)] at h
  rw [h]
  exact ⟨hc, hb.2 _ (by decide), hn, hb.2, rfl, ho⟩

theorem trip_fenced : Completes (.regulatorTrip i true true) s (fun t =>
    t.zones[i].reg Reg.FENCE_CAUSE = (s.zones[i].reg Reg.FENCE_CAUSE ||| 0x0C0) ∧
      t.zones[i].reg Reg.FENCE_FIRST = s.zones[i].reg Reg.FENCE_FIRST ∧
      t.zones[i].msgs.nseq = s.zones[i].msgs.nseq + 2 ∧ OnlyZone i s t) := by
  have hw := (State.wf_zone hq.2.2.2.1 i).1
  have ha : s.zones[i].tripArmed = true := by unfold Zone.tripArmed; rw [hs]; rfl
  generalize hz : s.zones[i].limited true true = z
  have zw : z.regsWf = true := by rw [← hz]; exact hw
  have zs : z.ctl.st = .fenced := by rw [← hz]; exact hs
  have hr : z.raise 0xC0 = (((z.putBit Reg.FENCE_CAUSE 6 true).fenceMsg 6).putBit Reg.FENCE_CAUSE 7 true).fenceMsg 7 :=
    Zone.raise_fenced (Zone.arising_fixed (by rw [zs]; decide) rfl) zs (Zone.fixed_enabled _ rfl) (by decide)
  have h6 := Zone.cause_move zw (i := 6) (by decide)
  have h67 := h6.trans (Zone.cause_move h6.wf (i := 7) (by decide))
  rw [← hr, h6.cause, BitVec.or_assoc] at h67
  generalize hn : z.raise 0xC0 = n at h67
  have he : s.zones[i].regTrip true true = n.gate.pinsOff := by
    rw [Zone.regTrip_armed ha, hz, ← hn]; rfl
  have ho := n.gate.pinsOff_move
  generalize n.gate.pinsOff = y at he ho
  obtain ⟨p, t, o, w, rfl, _⟩ := Zone.gate_out ho
  obtain ⟨q, r, rfl, hb, hc, hk⟩ := h67
  rw [← hz] at he hb hc hk
  refine (event_leaves (f := fun z _ => z.regTrip true true) rfl hq he hb.1 hq.1 hq.2.2.2.2).imp (fun t h => ?_)
  obtain ⟨h, hoz⟩ := h
  exact ⟨(h.reg (by decide)).trans hc, (h.reg (by decide)).trans (hb.2 _ (by decide)), (congrArg MsgQ.nseq h.msgs).trans hk, hoz⟩

end fenced

/-- Settles O36: causes of one moment by `Zone.raise_fences`, causes of a fenced zone by their bits and messages. -/
theorem severalCauses : Obligations.SeveralCauses := by
  intro s i z hz hq
  subst hz
  have hw := (State.wf_zone hq.2.2.2.1 i).1
  refine ⟨fun h1 h2 => ⟨fun m hm ha he => (Zone.raise_fences hw ha h2 he hm).leaves, fun ha => ?_⟩,
    fun hs => ⟨router_fenced hq hs, trip_fenced hq hs⟩⟩
  exact (coreTrip_fences hq h1 h2 ha true).imp (fun t h => ⟨h.1, h.2.1, h.2.2.1, h.2.2.2.2.2.2⟩)

/-! O38. -/

theorem zoneAddr_toNat (i : ZoneId) {off : Nat} (h : off < 0x7400) : (BitVec.ofNat 24 (zoneAddr i off)).toNat = zoneAddr i off := by
  have hi := i.isLt
  rw [BitVec.toNat_ofNat, Nat.mod_eq_of_lt]
  unfold zoneAddr
  omega

section control
variable {s : State} {i : ZoneId} (hq : Quiet s i)
include hq

/-- A read of a register that a read does not change. -/
theorem rcRead_quiet {off : Nat} {w : Word} (ho : off < 0x7400) (hr : s.zones[i].regRead .host off = ⟨0, w, s.zones[i]⟩) :
    Completes (.rcRead (BitVec.ofNat 24 (zoneAddr i off)) .host) s (fun t => t.host.bus.reason = 0 ∧ t.host.bus.data = w ∧
      t.zones[i] = s.zones[i] ∧ Lone i s t) := by
  obtain ⟨hz, hh⟩ := And.intro (zones_of_set (gather_zones (o := s.zones[i]) (n := s.zones[i]) hq.2.1))
    (gather_host (o := s.zones[i]) hq.2.1 hq.2.2.1 rfl rfl)
  have hp := gather_pending (s := s) (i := i) (o := s.zones[i]) (n := s.zones[i])
  refine ⟨_, rfl, ?_⟩
  have he : s.addrRead .host (BitVec.ofNat 24 (zoneAddr i off)).toNat =
      (s.gather i s.zones[i] s.zones[i]).modHost (fun h => { h with bus := { h.bus with data := w, reason := 0, detail := 0 } }) := by
    rw [zoneAddr_toNat i ho]
    change s.busRead (zoneAddr i off) = _
    unfold State.busRead State.regRead
    rw [placeOf_zoneAddr i ho]
    dsimp only
    rw [hr]
  rw [he]
  generalize s.gather i s.zones[i] s.zones[i] = t at hz hh hp
  rw [Zone.taken_told hq.2.2.1] at hz
  refine ⟨rfl, rfl, hz.1, ⟨hz.2, hp⟩, ?_⟩
  rw [SameHost, ← hh]
  rfl

/-- A write that stores a word of plain fields. -/
theorem registerWrite_quiet {off : Nat} {v m : Word} (ho : off < 0x7400)
    (hr : ∀ p0, s.zones[i].regWrite s.host .host p0 off v = (0, s.zones[i].stores off m v)) :
    Completes (.registerWrite (BitVec.ofNat 24 (zoneAddr i off)) .host v) s (fun t => t.host.bus.reason = 0 ∧
      t.zones[i] = s.zones[i].stores off m v ∧ Lone i s t) := by
  have hc : exec (.registerWrite (BitVec.ofNat 24 (zoneAddr i off)) .host v) s = .next (s.partyWrite .host i off v) := by
    change (.next (s.addrWrite .host (BitVec.ofNat 24 (zoneAddr i off)).toNat v) : Out) = _
    rw [zoneAddr_toNat i ho]
    rfl
  have hreason : (s.partyWrite .host i off v).host.bus.reason = 0 := by
    change (s.busWrite (zoneAddr i off) v).host.bus.reason = 0
    unfold State.busWrite State.regWrite
    rw [placeOf_zoneAddr i ho]
    change (s.zones[i].regWrite s.host .host s.host.p0ctl off v).1 = 0
    rw [hr]
  obtain ⟨t, ht, h⟩ := write_lone (n := s.zones[i].stores off m v) hc hq ho (fun p0 => by rw [hr]) (.of_st hq.1 hq.2.2.2.2 rfl) hq.2.2.1 rfl rfl
  rw [hc] at ht
  cases ht
  exact ⟨_, hc, hreason, h⟩

end control

/-- A plain register without W1C bits stores its RW fields. -/
theorem Zone.plainWrite_stores (z : Zone) {r : RegSpec} (h : r.w1c = 0) (v : Word) :
    z.plainWrite r v = z.stores r.off (BitVec.ofNat 32 r.rw) v := by
  unfold Zone.plainWrite Zone.stores
  dsimp only
  have h1 : ~~~(BitVec.ofNat 32 0 &&& v) = BitVec.allOnes 32 := by rw [BitVec.zero_and]; rfl
  rw [h, h1, BitVec.and_allOnes]

/-- Settles O38: no state of the zone and no lock bars these pages, and the registers are plain. -/
theorem controlPagesAnswer : Obligations.ControlPagesAnswer := by
  intro s i v z hz hq
  subst hz
  refine ⟨fun off hoff => ?_, ?_, ?_, fun _ => ?_, fun _ => ?_⟩
  · have ho : off < 0x7400 := by revert off; decide
    obtain ⟨w, hr⟩ : ∃ w, s.zones[i].regRead .host off = ⟨0, w, s.zones[i]⟩ := by
      simp only [List.mem_cons, List.not_mem_nil, or_false] at hoff
      rcases hoff with rfl | rfl | rfl | rfl | rfl | rfl | rfl | rfl <;> exact ⟨_, rfl⟩
    exact (rcRead_quiet hq ho hr).imp (fun t h => ⟨h.1, h.2.2⟩)
  · exact rcRead_quiet hq (by decide) rfl
  · exact (rcRead_quiet hq (w := s.zones[i].reg Reg.FENCE_CAUSE) (by decide) rfl).imp (fun t h => h.2.1)
  · obtain ⟨r, hr, hw, hx⟩ : ∃ r, zoneSpec Reg.ZCTL_CFG = some r ∧
        (∀ p0, s.zones[i].blockWrite s.host .host p0 r v = (0, s.zones[i].plainWrite r v)) ∧
        (r.w1c = 0 ∧ r.off = Reg.ZCTL_CFG ∧ r.rw = 0xFFFF000D) := ⟨_, rfl, fun _ => rfl, rfl, rfl, rfl⟩
    exact registerWrite_quiet hq (by decide) fun p0 => by
      rw [Zone.regWrite_ctl (by decide) (by decide) hr, hw, Zone.plainWrite_stores _ hx.1, hx.2.1, hx.2.2]
      rfl
  · obtain ⟨r, hr, hw, hx⟩ : ∃ r, zoneSpec Reg.FENCE_VERDICT = some r ∧
        (∀ p0, s.zones[i].blockWrite s.host .host p0 r v = (0, s.zones[i].plainWrite r v)) ∧
        (r.w1c = 0 ∧ r.off = Reg.FENCE_VERDICT ∧ r.rw = 0x3FF) := ⟨_, rfl, fun _ => rfl, rfl, rfl, rfl⟩
    exact registerWrite_quiet hq (by decide) fun p0 => by
      rw [Zone.regWrite_ctl (by decide) (by decide) hr, hw, Zone.plainWrite_stores _ hx.1, hx.2.1, hx.2.2]
      rfl

end Sys2Proof.Machine
end

section
namespace Sys2Proof.Machine

/-! The state of a zone under operations that repeat or choose. -/

theorem iterFrom_keeps {α β : Type} {g : α → β} {f : Nat → α → α} (hf : ∀ k a, g (f k a) = g a) :
    ∀ (k n : Nat) (a : α), g (iterFrom f k n a) = g a
  | _, 0, _ => rfl
  | k, n + 1, a => (iterFrom_keeps hf (k + 1) n (f k a)).trans (hf k a)

theorem foldl_keeps {α β γ : Type} {g : α → β} {f : α → γ → α} (hf : ∀ a x, g (f a x) = g a) :
    ∀ (l : List γ) (a : α), g (l.foldl f a) = g a
  | [], _ => rfl
  | x :: l, a => (foldl_keeps hf l (f a x)).trans (hf a x)

theorem iter_st {f : Nat → Zone → Zone} (hf : ∀ k z, (f k z).ctl.st = z.ctl.st) (n : Nat) (z : Zone) :
    (iter n f z).ctl.st = z.ctl.st :=
  iterFrom_keeps (g := fun z : Zone => z.ctl.st) hf 0 n z

theorem foldl_st {γ : Type} {f : Zone → γ → Zone} (hf : ∀ z x, (f z x).ctl.st = z.ctl.st) (l : List γ) (z : Zone) :
    (l.foldl f z).ctl.st = z.ctl.st :=
  foldl_keeps (g := fun z : Zone => z.ctl.st) hf l z

theorem foldl_snd_st {α γ : Type} {f : α × Zone → γ → α × Zone} (hf : ∀ a x, (f a x).2.ctl.st = a.2.ctl.st) (l : List γ)
    (a : α × Zone) : (l.foldl f a).2.ctl.st = a.2.ctl.st :=
  foldl_keeps (g := fun a : α × Zone => a.2.ctl.st) hf l a

@[simp] theorem ite_st (c : Prop) [Decidable c] (a b : Zone) :
    (if c then a else b).ctl.st = if c then a.ctl.st else b.ctl.st := apply_ite (fun z : Zone => z.ctl.st) c a b

@[simp] theorem ite_snd_st {α : Type} (c : Prop) [Decidable c] (a b : α × Zone) :
    (if c then a else b).2.ctl.st = if c then a.2.ctl.st else b.2.ctl.st :=
  apply_ite (fun r : α × Zone => r.2.ctl.st) c a b

theorem underTest_st {f : Zone → Zone} (hf : ∀ z, (f z).ctl.st = z.ctl.st) (z : Zone) :
    (z.underTest f).ctl.st = z.ctl.st := by
  unfold Zone.underTest
  split
  · exact hf _
  · exact hf _

end Sys2Proof.Machine
end

section
namespace Sys2Proof.Machine

/-! What leaves the state of a zone as it is: its registers, memories, clocks, engines, outputs and messages; where the zone's
engines must run for an operation, see the operations of a zone in OFF or FENCED below. -/

@[simp] theorem Zone.putBit_st (z : Zone) (k i : Nat) (b : Bool) : (z.putBit k i b).ctl.st = z.ctl.st := rfl

@[simp] theorem Zone.count_st (z : Zone) (k hi lo n : Nat) : (z.count k hi lo n).ctl.st = z.ctl.st := rfl

@[simp] theorem Zone.setFlt_st (z : Zone) (page i : Nat) : (z.setFlt page i).ctl.st = z.ctl.st := rfl

@[simp] theorem Zone.draw_st (z : Zone) : z.draw.2.ctl.st = z.ctl.st := rfl

@[simp] theorem Zone.draw48_st (z : Zone) : z.draw48.2.ctl.st = z.ctl.st := rfl

@[simp] theorem Zone.freeWord_st (z : Zone) (what : Nat) : (z.freeWord what).2.ctl.st = z.ctl.st := rfl

@[simp] theorem Zone.freeCond_st (z : Zone) (what : Nat) : (z.freeCond what).2.ctl.st = z.ctl.st := rfl

@[simp] theorem Zone.send_st (z : Zone) (cls code : Nat) (params : List Byte) :
    (z.send cls code params).ctl.st = z.ctl.st := by
  simp [Zone.send]

@[simp] theorem Zone.arith_st (z : Zone) (page acc flag : Nat) : (z.arith page acc flag).ctl.st = z.ctl.st := by
  simp [Zone.arith]

@[simp] theorem Zone.upset_st (z : Zone) (u : Upset) : (z.upset u).ctl.st = z.ctl.st := rfl

@[simp] theorem Zone.eccRead_st (z : Zone) (c w : Nat) : (z.eccRead c w).2.ctl.st = z.ctl.st := by
  unfold Zone.eccRead
  split <;> simp

@[simp] theorem Zone.eccWrite_st (z : Zone) (c w : Nat) : (z.eccWrite c w).ctl.st = z.ctl.st := rfl

@[simp] theorem Zone.eccScan_st (z : Zone) (c lo n : Nat) : (z.eccScan c lo n).2.ctl.st = z.ctl.st := by
  unfold Zone.eccScan
  exact foldl_snd_st (fun a p => by simp) _ _

@[simp] theorem Zone.routeValidate_st (z : Zone) (arm : Bool) : (z.routeValidate arm).2.ctl.st = z.ctl.st := rfl

@[simp] theorem Zone.gainReq_st (z : Zone) (k : Nat) (t : Int) : (z.gainReq k t).ctl.st = z.ctl.st := by
  unfold Zone.gainReq
  split <;> simp

@[simp] theorem Zone.routeSwapped_st (z : Zone) (old new : Mem72) : (z.routeSwapped old new).ctl.st = z.ctl.st := by
  simp only [Zone.routeSwapped]
  rw [iter_st (fun k z => by simp), iter_st (fun k z => by simp)]
  simp

@[simp] theorem Zone.spliceDrop_st (z : Zone) : z.spliceDrop.ctl.st = z.ctl.st := rfl

@[simp] theorem Zone.gainsWarm_st (z : Zone) : z.gainsWarm.ctl.st = z.ctl.st := rfl

@[simp] theorem Zone.lfoStart_st (z : Zone) (p : LfoP) (old : Option LfoSt) :
    (z.lfoStart p old).2.ctl.st = z.ctl.st := by
  simp only [Zone.lfoStart]
  split <;> simp

@[simp] theorem Zone.cacheCheck_st (z : Zone) (ws : List Nat) : (z.cacheCheck ws).ctl.st = z.ctl.st := by
  unfold Zone.cacheCheck
  exact foldl_st (fun z x => by simp) _ _

@[simp] theorem Zone.oscStart_st (z : Zone) (h : HostC) (v n : Nat) (p : OscP) :
    (z.oscStart h v n p).2.2.ctl.st = z.ctl.st := by
  simp only [Zone.oscStart]
  repeat' split
  all_goals simp

@[simp] theorem Zone.paramFault_st (z : Zone) (item : Word) (v n : Nat) :
    (z.paramFault item v n).ctl.st = z.ctl.st := by
  simp [Zone.paramFault]

@[simp] theorem Zone.modVoice_st (z : Zone) (v : Fin 96) (f : Voice → Voice) : (z.modVoice v f).ctl.st = z.ctl.st := rfl

@[simp] theorem Zone.dlRisk_st (z : Zone) (handle : BitVec 16) (r : Rat) (d : DlSt) :
    (z.dlRisk handle r d).ctl.st = z.ctl.st := by
  simp [Zone.dlRisk]

@[simp] theorem Zone.dlMiss_st (z : Zone) (handle : BitVec 16) (rem : Rat) :
    (z.dlMiss handle rem).ctl.st = z.ctl.st := by
  simp [Zone.dlMiss]

@[simp] theorem Zone.dlBegin_st (z : Zone) (handle : BitVec 16) (rem : Rat) (d : DlSt) :
    (z.dlBegin handle rem d).2.ctl.st = z.ctl.st := by
  simp [Zone.dlBegin]

@[simp] theorem Zone.deadline_st (z : Zone) (h : HostC) (v : Fin 96) (first : Bool) :
    (z.deadline h v first).ctl.st = z.ctl.st := by
  simp only [Zone.deadline]
  split <;> simp

@[simp] theorem Zone.ctlWord_st (z : Zone) (v : Fin 96) (w : Word) : (z.ctlWord v w).ctl.st = z.ctl.st := by
  simp only [Zone.ctlWord]
  split_ifs <;> simp [iter_st]

@[simp] theorem Zone.presetCopy_st (z : Zone) (it : Item) (v : Fin 96) : (z.presetCopy it v).ctl.st = z.ctl.st := rfl

@[simp] theorem Zone.voiceBegin_st (z : Zone) (h : HostC) (v : Fin 96) (st : Start) :
    (z.voiceBegin h v st).ctl.st = z.ctl.st := by
  simp [Zone.voiceBegin, foldl_st]

@[simp] theorem Zone.presetCheck_st (z : Zone) (it : Item) : (z.presetCheck it).ctl.st = z.ctl.st := by
  unfold Zone.presetCheck
  split <;> simp

@[simp] theorem Zone.presetFetch_st (z : Zone) (v : Fin 96) (cls : Nat) (it : Item) :
    (z.presetFetch v cls it).ctl.st = z.ctl.st := rfl

@[simp] theorem Zone.waitDeadline_st (z : Zone) (st : Start) : (z.waitDeadline st).2.ctl.st = z.ctl.st := by
  unfold Zone.waitDeadline
  split <;> simp

@[simp] theorem Zone.startOn_st (z : Zone) (h : HostC) (v : Fin 96) (st : Start) (succ : Bool) :
    (z.startOn h v st succ).ctl.st = z.ctl.st := by
  simp only [Zone.startOn]
  repeat' split
  all_goals simp

@[simp] theorem Zone.vrelOne_st (z : Zone) (v : Fin 96) : (z.vrelOne v).ctl.st = z.ctl.st := rfl

@[simp] theorem Zone.vkillOne_st (z : Zone) (v : Fin 96) : (z.vkillOne v).ctl.st = z.ctl.st := rfl

@[simp] theorem Zone.succStart_st (z : Zone) (h : HostC) (v : Fin 96) : (z.succStart h v).ctl.st = z.ctl.st := by
  unfold Zone.succStart
  split <;> simp

@[simp] theorem Zone.succLost_st (z : Zone) (h : HostC) (v : Fin 96) : (z.succLost h v).ctl.st = z.ctl.st := by
  unfold Zone.succLost
  split <;> simp

@[simp] theorem Zone.lateStart_st (z : Zone) (vo : Voice) : (z.lateStart vo).ctl.st = z.ctl.st := by
  simp [Zone.lateStart]

@[simp] theorem Zone.waitCopy_st (z : Zone) (h : HostC) (v : Fin 96) : (z.waitCopy h v).ctl.st = z.ctl.st := by
  simp only [Zone.waitCopy]
  split <;> simp

@[simp] theorem Zone.completeVoice_st (z : Zone) (h : HostC) (v : Fin 96) :
    (z.completeVoice h v).ctl.st = z.ctl.st := by
  simp [Zone.completeVoice]

@[simp] theorem Zone.dropVoices_st (z : Zone) : z.dropVoices.ctl.st = z.ctl.st := rfl

@[simp] theorem Zone.oscSwap_st (z : Zone) (h : HostC) (v n : Nat) (old new : OscP) (o : OscSt) :
    (z.oscSwap h v n old new o).2.2.ctl.st = z.ctl.st := by
  simp only [Zone.oscSwap]
  repeat' split
  all_goals simp

@[simp] theorem Zone.voiceSwap_st (z : Zone) (h : HostC) (old new : Mem72) (v : Fin 96) :
    (z.voiceSwap h old new v).ctl.st = z.ctl.st := by
  simp only [Zone.voiceSwap]
  split_ifs
  · rfl
  · repeat rw [iter_st (fun k z => by simp)]

@[simp] theorem Zone.blocksSwapped_st (z : Zone) (h : HostC) (old new : Mem72) :
    (z.blocksSwapped h old new).ctl.st = z.ctl.st := by
  simp [Zone.blocksSwapped, iter_st]

@[simp] theorem Zone.arithOnce_st (z : Zone) (page acc flag : Nat) : (z.arithOnce page acc flag).ctl.st = z.ctl.st := by
  simp [Zone.arithOnce]

@[simp] theorem Zone.accFlags_st (z : Zone) (page num : Nat) (a b : AccSt) :
    (z.accFlags page num a b).ctl.st = z.ctl.st := by
  simp [Zone.accFlags]

@[simp] theorem Zone.decSample_st (z : Zone) (n : Fin 4) (c : Int) : (z.decSample n c).ctl.st = z.ctl.st := by
  simp [Zone.decSample]

@[simp] theorem Zone.decFeed_st (z : Zone) : z.decFeed.ctl.st = z.ctl.st := by
  unfold Zone.decFeed
  exact underTest_st (fun z => foldl_st (fun z n => by simp [foldl_st]) _ _) _

@[simp] theorem Zone.decReset_st (z : Zone) (n : Fin 4) : (z.decReset n).ctl.st = z.ctl.st := by
  simp [Zone.decReset]

@[simp] theorem Zone.fadesBegun_st (z : Zone) : z.fadesBegun.ctl.st = z.ctl.st := rfl

@[simp] theorem Zone.decLoad_st (z : Zone) (n : Fin 4) : (z.decLoad n).ctl.st = z.ctl.st := by
  simp [Zone.decLoad]

@[simp] theorem Zone.decLoadAll_st (z : Zone) : z.decLoadAll.ctl.st = z.ctl.st := by
  simp [Zone.decLoadAll, foldl_st]

@[simp] theorem Zone.chainStart_st (z : Zone) : z.chainStart.ctl.st = z.ctl.st := rfl

@[simp] theorem Zone.decTick_st (z : Zone) (n : Fin 4) : (z.decTick n).ctl.st = z.ctl.st := by
  simp [Zone.decTick]

@[simp] theorem Zone.decFreq_st (z : Zone) (n : Fin 4) (v : Word) : (z.decFreq n v).ctl.st = z.ctl.st := rfl

@[simp] theorem Zone.crossEnd_st (z : Zone) (n : Fin 4) : (z.crossEnd n).ctl.st = z.ctl.st := rfl

@[simp] theorem Zone.cdataHiRead_st (z : Zone) (n : Fin 4) (p : Party) : (z.cdataHiRead n p).2.ctl.st = z.ctl.st := rfl

@[simp] theorem Zone.cdataLoRead_st (z : Zone) (n : Fin 4) (p : Party) : (z.cdataLoRead n p).2.ctl.st = z.ctl.st := rfl

@[simp] theorem Zone.cdataLoWrite_st (z : Zone) (n : Fin 4) (p : Party) (v : Word) :
    (z.cdataLoWrite n p v).2.ctl.st = z.ctl.st := by
  simp [Zone.cdataLoWrite]

@[simp] theorem Zone.erleWindow_st (z : Zone) (c : Fin 2) : (z.erleWindow c).ctl.st = z.ctl.st := by
  simp [Zone.erleWindow]

@[simp] theorem Zone.bandTick_st (z : Zone) : z.bandTick.ctl.st = z.ctl.st := rfl

@[simp] theorem Zone.bandsMsg_st (z : Zone) : z.bandsMsg.ctl.st = z.ctl.st := by
  simp [Zone.bandsMsg]

@[simp] theorem Zone.bandCapture_st (z : Zone) (p : Party) : (z.bandCapture p).ctl.st = z.ctl.st := by
  unfold Zone.bandCapture
  split <;> simp

@[simp] theorem Zone.windowEnd_st (z : Zone) (c : Fin 2) : (z.windowEnd c).ctl.st = z.ctl.st := by
  simp [Zone.windowEnd]

@[simp] theorem Zone.ampTick_st (z : Zone) : z.ampTick.ctl.st = z.ctl.st := rfl

@[simp] theorem Zone.spanWrite_st (z : Zone) (v : Word) : (z.spanWrite v).ctl.st = z.ctl.st := by
  simp [Zone.spanWrite]

@[simp] theorem Zone.pilotAgain_st (z : Zone) : z.pilotAgain.ctl.st = z.ctl.st := rfl

@[simp] theorem Zone.spanSwitch_st (z : Zone) : z.spanSwitch.ctl.st = z.ctl.st := by
  simp [Zone.spanSwitch]

@[simp] theorem Zone.unmute_st (z : Zone) : z.unmute.ctl.st = z.ctl.st := by
  unfold Zone.unmute
  split <;> simp

@[simp] theorem Zone.switchAct_st (z : Zone) : z.switchAct.ctl.st = z.ctl.st := by
  simp [Zone.switchAct]

@[simp] theorem Zone.spanTick_st (z : Zone) : z.spanTick.ctl.st = z.ctl.st := by
  simp [Zone.spanTick]

@[simp] theorem Zone.delayTick_st (z : Zone) : z.delayTick.ctl.st = z.ctl.st := by
  simp [Zone.delayTick]

@[simp] theorem Zone.ampOnTick_st (z : Zone) : z.ampOnTick.ctl.st = z.ctl.st := by
  simp [Zone.ampOnTick]

@[simp] theorem Zone.muStep_st (z : Zone) : z.muStep.ctl.st = z.ctl.st := rfl

@[simp] theorem Zone.cmSettled_st (z : Zone) : z.cmSettled.ctl.st = z.ctl.st := rfl

@[simp] theorem Zone.cmRamp_st (n : Nat) (z : Zone) : (z.cmRamp n).ctl.st = z.ctl.st := by
  simp [Zone.cmRamp]

@[simp] theorem Zone.pilotWrite_st (z : Zone) (v : Word) : (z.pilotWrite v).ctl.st = z.ctl.st := rfl

@[simp] theorem Zone.pilotTick_st (z : Zone) : z.pilotTick.ctl.st = z.ctl.st := by
  simp [Zone.pilotTick]

@[simp] theorem Zone.burst_st (z : Zone) : z.burst.ctl.st = z.ctl.st := by
  simp [Zone.burst]

@[simp] theorem Zone.fallbackTick_st (z : Zone) : z.fallbackTick.ctl.st = z.ctl.st := by
  simp [Zone.fallbackTick]

@[simp] theorem Zone.testRestart_st (z : Zone) : z.testRestart.ctl.st = z.ctl.st := rfl

@[simp] theorem Zone.testFrame_st (z : Zone) : z.testFrame.ctl.st = z.ctl.st := by
  simp [Zone.testFrame]

@[simp] theorem Zone.stoneWrite_st (z : Zone) (v : Word) : (z.stoneWrite v).ctl.st = z.ctl.st := by
  simp only [Zone.stoneWrite]
  split_ifs <;> simp

@[simp] theorem Zone.stoneTick_st (z : Zone) : z.stoneTick.ctl.st = z.ctl.st := by
  simp [Zone.stoneTick]

@[simp] theorem Zone.stoneUpdate_st (z : Zone) (u : Nat) : (z.stoneUpdate u).2.ctl.st = z.ctl.st := rfl

@[simp] theorem Zone.stoneFrame_st (z : Zone) : z.stoneFrame.ctl.st = z.ctl.st := by
  simp [Zone.stoneFrame]

@[simp] theorem Zone.parkCodes_st (z : Zone) : z.parkCodes.ctl.st = z.ctl.st := by
  simp [Zone.parkCodes]

@[simp] theorem Zone.pinsOff_st (z : Zone) : z.pinsOff.ctl.st = z.ctl.st := by
  simp [Zone.pinsOff]

@[simp] theorem Zone.clrAssert_st (z : Zone) : z.clrAssert.ctl.st = z.ctl.st := by
  simp [Zone.clrAssert]

@[simp] theorem Zone.clrRelease_st (z : Zone) (sub : Nat) : (z.clrRelease sub).ctl.st = z.ctl.st := by
  simp [Zone.clrRelease]

@[simp] theorem Zone.clrFade_st (z : Zone) : z.clrFade.ctl.st = z.ctl.st := rfl

@[simp] theorem Zone.clrAct_st (z : Zone) : z.clrAct.ctl.st = z.ctl.st := by
  simp [Zone.clrAct]

@[simp] theorem Zone.clrStale_st (z : Zone) : z.clrStale.ctl.st = z.ctl.st := by
  simp [Zone.clrStale]

@[simp] theorem Zone.clrTick_st (z : Zone) : z.clrTick.ctl.st = z.ctl.st := by
  simp [Zone.clrTick]

@[simp] theorem Zone.clrSlowTick_st (z : Zone) : z.clrSlowTick.ctl.st = z.ctl.st := by
  simp [Zone.clrSlowTick]

@[simp] theorem Zone.dacSat_st (z : Zone) : z.dacSat.ctl.st = z.ctl.st := by
  simp [Zone.dacSat]

@[simp] theorem Zone.dacUpdate_st (u : Nat) (z : Zone) : (z.dacUpdate u).ctl.st = z.ctl.st := by
  simp [Zone.dacUpdate]

@[simp] theorem Zone.outFrame_st (z : Zone) (inp : FrameIn) : (z.outFrame inp).ctl.st = z.ctl.st := by
  simp [Zone.outFrame, iter_st]

@[simp] theorem Zone.tdmStart_st (z : Zone) : z.tdmStart.ctl.st = z.ctl.st := by
  simp [Zone.tdmStart]

@[simp] theorem Zone.tdmEnd_st (z : Zone) (v : Vector Word 8) : (z.tdmEnd v).ctl.st = z.ctl.st := by
  simp [Zone.tdmEnd]

@[simp] theorem Zone.tdmTick_st (z : Zone) : z.tdmTick.ctl.st = z.ctl.st := by
  simp [Zone.tdmTick]

@[simp] theorem Zone.tdmSlip_st (z : Zone) (phase : Int) : (z.tdmSlip phase).ctl.st = z.ctl.st := by
  simp [Zone.tdmSlip]

@[simp] theorem Zone.tdmLocked_st (z : Zone) (phase : Int) : (z.tdmLocked phase).ctl.st = z.ctl.st := by
  simp [Zone.tdmLocked]

@[simp] theorem Zone.nalBandTick_st (z : Zone) (n : Fin 7) : (z.nalBandTick n).ctl.st = z.ctl.st := rfl

@[simp] theorem Zone.nalTick_st (z : Zone) : z.nalTick.ctl.st = z.ctl.st := by
  unfold Zone.nalTick
  split
  · exact foldl_st (fun z n => by simp) _ _
  · rfl

@[simp] theorem Zone.verdictSet_st (z : Zone) (v : Nat) : (z.verdictSet v).ctl.st = z.ctl.st := by
  simp [Zone.verdictSet]

@[simp] theorem Zone.lineBegin_st (z : Zone) : z.lineBegin.ctl.st = z.ctl.st := rfl

@[simp] theorem Zone.lineFrame_st (z : Zone) : z.lineFrame.ctl.st = z.ctl.st := by
  simp [Zone.lineFrame]

@[simp] theorem Zone.baseMisSet_st (z : Zone) : z.baseMisSet.ctl.st = z.ctl.st := by
  simp [Zone.baseMisSet]

@[simp] theorem Zone.lineDone_st (z : Zone) : z.lineDone.2.ctl.st = z.ctl.st := by
  simp [Zone.lineDone]

@[simp] theorem Zone.lineOff_st (z : Zone) : z.lineOff.ctl.st = z.ctl.st := by
  simp [Zone.lineOff]

@[simp] theorem Zone.baseLoad_st (z : Zone) (r : Option BaseRec) (bad : Bool) :
    (z.baseLoad r bad).ctl.st = z.ctl.st := by
  simp only [Zone.baseLoad]
  repeat' split
  all_goals simp

@[simp] theorem Zone.storeBase_st (z : Zone) : z.storeBase.ctl.st = z.ctl.st := by
  simp [Zone.storeBase]

@[simp] theorem Zone.clearBase_st (z : Zone) : z.clearBase.ctl.st = z.ctl.st := rfl

@[simp] theorem Zone.ampSeq_st (z : Zone) : z.ampSeq.ctl.st = z.ctl.st := by
  simp [Zone.ampSeq]

@[simp] theorem Zone.ampRelease_st (z : Zone) : z.ampRelease.ctl.st = z.ctl.st := by
  unfold Zone.ampRelease
  split <;> simp

@[simp] theorem Zone.ampSeqRun_st (z : Zone) (k : Nat) : (z.ampSeqRun k).ctl.st = z.ctl.st := by
  simp only [Zone.ampSeqRun]
  repeat' split
  all_goals simp

@[simp] theorem Zone.ampReset_st (z : Zone) : z.ampReset.ctl.st = z.ctl.st := by
  simp [Zone.ampReset]

@[simp] theorem Zone.holdStart_st (z : Zone) : z.holdStart.ctl.st = z.ctl.st := rfl

@[simp] theorem Zone.holdExpire_st (z : Zone) : z.holdExpire.ctl.st = z.ctl.st := by
  simp only [Zone.holdExpire]
  rw [foldl_st (fun z v => by split <;> simp)]
  simp

@[simp] theorem Zone.holdTick_st (z : Zone) : z.holdTick.ctl.st = z.ctl.st := by
  simp [Zone.holdTick]

@[simp] theorem Zone.armCheck_st (z : Zone) (p : Fin 6) (t : BitVec 32) : (z.armCheck p t).2.ctl.st = z.ctl.st := by
  simp [Zone.armCheck]

@[simp] theorem Zone.armSet_st (z : Zone) (p : Fin 6) (t : BitVec 32) (copy owned : Bool) :
    (z.armSet p t copy owned).ctl.st = z.ctl.st := rfl

@[simp] theorem Zone.arm_st (z : Zone) (p : Fin 6) (t : BitVec 32) (tgt : Option (BitVec 24)) (copy : Bool) :
    (z.arm p t tgt copy).2.ctl.st = z.ctl.st := by
  simp only [Zone.arm]
  repeat' split
  all_goals simp

@[simp] theorem Zone.armMask_st (z : Zone) (m : BitVec 6) (t : BitVec 32) (owned : Bool) :
    (z.armMask m t owned).2.ctl.st = z.ctl.st := by
  simp only [Zone.armMask]
  rw [ite_snd_st, foldl_st (fun z v => by simp), foldl_snd_st (fun z v => by simp), ite_self]

@[simp] theorem Zone.modeReport_st (z : Zone) (mode outcome : Nat) (target applied : BitVec 32) (dev : Bool) :
    (z.modeReport mode outcome target applied dev).ctl.st = z.ctl.st := by
  simp [Zone.modeReport]

@[simp] theorem Zone.modeArm_st (z : Zone) (mode : Nat) (m : BitVec 6) (t : BitVec 32) (dev : Bool) :
    (z.modeArm mode m t dev).2.ctl.st = z.ctl.st := by
  simp [Zone.modeArm]

@[simp] theorem Zone.dropOwned_st (z : Zone) : z.dropOwned.ctl.st = z.ctl.st := rfl

@[simp] theorem Zone.modeCancel_st (z : Zone) (outcome : Nat) : (z.modeCancel outcome).ctl.st = z.ctl.st := by
  unfold Zone.modeCancel
  split <;> simp

@[simp] theorem Zone.disarm_st (z : Zone) (p : Fin 6) : (z.disarm p).ctl.st = z.ctl.st := by
  simp [Zone.disarm]

@[simp] theorem Zone.swapped_st (z : Zone) (h : HostC) (p : Fin 6) : (z.swapped h p).ctl.st = z.ctl.st := by
  unfold Zone.swapped
  split <;> simp

@[simp] theorem Zone.swapNow_st (z : Zone) (h : HostC) (p : Fin 6) : (z.swapNow h p).ctl.st = z.ctl.st := by
  simp [Zone.swapNow]

@[simp] theorem Zone.swapsDue_st (z : Zone) (h : HostC) : (z.swapsDue h).ctl.st = z.ctl.st := by
  simp only [Zone.swapsDue]
  split
  · simp [foldl_st]
  · exact foldl_st (fun z p => by simp) _ _

@[simp] theorem Zone.swapsFenced_st (z : Zone) : z.swapsFenced.ctl.st = z.ctl.st := by
  unfold Zone.swapsFenced
  rw [Zone.modeCancel_st, foldl_st (fun z p => by simp)]

@[simp] theorem Zone.copyBatten_st (z : Zone) (p : Fin 6) : (z.copyBatten p).ctl.st = z.ctl.st := by
  unfold Zone.copyBatten
  split
  · rfl
  · rfl
  · rfl
  · exact foldl_st (fun z k => by simp) _ _

@[simp] theorem Zone.copyDone_st (z : Zone) (p : Fin 6) : (z.copyDone p).ctl.st = z.ctl.st := by
  simp [Zone.copyDone]

@[simp] theorem Zone.copiesDone_st (z : Zone) : z.copiesDone.ctl.st = z.ctl.st := by
  unfold Zone.copiesDone
  exact foldl_st (fun z x => by simp) _ _

@[simp] theorem Zone.post_st (z : Zone) (w : Vector Word 8) (tend : Option (BitVec 48)) (p0ctl : Bool) :
    (z.post w tend p0ctl).2.ctl.st = z.ctl.st := by
  simp [Zone.post]

@[simp] theorem Zone.cancel_st (z : Zone) (tag : BitVec 16) : (z.cancel tag).ctl.st = z.ctl.st := by
  simp [Zone.cancel]

@[simp] theorem Zone.flush_st (z : Zone) : z.flush.ctl.st = z.ctl.st := rfl

@[simp] theorem Zone.markDue_st (z : Zone) : z.markDue.ctl.st = z.ctl.st := rfl

@[simp] theorem Zone.recordCross_st (z : Zone) : z.recordCross.ctl.st = z.ctl.st := rfl

@[simp] theorem Zone.dspStop_st (z : Zone) : z.dspStop.ctl.st = z.ctl.st := rfl

@[simp] theorem Zone.outFence_st (z : Zone) : z.outFence.ctl.st = z.ctl.st := by
  simp [Zone.outFence]

@[simp] theorem Zone.outState_st (z : Zone) (old : ZSt) : (z.outState old).ctl.st = z.ctl.st := by
  simp only [Zone.outState]
  split <;> simp

@[simp] theorem Zone.govReset_st (z : Zone) : z.govReset.ctl.st = z.ctl.st := by
  simp [Zone.govReset]

@[simp] theorem Zone.initEnd_st (z : Zone) : z.initEnd.ctl.st = z.ctl.st := rfl

@[simp] theorem Zone.govState_st (z : Zone) (old : ZSt) : (z.govState old).ctl.st = z.ctl.st := by
  simp only [Zone.govState]
  split <;> simp

@[simp] theorem Zone.syncDue_st (z : Zone) : z.syncDue.ctl.st = z.ctl.st := by
  simp [Zone.syncDue]

@[simp] theorem Zone.syncReset_st (z : Zone) : z.syncReset.ctl.st = z.ctl.st := by
  simp [Zone.syncReset]

@[simp] theorem Zone.memClear_st (z : Zone) (keep : Bool) : (z.memClear keep).ctl.st = z.ctl.st := rfl

@[simp] theorem Zone.fenceMsg_st (z : Zone) (c : Nat) : (z.fenceMsg c).ctl.st = z.ctl.st := by
  simp [Zone.fenceMsg]

@[simp] theorem Zone.fenceStop_st (z : Zone) : z.fenceStop.ctl.st = z.ctl.st := by
  simp [Zone.fenceStop]

@[simp] theorem Zone.reject_st (z : Zone) : z.reject.ctl.st = z.ctl.st := rfl

@[simp] theorem Zone.coldMem_st (z : Zone) : z.coldMem.ctl.st = z.ctl.st := rfl

@[simp] theorem Zone.warmMem_st (z : Zone) : z.warmMem.ctl.st = z.ctl.st := by
  simp [Zone.warmMem]

@[simp] theorem Zone.toSlow_st (z : Zone) : z.toSlow.ctl.st = z.ctl.st := by
  simp [Zone.toSlow]

@[simp] theorem Zone.wdStart_st (z : Zone) : z.wdStart.ctl.st = z.ctl.st := rfl

@[simp] theorem Zone.wdTick_st (z : Zone) : z.wdTick.ctl.st = z.ctl.st := by
  simp [Zone.wdTick]

@[simp] theorem Zone.bucketLeak_st (z : Zone) : z.bucketLeak.ctl.st = z.ctl.st := rfl

@[simp] theorem Zone.judge_st (z : Zone) : z.judge.ctl.st = z.ctl.st := by
  simp [Zone.judge]

@[simp] theorem Zone.relock_st (z : Zone) (e : Int) : (z.relock e).ctl.st = z.ctl.st := by
  simp [Zone.relock]

@[simp] theorem Zone.lockStep_st (z : Zone) (e : Int) : (z.lockStep e).ctl.st = z.ctl.st := by
  simp [Zone.lockStep]

@[simp] theorem Zone.holdover_st (z : Zone) (elapsed : Nat) : (z.holdover elapsed).ctl.st = z.ctl.st := by
  simp [Zone.holdover, Zone.holdEnter]

@[simp] theorem Zone.edgeSeen_st (z : Zone) (interval : Nat) (e : Int) (sync : Bool) :
    (z.edgeSeen interval e sync).ctl.st = z.ctl.st := rfl

@[simp] theorem Zone.frefEdge_st (z : Zone) (interval : Nat) (e : Int) (sync : Bool) :
    (z.frefEdge interval e sync).ctl.st = z.ctl.st := by
  simp [Zone.frefEdge]

@[simp] theorem Zone.fofsRead_st (z : Zone) : z.fofsRead.2.ctl.st = z.ctl.st := rfl

@[simp] theorem Zone.slewDone_st (z : Zone) : z.slewDone.ctl.st = z.ctl.st := by
  simp [Zone.slewDone]

@[simp] theorem Zone.rateTick_st (z : Zone) : z.rateTick.ctl.st = z.ctl.st := by
  simp [Zone.rateTick]

@[simp] theorem Zone.epochArm_st (z : Zone) (check : Bool) : (z.epochArm check).ctl.st = z.ctl.st := by
  simp [Zone.epochArm]

@[simp] theorem Zone.epochDone_st (z : Zone) (d : Int) (check : Bool) : (z.epochDone d check).ctl.st = z.ctl.st := by
  simp [Zone.epochDone]

@[simp] theorem Zone.tmrCount_st (z : Zone) (unit : Bool) (k : Nat) : (z.tmrCount unit k).ctl.st = z.ctl.st := rfl

@[simp] theorem Zone.tmrForce_st (z : Zone) : z.tmrForce.ctl.st = z.ctl.st := rfl

@[simp] theorem Zone.tmrEnd_st (z : Zone) (n : Fin 4) : (z.tmrEnd n).ctl.st = z.ctl.st := by
  simp [Zone.tmrEnd]

@[simp] theorem Zone.tmrNextWrite_st (z : Zone) (n : Fin 4) (v : Word) : (z.tmrNextWrite n v).ctl.st = z.ctl.st := by
  simp [Zone.tmrNextWrite]

@[simp] theorem Zone.tmrCtlWrite_st (z : Zone) (n : Fin 4) (v : Word) : (z.tmrCtlWrite n v).ctl.st = z.ctl.st := by
  simp [Zone.tmrCtlWrite]

@[simp] theorem Zone.countEdge_st (z : Zone) (neg : Bool) (f : BitVec 48) (s : Nat) :
    (z.countEdge neg f s).ctl.st = z.ctl.st := rfl

@[simp] theorem Zone.tach_st (z : Zone) (a b : Bool) (s : Nat) : (z.tach a b s).ctl.st = z.ctl.st := by
  simp only [Zone.tach]
  repeat' split
  all_goals simp

@[simp] theorem Zone.posModeTo_st (z : Zone) (m : Nat) : (z.posModeTo m).ctl.st = z.ctl.st := rfl

@[simp] theorem Zone.posFrame_st (z : Zone) (n : Nat) : (z.posFrame n).ctl.st = z.ctl.st := by
  simp [Zone.posFrame]

@[simp] theorem Zone.standstill_st (z : Zone) : z.standstill.ctl.st = z.ctl.st := by
  simp [Zone.standstill]

@[simp] theorem Zone.staleSet_st (z : Zone) : z.staleSet.ctl.st = z.ctl.st := by
  simp [Zone.staleSet]

@[simp] theorem Zone.hcmdWrite_st (z : Zone) (setpos setvel atTick : Bool) :
    (z.hcmdWrite setpos setvel atTick).ctl.st = z.ctl.st := rfl

@[simp] theorem Zone.hcmdApply_st (z : Zone) : z.hcmdApply.ctl.st = z.ctl.st := by
  unfold Zone.hcmdApply
  split <;> simp

@[simp] theorem Zone.drawSubf_st (z : Zone) : z.drawSubf.ctl.st = z.ctl.st := by
  simp [Zone.drawSubf]

@[simp] theorem Zone.latchTime_st (z : Zone) (p : Party) : (z.latchTime p).ctl.st = z.ctl.st := by
  unfold Zone.latchTime
  split <;> simp

@[simp] theorem Zone.latchPos_st (z : Zone) (p : Party) : (z.latchPos p).ctl.st = z.ctl.st := by
  unfold Zone.latchPos
  split <;> simp

@[simp] theorem Zone.slowTick_st (z : Zone) : z.slowTick.ctl.st = z.ctl.st := by
  simp [Zone.slowTick]

@[simp] theorem Zone.advance_st (z : Zone) : z.advance.ctl.st = z.ctl.st := by
  simp [Zone.advance]

@[simp] theorem Zone.slowEdge_st (z : Zone) (a b : Bool) : (z.slowEdge a b).ctl.st = z.ctl.st := by
  simp [Zone.slowEdge]

@[simp] theorem Zone.spaceRead_st (z : Zone) (y : Bool) (w : Nat) : (z.spaceRead y w).2.2.ctl.st = z.ctl.st := by
  simp only [Zone.spaceRead]
  split_ifs <;> simp

@[simp] theorem Zone.freshen_st (z : Zone) (seg : Nat) : (z.freshen seg).ctl.st = z.ctl.st := rfl

@[simp] theorem Zone.yWrite_st (z : Zone) (w : Nat) (f : W72 → W72) : (z.yWrite w f).2.ctl.st = z.ctl.st := by
  simp [Zone.yWrite]

@[simp] theorem Zone.dWrite_st (z : Zone) (w : Nat) (f : W72 → W72) : (z.dWrite w f).ctl.st = z.ctl.st := rfl

@[simp] theorem Zone.zeroElems_st (z : Zone) (lo hi : Nat) : (z.zeroElems lo hi).ctl.st = z.ctl.st := rfl

@[simp] theorem Zone.expose_st (z : Zone) (p : Ptr) (n : Nat) : (z.expose p n).ctl.st = z.ctl.st := by
  simp [Zone.expose]

@[simp] theorem Zone.lenChange_st (z : Zone) (i : Fin 8) : (z.lenChange i).ctl.st = z.ctl.st := by
  simp [Zone.lenChange]

@[simp] theorem Zone.lenChanges_st (z : Zone) : z.lenChanges.ctl.st = z.ctl.st := by
  unfold Zone.lenChanges
  exact foldl_st (fun z x => by simp) _ _

@[simp] theorem Zone.dspReq_st (z : Zone) (act cls : Nat) : (z.dspReq act cls).ctl.st = z.ctl.st := by
  simp [Zone.dspReq]

@[simp] theorem Zone.dspStall_st (z : Zone) (n : Nat) : (z.dspStall n).ctl.st = z.ctl.st := rfl

@[simp] theorem Zone.dspHold_st (z : Zone) (n : Nat) : (z.dspHold n).ctl.st = z.ctl.st := by
  simp [Zone.dspHold]

@[simp] theorem Zone.dspArb_st (z : Zone) : z.dspArb.ctl.st = z.ctl.st := rfl

@[simp] theorem Zone.dspTick_st (z : Zone) : z.dspTick.ctl.st = z.ctl.st := by
  simp [Zone.dspTick]

@[simp] theorem Zone.progWrite_st (z : Zone) (w : Nat) (v : W72) : (z.progWrite w v).ctl.st = z.ctl.st := rfl

@[simp] theorem Zone.verdictNew_st (z : Zone) (v : Nat) : (z.verdictNew v).2.ctl.st = z.ctl.st := by
  simp [Zone.verdictNew]

@[simp] theorem Zone.intervalDone_st (z : Zone) : z.intervalDone.2.ctl.st = z.ctl.st := by
  simp only [Zone.intervalDone]
  repeat' split
  all_goals simp

@[simp] theorem Zone.intervalNext_st (z : Zone) : z.intervalNext.ctl.st = z.ctl.st := by
  simp [Zone.intervalNext]

@[simp] theorem Zone.govTick_st (z : Zone) : z.govTick.ctl.st = z.ctl.st := by
  simp [Zone.govTick]

@[simp] theorem Zone.modWin_st (z : Zone) (p : Party) (f : WinSet → WinSet) : (z.modWin p f).ctl.st = z.ctl.st := by
  unfold Zone.modWin
  split <;> simp

@[simp] theorem Zone.vwinCommit_st (z : Zone) (w : Nat) (v : W72) : (z.vwinCommit w v).ctl.st = z.ctl.st := by
  simp [Zone.vwinCommit]

@[simp] theorem Zone.vwinWrite_st (z : Zone) (p : Party) (v : Word) : (z.vwinWrite p v).2.ctl.st = z.ctl.st := by
  simp [Zone.vwinWrite]

@[simp] theorem Zone.rwinCommit_st (z : Zone) (w : Nat) (v : W72) : (z.rwinCommit w v).ctl.st = z.ctl.st := by
  simp [Zone.rwinCommit]

@[simp] theorem Zone.rwinWrite_st (z : Zone) (p : Party) (v : Word) : (z.rwinWrite p v).2.ctl.st = z.ctl.st := by
  simp [Zone.rwinWrite]

@[simp] theorem Zone.parWrite_st (z : Zone) (w : Nat) (v : W72) : (z.parWrite w v).ctl.st = z.ctl.st := by
  simp [Zone.parWrite]

@[simp] theorem Zone.dwinCommit_st (z : Zone) (sp w : Nat) (v : W72) : (z.dwinCommit sp w v).ctl.st = z.ctl.st := by
  simp only [Zone.dwinCommit]
  repeat' split
  all_goals simp

@[simp] theorem Zone.dwinWrite_st (z : Zone) (p : Party) (v : Word) : (z.dwinWrite p v).2.ctl.st = z.ctl.st := by
  simp [Zone.dwinWrite]

@[simp] theorem Zone.confRead_st (z : Zone) (off : Nat) : (z.confRead off).2.ctl.st = z.ctl.st := rfl

@[simp] theorem Zone.rcClear_st (z : Zone) (off : Nat) : (z.rcClear off).ctl.st = z.ctl.st := by
  simp [Zone.rcClear]

@[simp] theorem Zone.clrCnt_st (z : Zone) (page : Nat) : (z.clrCnt page).ctl.st = z.ctl.st := by
  unfold Zone.clrCnt
  exact foldl_st (fun z x => by simp) _ _

@[simp] theorem Zone.gramp_st (z : Zone) (k : Fin 64) : (z.gramp k).ctl.st = z.ctl.st := by
  simp [Zone.gramp]

@[simp] theorem Zone.gramps_st (z : Zone) : z.gramps.ctl.st = z.ctl.st := by
  unfold Zone.gramps
  exact foldl_st (fun z x => by simp) _ _

@[simp] theorem Zone.spliceEnd_st (z : Zone) : z.spliceEnd.ctl.st = z.ctl.st := by
  simp [Zone.spliceEnd]

@[simp] theorem Zone.memTick_st (z : Zone) : z.memTick.ctl.st = z.ctl.st := by
  simp [Zone.memTick]

@[simp] theorem Zone.segNext_st (z : Zone) : z.segNext.ctl.st = z.ctl.st := by
  simp [Zone.segNext]

@[simp] theorem Zone.cmdRun_st (z : Zone) : z.cmdRun.ctl.st = z.ctl.st := by
  simp [Zone.cmdRun]

@[simp] theorem Zone.cmdResume_st (z : Zone) : z.cmdResume.ctl.st = z.ctl.st := by
  simp [Zone.cmdResume]

@[simp] theorem Zone.wdogKick_st (z : Zone) (p : Party) (v : Word) : (z.wdogKick p v).ctl.st = z.ctl.st := by
  simp [Zone.wdogKick]

@[simp] theorem Zone.wdogWrite_st (z : Zone) (v : Word) : (z.wdogWrite v).ctl.st = z.ctl.st := by
  simp only [Zone.wdogWrite]
  split_ifs <;> simp

@[simp] theorem Zone.initSlowEv_st (z : Zone) : z.initSlowEv.ctl.st = z.ctl.st := by
  simp [Zone.initSlowEv]

@[simp] theorem Zone.leakCheck_st (z : Zone) : z.leakCheck.ctl.st = z.ctl.st := by
  simp [Zone.leakCheck]

@[simp] theorem Zone.zvaGood_st (z : Zone) : z.zvaGood.ctl.st = z.ctl.st := by
  simp [Zone.zvaGood]

@[simp] theorem Zone.cmokEv_st (z : Zone) : z.cmokEv.ctl.st = z.ctl.st := by
  simp [Zone.cmokEv]

@[simp] theorem Zone.haltOn_st (z : Zone) : z.haltOn.ctl.st = z.ctl.st := by
  simp [Zone.haltOn]

@[simp] theorem Zone.haltOff_st (z : Zone) (e : Int) : (z.haltOff e).ctl.st = z.ctl.st := by
  simp [Zone.haltOff]

@[simp] theorem Zone.sleepStart_st (z : Zone) : z.sleepStart.ctl.st = z.ctl.st := rfl

@[simp] theorem Zone.sleepNow_st (z : Zone) : z.sleepNow.ctl.st = z.ctl.st := by
  simp [Zone.sleepNow]

@[simp] theorem Zone.sleepTick_st (z : Zone) : z.sleepTick.ctl.st = z.ctl.st := by
  unfold Zone.sleepTick
  split <;> simp

@[simp] theorem Zone.sleepBack_st (z : Zone) : z.sleepBack.ctl.st = z.ctl.st := rfl

@[simp] theorem Zone.wakeNow_st (z : Zone) : z.wakeNow.ctl.st = z.ctl.st := by
  simp [Zone.wakeNow]

@[simp] theorem Zone.wakeTick_st (z : Zone) : z.wakeTick.ctl.st = z.ctl.st := by
  simp [Zone.wakeTick]

@[simp] theorem Zone.fltClear_st (z : Zone) (page : Nat) (v : Word) : (z.fltClear page v).ctl.st = z.ctl.st := by
  unfold Zone.fltClear
  split <;> simp

@[simp] theorem Zone.pgFltWrite_st (z : Zone) (page : Nat) (v : Word) : (z.pgFltWrite page v).ctl.st = z.ctl.st := by
  simp [Zone.pgFltWrite]

@[simp] theorem Zone.pgSwapWrite_st (z : Zone) (p : Fin 6) (v : Word) : (z.pgSwapWrite p v).2.ctl.st = z.ctl.st := by
  unfold Zone.pgSwapWrite
  split <;> simp

@[simp] theorem Zone.pgLockWrite_st (z : Zone) (page : Nat) (v : Word) : (z.pgLockWrite page v).ctl.st = z.ctl.st := by
  simp [Zone.pgLockWrite]

@[simp] theorem Zone.headerWrite_st (z : Zone) (page o : Nat) (v : Word) :
    (z.headerWrite page o v).2.ctl.st = z.ctl.st := by
  simp only [Zone.headerWrite]
  repeat' split
  all_goals simp

@[simp] theorem Zone.epochCtl_st (z : Zone) (v : Word) : (z.epochCtl v).ctl.st = z.ctl.st := by
  simp [Zone.epochCtl]

@[simp] theorem Zone.schedCmd_st (z : Zone) (p0 : Bool) (v : Word) : (z.schedCmd p0 v).2.ctl.st = z.ctl.st := by
  unfold Zone.schedCmd
  split <;> simp

@[simp] theorem Zone.swapsetWrite_st (z : Zone) (v : Word) : (z.swapsetWrite v).2.ctl.st = z.ctl.st := by
  simp [Zone.swapsetWrite]

@[simp] theorem Zone.greqWrite_st (z : Zone) (v : Word) : (z.greqWrite v).ctl.st = z.ctl.st := rfl

@[simp] theorem Zone.dspCtlWrite_st (z : Zone) (v : Word) : (z.dspCtlWrite v).ctl.st = z.ctl.st := rfl

@[simp] theorem Zone.decStage_st (z : Zone) (n : Fin 4) (off : Nat) (v : Word) :
    (z.decStage n off v).ctl.st = z.ctl.st := rfl

@[simp] theorem Zone.decCmd_st (z : Zone) (n : Fin 4) (v : Word) : (z.decCmd n v).ctl.st = z.ctl.st := by
  simp [Zone.decCmd]

@[simp] theorem Zone.modDecWin_st (z : Zone) (n : Fin 4) (p : Party) (f : DecWin → DecWin) :
    (z.modDecWin n p f).ctl.st = z.ctl.st := rfl

@[simp] theorem Zone.decWrite_st (z : Zone) (n : Fin 4) (p : Party) (off : Nat) (v : Word) :
    (z.decWrite n p off v).2.ctl.st = z.ctl.st := by
  unfold Zone.decWrite
  split <;> simp

@[simp] theorem Zone.aecCmd_st (z : Zone) (v : Word) : (z.aecCmd v).ctl.st = z.ctl.st := rfl

@[simp] theorem Zone.lineCmd_st (z : Zone) (v : Word) : (z.lineCmd v).ctl.st = z.ctl.st := by
  simp only [Zone.lineCmd]
  repeat' split
  all_goals simp

@[simp] theorem Zone.crcFeed_st (z : Zone) (n : Nat) (v : Word) : (z.crcFeed n v).ctl.st = z.ctl.st := rfl

@[simp] theorem Zone.crcOwned_st (z : Zone) (p : Party) (off : Nat) (v : Word) :
    (z.crcOwned p off v).ctl.st = z.ctl.st := by
  simp [Zone.crcOwned]

@[simp] theorem Zone.crcWrite_st (z : Zone) (p : Party) (off : Nat) (v : Word) :
    (z.crcWrite p off v).ctl.st = z.ctl.st := by
  simp [Zone.crcWrite]

@[simp] theorem Zone.stormWrite_st (z : Zone) (v : Word) : (z.stormWrite v).ctl.st = z.ctl.st := by
  simp [Zone.stormWrite]

@[simp] theorem Zone.regDeny_st (z : Zone) : z.regDeny.ctl.st = z.ctl.st := rfl

@[simp] theorem Zone.collide_st (z : Zone) (h : HostC) : (z.collide h).ctl.st = z.ctl.st := rfl

@[simp] theorem Zone.dspRes_st (z : Zone) (d0 : ZDsp) (dly name part : Nat) (v : W72) :
    (z.dspRes d0 dly name part v).ctl.st = z.ctl.st := rfl

@[simp] theorem Zone.dspHalf_st (z : Zone) (d0 : ZDsp) (dly name : Nat) (l : Bool) (v : Int) :
    (z.dspHalf d0 dly name l v).ctl.st = z.ctl.st := rfl

@[simp] theorem Zone.dspAcc_st (z : Zone) (a : Nat) (f : AccSt → AccSt) : (z.dspAcc a f).ctl.st = z.ctl.st := by
  simp [Zone.dspAcc]

@[simp] theorem Zone.dspSat_st (z : Zone) (num : Nat) : (z.dspSat num).ctl.st = z.ctl.st := by
  simp [Zone.dspSat]

@[simp] theorem Zone.dspSatAlu_st (z : Zone) : z.dspSatAlu.ctl.st = z.ctl.st := by
  simp [Zone.dspSatAlu]

@[simp] theorem Zone.macSlot_st (z : Zone) (d0 : ZDsp) (b : Bundle) : (z.macSlot d0 b).ctl.st = z.ctl.st := by
  unfold Zone.macSlot
  split <;> simp

@[simp] theorem Zone.aluSatRes_st (z : Zone) (d0 : ZDsp) (b : Bundle) (v : Int) :
    (z.aluSatRes d0 b v).ctl.st = z.ctl.st := by
  simp [Zone.aluSatRes]

@[simp] theorem Zone.setPred_st (z : Zone) (k : Nat) (v : Bool) : (z.setPred k v).ctl.st = z.ctl.st := rfl

@[simp] theorem Zone.fclr_st (z : Zone) (s x : Nat) : (z.fclr s x).ctl.st = z.ctl.st := rfl

@[simp] theorem Zone.aluSlot_st (z : Zone) (d0 : ZDsp) (b : Bundle) : (z.aluSlot d0 b).ctl.st = z.ctl.st := by
  unfold Zone.aluSlot
  split <;> simp

@[simp] theorem Zone.ptMove_st (z : Zone) (n : Nat) (m : Int) : (z.ptMove n m).ctl.st = z.ctl.st := rfl

@[simp] theorem Zone.memLoad_st (z : Zone) (d0 : ZDsp) (b : Bundle) (elem : Bool) :
    (z.memLoad d0 b elem).2.ctl.st = z.ctl.st := by
  simp only [Zone.memLoad]
  split <;> simp

@[simp] theorem Zone.memStore_st (z : Zone) (d0 : ZDsp) (b : Bundle) (elem : Bool) :
    (z.memStore d0 b elem).2.ctl.st = z.ctl.st := by
  simp only [Zone.memStore]
  split <;> simp

@[simp] theorem Zone.memTap_st (z : Zone) (d0 : ZDsp) (b : Bundle) : (z.memTap d0 b).2.ctl.st = z.ctl.st := by
  simp only [Zone.memTap]
  split <;> simp

@[simp] theorem Zone.ptsSlot_st (z : Zone) (d0 : ZDsp) (b : Bundle) : (z.ptsSlot d0 b).ctl.st = z.ctl.st := by
  simp [Zone.ptsSlot]

@[simp] theorem Zone.dspLatch_st (z : Zone) : z.dspLatch.ctl.st = z.ctl.st := rfl

@[simp] theorem Zone.leaveInit_st (z old : Zone) (r : Option BaseRec) : (z.leaveInit old r).ctl.st = z.ctl.st := by
  simp only [Zone.leaveInit]
  repeat' split
  all_goals simp

@[simp] theorem Zone.hostqSettle_st (z : Zone) : z.hostqSettle.ctl.st = z.ctl.st := by
  simp [Zone.hostqSettle]

@[simp] theorem Zone.fillLine_st (z : Zone) (h : HostC) (it : Item) (idx line : Nat) (f : Fetch) :
    (z.fillLine h it idx line f).ctl.st = z.ctl.st := rfl

@[simp] theorem Zone.chkField_st (z : Zone) (it : Item) (idx : Nat) : (z.chkField it idx).ctl.st = z.ctl.st := by
  simp [Zone.chkField]

@[simp] theorem Zone.fenceItem_st (z : Zone) (it : Item) (idx : Nat) : (z.fenceItem it idx).ctl.st = z.ctl.st := by
  simp [Zone.fenceItem]

@[simp] theorem Zone.fetchDrop_st (z : Zone) (f : Fetch) : (z.fetchDrop f).ctl.st = z.ctl.st := rfl

@[simp] theorem Zone.fetched_st (z : Zone) (h : HostC) (f : Fetch) (it : Item) (o : Nat) :
    (z.fetched h f it o).ctl.st = z.ctl.st := by
  simp only [Zone.fetched]
  repeat' split
  all_goals simp

@[simp] theorem Zone.cacheDrop_st (z : Zone) (unfence : Bool) : (z.cacheDrop unfence).ctl.st = z.ctl.st := rfl

@[simp] theorem Zone.loadRoute_st (z : Zone) (h : HostC) (it : Item) : (z.loadRoute h it).2.ctl.st = z.ctl.st := by
  have hw (n : Nat) : (iter n (fun k (z : Zone) => z.rwinCommit k (h.itemW72 it 0 k)) z).ctl.st = z.ctl.st :=
    iter_st (fun k z => Zone.rwinCommit_st z k _) n z
  fun_cases Zone.loadRoute z h it with
  | case1 => rfl
  | case2 _ y c z' hz =>
    have hy : y = iter 576 (fun k (z : Zone) => z.rwinCommit k (h.itemW72 it 0 k)) z := rfl
    clear_value y
    have hr := y.routeValidate_st false
    rw [hz] at hr
    rw [hr, hy, hw]

@[simp] theorem Zone.loadDsp_st (z : Zone) (h : HostC) (it : Item) : (z.loadDsp h it).2.ctl.st = z.ctl.st := by
  simp [Zone.loadDsp]

@[simp] theorem Zone.loadTable_st (z : Zone) (h : HostC) (it : Item) (tgt : Nat) :
    (z.loadTable h it tgt).2.ctl.st = z.ctl.st := by
  unfold Zone.loadTable
  generalize (if tgt = 2 then _ else _ : Fin 6 × Nat) = bank
  obtain ⟨p, page⟩ := bank
  dsimp only
  split
  · rfl
  · exact iter_st (fun e z => by split <;> simp) _ _

@[simp] theorem Zone.loadInto_st (z : Zone) (h : HostC) (it : Item) (tgt : Nat) :
    (z.loadInto h it tgt).2.ctl.st = z.ctl.st := by
  unfold Zone.loadInto
  split <;> simp

@[simp] theorem Zone.timers_st (z : Zone) : z.timers.ctl.st = z.ctl.st := by
  unfold Zone.timers
  exact foldl_st (fun z x => by simp) _ _

@[simp] theorem Zone.slowTimers_st (z : Zone) : z.slowTimers.ctl.st = z.ctl.st := by
  simp [Zone.slowTimers]

@[simp] theorem Zone.frameNew_st (z : Zone) : z.frameNew.ctl.st = z.ctl.st := rfl

@[simp] theorem Zone.frameBegin_st (z : Zone) : z.frameBegin.ctl.st = z.ctl.st := by
  simp [Zone.frameBegin]

@[simp] theorem Zone.tickCauses_st (z : Zone) : z.tickCauses.2.ctl.st = z.ctl.st := by
  simp [Zone.tickCauses]

@[simp] theorem Zone.hostGains_st (z : Zone) : z.hostGains.ctl.st = z.ctl.st := by
  unfold Zone.hostGains
  exact foldl_st (fun z x => by simp) _ _

@[simp] theorem Zone.bookLate_st (z : Zone) : z.bookLate.ctl.st = z.ctl.st := rfl

@[simp] theorem Zone.checkFrame_st (z : Zone) : z.checkFrame.ctl.st = z.ctl.st := by
  simp [Zone.checkFrame]

end Sys2Proof.Machine
end

section
namespace Sys2Proof.Machine

/-! Where a fence may lead (R15), and operations that do nothing to a zone in OFF or FENCED. -/

/-- A state that is kept, or left for FENCED by a zone outside OFF. -/
def Steady (a b : ZSt) : Prop := b = a ∨ (a ≠ .off ∧ b = .fenced)

/-- OFF or FENCED. -/
def Still (a : ZSt) : Prop := a = .off ∨ a = .fenced

@[simp] theorem Steady.refl (a : ZSt) : Steady a a := .inl rfl

/-- A fence changes nothing of the state of a zone in OFF or FENCED. -/
theorem Steady.still {a b : ZSt} (h : Steady a b) (hs : Still a) : b = a := by
  rcases h with rfl | ⟨ha, rfl⟩
  · rfl
  · rcases hs with rfl | rfl
    · exact absurd rfl ha
    · rfl

section guards
variable {z : Zone} (h : Still z.ctl.st)
include h

@[simp] theorem Zone.live_still : z.live = false := by
  unfold Zone.live
  rcases h with h | h <;> rw [h] <;> rfl

@[simp] theorem Zone.chainOn_still : z.chainOn = false := by
  unfold Zone.chainOn
  rcases h with h | h <;> rw [h] <;> rfl

@[simp] theorem Zone.sounds_still : z.ctl.st.sounds = false := by
  rcases h with h | h <;> rw [h] <;> rfl

@[simp] theorem Zone.dspRuns_still : z.dspRuns = false := by
  unfold Zone.dspRuns
  rw [Zone.live_still h, Bool.and_false]

theorem Zone.not_running : z.ctl.st ≠ .run ∧ z.ctl.st ≠ .hold ∧ z.ctl.st ≠ .test ∧ z.ctl.st ≠ .init ∧ z.ctl.st ≠ .recover := by
  rcases h with h | h <;> rw [h] <;> decide

end guards

@[simp] theorem Zone.enter_st (z : Zone) (s : ZSt) : (z.enter s).ctl.st = s := by
  unfold Zone.enter Zone.goto
  simp

@[simp] theorem Zone.fenceNow_st (z : Zone) (c : Nat) : (z.fenceNow c).ctl.st = .fenced := by
  unfold Zone.fenceNow
  simp

/-- A cause keeps the state or fences (R13, R15). -/
@[simp] theorem Zone.raise_steady (z : Zone) (c : Nat) : Steady z.ctl.st (z.raise c).ctl.st := by
  unfold Zone.raise
  dsimp only
  split
  · exact .refl _
  · rename_i hc
    have hoff : z.ctl.st ≠ .off := fun h => hc (by unfold Zone.arising; rw [if_pos h])
    have hd (l : List Nat) (z : Zone) :
        (l.foldl (fun z i => (z.putBit Reg.FENCE_PEND i true).send clsFault 0x0002 (natLe i 1)) z).ctl.st = z.ctl.st :=
      foldl_st (fun z i => by simp) l z
    split_ifs
    · exact .inl (hd _ _)
    · exact .inl ((foldl_st (fun z i => by simp) _ _).trans (hd _ _))
    · exact .inr ⟨hoff, Zone.fenceNow_st _ _⟩

@[simp] theorem Zone.raise_still {z : Zone} (h : Still z.ctl.st) (c : Nat) : (z.raise c).ctl.st = z.ctl.st :=
  (z.raise_steady c).still h

/-! What may fence: reads of memories, verdicts. -/

theorem Zone.winCheck_steady (z : Zone) (code w : Nat) : Steady z.ctl.st (z.winCheck code w).2.ctl.st := by
  have h := Zone.eccRead_st z code w
  simp only [Zone.winCheck]
  split_ifs
  · rw [← h]; exact Zone.raise_steady _ _
  · rw [← h]; exact .refl _
  · rw [h]; exact .refl _

theorem Zone.winFetch_steady (z : Zone) (code w : Nat) (v : W72) : Steady z.ctl.st (z.winFetch code w v).2.ctl.st := by
  have h := z.winCheck_steady code w
  simp only [Zone.winFetch]
  split_ifs
  · rw [Zone.freeWord_st]; exact h
  · exact h

@[simp] theorem Zone.vwinRead_steady (z : Zone) (p : Party) : Steady z.ctl.st (z.vwinRead p).2.ctl.st := by
  simp only [Zone.vwinRead, Zone.modWin_st]
  split_ifs
  · exact .refl _
  · exact .refl _
  all_goals exact Zone.winFetch_steady _ _ _ _

@[simp] theorem Zone.rwinRead_steady (z : Zone) (p : Party) : Steady z.ctl.st (z.rwinRead p).2.ctl.st := by
  simp only [Zone.rwinRead, Zone.modWin_st]
  split_ifs
  · exact .refl _
  · exact .refl _
  all_goals exact Zone.winFetch_steady _ _ _ _

theorem Zone.dwinFetch_steady (z : Zone) (sp w : Nat) (inact : Bool) :
    Steady z.ctl.st (z.dwinFetch sp w inact).2.ctl.st := by
  unfold Zone.dwinFetch
  split
  · exact .refl _
  · split
    · exact Zone.winFetch_steady _ _ _ _
    · exact Zone.winFetch_steady _ _ _ _
    · exact Zone.winFetch_steady _ _ _ _
    · split
      · exact .refl _
      · exact Zone.winFetch_steady _ _ _ _

@[simp] theorem Zone.dwinRead_steady (z : Zone) (p : Party) : Steady z.ctl.st (z.dwinRead p).2.ctl.st := by
  simp only [Zone.dwinRead, Zone.modWin_st]
  split_ifs
  · exact .refl _
  · exact Zone.dwinFetch_steady _ _ _ _

theorem Zone.memFetch_steady (z : Zone) (code w : Nat) : Steady z.ctl.st (z.memFetch code w).2.ctl.st := by
  unfold Zone.memFetch
  split
  · exact .refl _
  · split
    · exact Zone.winFetch_steady _ _ _ _
    · rw [Zone.freeWord_st]; exact Zone.winCheck_steady _ _ _
    · rw [Zone.freeWord_st]; exact Zone.winCheck_steady _ _ _
    · exact .refl _

@[simp] theorem Zone.memRead_steady (z : Zone) (p : Party) : Steady z.ctl.st (z.memRead p).2.ctl.st := by
  simp only [Zone.memRead, Zone.modWin_st]
  split_ifs
  · exact .refl _
  · exact Zone.memFetch_steady _ _ _

/-- What an answer that may be none leaves of the state a. -/
def AnswerFrom {α : Type} (a : ZSt) (r : Option (α × Zone)) : Prop := ∀ x, r = some x → Steady a x.2.ctl.st

@[simp] theorem AnswerFrom.none {α : Type} {a : ZSt} : AnswerFrom a (none : Option (α × Zone)) := fun _ h => by cases h

@[simp] theorem AnswerFrom.some {α : Type} {a : ZSt} {x : α × Zone} : AnswerFrom a (some x) ↔ Steady a x.2.ctl.st :=
  ⟨fun h => h _ rfl, fun h _ e => by cases e; exact h⟩

theorem AnswerFrom.ite {α : Type} {a : ZSt} {c : Prop} [Decidable c] {x y : Option (α × Zone)} (hx : AnswerFrom a x)
    (hy : AnswerFrom a y) : AnswerFrom a (if c then x else y) := by
  split
  · exact hx
  · exact hy

theorem Zone.readSpecial_steady (z : Zone) (p : Party) (off : Nat) : AnswerFrom z.ctl.st (z.readSpecial p off) := by
  unfold Zone.readSpecial
  split
  · simp
  · dsimp only
    cases p
    all_goals
      repeat' apply AnswerFrom.ite
      all_goals simp

/-- A read keeps the state, but for a fence by the word that it meets (R354). -/
theorem Zone.regRead_steady (z : Zone) (p : Party) (off : Nat) : Steady z.ctl.st (z.regRead p off).z.ctl.st := by
  unfold Zone.regRead
  dsimp only
  split_ifs
  · exact .refl _
  · exact .refl _
  · exact .refl _
  · exact .refl _
  · split
    · exact .refl _
    · split
      · exact .refl _
      · split
        · rename_i h
          exact Zone.readSpecial_steady z p off _ h
        · simp

@[simp] theorem Zone.bridgeRead_steady (z : Zone) (off : Nat) : Steady z.ctl.st (z.bridgeRead off).2.ctl.st := by
  unfold Zone.bridgeRead
  split
  · exact .refl _
  · exact z.regRead_steady .prog off

theorem Zone.verdictIssue_steady (z : Zone) (v : Nat) : Steady z.ctl.st (z.verdictIssue v).ctl.st := by
  unfold Zone.verdictIssue
  rw [← Zone.verdictNew_st z v]
  exact Zone.raise_steady _ _

/-- The judgement of an amplifier fault may fence (R252). -/
theorem Zone.ampCheck_steady (z : Zone) : Steady z.ctl.st z.ampCheck.ctl.st := by
  unfold Zone.ampCheck
  split
  · have h : Steady z.ctl.st ((z.setFlt linePage 5).verdictIssue 5).ctl.st := by
      rw [← Zone.setFlt_st z linePage 5]
      exact Zone.verdictIssue_steady _ _
    dsimp only
    split
    · exact h
    · split
      · exact h
      · split_ifs
        · exact h
        · simpa using h
        · simpa using h
      · split
        · exact h
        · simpa using h
  · exact .refl _

/-- What is left to settle after an event keeps the state or fences. -/
theorem Zone.settle_steady (z old : Zone) (r : Option BaseRec) : Steady z.ctl.st (z.settle old r).ctl.st := by
  unfold Zone.settle
  rw [Zone.hostqSettle_st, ← Zone.leaveInit_st z old r]
  exact Zone.ampCheck_steady _

/-! Writes: all but those of ZCTL.CMD keep the state. -/

/-- What an answer that may be none keeps of the state a. -/
def AnswerKeeps {α : Type} (a : ZSt) (r : Option (α × Zone)) : Prop := ∀ x, r = some x → x.2.ctl.st = a

@[simp] theorem AnswerKeeps.none {α : Type} {a : ZSt} : AnswerKeeps a (none : Option (α × Zone)) := fun _ h => by cases h

@[simp] theorem AnswerKeeps.some {α : Type} {a : ZSt} {x : α × Zone} : AnswerKeeps a (some x) ↔ x.2.ctl.st = a :=
  ⟨fun h => h _ rfl, fun h _ e => by cases e; exact h⟩

theorem AnswerKeeps.ite {α : Type} {a : ZSt} {c : Prop} [Decidable c] {x y : Option (α × Zone)} (hx : AnswerKeeps a x)
    (hy : AnswerKeeps a y) : AnswerKeeps a (if c then x else y) := by
  split
  · exact hx
  · exact hy

theorem Zone.writeB_st (z : Zone) (p : Party) (off : Nat) (v : Word) : AnswerKeeps z.ctl.st (z.writeB p off v) := by
  unfold Zone.writeB
  repeat' apply AnswerKeeps.ite
  all_goals simp

theorem Zone.writeA_st (z : Zone) (x : HostC) (p : Party) (p0 : Bool) {off : Nat} (v : Word) (hoff : off ≠ Reg.ZCTL_CMD) :
    AnswerKeeps z.ctl.st (z.writeA x p p0 off v) := by
  unfold Zone.writeA
  rw [if_neg hoff]
  repeat' apply AnswerKeeps.ite
  all_goals simp

theorem Zone.blockWrite_st {z : Zone} {x : HostC} {p : Party} {p0 : Bool} {r : RegSpec} {v : Word}
    (hoff : r.off ≠ Reg.ZCTL_CMD) : (z.blockWrite x p p0 r v).2.ctl.st = z.ctl.st := by
  unfold Zone.blockWrite
  split
  · rfl
  · rfl
  · split
    · split <;> rfl
    · rfl
  · split
    · rename_i h
      exact Zone.writeA_st z x p p0 v hoff _ h
    · split
      · rename_i h
        exact Zone.writeB_st z p _ v _ h
      · rfl

theorem Zone.regWrite_st {z : Zone} {x : HostC} {p : Party} {p0 : Bool} {off : Nat} {v : Word} (hoff : off ≠ Reg.ZCTL_CMD) :
    (z.regWrite x p p0 off v).2.ctl.st = z.ctl.st := by
  unfold Zone.regWrite
  dsimp only
  split_ifs
  · rfl
  · rfl
  · simp
  · rfl
  · simp
  · split
    · rfl
    · rename_i r hr
      have ho : r.off = off := by simpa using List.find?_some hr
      exact Zone.blockWrite_st (by rw [ho]; exact hoff)

/-- The zone program has no way to ZCTL.CMD (R210). -/
theorem Zone.regWrite_prog_st (z : Zone) (x : HostC) (p0 : Bool) (off : Nat) (v : Word) :
    (z.regWrite x .prog p0 off v).2.ctl.st = z.ctl.st := by
  by_cases h : off = Reg.ZCTL_CMD
  · have hd : z.bridgeDenies off = true := by unfold Zone.bridgeDenies; rw [h]; simp
    unfold Zone.regWrite
    dsimp only
    split_ifs with h1 h2 h3
    · rfl
    · rfl
    · simp
    all_goals exact absurd ⟨rfl, hd⟩ h3
  · exact Zone.regWrite_st h

@[simp] theorem Zone.bridgeWrite_st (z : Zone) (x : HostC) (off : Nat) (v : Word) :
    (z.bridgeWrite x off v).ctl.st = z.ctl.st := by
  simp only [Zone.bridgeWrite]
  split_ifs
  · rfl
  · simp
  · rw [Zone.regWrite_prog_st, Zone.freeCond_st]
  · exact Zone.regWrite_prog_st _ _ _ _ _

end Sys2Proof.Machine
end

section
namespace Sys2Proof.Machine

/-! What happens in a zone in OFF or FENCED keeps its state. -/

theorem iter_still {f : Nat → Zone → Zone} (hf : ∀ k z, Still z.ctl.st → (f k z).ctl.st = z.ctl.st) (n : Nat) {z : Zone}
    (h : Still z.ctl.st) : (iter n f z).ctl.st = z.ctl.st := by
  have key : ∀ (n k : Nat) (z : Zone), Still z.ctl.st → (iterFrom f k n z).ctl.st = z.ctl.st := by
    intro n
    induction n with
    | zero => exact fun _ _ _ => rfl
    | succ n ih =>
      intro k z h
      have hk := hf k z h
      exact (ih (k + 1) (f k z) (by rw [hk]; exact h)).trans hk
  exact key n 0 z h

/-- One operation after another: what does nothing to a zone in OFF or FENCED does nothing after what kept its state. -/
theorem Still.after {f : Zone → Zone} (hf : ∀ z, Still z.ctl.st → (f z).ctl.st = z.ctl.st) {z x : Zone} (h : Still z.ctl.st)
    (hx : x.ctl.st = z.ctl.st) : (f x).ctl.st = z.ctl.st :=
  (hf x (by rw [hx]; exact h)).trans hx

section still
variable {z : Zone} (h : Still z.ctl.st)
include h

@[simp] theorem Zone.stateTick_still : z.stateTick.ctl.st = z.ctl.st := by
  obtain ⟨_, hh, ht, _⟩ := Zone.not_running h
  unfold Zone.stateTick
  simp [hh, ht]

@[simp] theorem Zone.whyHold_still : z.whyHold.ctl.st = z.ctl.st := by
  unfold Zone.whyHold
  simp [(Zone.not_running h).1]

@[simp] theorem Zone.wdExpire_still : z.wdExpire.ctl.st = z.ctl.st :=
  Still.after (fun _ hz => Zone.raise_still hz 8) h (by simp)

@[simp] theorem Zone.bucketAdd_still : z.bucketAdd.ctl.st = z.ctl.st := by
  simp [Zone.bucketAdd, h]

@[simp] theorem Zone.raiseTick_still (c : Nat) : (z.raiseTick c).ctl.st = z.ctl.st := by
  simp [Zone.raiseTick, h]

@[simp] theorem Zone.holdLimit_still : z.holdLimit.ctl.st = z.ctl.st := by
  simp [Zone.holdLimit, h]

@[simp] theorem Zone.dspTrap_still (c : Nat) : (z.dspTrap c).ctl.st = z.ctl.st := by
  unfold Zone.dspTrap
  extract_lets tpc inTrap d z1 z2 z3 z4 z5 z6 d' z7
  have h5 : z5.ctl.st = z.ctl.st := by simp [z5, z4, z3, z2, z1]
  have h6 : z6.ctl.st = z.ctl.st := by simp only [z6, ite_st, Zone.send_st, h5, ite_self]
  have h7 : z7.ctl.st = z.ctl.st := by
    clear_value z6
    simp only [z7]
    split_ifs
    · exact h6
    · exact h6
  exact Still.after (fun _ hz => Zone.bucketAdd_still hz) h h7

@[simp] theorem Zone.intervalEnd_still : z.intervalEnd.ctl.st = z.ctl.st := by
  simp [Zone.intervalEnd, h]

@[simp] theorem Zone.scrubMem_still (c : Nat) : (z.scrubMem c).ctl.st = z.ctl.st := by
  simp [Zone.scrubMem, h]

@[simp] theorem Zone.scrubPass_still : z.scrubPass.ctl.st = z.ctl.st := by
  unfold Zone.scrubPass
  split
  · rfl
  · exact iter_still (fun c z hz => Zone.scrubMem_still hz c) 8 h

@[simp] theorem Zone.borrow_still (m y : Bool) : (z.borrow m y).ctl.st = z.ctl.st := by
  obtain ⟨h1, h2, _, _, h3⟩ := Zone.not_running h
  simp [Zone.borrow, h1, h2, h3]

@[simp] theorem Zone.initComplete_still : z.initComplete.ctl.st = z.ctl.st := by
  simp [Zone.initComplete, Zone.initDone, (Zone.not_running h).2.2.2.1]

@[simp] theorem Zone.testComplete_still (m l : Bool) : (z.testComplete m l).ctl.st = z.ctl.st := by
  simp [Zone.testComplete, (Zone.not_running h).2.2.1]

@[simp] theorem Zone.wdCheck_still : z.wdCheck.ctl.st = z.ctl.st := by
  simp [Zone.wdCheck, h]

@[simp] theorem Zone.orphanSet_still (n : Nat) : (z.orphanSet n).ctl.st = z.ctl.st := by
  simp [Zone.orphanSet, h]

@[simp] theorem Zone.hclossSet_still (b : Bool) : (z.hclossSet b).ctl.st = z.ctl.st := by
  simp [Zone.hclossSet, h]

@[simp] theorem Zone.regTrip_still (c a : Bool) : (z.regTrip c a).ctl.st = z.ctl.st := by
  simp [Zone.regTrip, h]

@[simp] theorem Zone.vanaFail_still : z.vanaFail.ctl.st = z.ctl.st := by
  simp [Zone.vanaFail, h]

@[simp] theorem Zone.ampCheck_still : z.ampCheck.ctl.st = z.ctl.st := z.ampCheck_steady.still h

@[simp] theorem Zone.ampPin_still (a : Bool) : (z.ampPin a).ctl.st = z.ctl.st := by
  simp only [Zone.ampPin]
  split_ifs
  · exact Still.after (fun _ hz => Zone.ampCheck_still hz) h (by simp)
  · simp
  · simp

@[simp] theorem Zone.heartbeat_still : z.heartbeat.ctl.st = z.ctl.st := by
  simp [Zone.heartbeat, h]

@[simp] theorem Zone.judgeTick_still (x : HostC) : (z.judgeTick x).ctl.st = z.ctl.st := by
  simp only [Zone.judgeTick]
  split
  · rfl
  · exact Still.after (fun _ hz => Zone.orphanSet_still hz _) h
      (Still.after (fun _ hz => Zone.raiseTick_still hz _) h (by simp [h]))

@[simp] theorem Zone.deadlines_still (x : HostC) : z.deadlines x = z := by
  simp [Zone.deadlines, h]

@[simp] theorem Zone.tickWork_still (x : HostC) : (z.tickWork x).ctl.st = z.ctl.st := by
  simp [Zone.tickWork, h, foldl_st]

end still

end Sys2Proof.Machine
end

section
namespace Sys2Proof.Machine

/-! Engines, windows and boundaries of a zone in OFF or FENCED. -/

section still
variable {z : Zone} (h : Still z.ctl.st)
include h

@[simp] theorem Zone.ioRead_still (d0 : ZDsp) (a : Nat) : (z.ioRead d0 a).2.ctl.st = z.ctl.st := by
  unfold Zone.ioRead
  dsimp only
  split_ifs
  · rfl
  · rfl
  · split
    case h_15 => rw [Zone.dspStall_st]; exact (z.bridgeRead_steady _).still h
    all_goals rfl

omit h in
@[simp] theorem Zone.ioWrite_st (z : Zone) (d0 : ZDsp) (x : HostC) (a : Nat) (g : W72) :
    (z.ioWrite d0 x a g).2.ctl.st = z.ctl.st := by
  unfold Zone.ioWrite
  dsimp only
  split
  · rfl
  · split
    case h_3 => split <;> simp
    case h_8 => simp
    all_goals rfl

@[simp] theorem Zone.memSlot_still (d0 : ZDsp) (x : HostC) (b : Bundle) : (z.memSlot d0 x b).2.ctl.st = z.ctl.st := by
  unfold Zone.memSlot
  split
  case h_6 => split <;> simp [h]
  all_goals simp

/-- A bundle that issues in a zone in OFF or FENCED may trap, but its trap fences nothing. -/
@[simp] theorem Zone.issue_still (x : HostC) (b : Bundle) : (z.issue x b).ctl.st = z.ctl.st := by
  have hm : (if z.dsp.guard b.ge then z.memSlot z.dsp x b else (none, z)).2.ctl.st = z.ctl.st := by
    split
    · exact Zone.memSlot_still h _ _ _
    · rfl
  unfold Zone.issue
  dsimp only
  split
  · exact Zone.dspTrap_still h _
  · generalize (if z.dsp.guard b.ge then z.memSlot z.dsp x b else (none, z)) = r at hm
    obtain ⟨t, y⟩ := r
    cases t with
    | some t => exact (Zone.dspTrap_still (by rw [hm]; exact h) t).trans hm
    | none => simpa using hm

@[simp] theorem Zone.overrun_still : z.overrun.ctl.st = z.ctl.st := by
  simp [Zone.overrun, h]

@[simp] theorem Zone.routePass_still : z.routePass.ctl.st = z.ctl.st := by
  obtain ⟨hr, hh, _, _, hv⟩ := Zone.not_running h
  simp [Zone.routePass, hr, hh, hv]

@[simp] theorem Zone.limFrame_still : z.limFrame.ctl.st = z.ctl.st := by
  simp [Zone.limFrame, h]

@[simp] theorem Zone.measStart_still : z.measStart = z := by
  simp [Zone.measStart, h]

@[simp] theorem Zone.aecInstant_still : z.aecInstant = z := by
  simp [Zone.aecInstant, h]

@[simp] theorem Zone.measEnd_still (inp : FrameIn) : (z.measEnd inp).ctl.st = z.ctl.st := by
  unfold Zone.measEnd
  dsimp only
  rw [Zone.chainOn_still (by exact h), if_neg (by decide)]

@[simp] theorem Zone.routeFrame_still : z.routeFrame.ctl.st = z.ctl.st := by
  unfold Zone.routeFrame
  simp [h]

@[simp] theorem Zone.voiceFrame_still (x : HostC) : z.voiceFrame x = z := by
  simp [Zone.voiceFrame, h]

@[simp] theorem Zone.dspFrame_still (x : HostC) : (z.dspFrame x).ctl.st = z.ctl.st := by
  simp [Zone.dspFrame, h]

end still

/-! The bookkeeping window of a zone in OFF or FENCED: only completions and gain requests of host software are left of it. -/

theorem Window.item_st {f : Zone → Zone} (hf : ∀ z, (f z).ctl.st = z.ctl.st) (w : Window) (cost : Nat) :
    (w.item cost f).z.ctl.st = w.z.ctl.st := by
  simp only [Window.item]
  split_ifs
  · rfl
  · exact hf _
  · rfl

theorem Window.iter_st {f : Nat → Window → Window} (hf : ∀ k w, (f k w).z.ctl.st = w.z.ctl.st) (n : Nat) (w : Window) :
    (iter n f w).z.ctl.st = w.z.ctl.st :=
  iterFrom_keeps (g := fun w : Window => w.z.ctl.st) hf 0 n w

@[simp] theorem Window.completions_st (w : Window) (x : HostC) : (w.completions x).z.ctl.st = w.z.ctl.st := by
  have hv (v : Fin 96) (w : Window) : (w.item (w.z.completeCost x v) (fun z => z.completeVoice x v)).z.ctl.st = w.z.ctl.st :=
    w.item_st (fun z => z.completeVoice_st x v) _
  unfold Window.completions
  rw [Window.iter_st (fun k w => hv (fin 96 k) w)]

@[simp] theorem Window.work_still {w : Window} (h : Still w.z.ctl.st) (x : HostC) : (w.work x).ctl.st = w.z.ctl.st := by
  have hl : ∀ z : Zone, z.ctl.st = w.z.ctl.st → ¬ z.live = true := fun z e => by
    rw [Zone.live_still (by rw [e]; exact h)]
    decide
  unfold Window.work
  extract_lets w1 w2 w3 w4 w5 l y d w6 y' d' w7 y8 v z8
  have h2 : w2.z.ctl.st = w.z.ctl.st := by simp [w2, w1]
  have h3 : w3.z.ctl.st = w.z.ctl.st := by simp only [w3, if_neg (hl _ h2), h2]
  have h4 : w4.z.ctl.st = w.z.ctl.st := by simp only [w4, if_neg (hl _ h3), h3]
  have h5 : y.ctl.st = w.z.ctl.st := by simp only [y, w5, Zone.hostGains_st, h4]
  clear_value y
  have h6 : w6.z.ctl.st = w.z.ctl.st := h5
  have h7 : w7.z.ctl.st = w.z.ctl.st := by simp only [w7, y', if_neg (hl _ h6), h6]
  have h8 : z8.ctl.st = w.z.ctl.st := h7
  clear_value z8
  split
  · rw [Zone.bookLate_st, h8]
  · exact h8

theorem Zone.takeRes_st (z : Zone) : z.takeRes.ctl.st = z.ctl.st := rfl

section still
variable {z : Zone} (h : Still z.ctl.st)
include h

theorem Window.workFrom_still {y : Zone} (e : y.ctl.st = z.ctl.st) (x : HostC) (n : Nat) (b : Bool) :
    (Window.work ⟨n, b, y⟩ x).ctl.st = z.ctl.st :=
  (Window.work_still (w := ⟨n, b, y⟩) (by rw [e]; exact h) x).trans e

@[simp] theorem Zone.window_still (x : HostC) : (z.window x).ctl.st = z.ctl.st := by
  unfold Zone.window
  dsimp only
  rw [Window.workFrom_still h]
  exact Zone.takeRes_st _

@[simp] theorem Zone.windowOn_still (x : HostC) : (z.windowOn x).ctl.st = z.ctl.st := by
  unfold Zone.windowOn
  rw [Window.workFrom_still h rfl]

/-- The engines of a frame. -/
theorem Zone.frameBody_still (x : HostC) (inp : FrameIn) : (z.frameBody x inp).ctl.st = z.ctl.st := by
  simp only [Zone.frameBody]
  have hu : (inp.upsets.foldl Zone.upset z).switchAct.clrAct.ctl.st = z.ctl.st := by
    simp [foldl_st Zone.upset_st]
  generalize (inp.upsets.foldl Zone.upset z).switchAct.clrAct = y at hu
  have hy : Still y.ctl.st := by rw [hu]; exact h
  rw [← hu]
  split
  · exact Zone.window_still hy x
  · have hl : y.dspLatch.measStart.ctl.st = y.ctl.st := Still.after (fun _ hz => by rw [Zone.measStart_still hz]) hy (by simp)
    have hd : ((y.dspLatch.measStart.window x).dspFrame x).ctl.st = y.ctl.st :=
      Still.after (fun _ hz => Zone.dspFrame_still hz x) hy (Still.after (fun _ hz => Zone.window_still hz x) hy hl)
    generalize (y.dspLatch.measStart.window x).dspFrame x = a at hd
    have hr : a.tdmStart.routeFrame.testFrame.ctl.st = y.ctl.st := by
      rw [Zone.testFrame_st]
      exact Still.after (fun _ hz => Zone.routeFrame_still hz) hy (by simpa using hd)
    have hv : (a.tdmStart.routeFrame.testFrame.voiceFrame x).ctl.st = y.ctl.st :=
      Still.after (f := fun z => z.voiceFrame x) (fun _ hz => by rw [Zone.voiceFrame_still hz]) hy hr
    generalize a.tdmStart.routeFrame.testFrame.voiceFrame x = b at hv
    have he : (((b.lineFrame.outFrame inp).tdmEnd inp.tdm).measEnd inp).ctl.st = y.ctl.st :=
      Still.after (f := fun z => z.measEnd inp) (fun _ hz => Zone.measEnd_still hz inp) hy (by simpa using hv)
    generalize ((b.lineFrame.outFrame inp).tdmEnd inp.tdm).measEnd inp = c at he
    rw [Zone.live_still (by rw [he]; exact hy)]
    exact he

theorem Zone.slowTickWork_still (x : HostC) : (z.slowTickWork x).ctl.st = z.ctl.st := by
  simp [Zone.slowTickWork, h]

theorem Zone.loadFrame_still (x : HostC) : (z.loadFrame x).ctl.st = z.ctl.st := by
  unfold Zone.loadFrame
  extract_lets d was inst t q a y1 y2 y3 y4 y5
  have h1 : y1.ctl.st = z.ctl.st := rfl
  clear_value y1
  have h4 : y4.ctl.st = z.ctl.st := by
    simp only [y4, y3, y2, ite_st, Zone.epochDone_st, Zone.count_st, Zone.putBit_st, Zone.syncReset_st, Zone.syncDue_st, h1,
      ite_self]
  clear_value y4
  have h5 : y5.ctl.st = z.ctl.st := by
    have hs : (y4.slowTick.timers.tickWork x).ctl.st = z.ctl.st :=
      Still.after (fun _ hz => Zone.tickWork_still hz x) h (by simp [h4])
    simp only [y5]
    split
    · simp [h4]
    · simp [hs]
  clear_value y5
  have hw : (y5.windowOn x).ctl.st = z.ctl.st := Still.after (fun _ hz => Zone.windowOn_still hz x) h h5
  exact Still.after (fun _ hz => by rw [Zone.aecInstant_still hz]) h hw

theorem Zone.loadAct_still (x : HostC) : (z.loadAct x).ctl.st = z.ctl.st := by
  unfold Zone.loadAct
  dsimp only
  split_ifs
  · rfl
  · simp
  · rfl
  · simp
  · exact Zone.loadFrame_still h x

theorem Zone.loadEdge_still (x : HostC) : (z.loadEdge x).ctl.st = z.ctl.st := by
  unfold Zone.loadEdge
  split
  · exact Zone.loadAct_still (z := { z with time := { z.time with syncHi := false } }) h x
  · rfl

theorem Zone.frefStep_still (x : HostC) (interval : Nat) (e : Int) (sync : Bool) :
    (z.frefStep x interval e sync).ctl.st = z.ctl.st := by
  unfold Zone.frefStep
  dsimp only
  split
  · exact Still.after (fun _ hz => Zone.loadAct_still hz x) h (by simp)
  · simp

end still

end Sys2Proof.Machine
end

section
namespace Sys2Proof.Machine

/-! Where orders may lead a zone (R6, Table 1-2). P o: the zone has got an order with operation o. -/

/-- Where a fenced zone may be: FENCED or OFF, or where an order has led it. -/
def Within (P : Nat → Prop) (b : ZSt) : Prop :=
  b = .off ∨ b = .fenced ∨ (b = .init ∧ (P 1 ∨ P 3 ∨ P 4)) ∨ (b = .recover ∧ P 8)

/-- A way from state a to state b under the orders P. -/
structure Follows (P : Nat → Prop) (a b : ZSt) : Prop where
  fromOff : a = .off → b = .off ∨ P 1
  within : Within P a → Within P b

section follows
variable {P : Nat → Prop} {a b c : ZSt}

@[simp] theorem Follows.refl : Follows P a a := ⟨.inl, id⟩

theorem Follows.of_eq (h : b = a) : Follows P a b := by rw [h]; exact .refl

theorem Follows.trans (h : Follows P a b) (h' : Follows P b c) : Follows P a c :=
  ⟨fun e => (h.fromOff e).elim h'.fromOff .inr, fun e => h'.within (h.within e)⟩

theorem Steady.follows (h : Steady a b) : Follows P a b := by
  rcases h with rfl | ⟨ha, rfl⟩
  · exact .refl
  · exact ⟨fun e => absurd e ha, fun _ => .inr (.inl rfl)⟩

end follows

section orders
variable {P : Nat → Prop} {z : Zone} {x : HostC}

theorem Zone.toInit_st (z : Zone) (warm : Bool) : (z.toInit warm).ctl.st = .init := by
  unfold Zone.toInit
  simp

theorem Zone.toOff_st (z : Zone) : z.toOff.ctl.st = .off := by
  unfold Zone.toOff
  split
  · assumption
  · simp

theorem Zone.cmdEnable_follows (h : P 1) : Follows P z.ctl.st (z.cmdEnable x).ctl.st := by
  unfold Zone.cmdEnable
  dsimp only
  split
  · rw [Zone.toInit_st]
    exact ⟨fun _ => .inr h, fun _ => .inr (.inr (.inl ⟨rfl, .inl h⟩))⟩
  · exact .of_eq z.reject_st

theorem Zone.cmdDisable_follows : Follows P z.ctl.st z.cmdDisable.ctl.st := by
  unfold Zone.cmdDisable
  split
  · exact .of_eq z.reject_st
  · rw [Zone.toOff_st]
    exact ⟨fun _ => .inl rfl, fun _ => .inl rfl⟩

theorem Zone.cmdReset_follows {warm : Bool} (h : P 3 ∨ P 4) : Follows P z.ctl.st (z.cmdReset warm).ctl.st := by
  unfold Zone.cmdReset
  split
  · exact .of_eq z.reject_st
  · rename_i hoff
    rw [Zone.toInit_st]
    exact ⟨fun e => absurd e hoff, fun _ => .inr (.inr (.inl ⟨rfl, .inr h⟩))⟩

theorem Zone.cmdFence_follows : Follows P z.ctl.st z.cmdFence.ctl.st := by
  unfold Zone.cmdFence
  split
  · exact .of_eq z.reject_st
  · exact (z.raise_steady 0x200).follows

theorem Zone.cmdRecover_follows (h : P 8) : Follows P z.ctl.st z.cmdRecover.ctl.st := by
  unfold Zone.cmdRecover
  split
  · rename_i hc
    simp only [Zone.enter_st]
    exact ⟨fun e => absurd (hc.1.symm.trans e) (by decide), fun _ => .inr (.inr (.inr ⟨rfl, h⟩))⟩
  · exact .of_eq z.reject_st

/-- A write of ZCTL.CMD with its key is an order (Table 1-6). -/
theorem Zone.zctlCmd_follows {v : Word} (h : fld v 15 8 = 0xA5 → P (fld v 3 0)) :
    Follows P z.ctl.st (z.zctlCmd x v).ctl.st := by
  unfold Zone.zctlCmd
  split
  · exact .of_eq z.reject_st
  · rename_i hk
    have ho := h (by simpa using hk)
    split
    next e => exact Zone.cmdEnable_follows (e ▸ ho)
    next e => exact Zone.cmdDisable_follows
    next e => exact Zone.cmdReset_follows (.inl (e ▸ ho))
    next e => exact Zone.cmdReset_follows (.inr (e ▸ ho))
    next e => exact .of_eq z.cmdRun_st
    next e => exact .of_eq z.cmdResume_st
    next e => exact Zone.cmdFence_follows
    next e => exact Zone.cmdRecover_follows (e ▸ ho)
    next => exact .refl

/-- A write of host software to a register of the zone. -/
theorem Zone.regWrite_follows {p0 : Bool} {off : Nat} {v : Word}
    (h : off = Reg.ZCTL_CMD → fld v 15 8 = 0xA5 → P (fld v 3 0)) :
    Follows P z.ctl.st (z.regWrite x .host p0 off v).2.ctl.st := by
  by_cases ho : off = Reg.ZCTL_CMD
  · cases ho
    rw [Zone.regWrite_zctlCmd]
    exact Zone.zctlCmd_follows (h rfl)
  · exact .of_eq (Zone.regWrite_st ho)

theorem Zone.bcastWrite_follows {p0 : Bool} {off : Nat} {v : Word}
    (h : off = Reg.ZCTL_CMD → fld v 15 8 = 0xA5 → P (fld v 3 0)) :
    Follows P z.ctl.st (z.bcastWrite x p0 off v).2.ctl.st := by
  unfold Zone.bcastWrite
  split_ifs
  · exact .refl
  · exact .of_eq z.reject_st
  · exact Zone.regWrite_follows h

end orders

/-! The device: the queue and the commands that wait as before, each zone on its way under the orders that it has got. -/

theorem vset_eq {n : Nat} {α : Type} (v : Vector α n) (i j : Fin n) (a : α) : (v.set i a)[j] = if j = i then a else v[j] := by
  by_cases h : j = i
  · rw [if_pos h, h]; simp
  · rw [if_neg h]
    have hne : i.val ≠ j.val := fun e => h (Fin.ext e.symm)
    simp [hne]

theorem State.gather_st (s : State) (i j : ZoneId) (o n : Zone) :
    (s.gather i o n).zones[j].ctl.st = if j = i then n.ctl.st else s.zones[j].ctl.st := by
  have hs : ∀ h : HostC, ({ s with zones := s.zones.set i n.taken, host := h } : State).zones[j].ctl.st =
      if j = i then n.ctl.st else s.zones[j].ctl.st := fun h => by
    rw [vset_eq]
    split <;> rfl
  unfold State.gather
  dsimp only
  split
  · have hm : ∀ v : Vector Zone 8, (v.map Zone.wakeNow)[j].ctl.st = v[j].ctl.st := fun v => by simp
    exact (hm _).trans (hs s.host)
  · exact hs _

/-- The queues kept, and each zone on a way under the orders P of it. -/
structure Moves (P : ZoneId → Nat → Prop) (s t : State) : Prop where
  queues : SameQueues s t
  st : ∀ i : ZoneId, Follows (P i) s.zones[i].ctl.st t.zones[i].ctl.st

section moves
variable {P : ZoneId → Nat → Prop} {s t u : State}

@[simp] theorem Moves.refl : Moves P s s := ⟨⟨rfl, rfl⟩, fun _ => .refl⟩

theorem Moves.trans (h : Moves P s t) (h' : Moves P t u) : Moves P s u :=
  ⟨h.queues.trans h'.queues, fun i => (h.st i).trans (h'.st i)⟩

theorem HostWork.moves (h : HostWork s t) : Moves P s t := by
  obtain ⟨hz, hp, hw⟩ := h
  exact ⟨⟨hp, hw⟩, fun i => by rw [hz]; exact .refl⟩

/-- The host complex changes something that is none of the commands of the link that wait. -/
theorem Moves.host {h : HostC} (m : Moves P s t) (e : h.proto.wait = t.host.proto.wait) : Moves P s { t with host := h } :=
  m.trans (HostWork.moves ⟨rfl, rfl, e⟩)

theorem Moves.ite {c : Prop} [Decidable c] (ht : Moves P s t) (hu : Moves P s u) : Moves P s (if c then t else u) := by
  split
  · exact ht
  · exact hu

theorem State.gather_moves {i : ZoneId} {o n : Zone} (h : Follows (P i) s.zones[i].ctl.st n.ctl.st) :
    Moves P s (s.gather i o n) :=
  ⟨s.gather_queues i o n, fun j => by
    rw [State.gather_st]
    split
    next e => rw [e]; exact h
    next => exact .refl⟩

theorem State.onZone_moves {i : ZoneId} {f : Zone → HostC → Zone}
    (h : Follows (P i) s.zones[i].ctl.st (f s.zones[i] s.host).ctl.st) : Moves P s (s.onZone i f) :=
  State.gather_moves (h.trans (Zone.settle_steady _ _ _).follows)

theorem State.onZoneR_moves {α : Type} {i : ZoneId} {f : Zone → HostC → α × Zone}
    (h : Follows (P i) s.zones[i].ctl.st (f s.zones[i] s.host).2.ctl.st) : Moves P s (s.onZoneR i f).2 :=
  State.gather_moves (h.trans (Zone.settle_steady _ _ _).follows)

theorem foldl_moves {α : Type} {f : State → α → State} {l : List α} (h : ∀ s, ∀ a ∈ l, Moves P s (f s a)) :
    ∀ s, Moves P s (l.foldl f s) := by
  induction l with
  | nil => exact fun _ => .refl
  | cons a l ih =>
    exact fun s => (h s a (by simp)).trans (ih (fun s b hb => h s b (by simp [hb])) (f s a))

theorem State.onAll_moves {f : Zone → HostC → Zone} (h : ∀ (i : ZoneId) (z : Zone) (x : HostC), Follows (P i) z.ctl.st (f z x).ctl.st) :
    Moves P s (s.onAll f) :=
  foldl_moves (fun _ i _ => State.onZone_moves (h i _ _)) s

end moves

end Sys2Proof.Machine
end

section
namespace Sys2Proof.Machine

/-! The device's own work: content, security, registers of the host complex. -/

section moves
variable {P : ZoneId → Nat → Prop} {s : State}

theorem State.mapped_moves {f : Zone → Zone} (hf : ∀ z, (f z).ctl.st = z.ctl.st) {h : HostC}
    (e : h.proto.wait = s.host.proto.wait) : Moves P s { s with zones := s.zones.map f, host := h } :=
  ⟨⟨rfl, e⟩, fun i => .of_eq (by simp [hf])⟩

theorem State.putZone_moves {i : ZoneId} {z : Zone} (h : z.ctl.st = s.zones[i].ctl.st) : Moves P s (s.putZone i z) :=
  ⟨⟨rfl, rfl⟩, fun j => .of_eq (by
    rw [State.putZone_zones, vset_eq]
    split
    next e => rw [e, h]
    next => rfl)⟩

/-- Something in a zone that keeps the zone's state, or fences it. -/
theorem State.onZone_steady {i : ZoneId} {f : Zone → HostC → Zone}
    (h : Steady s.zones[i].ctl.st (f s.zones[i] s.host).ctl.st) : Moves P s (s.onZone i f) :=
  State.onZone_moves h.follows

theorem State.onZone_kept {i : ZoneId} {f : Zone → HostC → Zone}
    (h : (f s.zones[i] s.host).ctl.st = s.zones[i].ctl.st) : Moves P s (s.onZone i f) :=
  State.onZone_moves (.of_eq h)

theorem State.modHost_moves {f : HostC → HostC} (e : ∀ h, (f h).proto.wait = h.proto.wait) : Moves P s (s.modHost f) :=
  HostWork.moves ⟨rfl, rfl, e _⟩

theorem State.abandonSleep_moves (r : Nat) : Moves P s (s.abandonSleep r) := by
  unfold State.abandonSleep
  exact ⟨⟨rfl, rfl⟩, fun i => .of_eq (by simp)⟩

/-! Content. -/

theorem State.mount_moves : Moves P s s.mount.2 := by
  unfold State.mount
  dsimp only
  split
  · exact .refl
  · exact State.mapped_moves (fun z => by simp) (by simp)

theorem State.unmount_moves : Moves P s s.unmount.2 := by
  unfold State.unmount
  split
  · exact .refl
  · exact State.mapped_moves (fun z => by simp) rfl

theorem State.loadBlock_moves (j : PortJob) (it : Item) (k : Nat) (r : List Nat) (i : ZoneId) (tgt o : Nat) :
    Moves P s (s.loadBlock j it k r i tgt o) := by
  unfold State.loadBlock
  dsimp only
  split
  · split
    · exact State.modHost_moves fun _ => rfl
    · exact State.modHost_moves fun _ => rfl
  · have hl (u : State) : Moves P u (u.onZoneR i (fun z h => z.loadInto h it tgt)).2 :=
      State.onZoneR_moves (.of_eq (Zone.loadInto_st _ _ _ _))
    split
    · refine Moves.trans ?_ (State.modHost_moves fun _ => rfl)
      refine Moves.trans ?_ (hl _)
      exact State.onZone_kept (by split_ifs <;> simp)
    · refine Moves.trans ?_ (State.modHost_moves fun _ => rfl)
      exact State.onZone_kept (by split_ifs <;> simp)

theorem State.loadSlot_moves (j : PortJob) (id : Word) (i : ZoneId) (tgt : Nat) (cdqs : Bool) :
    Moves P s (s.loadSlot j id i tgt cdqs) := by
  unfold State.loadSlot
  split
  · exact State.modHost_moves fun _ => rfl
  · exact State.modHost_moves fun _ => rfl
  · dsimp only
    split_ifs
    · exact State.modHost_moves fun _ => rfl
    · exact State.modHost_moves fun _ => rfl
    · exact State.loadBlock_moves ..
    · refine Moves.trans ?_ (State.loadBlock_moves ..)
      exact State.modHost_moves fun _ => rfl
    · exact State.modHost_moves fun _ => rfl
    · exact State.loadBlock_moves ..

theorem State.jobSlot_moves (j : PortJob) (cdqs : Bool) : Moves P s (s.jobSlot j cdqs) := by
  unfold State.jobSlot
  split
  · exact State.modHost_moves fun _ => by simp
  · exact State.loadSlot_moves ..

theorem State.contCmd_moves (v : Word) : Moves P s (s.contCmd v).2 := by
  unfold State.contCmd
  split
  · exact State.mount_moves
  · exact State.unmount_moves
  · exact s.load_hostWork.moves
  · unfold State.unfence
    dsimp only
    refine State.onZone_kept ?_
    rfl
  · exact .refl

theorem State.slotServe_moves (i : ZoneId) (own cdqs : Bool) : Moves P s (s.slotServe i own cdqs) := by
  unfold State.slotServe
  split
  · exact .refl
  · split
    · exact State.onZone_kept (Zone.fetchDrop_st _ _)
    · dsimp only
      split
      · exact State.onZone_kept (by simp)
      · split
        · split
          · exact State.onZone_kept (by rfl)
          · exact State.onZone_kept (Zone.fetched_st _ _ _ _ _)
        · split
          · refine Moves.trans ?_ (State.onZone_kept (Zone.fetched_st _ _ _ _ _))
            exact State.modHost_moves fun _ => rfl
          · split
            · exact State.onZone_kept (by rfl)
            · exact State.onZone_kept (Zone.fetched_st _ _ _ _ _)

theorem State.fetchSlot_moves (cdqs : Bool) : Moves P s (s.fetchSlot cdqs) := by
  unfold State.fetchSlot
  split_ifs
  · exact .refl
  · split
    · exact State.jobSlot_moves ..
    · exact .refl
  · split
    · exact (State.slotServe_moves ..).trans (State.slotNext_hostWork _ _).moves
    · exact (State.jobSlot_moves ..).trans (State.slotNext_hostWork _ _).moves
    · exact (State.slotServe_moves ..).trans (State.slotNext_hostWork _ _).moves
    · exact (State.slotNext_hostWork _ _).moves

/-! Tamper and the life-cycle: a device that enters DEAD takes its zones to OFF (R340). -/

theorem Zone.toOff_follows {Q : Nat → Prop} (z : Zone) : Follows Q z.ctl.st z.toOff.ctl.st := by
  rw [Zone.toOff_st]
  exact ⟨fun _ => .inl rfl, fun _ => .inl rfl⟩

theorem State.toDead_moves (r : Nat) : Moves P s (s.toDead r) := by
  unfold State.toDead
  dsimp only
  refine Moves.trans ?_ (State.lcsChange_hostWork ..).moves
  refine Moves.trans ?_ (State.onAll_moves fun i z x => z.toOff_follows)
  refine Moves.host (s.closeSession_hostWork r).moves ?_
  simp [HostC.zeroize, HostC.dropSession]

theorem State.tamper_moves (source : Nat) (counts : Bool) : Moves P s (s.tamper source counts) := by
  unfold State.tamper
  dsimp only
  generalize (if counts then satAdd 255 s.host.lcs.tamper 1 else s.host.lcs.tamper) = n
  have h (t : State) (e : HostWork s t) (c : Nat) (p : List Byte) : Moves P s (t.secMsg c p) :=
    (e.trans (t.secMsg_hostWork c p)).moves
  split
  · refine Moves.trans (h _ ?_ _ _) (State.toDead_moves 4)
    exact ⟨rfl, rfl, rfl⟩
  · refine h _ ?_ _ _
    exact ⟨rfl, rfl, rfl⟩

/-- An event of Avhar that closes the session and is a tamper event. -/
theorem State.tampered_moves {h : HostC} {source : Nat} {counts : Bool}
    (e : h.proto.wait = (s.closeSession 4).host.proto.wait) :
    Moves P s (({ s.closeSession 4 with host := h } : State).tamper source counts) :=
  ((s.closeSession_hostWork 4).moves.host e).trans (State.tamper_moves ..)

theorem State.keyrec_moves (k : KeyRec) : Moves P s (s.keyrec k) := by
  unfold State.keyrec
  exact State.tampered_moves (congrArg HProto.wait (HostC.dropKey_proto _ k))

theorem State.clkmon_moves : Moves P s s.clkmon := by
  unfold State.clkmon
  exact State.tampered_moves rfl

theorem State.puf_moves : Moves P s s.puf := by
  unfold State.puf
  exact State.tampered_moves rfl

theorem State.shield_moves : Moves P s s.shield := by
  unfold State.shield
  exact State.tampered_moves rfl

theorem State.kill_moves : Moves P s s.kill := by
  unfold State.kill
  split
  · exact (State.lcsEnd_hostWork ..).moves
  · dsimp only
    generalize (if s.host.sessionState then s.host.ownerToken 4 else s.host.makerSig 9) = r
    split
    · exact (State.lcsEnd_hostWork ..).moves
    · exact (State.toDead_moves 3).trans (State.lcsEnd_hostWork ..).moves

theorem State.lcsCmd_moves (v : Word) : Moves P s (s.lcsCmd v) := by
  unfold State.lcsCmd
  split
  · exact .refl
  · split
    · exact s.genkey_hostWork.moves
    · exact s.provision_hostWork.moves
    · exact s.takeOwner_hostWork.moves
    · exact s.lockField_hostWork.moves
    · exact s.unlock_hostWork.moves
    · exact s.rma_hostWork.moves
    · exact s.rmaMaker_hostWork.moves
    · exact s.remake_hostWork.moves
    · exact State.kill_moves
    · exact .refl

end moves

end Sys2Proof.Machine
end

section
namespace Sys2Proof.Machine

/-! Registers of the host complex and accesses of host software. -/

section moves
variable {P : ZoneId → Nat → Prop} {s : State}

/-! Reads. -/

theorem State.rcClearHost_moves (a : Nat) : Moves P s (s.rcClearHost a) := by
  unfold State.rcClearHost
  split
  · exact State.putZone_moves rfl
  · exact State.modHost_moves fun _ => rfl

theorem State.hostRead_moves (a : Nat) : Moves P s (s.hostRead a).s := by
  unfold State.hostRead
  dsimp only
  split
  · exact .refl
  · split
    · exact .refl
    · split
      · exact .refl
      · split
        · exact .refl
        · split
          · exact Moves.host .refl (by rw [HostC.nvmRead_proto])
          · split
            · exact Moves.host .refl rfl
            · dsimp only
              split
              · exact State.rcClearHost_moves a
              · exact .refl

theorem State.regRead_moves (a : Nat) : Moves P s (s.regRead a).s := by
  unfold State.regRead
  split
  · exact State.hostRead_moves a
  · exact State.gather_moves (Zone.regRead_steady _ _ _).follows
  · exact .refl
  · exact .refl

/-- The words of a burst of reads. -/
theorem readRun_moves (addr : BitVec 24) : ∀ (n k : Nat) (r : Nat × Nat × List Word × State),
    Moves P r.2.2.2 (readRun addr k n r).2.2.2
  | 0, _, _ => .refl
  | n + 1, k, (_, _, _, _) => by
    unfold readRun
    refine Moves.trans ?_ (readRun_moves addr n (k + 1) _)
    exact State.regRead_moves (burstAddr addr k)

/-! Mode changes of the device and sleep. -/

theorem State.modeArmDev_moves (next : Bool) (pmask : BitVec 6) (mode zmask : Nat) :
    Moves P s (s.modeArmDev next pmask mode zmask).2 := by
  unfold State.modeArmDev
  split
  · exact .refl
  · dsimp only
    refine Moves.trans ?_ (foldl_moves (fun s i _ => State.onZone_kept (Zone.modeArm_st _ _ _ _ _)) _)
    exact Moves.host .refl rfl

theorem State.modeAbort_moves (zmask : Nat) : Moves P s (s.modeAbort zmask) := by
  unfold State.modeAbort
  refine foldl_moves (fun s i _ => State.onZone_kept ?_) _
  split
  · split
    · rfl
    · exact Zone.modeCancel_st _ _
  · rfl

theorem State.modeCmd_moves (v : Word) : Moves P s (s.modeCmd v).2 := by
  unfold State.modeCmd
  split
  · exact State.modeArmDev_moves ..
  · exact State.modeArmDev_moves ..
  · exact State.modeAbort_moves _
  · exact .refl

theorem State.sleepEnter_moves (i : ZoneId) : Moves P s (s.sleepEnter i) := by
  unfold State.sleepEnter
  split
  · exact .refl
  · dsimp only
    split
    · exact State.abandonSleep_moves _
    · refine Moves.trans ?_ (State.onZone_kept (Zone.sleepStart_st _))
      exact Moves.host .refl rfl

theorem State.sleepWrite_moves (v : Word) : Moves P s (s.sleepWrite v).2 := by
  unfold State.sleepWrite
  extract_lets h ok old h1 p q h2 t
  split
  · exact Moves.host .refl rfl
  · have ht : Moves P s t := Moves.host .refl (by simp only [h2]; split <;> rfl)
    split
    · exact ht.trans (foldl_moves (fun _ i _ => State.sleepEnter_moves i) _)
    · exact ht

/-! Writes in the host complex. -/

theorem State.clrCntHost_moves (page : Nat) : Moves P s (s.clrCntHost page) := by
  unfold State.clrCntHost
  exact foldl_moves (fun _ r _ => State.rcClearHost_moves r.off) _

theorem State.hostHeaderWrite_moves (page o : Nat) (v : Word) : Moves P s (s.hostHeaderWrite page o v).2 := by
  unfold State.hostHeaderWrite
  split
  · dsimp only
    split
    · exact State.clrCntHost_moves page
    · exact .refl
  · dsimp only
    exact State.modHost_moves fun _ => rfl
  · dsimp only
    exact State.modHost_moves fun _ => rfl
  · exact .refl
  · dsimp only
    split
    · exact State.modHost_moves fun _ => rfl
    · exact .refl
  · exact .refl
  · exact .refl

/-- What an answer that may be none makes of the device. -/
def AnswerMoves (P : ZoneId → Nat → Prop) (s : State) (r : Option (Nat × State)) : Prop := ∀ x, r = some x → Moves P s x.2

theorem AnswerMoves.some {n : Nat} {t : State} (h : Moves P s t) : AnswerMoves P s (some (n, t)) :=
  fun _ e => by cases e; exact h

theorem AnswerMoves.ite {c : Prop} [Decidable c] {x y : Option (Nat × State)} (hx : AnswerMoves P s x)
    (hy : AnswerMoves P s y) : AnswerMoves P s (if c then x else y) := by
  split
  · exact hx
  · exact hy

theorem State.hostSpecial_moves (a : Nat) (v : Word) : AnswerMoves P s (s.hostSpecial a v) := by
  unfold State.hostSpecial
  refine .ite (.some (State.sleepWrite_moves v)) ?_
  refine .ite (.some (State.modeCmd_moves v)) ?_
  refine .ite (.some (State.modHost_moves fun _ => rfl)) ?_
  refine .ite (.some (s.sgWrite_hostWork v).moves) ?_
  refine .ite (.some (State.contCmd_moves v)) ?_
  refine .ite (.some (s.xcmd_hostWork v).moves) ?_
  refine .ite (.some (State.modHost_moves fun h => congrArg HProto.wait (h.nvmAddr_proto v))) ?_
  refine .ite (.some (Moves.host .refl (congrArg HProto.wait (s.host.nvmWrite_proto v)))) ?_
  refine .ite (.some (State.modHost_moves fun h => congrArg HProto.wait (h.crcWrite_proto a v))) ?_
  refine .ite (.some (s.secCmd_hostWork v).moves) ?_
  refine .ite (.some (State.lcsCmd_moves v)) ?_
  exact fun _ e => by cases e

theorem State.hostWrite_moves (a : Nat) (v : Word) : Moves P s (s.hostWrite a v).2 := by
  unfold State.hostWrite
  dsimp only
  split
  · exact .refl
  · split
    · exact .refl
    · split
      · exact State.hostHeaderWrite_moves ..
      · split
        · exact .refl
        · split
          · exact .refl
          · split
            next hx => exact State.hostSpecial_moves a v _ hx
            next =>
              dsimp only
              exact State.modHost_moves fun _ => rfl

/-! Writes by address: an order is a write of ZCTL.CMD of a zone, or of that register in every zone (R6, R376). -/

/-- Every operation that a write of the word v at address a orders of a zone is one of those that the zone has got. -/
def Ordered (P : ZoneId → Nat → Prop) (a : Nat) (v : Word) : Prop :=
  ∀ (i : ZoneId) (o : Nat), OrderWord [o] i a v → P i o

theorem placeOf_zone {a off : Nat} {i : ZoneId} (h : placeOf a = .zone i off) : a = zoneAddr i off := by
  unfold placeOf at h
  split_ifs at h with h1 h2 h3
  obtain ⟨rfl, rfl⟩ := Place.zone.inj h
  unfold zoneAddr fin
  simp only [Fin.val_ofNat]
  omega

theorem placeOf_bcast {a off : Nat} (h : placeOf a = .bcast off) : a = 0x180000 + off := by
  unfold placeOf at h
  split_ifs at h with h1 h2 h3 h4
  have := Place.bcast.inj h
  omega

theorem Ordered.zone {a off : Nat} {v : Word} {i : ZoneId} (h : Ordered P a v) (hp : placeOf a = .zone i off)
    (ho : off = Reg.ZCTL_CMD) (hk : fld v 15 8 = 0xA5) : P i (fld v 3 0) :=
  h i _ ⟨.inl (by rw [placeOf_zone hp, ho]), hk, by simp⟩

theorem Ordered.bcast {a off : Nat} {v : Word} (h : Ordered P a v) (hp : placeOf a = .bcast off) (i : ZoneId)
    (ho : off = Reg.ZCTL_CMD) (hk : fld v 15 8 = 0xA5) : P i (fld v 3 0) :=
  h i _ ⟨.inr (by rw [placeOf_bcast hp, ho]), hk, by simp⟩

/-- A fold over zones that carries an answer with the device. -/
theorem foldlAns_moves {α β : Type} {g : β → State} {f : β → α → β} (h : ∀ r a, Moves P (g r) (g (f r a))) :
    ∀ (l : List α) (r : β), Moves P (g r) (g (l.foldl f r))
  | [], _ => .refl
  | a :: l, r => (h r a).trans (foldlAns_moves h l (f r a))

theorem State.zoneWrite_moves {p0 : Bool} {i : ZoneId} {off a : Nat} {v : Word}
    (h : off = Reg.ZCTL_CMD → fld v 15 8 = 0xA5 → P i (fld v 3 0)) : Moves P s (s.zoneWrite p0 i off a v).s := by
  have hz : Moves P s (s.onZoneR i (fun z h => z.regWrite h .host p0 off v)).2 :=
    State.onZoneR_moves (Zone.regWrite_follows h)
  unfold State.zoneWrite
  dsimp only
  split
  · exact hz.trans (State.wrote_hostWork ..).moves
  · exact hz

theorem State.bcastWrite_moves {p0 : Bool} {skip off a : Nat} {v : Word}
    (h : ∀ i : ZoneId, off = Reg.ZCTL_CMD → fld v 15 8 = 0xA5 → P i (fld v 3 0)) :
    Moves P s (s.bcastWrite p0 skip off a v).s := by
  unfold State.bcastWrite
  refine Moves.trans ?_ (State.wrote_hostWork ..).moves
  refine foldlAns_moves (g := WrAns.s) (fun r i => ?_) (List.finRange 8) ⟨0, 0, 0, s⟩
  have hz : Moves P r.s (r.s.onZoneR i (fun z h => z.bcastWrite h p0 off v)).2 :=
    State.onZoneR_moves (Zone.bcastWrite_follows (h i))
  dsimp only
  split
  · exact .refl
  · split
    · exact hz
    · exact hz

theorem State.regWrite_moves {p0 : Bool} {skip a : Nat} {v : Word} (h : Ordered P a v) :
    Moves P s (s.regWrite p0 skip a v).s := by
  unfold State.regWrite
  split
  · exact State.hostWrite_moves a v
  next hp => exact State.zoneWrite_moves (h.zone hp)
  next hp => exact State.bcastWrite_moves (h.bcast hp)
  · exact .refl

end moves

end Sys2Proof.Machine
end

section
namespace Sys2Proof.Machine

/-! The link and its protocols. -/

/-- A way from RUN, which no order leads a fenced zone to. -/
theorem Follows.of_run {P : Nat → Prop} {a b : ZSt} (h : a = .run) : Follows P a b := by
  refine ⟨fun e => absurd (h.symm.trans e) (by decide), fun e => ?_⟩
  rw [h] at e
  rcases e with e | e | ⟨e, _⟩ | ⟨e, _⟩ <;> exact absurd e (by decide)

theorem Zone.whyHold_follows {P : Nat → Prop} (z : Zone) : Follows P z.ctl.st z.whyHold.ctl.st := by
  by_cases h : z.ctl.st = .run
  · exact .of_run h
  · unfold Zone.whyHold
    simp [h]

theorem Zone.orphanSet_follows {P : Nat → Prop} (z : Zone) (n : Nat) : Follows P z.ctl.st (z.orphanSet n).ctl.st := by
  unfold Zone.orphanSet
  dsimp only
  split
  · exact .refl
  split
  · exact Zone.whyHold_follows { z with ctl := { z.ctl with orphan := decide (n > z.orphanTo) } }
  · exact .refl

section moves
variable {P : ZoneId → Nat → Prop} {s : State}

/-! Frames. -/

theorem State.validFrame_moves (mode : Nat) (valid : Bool) : Moves P s (s.validFrame mode valid) := by
  unfold State.validFrame
  dsimp only
  split
  · refine Moves.trans ?_ (State.onAll_moves fun _ z _ => z.orphanSet_follows 0)
    exact Moves.host .refl rfl
  · exact Moves.host .refl rfl

theorem State.checkFrame_moves (f : RxFrame) : Moves P s (s.checkFrame f) := by
  unfold State.checkFrame
  dsimp only
  split
  · exact State.modHost_moves fun _ => congrArg HProto.wait (HostC.linkErr_proto _ _ _ _ _ _)
  split
  · exact .refl
  generalize ht : s.modHost _ = t
  have hm : Moves P s t := by rw [← ht]; exact State.modHost_moves fun _ => rfl
  refine hm.trans ?_
  split
  · have he : Moves P t (t.modHost (fun h => h.linkErr Reg.LINK_COUNT 7 0 1 2)) :=
      State.modHost_moves fun _ => congrArg HProto.wait (HostC.linkErr_proto _ _ _ _ _ _)
    split
    · exact he
    · exact he.trans (State.nakNow_hostWork ..).moves
  · have hv (b : Bool) : Moves P t ((t.validFrame 1 b).modHost HostC.heardRate) :=
      (State.validFrame_moves 1 b).trans (State.modHost_moves fun _ => rfl)
    split
    · exact (hv _).trans (State.broadcast_hostWork ..).moves
    · exact (hv _).trans (State.addressed_hostWork ..).moves

theorem State.frameReceived_moves (f : RxFrame) : Moves P s (s.frameReceived f) := by
  unfold State.frameReceived
  extract_lets h h1 l h2
  have hw : h2.proto.wait = s.host.proto.wait := congrArg HProto.wait (HostC.linkErr_proto _ _ _ _ _ _)
  clear_value h2
  split
  · exact .refl
  · split
    · exact Moves.host .refl ((congrArg HProto.wait (HostC.linkErr_proto _ _ _ _ _ _)).trans hw)
    · refine Moves.trans ?_ (State.checkFrame_moves f)
      exact Moves.host .refl hw

theorem State.recsSent_moves (l : List (Nat × BitVec 16)) : Moves P s (s.recsSent l) := by
  unfold State.recsSent
  refine State.mapped_moves (fun _ => ?_) ?_
  · rfl
  · rfl

theorem State.transmit_moves (o : ArbOutcome) : Moves P s (s.transmit o) := by
  unfold State.transmit
  split
  · exact .refl
  · split
    · exact .refl
    · split
      · exact State.modHost_moves fun _ => rfl
      · exact State.modHost_moves fun _ => rfl
      · dsimp only
        split
        · refine Moves.trans ?_ (State.recsSent_moves _)
          exact State.modHost_moves fun _ => rfl
        · exact State.modHost_moves fun _ => rfl

theorem State.transmitFrame_moves (o : ArbOutcome) : Moves P s (s.transmitFrame o) := by
  unfold State.transmitFrame
  dsimp only
  split
  · exact (State.transmit_moves o).trans (State.hsend_hostWork ..).moves
  · exact State.transmit_moves o

theorem State.messageResend_moves : Moves P s s.messageResend := by
  unfold State.messageResend
  refine State.mapped_moves (fun _ => ?_) ?_
  · rfl
  · rfl

theorem State.msgAck_moves (src : Nat) (m : BitVec 16) : Moves P s (s.msgAck src m) := by
  unfold State.msgAck
  split
  · exact State.modHost_moves fun _ => rfl
  · exact State.putZone_moves rfl

/-! Commands of the protocol engine. -/

/-- A burst of writes moves a zone as its words order. -/
theorem burstRun_moves {p0 : Bool} {addr : BitVec 24} : ∀ (ws : List Word) (k : Nat) (r : WrAns),
    (∀ j, j < ws.length → Ordered P (burstAddr addr (k + j)) (ws.getD j 0)) → Moves P r.s (burstRun p0 addr k ws r).s
  | [], _, _, _ => .refl
  | v :: rest, k, r, h => by
    have h0 : Ordered P (burstAddr addr k) v := h 0 (by simp)
    unfold burstRun
    extract_lets a isB w lower
    split
    · exact .refl
    · refine Moves.trans ?_ (burstRun_moves rest (k + 1) _ fun j hj => ?_)
      · exact State.regWrite_moves h0
      · have := h (j + 1) (by simpa using hj)
        rw [Nat.add_assoc, Nat.add_comm 1 j]
        exact this

theorem State.regWriteCmd_moves {c : Hdr} {addr : BitVec 24} {ws : List Word}
    (h : ∀ i o, Orders [o] i (.regWrite c addr ws) → P i o) : Moves P s (s.regWriteCmd c addr ws) := by
  unfold State.regWriteCmd
  dsimp only
  generalize hm : (if s.host.sec.open0.isSome then 59 else 60) = m
  have hm' : m ≤ 60 := by
    rw [← hm]
    split <;> omega
  split
  · exact (State.nak_hostWork ..).moves
  next hn =>
    have hb : Moves P s (burstRun s.host.p0ctl addr 0 ws ⟨0, 0, 0, s⟩).s :=
      burstRun_moves ws 0 ⟨0, 0, 0, s⟩ fun j hj i o ho => h i o ⟨⟨j, by omega⟩, by simpa using ho⟩
    iterate 3 refine .ite (State.nak_hostWork ..).moves ?_
    exact .ite (hb.trans (State.ack_hostWork ..).moves) (hb.trans (State.nak_hostWork ..).moves)

theorem State.regReadCmd_moves (c : Hdr) (addr : BitVec 24) (count : Byte) : Moves P s (s.regReadCmd c addr count) := by
  unfold State.regReadCmd
  dsimp only
  iterate 4 refine .ite (State.nak_hostWork ..).moves ?_
  exact (readRun_moves addr _ 0 (0, 255, [], s)).trans (State.reply_hostWork ..).moves

theorem State.eachZone_moves {zmask : Nat} {f : Zone → HostC → (Nat × Nat) × Zone}
    (h : ∀ z x, (f z x).2.ctl.st = z.ctl.st) : Moves P s (s.eachZone zmask f).s := by
  unfold State.eachZone
  refine foldlAns_moves (g := WrAns.s) (fun r i => ?_) (List.finRange 8) ⟨0, 0, 0, s⟩
  have hz : Moves P r.s (r.s.onZoneR i f).2 := State.onZoneR_moves (.of_eq (h _ _))
  dsimp only
  split
  · exact .refl
  · split
    · exact hz
    · exact hz

theorem State.zoneAns_moves (w : WrAns) (c : Hdr) (zmask : Nat) : Moves P w.s (State.zoneAns w c zmask) := by
  unfold State.zoneAns
  split
  · exact (State.ack_hostWork ..).moves
  · exact (State.nak_hostWork ..).moves

theorem State.voiceSend_moves (c : Hdr) (zmask : Nat) (v : HostV) : Moves P s (s.voiceSend c zmask v) := by
  unfold State.voiceSend
  dsimp only
  refine Moves.trans ?_ (State.voiceDone_hostWork _).moves
  refine Moves.trans ?_ (foldl_moves (fun s i _ => ?_) _)
  · exact State.modHost_moves fun _ => rfl
  · split
    · exact .refl
    · exact State.onZone_kept (by rfl)

/-- The authority of a command that needs one. -/
theorem State.authorityIf_moves (p : Prop) [Decidable p] (zmask : Nat) (item : Word) (a : Auth) :
    Moves P s (if p then s.authority zmask item a else (0, 0, s)).2.2 := by
  split
  · exact (State.authority_hostWork ..).moves
  · exact .refl

theorem State.voiceCmd_moves (c : Hdr) (op zmask cls : Byte) (arg0 arg1 : Word) (a : Auth) :
    Moves P s (s.voiceCmd c op zmask cls arg0 arg1 a) := by
  unfold State.voiceCmd
  extract_lets p0 r z
  iterate 7 refine .ite (State.nak_hostWork ..).moves ?_
  have ha : Moves P s (if p0 then s.authority z arg0 a else (0, 0, s)).2.2 := State.authorityIf_moves p0 z arg0 a
  generalize (if p0 then s.authority z arg0 a else (0, 0, s)) = x at ha
  dsimp only
  split
  · exact ha.trans (State.nak_hostWork ..).moves
  · exact ha.trans (State.voiceSend_moves ..)

theorem State.eventPost_moves (c : Hdr) (zmask : Byte) (e : Vector Word 8) (a : Auth) : Moves P s (s.eventPost c zmask e a) := by
  unfold State.eventPost
  extract_lets p0 r z
  iterate 5 refine .ite (State.nak_hostWork ..).moves ?_
  have ha : Moves P s (if p0 then s.authority z e[(4 : Fin 8)] a else (0, 0, s)).2.2 :=
    State.authorityIf_moves (p0 = true) z e[(4 : Fin 8)] a
  generalize (if p0 then s.authority z e[(4 : Fin 8)] a else (0, 0, s)) = x at ha
  dsimp only
  split
  · exact ha.trans (State.nak_hostWork ..).moves
  · refine (ha.trans (State.eachZone_moves fun y h => ?_)).trans (State.zoneAns_moves ..)
    split
    · rfl
    split
    · rfl
    · exact Zone.post_st ..

theorem State.msgackCmd_moves (c : Hdr) (src : Byte) (m : BitVec 16) : Moves P s (s.msgackCmd c src m) := by
  unfold State.msgackCmd
  dsimp only
  iterate 2 refine .ite (State.nak_hostWork ..).moves ?_
  exact (State.msgAck_moves ..).trans (State.ack_hostWork ..).moves

/-! Compatibility commands. -/

/-- The work of a compatibility command under the orders P. -/
abbrev Acts (P : ZoneId → Nat → Prop) (act : State → Nat × List Byte × State) : Prop := ∀ s, Moves P s (act s).2.2

theorem State.compatTake_moves {act : State → Nat × List Byte × State} (h : Acts P act) (f : CompatFrame) (cmd : Nat) :
    Moves P s (s.compatTake f cmd act) := by
  unfold State.compatTake
  split
  · refine Moves.trans ?_ (State.lswAnswer_hostWork ..).moves
    exact State.modHost_moves fun _ => congrArg HProto.wait (HostC.linkErr_proto _ _ _ _ _ _)
  · dsimp only
    refine Moves.trans (Moves.trans ?_ (h _)) (State.lswAnswer_hostWork ..).moves
    exact (State.validFrame_moves 2 true).trans (State.modHost_moves fun _ => rfl)

theorem State.compat_moves {act : State → Nat × List Byte × State} (h : Acts P act) (f : CompatFrame) (cmd : Nat) :
    Moves P s (s.compat f cmd act) := by
  unfold State.compat
  extract_lets h0 h1
  have hw : h1.proto.wait = s.host.proto.wait := congrArg HProto.wait (HostC.linkErr_proto _ _ _ _ _ _)
  clear_value h1
  split
  · exact .refl
  · split
    · exact Moves.host .refl ((congrArg HProto.wait (HostC.linkErr_proto _ _ _ _ _ _)).trans hw)
    · dsimp only
      split
      · exact Moves.host .refl hw
      · refine Moves.trans ?_ (State.compatTake_moves h f cmd)
        exact Moves.host .refl hw

theorem wordsOf_length : ∀ (n : Nat) (d : List Byte), (wordsOf n d).length = n
  | 0, _ => rfl
  | n + 1, d => by simp [wordsOf, wordsOf_length n]

theorem State.compatWrite_acts {f : CompatFrame} (h : ∀ i o, Orders [o] i (.write f) → P i o) :
    Acts P (State.compatWrite f.data) := by
  intro s
  unfold State.compatWrite
  dsimp only
  split
  · exact .refl
  next hn =>
    refine burstRun_moves _ 0 ⟨0, 0, 0, s⟩ fun j hj i o ho => h i o ⟨⟨j, ?_⟩, by simpa using ho⟩
    rw [wordsOf_length] at hj
    omega

theorem State.compatRead_acts (d : List Byte) : Acts P (State.compatRead d) := by
  intro s
  unfold State.compatRead
  dsimp only
  split
  · exact .refl
  · exact readRun_moves _ _ 0 (0, 255, [], s)

/-- A command of the protocol engine moves a zone as it orders. -/
theorem protoRun_moves {c : Instr} (h : ∀ i o, Orders [o] i c → P i o) : Moves P s (protoRun c s) := by
  unfold protoRun
  split
  · exact (State.ping_hostWork ..).moves
  · exact (State.ident_hostWork ..).moves
  · exact State.regWriteCmd_moves h
  · exact State.regReadCmd_moves ..
  · exact State.voiceCmd_moves ..
  · exact State.eventPost_moves ..
  · exact (State.bulkWr_hostWork ..).moves
  · exact (State.bulkRd_hostWork ..).moves
  · exact State.msgackCmd_moves ..
  · exact (State.helloCmd_hostWork ..).moves
  · exact (State.authCmd_hostWork ..).moves
  · exact (State.closeCmd_hostWork ..).moves
  · exact (State.resumeCmd_hostWork ..).moves
  · exact (State.statusCmd_hostWork ..).moves
  · exact (State.getcertCmd_hostWork ..).moves
  · exact State.compat_moves (State.compatWrite_acts h) ..
  · exact State.compat_moves (State.compatRead_acts _) ..
  · exact State.compat_moves (fun _ => .refl) ..
  · exact .refl

end moves

end Sys2Proof.Machine
end

section
namespace Sys2Proof.Machine

/-! What a command makes of the queue and of a zone in OFF or FENCED. -/

/-- The queue kept, and each zone on a way under the orders P of it. -/
structure Flows (P : ZoneId → Nat → Prop) (s t : State) : Prop where
  pending : t.pending = s.pending
  st : ∀ i : ZoneId, Follows (P i) s.zones[i].ctl.st t.zones[i].ctl.st

/-- The queues kept, and each zone in OFF or FENCED left there. -/
structure Rests (s t : State) : Prop where
  queues : SameQueues s t
  st : ∀ i : ZoneId, Still s.zones[i].ctl.st → t.zones[i].ctl.st = s.zones[i].ctl.st

/-- The queue kept, and each zone in OFF or FENCED on a way under the orders P of it. -/
structure Obeys (P : ZoneId → Nat → Prop) (s t : State) : Prop where
  pending : t.pending = s.pending
  st : ∀ i : ZoneId, Still s.zones[i].ctl.st → Follows (P i) s.zones[i].ctl.st t.zones[i].ctl.st

section relations
variable {P : ZoneId → Nat → Prop} {s t u : State}

theorem Moves.flows (h : Moves P s t) : Flows P s t := ⟨h.queues.1, h.st⟩

@[simp] theorem Flows.refl : Flows P s s := ⟨rfl, fun _ => .refl⟩

theorem Flows.trans (h : Flows P s t) (h' : Flows P t u) : Flows P s u :=
  ⟨h'.pending.trans h.pending, fun i => (h.st i).trans (h'.st i)⟩

theorem Flows.obeys (h : Flows P s t) : Obeys P s t := ⟨h.pending, fun i _ => h.st i⟩

theorem Moves.obeys (h : Moves P s t) : Obeys P s t := h.flows.obeys

@[simp] theorem Rests.refl : Rests s s := ⟨⟨rfl, rfl⟩, fun _ _ => rfl⟩

theorem Rests.trans (h : Rests s t) (h' : Rests t u) : Rests s u :=
  ⟨h.queues.trans h'.queues, fun i hs => (h'.st i (by rw [h.st i hs]; exact hs)).trans (h.st i hs)⟩

theorem Rests.then (h : Rests s t) (h' : Flows P t u) : Obeys P s u :=
  ⟨h'.pending.trans h.queues.1, fun i hs => (Follows.of_eq (h.st i hs)).trans (h'.st i)⟩

theorem Rests.obeys (h : Rests s t) : Obeys P s t := h.then .refl

/-- Something happens in a zone that leaves it in OFF or FENCED. -/
theorem State.onZone_rests {i : ZoneId} {f : Zone → HostC → Zone}
    (h : Still s.zones[i].ctl.st → (f s.zones[i] s.host).ctl.st = s.zones[i].ctl.st) : Rests s (s.onZone i f) :=
  ⟨s.onZone_queues i f, fun j hj => by
    unfold State.onZone
    rw [State.gather_st]
    split
    next e =>
      cases e
      have hf := h hj
      rw [(Zone.settle_steady _ _ _).still (by rw [hf]; exact hj), hf]
    next => rfl⟩

theorem State.hostTicks_rests (i : ZoneId) : Rests s (s.hostTicks i) :=
  ⟨s.hostTicks_queues i, fun j _ => by
    unfold State.hostTicks
    split
    · rfl
    · simp⟩

theorem State.setBegan_rests (i : ZoneId) (b : Bool) : Rests s (s.setBegan i b) :=
  ⟨⟨rfl, rfl⟩, fun j _ => by
    unfold State.setBegan vmod
    dsimp only
    rw [vset_eq]
    split
    next e => rw [e]
    next => rfl⟩

/-! Boundaries. -/

theorem State.frameStart_rests (i : ZoneId) : Rests s (s.frameStart i) := by
  have h : Rests s (s.onZone i (fun z _ => ((z.frameBegin).ampSeqRun 1).cmRamp 256)) :=
    State.onZone_rests fun _ => by simp
  unfold State.frameStart
  dsimp only
  split
  · exact (h.trans (State.hostTicks_rests i)).trans (State.onZone_rests fun hs => Zone.tickWork_still hs _)
  · exact h

theorem State.frameBoundary_rests (i : ZoneId) (inp : FrameIn) : Rests s (s.frameBoundary i inp) := by
  unfold State.frameBoundary
  split
  · exact .refl
  · dsimp only
    refine Rests.trans ?_ (State.onZone_rests fun hs => Zone.frameBody_still hs _ inp)
    split
    · exact State.setBegan_rests i false
    · exact State.frameStart_rests i

theorem State.tickBoundary_rests (i : ZoneId) : Rests s (s.tickBoundary i) := by
  unfold State.tickBoundary
  dsimp only
  split
  · exact .refl
  · exact (State.frameStart_rests i).trans (State.setBegan_rests i true)

theorem State.zslowEdge_rests (i : ZoneId) (a b : Bool) : Rests s (s.zslowEdge i a b) := by
  unfold State.zslowEdge
  split
  · exact .refl
  · have h : Rests s (s.onZone i (fun z _ => ((((((z.decFeed).slowEdge a b).slowTimers).hcmdApply).standstill).staleSet).cmRamp 750)) :=
      State.onZone_rests fun _ => by simp
    dsimp only
    split
    · exact (h.trans (State.hostTicks_rests i)).trans (State.onZone_rests fun hs => Zone.slowTickWork_still hs _)
    · exact h

/-! Commands of the link in their order (R312). -/

/-- The commands of the link that wait order of each zone no more than P. -/
def WaitOrders (P : ZoneId → Nat → Prop) (s : State) : Prop :=
  ∀ w ∈ s.host.proto.wait, ∀ (i : ZoneId) (o : Nat), Orders [o] i w → P i o

theorem WaitOrders.of_wait (h : WaitOrders P s) (e : t.host.proto.wait = s.host.proto.wait) : WaitOrders P t := by
  unfold WaitOrders
  rw [e]
  exact h

theorem State.drain_flows : ∀ (n : Nat) {s : State}, WaitOrders P s → Flows P s (State.drain n s)
  | 0, _, _ => .refl
  | n + 1, s, h => by
    unfold State.drain
    split
    · exact .refl
    next c w hw =>
      split
      · have hc := h c (by rw [hw]; simp)
        let s' : State := s.modHost (fun h => { h with proto := { h.proto with wait := w } })
        have h0 : Flows P s s' := ⟨rfl, fun _ => .refl⟩
        have h1 : Moves P s' (protoRun c s') := protoRun_moves hc
        have h2 : WaitOrders P s' := fun x hx => h x (by rw [hw]; exact List.mem_cons_of_mem _ hx)
        exact (h0.trans h1.flows).trans (State.drain_flows n (h2.of_wait h1.queues.2))
      · exact .refl

theorem State.flush_flows (h : WaitOrders P s) : Flows P s s.flush := by
  unfold State.flush
  have hv : Moves P s s.voiceDone := s.voiceDone_hostWork.moves
  exact hv.flows.trans (State.drain_flows _ (h.of_wait hv.queues.2))

theorem State.inOrder_flows {c : Instr} (h : WaitOrders P s) (hc : ∀ i o, Orders [o] i c → P i o) : Flows P s (s.inOrder c) := by
  unfold State.inOrder
  dsimp only
  split
  · exact (State.flush_flows h).trans (protoRun_moves hc).flows
  · exact (State.flush_flows h).trans ⟨rfl, fun _ => .refl⟩

theorem State.compatIn_flows {c : Instr} (h : WaitOrders P s) (hc : ∀ i o, Orders [o] i c → P i o) : Flows P s (s.compatIn c) := by
  unfold State.compatIn
  split
  · exact .refl
  · have hm (f : HostC → HostC) (hf : ∀ h, (f h).proto.wait = h.proto.wait) : Flows P s ((s.modHost f).inOrder c) :=
      (State.modHost_moves hf).flows.trans (State.inOrder_flows (h.of_wait (hf _)) hc)
    exact hm _ fun _ => rfl

theorem State.wake_flows (h : WaitOrders P s) (c : WakeCause) : Flows P s (s.wake c) := by
  unfold State.wake
  split
  · exact .refl
  split
  · exact (State.abandonSleep_moves 2).flows
  split
  · exact .refl
  · refine Flows.trans ?_ (State.flush_flows (h.of_wait ?_))
    · refine (State.mapped_moves (fun z => z.wakeNow_st) ?_).flows
      exact congrArg HProto.wait (HostC.wakeMark_proto _ _)
    · exact congrArg HProto.wait (HostC.wakeMark_proto _ _)

/-! Accesses of a party. -/

/-- An address that is no ZCTL.CMD orders nothing. -/
theorem Ordered.of_mod {a : Nat} {v : Word} (h : a % 0x10000 ≠ Reg.ZCTL_CMD) : Ordered P a v := by
  intro i o ho
  have hr : Reg.ZCTL_CMD = 0x20 := rfl
  refine absurd ?_ h
  rcases ho.1 with e | e <;> rw [e, hr]
  · unfold zoneAddr
    omega

theorem Ordered.of_off {i : ZoneId} {off : Nat} {v : Word} (h : off < 0x7400) (h' : off ≠ Reg.ZCTL_CMD) :
    Ordered P (zoneAddr i off) v := by
  refine Ordered.of_mod ?_
  unfold zoneAddr
  omega

theorem State.busWrite_moves {a : Nat} {v : Word} (h : Ordered P a v) : Moves P s (s.busWrite a v) := by
  unfold State.busWrite
  refine (State.regWrite_moves (p0 := s.host.p0ctl) (skip := 0) h).trans ?_
  exact State.modHost_moves fun _ => rfl

theorem State.busRead_moves (a : Nat) : Moves P s (s.busRead a) := by
  unfold State.busRead
  refine (State.regRead_moves a).trans ?_
  exact State.modHost_moves fun _ => rfl

theorem State.progWrite_moves (i : ZoneId) (off : Nat) (v : Word) : Moves P s (s.partyWrite .prog i off v) := by
  unfold State.partyWrite
  exact State.onZone_kept (by simp)

theorem State.progRead_moves (i : ZoneId) (off : Nat) : Moves P s (s.partyRead .prog i off) := by
  unfold State.partyRead
  exact State.onZone_steady (by simp)

theorem State.partyWrite_moves (p : Party) {i : ZoneId} {off : Nat} {v : Word} (h : Ordered P (zoneAddr i off) v) :
    Moves P s (s.partyWrite p i off v) := by
  cases p with
  | host => exact State.busWrite_moves h
  | prog => exact State.progWrite_moves i off v

theorem State.partyRead_moves (p : Party) (i : ZoneId) (off : Nat) : Moves P s (s.partyRead p i off) := by
  cases p with
  | host => exact State.busRead_moves _
  | prog => exact State.progRead_moves i off

theorem State.addrWrite_moves {p : Party} {a : Nat} {v : Word} (h : p = .host → Ordered P a v) :
    Moves P s (s.addrWrite p a v) := by
  unfold State.addrWrite
  split
  · exact State.progWrite_moves ..
  · exact .refl
  · exact State.busWrite_moves (h rfl)

theorem State.addrRead_moves (p : Party) (a : Nat) : Moves P s (s.addrRead p a) := by
  unfold State.addrRead
  split
  · exact State.progRead_moves ..
  · exact .refl
  · exact State.busRead_moves a

end relations

end Sys2Proof.Machine
end

section
namespace Sys2Proof.Machine

/-! Every command: its queue, and a zone in OFF or FENCED. -/

section exec
variable {P : ZoneId → Nat → Prop} {s : State}

/-- An event of a zone that leaves every zone in OFF or FENCED there. -/
theorem State.event_rests {i : ZoneId} {f : Zone → HostC → Zone}
    (h : ∀ z : Zone, Still z.ctl.st → (f z s.host).ctl.st = z.ctl.st) : Rests s (s.onZone i f) :=
  State.onZone_rests (h _)

/-- What is ordered in a zone that executes voice operations is ordered in none in OFF or FENCED. -/
theorem liveDo_rests {i : ZoneId} (f : Zone → HostC → Zone) :
    Rests s (s.onZone i (fun z h => if z.live then f z h else z)) :=
  State.event_rests fun _ hz => by simp [hz]

theorem slotRow_rests (i : ZoneId) (b : Bundle) : Rests s (s.onZone i (fun z h => z.issue h b)) :=
  State.onZone_rests fun hs => Zone.issue_still hs _ b

/-- A write of host software to a register of a zone that is not its ZCTL.CMD. -/
theorem State.busWriteOff_moves {i : ZoneId} {off : Nat} {v : Word} (h : off < 0x7400 ∧ off ≠ Reg.ZCTL_CMD) :
    Moves P s (s.busWrite (zoneAddr i off) v) :=
  State.busWrite_moves (.of_off h.1 h.2)

theorem pageBase_off {a : BitVec 24} {o : Nat} (h : o < 0x400 ∧ o ≠ 0x20) : (pageBase a + o) % 0x10000 ≠ Reg.ZCTL_CMD := by
  have hr : Reg.ZCTL_CMD = 0x20 := rfl
  rw [hr]
  unfold pageBase
  omega

theorem crcAddr_off (u : CrcUnit) {o : Nat} (h : o < 0x400) : crcAddr u o % 0x10000 ≠ Reg.ZCTL_CMD := by
  have hr : Reg.ZCTL_CMD = 0x20 := rfl
  rw [hr]
  cases u with
  | zcrc i =>
    simp only [crcAddr, zoneAddr]
    omega
  | hcrc1 =>
    simp only [crcAddr]
    omega

/-- An order by its own command (Table 1-6). -/
theorem State.zctl_moves {i : ZoneId} {op : Fin 16} (h : P i op.val) : Moves P s (s.zctl i op.val) := by
  have hi := i.isLt
  have ha : zoneAddr i Reg.ZCTL_CMD = 0x100000 + i.val * 0x10000 + 0x20 := rfl
  have hf : fld (BitVec.ofNat 32 (0xA500 + op.val)) 3 0 = op.val := by clear h; revert op; decide
  unfold State.zctl
  refine State.busWrite_moves fun j o ho => ?_
  obtain ⟨hj, -, ho⟩ := ho
  have hij : j = i := by
    have hj' : zoneAddr j Reg.ZCTL_CMD = 0x100000 + j.val * 0x10000 + 0x20 := rfl
    have hc : 0x180000 + Reg.ZCTL_CMD = 0x180020 := rfl
    exact Fin.ext (by omega)
  have ho' : op.val = o := by simpa [hf] using ho
  rw [hij, ← ho']
  exact h

theorem exec_obeys {c : Instr} (hr : ¬ DeviceResets c) (hc : ∀ i o, Orders [o] i c → P i o) (hw : WaitOrders P s) :
    Completes c s (Obeys P s) := by
  cases c
  case enable z => exact ⟨_, rfl, (State.zctl_moves (op := 1) (hc z 1 ⟨rfl, by simp⟩)).obeys⟩
  case disable z => exact ⟨_, rfl, (State.zctl_moves (op := 2) (hc z 2 ⟨rfl, by simp⟩)).obeys⟩
  case resetWarm z => exact ⟨_, rfl, (State.zctl_moves (op := 3) (hc z 3 ⟨rfl, by simp⟩)).obeys⟩
  case resetCold z => exact ⟨_, rfl, (State.zctl_moves (op := 4) (hc z 4 ⟨rfl, by simp⟩)).obeys⟩
  case run z => exact ⟨_, rfl, (State.zctl_moves (op := 5) (hc z 5 ⟨rfl, by simp⟩)).obeys⟩
  case resume z => exact ⟨_, rfl, (State.zctl_moves (op := 6) (hc z 6 ⟨rfl, by simp⟩)).obeys⟩
  case fence z => exact ⟨_, rfl, (State.zctl_moves (op := 7) (hc z 7 ⟨rfl, by simp⟩)).obeys⟩
  case recover z => exact ⟨_, rfl, (State.zctl_moves (op := 8) (hc z 8 ⟨rfl, by simp⟩)).obeys⟩
  -- bundles of a zone's DSP
  case macMnop | mpy | mac | msu | gmpy | gmac | dmpy | dmac | dmac2 | wmpy | wmac | wgmac | ald | aadd | asub | aclr | anop
      | mov | add | sub | neg | abs | min | max | and | or | xor | shra | shra8 | shl | ldi | ldis | cmpeq | cmplt | cmple
      | rdacc | sts | stg | fclr | hmov | br | loop | endRoutine | memMnop | ldw | stw | lde | ste | tap | ioRead | ioWrite
      | pts => exact ⟨_, rfl, (slotRow_rests _ _).obeys⟩
  -- what is ordered in a zone that executes voice operations
  case vstart | vrel | vkill | vctl | retrig | swap | mode | msg | gain | handler => exact ⟨_, rfl, (liveDo_rests _).obeys⟩
  -- writes of host software to a zone
  case wdogWrite | frefRate | epochArm | epochDisarm | setpos | setvel | posMode | swapset | post | cancel | flush | validate
      | greqLo | stoneCfg | dspRun | clra | clrb | storeBase | clearBase | ampReset | spanRequest | mute | pilotRequest
      | tdmCfg => exact ⟨_, rfl, (State.busWriteOff_moves (by decide)).obeys⟩
  case tmrNext n _ | tmrCtl n _ | forceEnd n | srst n | cdataLo n _ | freq n _ =>
    exact ⟨_, rfl, (State.busWriteOff_moves (by clear hr hc; revert n; decide)).obeys⟩
  case armAtTgt p _ | armNext p | armAtTgtCopy p _ | armNextCopy p | disarm p =>
    exact ⟨_, rfl, (State.busWriteOff_moves (by clear hr hc; revert p; decide)).obeys⟩
  -- accesses of either party
  case wdogKick | vwinDataWrite | dwinDataWrite | rwinDataWrite =>
    exact ⟨_, rfl, (State.partyWrite_moves _ (.of_off (by decide) (by decide))).obeys⟩
  case vwinDataRead | dwinDataRead | rwinDataRead | btickRead | wdataRead | latchRead =>
    exact ⟨_, rfl, (State.partyRead_moves ..).obeys⟩
  case cdataHi => exact ⟨_, rfl, (State.busRead_moves _).obeys⟩
  -- events of a zone
  case initComplete | initSlow | testComplete | wdog | trapBucketLeak | router | regulatorTrip | orphan | hcloss
      | holdover | holdoverLimit | slewComplete | standstill | stale | hcmdApply
      | spliceWindowEnd | gramp | overrun | crossFadeEnd | aecInstant | erleWindow
      | intervalEnd | ampfault | spanSwitch | cmok | unmute | clrnAssert | clrnRelease
      | clrCrossFade | slip | tdmLock | debugHaltEnd | scrubPass | borrow | vanaFail
      | zvaInRegulation =>
    exact ⟨_, rfl, (State.event_rests fun _ hz => by simp [hz]).obeys⟩
  case tachEdge | periodEnd | copyDone | presetCopy | successorStart | ovl | ovlClear | dtHoldEnd | checkpoint
      | ampenRelease | holdTimeout | burst | debugHalt | correctedWriteBack =>
    exact ⟨_, rfl, (State.event_rests fun _ hz => by simp [hz]).obeys⟩
  case frefEdge => exact ⟨_, rfl, (State.event_rests fun _ hz => Zone.frefStep_still hz ..).obeys⟩
  case loadEdge => exact ⟨_, rfl, (State.event_rests fun _ hz => Zone.loadEdge_still hz _).obeys⟩
  -- writes and reads of host software in the host complex
  case sgArm | sgDisarm | mount | unmount | load | unfence | xcmd | modeArm | modeArmNext | abort | sleepArm | installOpk
      | revokeOpk | setCek | setTgk | installSt | removeSt | setFloor | setCfloor | genkey | provision | takeOwner | lockField
      | unlock | rma | rmaMaker | remake | kill =>
    exact ⟨_, rfl, (State.busWrite_moves (.of_mod (by decide))).obeys⟩
  case nvmData wr =>
    cases wr with
    | some v => exact ⟨_, rfl, (State.busWrite_moves (.of_mod (by decide))).obeys⟩
    | none => exact ⟨_, rfl, (State.busRead_moves _).obeys⟩
  case pgLock => exact ⟨_, rfl, (State.busWrite_moves (.of_mod (pageBase_off (by decide)))).obeys⟩
  -- accesses by address
  case crcFeed u p size v =>
    exact ⟨_, rfl, (State.addrWrite_moves fun _ => .of_mod (crcAddr_off u (by cases size <;> decide))).obeys⟩
  case start u p => exact ⟨_, rfl, (State.addrWrite_moves fun _ => .of_mod (crcAddr_off u (by decide))).obeys⟩
  case cur u p v => exact ⟨_, rfl, (State.addrWrite_moves fun _ => .of_mod (crcAddr_off u (by decide))).obeys⟩
  case clrcnt => exact ⟨_, rfl, (State.addrWrite_moves fun _ => .of_mod (pageBase_off (by decide))).obeys⟩
  case rcRead => exact ⟨_, rfl, (State.addrRead_moves ..).obeys⟩
  case registerWrite a p v => exact ⟨_, rfl, (State.addrWrite_moves fun hp i o ho => hc i o ⟨hp, ho⟩).obeys⟩
  -- commands of the link
  case ping | ident | regWrite | regRead | voice | eventPost | bulkWr | bulkRd | msgack | hello | auth | close | resumeSession
      | status | getcert => exact ⟨_, rfl, (State.inOrder_flows hw hc).obeys⟩
  case write | read | pingCompat => exact ⟨_, rfl, (State.compatIn_flows hw hc).obeys⟩
  case transmitFrame o => exact ⟨_, rfl, ((State.flush_flows hw).trans (State.transmitFrame_moves o).flows).obeys⟩
  case messageResend => exact ⟨_, rfl, State.messageResend_moves.obeys⟩
  case frameReceived f =>
    refine ⟨_, rfl, Moves.obeys ?_⟩
    split
    · exact State.frameReceived_moves f
    · exact .refl
  case recordCreated src cls code p =>
    refine ⟨_, rfl, Moves.obeys ?_⟩
    split
    · exact .refl
    split
    · exact State.onZone_kept (Zone.send_st ..)
    · exact (State.hsend_hostWork ..).moves
  -- boundaries, sleep and wake
  case frameBoundary i inp =>
    have h := State.frameBoundary_rests (s := s) i inp
    exact ⟨_, rfl, h.then (State.flush_flows (hw.of_wait h.queues.2))⟩
  case tickBoundary i =>
    have h := State.tickBoundary_rests (s := s) i
    exact ⟨_, rfl, h.then (State.flush_flows (hw.of_wait h.queues.2))⟩
  case zslowEdge i a b =>
    have h := State.zslowEdge_rests (s := s) i a b
    exact ⟨_, rfl, h.then (State.flush_flows (hw.of_wait h.queues.2))⟩
  case sleepEntry i => exact ⟨_, rfl, (State.sleepEnter_moves i).obeys⟩
  case wake c => exact ⟨_, rfl, (State.wake_flows hw c).obeys⟩
  -- Avhar and content
  case fetchSlot => exact ⟨_, rfl, (State.fetchSlot_moves _).obeys⟩
  case vglitch => exact ⟨_, rfl, (State.tamper_moves ..).obeys⟩
  case temp =>
    refine ⟨_, rfl, Moves.obeys (Moves.trans ?_ (State.tamper_moves ..))⟩
    exact State.modHost_moves fun _ => rfl
  case keyrec k => exact ⟨_, rfl, (State.keyrec_moves k).obeys⟩
  case clkmon => exact ⟨_, rfl, State.clkmon_moves.obeys⟩
  case puf => exact ⟨_, rfl, State.puf_moves.obeys⟩
  case shield => exact ⟨_, rfl, State.shield_moves.obeys⟩
  case tempInRange =>
    refine ⟨_, rfl, Flows.obeys (Flows.trans ?_ (State.flush_flows (hw.of_wait rfl)))⟩
    exact ⟨rfl, fun _ => .refl⟩
  case p0Check =>
    refine ⟨_, rfl, Moves.obeys ?_⟩
    split
    · exact .refl
    · exact (State.p0Check_hostWork ..).moves
  case handshakeTimeout =>
    refine ⟨_, rfl, Moves.obeys ?_⟩
    split
    · exact .refl
    · exact State.modHost_moves fun _ => rfl
  case linkBreak => exact ⟨_, rfl, s.linkBreak_hostWork.moves.obeys⟩
  case timeout => exact ⟨_, rfl, s.linkTimeout_hostWork.moves.obeys⟩
  case wakeEdge => exact ⟨_, rfl, (s.wakeEdge_hostWork _ _).moves.obeys⟩
  case syncPulse => exact ⟨_, rfl, (s.syncPulse_hostWork _).moves.obeys⟩
  case message => exact ⟨_, rfl, s.message_hostWork.moves.obeys⟩
  case nonceExpiry => exact ⟨_, rfl, s.nonceExpiry_hostWork.moves.obeys⟩
  case debugOpen => exact ⟨_, rfl, (s.debugOpen_hostWork _ _).moves.obeys⟩
  case ready => exact ⟨_, rfl, s.ready_hostWork.moves.obeys⟩
  case x32Check => exact ⟨_, rfl, (s.x32Check_hostWork _).moves.obeys⟩
  case slept => exact ⟨_, rfl, s.slept_hostWork.moves.obeys⟩
  case avharClockReturn =>
    refine ⟨_, rfl, Moves.obeys ?_⟩
    exact State.modHost_moves fun _ => rfl
  case deviceReset | brownOut => exact absurd trivial hr

end exec

/-! The whole device. -/

theorem Orders.mono {ops ops' : List Nat} {i : ZoneId} {c : Instr} (h : ops ⊆ ops') (ho : Orders ops i c) : Orders ops' i c := by
  have word {a : Nat} {v : Word} (hw : OrderWord ops i a v) : OrderWord ops' i a v := ⟨hw.1, hw.2.1, h hw.2.2⟩
  cases c
  case enable | disable | resetWarm | resetCold | run | resume | fence | recover => exact ⟨ho.1, h ho.2⟩
  case registerWrite => exact ⟨ho.1, word ho.2⟩
  case regWrite | write =>
    obtain ⟨k, hk⟩ := ho
    exact ⟨k, word hk⟩
  all_goals exact ho.elim

theorem OrdersNow.mono {ops ops' : List Nat} {i : ZoneId} {c : Instr} {s : State} (h : ops ⊆ ops') (ho : OrdersNow ops i c s) :
    OrdersNow ops' i c s :=
  ho.imp (Orders.mono h) fun ⟨w, hw, ho⟩ => ⟨w, hw, ho.mono h⟩

/-- Settles O59: a command obeys the orders that it gives and those that have waited. -/
theorem offAndFenced : Obligations.OffAndFenced := by
  intro c s t i hr he
  have h := exec_obeys (P := fun i o => OrdersNow [o] i c s) (s := s) hr (fun _ _ => .inl) (fun w hw _ _ ho => .inr ⟨w, hw, ho⟩)
  obtain ⟨t', he', h⟩ := h
  obtain rfl : t' = t := by
    rw [he] at he'
    cases he'
    rfl
  refine ⟨fun ho hn => ?_, fun hf hn => ?_⟩
  · have hi := h.st i (.inl ho)
    exact (hi.fromOff ho).resolve_left hn
  · have hi := (h.st i (.inr hf)).within (.inr (.inl hf))
    rcases hi with e | e | ⟨e, ho⟩ | ⟨e, ho⟩
    · exact .inl e
    · exact absurd e hn
    · refine .inr (.inr ⟨e, ?_⟩)
      rcases ho with ho | ho | ho <;> exact ho.mono (by simp)
    · exact .inr (.inl ⟨e, ho⟩)

/-- Any order: what is left of a way is that the queues are kept. -/
abbrev anyOrder : ZoneId → Nat → Prop := fun _ _ => True

theorem bootStep_moves (r : BootRun) (e : Nat) : Moves anyOrder r.s (bootStep r e).s := by
  unfold bootStep
  split
  · exact .refl
  · extract_lets at0 n w a v stop
    split
    · split
      · exact .refl
      · have hx : Moves anyOrder r.s (r.s.regWrite false 0 a v).s := State.regWrite_moves fun _ _ _ => trivial
        split
        · exact hx
        · exact hx
    · have hx : Moves anyOrder r.s (r.s.regRead a).s := State.regRead_moves a
      split
      · exact hx
      · dsimp only
        split_ifs
        all_goals exact hx.host rfl
    · split
      · exact .refl
      · exact .refl
    · exact .refl

theorem State.boot_pending (s : State) : s.boot.pending = s.pending := by
  unfold State.boot
  split
  · rfl
  · split
    · rfl
    · have h := foldlAns_moves (g := BootRun.s) bootStep_moves
        (List.range (leNat (byRead s.host.nvm.mem (0x11000 + 8) 4))) ⟨0, false, 0, 0, 0, s⟩
      rw [State.modHost_pending]
      exact h.queues.1

/-- A device reset keeps the queue. -/
theorem State.deviceReset_pending (s : State) (cause : ResetCause) (ta : BitVec 2) :
    (s.deviceReset cause ta).pending = s.pending := by
  have hm (t : State) (o n p : Nat) : (t.lcsChange o n p).pending = t.pending := (State.lcsChange_hostWork ..).2.1
  have hs (t : State) (c : Nat) (p : List Byte) : (t.secMsg c p).pending = t.pending := (State.secMsg_hostWork ..).2.1
  unfold State.deviceReset
  dsimp only
  rw [State.boot_pending]
  split
  · rw [hm]
    split
    · rw [hs]
    · rfl
  · split
    · rw [hs]
    · rfl

/-- Settles O53: a device reset by its own steps, every other command as one that obeys its orders; the rest by the two rows that
check their lengths. -/
theorem queueKept : Obligations.QueueKept := by
  refine ⟨fun c s => ?_, fun f s hf => ?_, fun src cls code p s hp => ?_⟩
  · by_cases hr : DeviceResets c
    · cases c
      case deviceReset cause ta => exact ⟨_, rfl, s.deviceReset_pending cause ta⟩
      case brownOut cause =>
        cases cause
        case vcore | vaux | vio => exact ⟨_, rfl, s.deviceReset_pending _ _⟩
        all_goals exact ⟨_, rfl, rfl⟩
      all_goals exact hr.elim
    · obtain ⟨t, he, ht⟩ := exec_obeys (P := fun _ _ => True) (s := s) hr (fun _ _ _ => trivial) (fun _ _ _ _ _ => trivial)
      exact ⟨t, he, ht.pending⟩
  · have hn : ¬ f.payload.length ≤ 255 := by omega
    change execFrameReceived f s = .next s
    unfold execFrameReceived
    rw [if_neg hn]
  · change execRecordCreated src cls code p s = .next s
    unfold execRecordCreated
    rw [if_pos hp]

end Sys2Proof.Machine
end

section
namespace Sys2Proof.Machine

/-! O8. -/

/-- What a completed command's effect says, said of the state that the command's meaning names. -/
theorem Completes.of_next {c : Instr} {s u : State} {P : State → Prop} (h : Completes c s P) (hc : exec c s = .next u) : P u := by
  obtain ⟨t, ht, hp⟩ := h
  rw [hc] at ht
  cases ht
  exact hp

/-- A fenced zone in sleep entry: its counters run from ZSLOW, the next edge brings the tick boundary at which it stops (Table
19-7). -/
def stoppingZone : Zone :=
  { Zone.reset 0 with
    ctl := { (Zone.reset 0).ctl with st := .fenced }
    pwr := { (Zone.reset 0).pwr with slp := some 51 }
    time := { (Zone.reset 0).time with frame := 94 } }

/-- A device that enters sleep, with that zone. -/
def stoppingDevice : State :=
  { State.reset with
    zones := State.reset.zones.set 0 stoppingZone
    host := { State.reset.host with pwr := { State.reset.host.pwr with pstate := 1 } } }

/-- Refutes O8: at the tick at which a zone stops for sleep Zone.toSlow empties the accumulator of R50, so that an edge of ZSLOW
with that tick leaves 0 in it, not (0 + 375) mod 128. -/
theorem not_frameCounting : ¬ Obligations.FrameCounting := by
  unfold Obligations.FrameCounting
  intro h
  obtain ⟨_, _, _, _, hslow, _⟩ := h stoppingDevice 0 stoppingZone (by decide +kernel) rfl
  obtain ⟨_, hacc, _⟩ := (hslow false false rfl rfl).of_next (u := (stoppingDevice.zslowEdge 0 false false).flush) rfl
  exact absurd hacc (by decide +kernel)

end Sys2Proof.Machine
end

section
namespace Sys2Proof.Machine

/-! Bits of a word, and what reads of a zone's registers give after writes. -/

theorem bit_eq_fld (w : Word) (i : Nat) : bit w i = (fld w i i == 1) := by
  unfold bit fld
  rw [Nat.add_sub_cancel_left, pow_one]

theorem bit_eq_getLsbD (w : Word) (i : Nat) : bit w i = w.getLsbD i := by
  unfold bit
  rw [BitVec.getLsbD, Nat.testBit_eq_decide_div_mod_eq]
  rfl

theorem bit_and (v w : Word) (i : Nat) : bit (v &&& w) i = (bit v i && bit w i) := by
  simp only [bit_eq_getLsbD, BitVec.getLsbD_and]

theorem bit_or (v w : Word) (i : Nat) : bit (v ||| w) i = (bit v i || bit w i) := by
  simp only [bit_eq_getLsbD, BitVec.getLsbD_or]

/-- A field above one that is written. -/
theorem fld_setFld_above {w : Word} {hi lo hi' lo' v : Nat} (h : lo ≤ hi) (h' : hi < 32) (hb : hi < lo') :
    fld (setFld w hi lo v) hi' lo' = fld w hi' lo' := by
  have e1 : 2 ^ (hi + 1) = 2 ^ (hi + 1 - lo) * 2 ^ lo := by rw [← pow_add]; congr 1; omega
  have e2 : lo' = (hi + 1) + (lo' - (hi + 1)) := by omega
  have hm : w.toNat % 2 ^ lo < 2 ^ lo := Nat.mod_lt _ (by positivity)
  have hf : v % 2 ^ (hi + 1 - lo) < 2 ^ (hi + 1 - lo) := Nat.mod_lt _ (by positivity)
  have low : v % 2 ^ (hi + 1 - lo) * 2 ^ lo + w.toNat % 2 ^ lo < 2 ^ (hi + 1) := by
    have : (v % 2 ^ (hi + 1 - lo) + 1) * 2 ^ lo ≤ 2 ^ (hi + 1) := by rw [e1]; exact Nat.mul_le_mul_right _ hf
    linarith
  have high : (setFld w hi lo v).toNat / 2 ^ (hi + 1) = w.toNat / 2 ^ (hi + 1) := by
    rw [toNat_setFld h h', add_assoc, mul_comm, Nat.mul_add_div (by positivity), Nat.div_eq_of_lt low, add_zero]
  unfold fld
  rw [e2, pow_add, ← Nat.div_div_eq_div_mul, ← Nat.div_div_eq_div_mul, high]

theorem bit_setBit_same {w : Word} {i : Nat} (h : i < 32) (b : Bool) : bit (setBit w i b) i = b := by
  rw [bit_eq_fld, setBit, fld_setFld_same (le_refl i) h, Nat.add_sub_cancel_left]
  cases b <;> rfl

theorem bit_setBit_ne {w : Word} {i j : Nat} (h : i < 32) (hj : j ≠ i) (b : Bool) : bit (setBit w i b) j = bit w j := by
  rw [bit_eq_fld, bit_eq_fld, setBit]
  rcases Nat.lt_or_gt_of_ne hj with hlt | hgt
  · rw [fld_setFld_below (le_refl i) h hlt (le_refl j)]
  · rw [fld_setFld_above (le_refl i) h hgt]

section regs
variable {z : Zone} (h : z.regsWf = true)
include h

theorem Zone.bit_putBit_same (k : Nat) {i : Nat} (hi : i < 32) (b : Bool) : bit ((z.putBit k i b).reg k) i = b := by
  rw [Zone.reg_putBit h, if_pos rfl, bit_setBit_same hi]

theorem Zone.bit_putBit_ne (k : Nat) {i j : Nat} (hi : i < 32) (hj : j ≠ i) (b : Bool) :
    bit ((z.putBit k i b).reg k) j = bit (z.reg k) j := by
  rw [Zone.reg_putBit h, if_pos rfl, bit_setBit_ne hi hj]

theorem Zone.reg_putBit_ne {k j : Nat} (hj : j ≠ k) (i : Nat) (b : Bool) : (z.putBit k i b).reg j = z.reg j := by
  rw [Zone.reg_putBit h, if_neg hj]

/-- A count grows as Counted says. -/
theorem Zone.count_counted (k : Nat) {hi lo : Nat} (hl : lo ≤ hi) (hh : hi < 32) (n : Nat) :
    Counted k hi lo n z (z.count k hi lo n) := by
  have hp : 0 < 2 ^ (hi + 1 - lo) := by positivity
  unfold Counted
  rw [Zone.reg_count h, if_pos rfl, fld_setFld_same hl hh, satAdd_eq_min, Nat.mod_eq_of_lt]
  exact lt_of_le_of_lt (min_le_left _ _) (Nat.sub_lt hp one_pos)

end regs

/-- A count in a zone whose register is as it was when it grew. -/
theorem Counted.congr {k hi lo n : Nat} {z y x : Zone} (h : Counted k hi lo n z y) (e : x.reg k = y.reg k) :
    Counted k hi lo n z x := by
  unfold Counted
  rw [e]
  exact h

/-! Vectors changed at an index. -/

theorem vmod_self {α : Type} {n : Nat} (v : Vector α n) (i : Fin n) (f : α → α) : (vmod v i f)[i] = f v[i] := by
  simp [vmod]

theorem vmod_ne {α : Type} {n : Nat} (v : Vector α n) {i j : Fin n} (h : j ≠ i) (f : α → α) : (vmod v i f)[j] = v[j] := by
  have hne : i.val ≠ j.val := fun e => h (Fin.ext e.symm)
  simp [vmod, hne]

/-! Records and registers. -/

/-- A zone with other messages, and with other words in registers of a list. -/
def Noted (l : List Nat) (z z' : Zone) : Prop := ∃ q r, z' = { z with msgs := q, regs := r } ∧ RegMapBut l z r

/-- The same of a zone with the same registers. -/
theorem RegMapBut.of_regs {l : List Nat} {y z : Zone} {r : RegMap} (h : RegMapBut l y r) (e : y.regs = z.regs) :
    RegMapBut l z r := ⟨h.1, fun k hk => (h.2 k hk).trans (congrArg (fun m => smGet zoneRst m k) e)⟩

theorem Noted.refl {l : List Nat} {z : Zone} (h : z.regsWf = true) : Noted l z z := ⟨z.msgs, z.regs, rfl, .refl h⟩

theorem Noted.trans {l : List Nat} {a b c : Zone} (h : Noted l a b) (h' : Noted l b c) : Noted l a c := by
  obtain ⟨q, r, rfl, w⟩ := h
  obtain ⟨q', r', rfl, w'⟩ := h'
  exact ⟨q', r', rfl, RegMapBut.trans w w'⟩

theorem Noted.mono {l l' : List Nat} {a b : Zone} (h : Noted l a b) (hl : l ⊆ l') : Noted l' a b := by
  obtain ⟨q, r, e, w⟩ := h
  exact ⟨q, r, e, w.mono hl⟩

theorem Noted.setReg {l : List Nat} {z : Zone} (h : z.regsWf = true) {k : Nat} (hk : k ∈ l) (v : Word) :
    Noted l z (z.setReg k v) := ⟨z.msgs, _, rfl, (RegMapBut.refl h).set hk v⟩

theorem Noted.putBit {l : List Nat} {z : Zone} (h : z.regsWf = true) {k : Nat} (hk : k ∈ l) (i : Nat) (b : Bool) :
    Noted l z (z.putBit k i b) := Noted.setReg h hk _

theorem Noted.count {l : List Nat} {z : Zone} (h : z.regsWf = true) {k : Nat} (hk : k ∈ l) (hi lo n : Nat) :
    Noted l z (z.count k hi lo n) := Noted.setReg h hk _

theorem Noted.send {l : List Nat} {z : Zone} (h : z.regsWf = true) (hl : Reg.MSG_DROPPED ∈ l) (cls code : Nat)
    (params : List Byte) : Noted l z (z.send cls code params) := Zone.send_but h hl cls code params

theorem Noted.wf {l : List Nat} {a b : Zone} (h : Noted l a b) : b.regsWf = true := by
  obtain ⟨q, r, rfl, w⟩ := h
  exact w.1

theorem Noted.reg {l : List Nat} {a b : Zone} (h : Noted l a b) {k : Nat} (hk : k ∉ l) : b.reg k = a.reg k := by
  obtain ⟨q, r, rfl, w⟩ := h
  exact w.2 k hk

/-! What happens in the time, the position and the timers of a quiet zone. -/

/-- State, governor, voices and queue are as before: the zone has nothing to settle, and nothing for the host complex. -/
abbrev Apart (z n : Zone) : Prop := n.ctl = z.ctl ∧ n.gov = z.gov ∧ n.vox = z.vox ∧ n.sched = z.sched

theorem Noted.apart {l : List Nat} {z n : Zone} (h : Noted l z n) : Apart z n := by
  obtain ⟨q, r, rfl, w⟩ := h
  exact ⟨rfl, rfl, rfl, rfl⟩

section quiet
variable {s : State} {i : ZoneId} {c : Instr} {z n : Zone} {f : Zone → HostC → Zone} (hz : s.zones[i] = z) (hq : Quiet s i)
include hz hq

theorem Quiet.regsWf : z.regsWf = true := by
  rw [← hz]
  exact (State.wf_zone hq.2.2.2.1 i).1

theorem Apart.settled (ha : Apart z n) : Settled z n := by
  obtain ⟨e1, e2, e3, _⟩ := ha
  subst hz
  exact .of_st (by rw [e2]; exact hq.1) (by rw [e3]; exact hq.2.2.2.2) (by rw [e1])

theorem Apart.told (ha : Apart z n) : Told n := by
  obtain ⟨_, e2, e3, e4⟩ := ha
  subst hz
  rw [Told, e2, e3, e4]
  exact hq.2.2.1

/-- An event that may create records or change the lock. -/
theorem event_apart (hc : exec c s = inZoneH s i f) (hn : f z s.host = n) (ha : Apart z n) :
    Completes c s (fun t => t.zones[i] = n ∧ OnlyZone i s t) := by
  have hs := Apart.settled hz hq ha
  have ht := Apart.told hz hq ha
  subst hz
  refine (event_only hc hq hn hs).imp (fun t h => ?_)
  rw [Zone.taken_told ht] at h
  exact h

/-- An event that does neither. -/
theorem event_alone (hc : exec c s = inZoneH s i f) (hn : f z s.host = n) (ha : Apart z n)
    (hm : n.msgs.nseq = z.msgs.nseq) (hl : n.pll.lock = z.pll.lock) :
    Completes c s (fun t => t.zones[i] = n ∧ Lone i s t) := by
  have hs := Apart.settled hz hq ha
  have ht := Apart.told hz hq ha
  subst hz
  exact event_lone hc hq hn hs ht hm hl

/-- A write of host software that does neither. -/
theorem write_alone {off : Nat} {v : Word} (hc : exec c s = .next (s.partyWrite .host i off v)) (hoff : off < 0x7400)
    (hn : ∀ p0, z.regWrite s.host .host p0 off v = (0, n)) (ha : Apart z n)
    (hm : n.msgs.nseq = z.msgs.nseq) (hl : n.pll.lock = z.pll.lock) :
    Completes c s (fun t => t.zones[i] = n ∧ Lone i s t) := by
  have hs := Apart.settled hz hq ha
  have ht := Apart.told hz hq ha
  subst hz
  exact write_lone hc hq hoff (fun p0 => by rw [hn]) hs ht hm hl

/-- A read of host software that does neither. -/
theorem read_alone {off : Nat} {w : Word} (hc : exec c s = .next (s.partyRead .host i off)) (hoff : off < 0x7400)
    (hr : z.regRead .host off = ⟨0, w, n⟩) (ha : Apart z n) (hm : n.msgs.nseq = z.msgs.nseq)
    (hl : n.pll.lock = z.pll.lock) :
    Completes c s (fun t => t.host.bus.data = w ∧ t.host.bus.reason = 0 ∧ t.zones[i] = n ∧ Lone i s t) := by
  have ht := Apart.told hz hq ha
  have he : s.partyRead .host i off = (s.gather i z n).modHost (fun h => { h with bus := { h.bus with
      data := w, reason := 0, detail := 0 } }) := by
    change s.busRead (zoneAddr i off) = _
    unfold State.busRead State.regRead
    rw [placeOf_zoneAddr i hoff]
    dsimp only
    rw [hz, hr]
  have hg := zones_of_set (gather_zones (i := i) (o := z) (n := n) hq.2.1)
  have hh := gather_host (i := i) (o := z) hq.2.1 ht hm hl
  have hp := gather_pending (s := s) (i := i) (o := z) (n := n)
  refine ⟨_, hc, ?_⟩
  rw [he]
  generalize s.gather i z n = t at hg hh hp
  rw [Zone.taken_told ht] at hg
  exact ⟨rfl, rfl, hg.1, ⟨hg.2, hp⟩, by rw [SameHost, ← hh]; rfl⟩

end quiet

/-- A write of a plain register by host software: its RW bits m are stored. -/
theorem Zone.regWrite_plain {z : Zone} {off m : Nat} {h : HostC} {p0 : Bool} {v : Word} {r : RegSpec}
    (hg : Grants z .host off) (ho : 0x20 ≤ off % 0x400) (hr : zoneSpec off = some r)
    (hb : z.blockWrite h .host p0 r v = (0, z.plainWrite r v)) (hx : r.off = off ∧ r.rw = m ∧ r.w1c = 0) :
    z.regWrite h .host p0 off v = (0, z.stores off (BitVec.ofNat 32 m) v) := by
  obtain ⟨rfl, rfl, hw⟩ := hx
  rw [Zone.regWrite_granted hg ho hr, hb, Zone.plainWrite_stores z hw]

/-- A write of another register by host software: what its block does. -/
theorem Zone.regWrite_block {z : Zone} {off : Nat} {h : HostC} {p0 : Bool} {v : Word} {r : RegSpec} {n : Zone}
    (hg : Grants z .host off) (ho : 0x20 ≤ off % 0x400) (hr : zoneSpec off = some r)
    (hb : z.blockWrite h .host p0 r v = (0, n)) : z.regWrite h .host p0 off v = (0, n) := by
  rw [Zone.regWrite_granted hg ho hr, hb]

end Sys2Proof.Machine
end

section
namespace Sys2Proof.Machine

/-! Edges of FREF (R28–R33). -/

section edges
variable {z : Zone} {interval : Nat} {e : Int} {sync : Bool}

/-- An edge at which SYNC does not fall is no load edge (R37). -/
theorem Zone.frefStep_noFall (hs : sync = true ∨ z.time.syncHi = false) (h : HostC) :
    z.frefStep h interval e sync = z.frefEdge interval e sync := by
  unfold Zone.frefStep
  rcases hs with hs | hs
  · simp [hs]
  · simp [hs]

/-- An edge in lock is judged, and that is all (R31). -/
theorem Zone.frefEdge_locked (hr : z.pllRuns = true) (hl : z.pll.lock = true) :
    z.frefEdge interval e sync = z.edgeSeen interval e sync := by
  have hl' : (z.edgeSeen interval e sync).pll.lock = true := hl
  unfold Zone.frefEdge
  simp only [hr, hl', Bool.not_true, Bool.false_eq_true, if_false, if_true]

/-- The sixteenth valid edge in holdover begins the slew (R33 step 1). -/
theorem Zone.frefEdge_slews (hr : z.pllRuns = true) (hl : z.pll.lock = false) (hh : z.pll.hold = true) (hi : z.ctl.st ≠ .init)
    (hs : z.pll.slewing = false) (hv : 15 ≤ z.pll.valid) (ok : frefValid z.pll.rate interval = true) :
    z.frefEdge interval e sync = { z.edgeSeen interval e sync with
      pll := { (z.edgeSeen interval e sync).pll with slewing := true, slewE := e, slewN := 0 } } := by
  have hl' : (z.edgeSeen interval e sync).pll.lock = false := hl
  have hh' : (z.edgeSeen interval e sync).pll.hold = true := hh
  have hs' : (z.edgeSeen interval e sync).pll.slewing = false := hs
  have hv' : 16 ≤ (z.edgeSeen interval e sync).pll.valid := by
    change 16 ≤ if frefValid z.pll.rate interval then min 16 (z.pll.valid + 1) else 0
    rw [if_pos ok]
    omega
  unfold Zone.frefEdge
  simp [hr, hl', hh', hs', hi, hv']

/-- The sixteenth valid edge with a small error locks by a step (R29, R30). -/
theorem Zone.frefEdge_locks (hr : z.pllRuns = true) (hl : z.pll.lock = false) (hh : z.pll.hold = false)
    (hv : 15 ≤ z.pll.small) (he : (e - z.pll.ref).natAbs ≤ 4) (ok : frefValid z.pll.rate interval = true) :
    z.frefEdge interval e sync = (z.edgeSeen interval e sync).lockStep e := by
  have hl' : (z.edgeSeen interval e sync).pll.lock = false := hl
  have hh' : (z.edgeSeen interval e sync).pll.hold = false := hh
  have hv' : 16 ≤ (z.edgeSeen interval e sync).pll.small := by
    change 16 ≤ if (!frefValid z.pll.rate interval) = true then 0
      else if decide (0 < z.pll.small ∧ (e - z.pll.ref).natAbs ≤ 4) = true then min 16 (z.pll.small + 1) else 1
    rw [ok, if_neg (by decide), if_pos (decide_eq_true ⟨by omega, he⟩)]
    omega
  unfold Zone.frefEdge
  simp [hr, hl', hh', hv']

end edges

/-! Load edges (R37). -/

/-- A load edge with nothing armed is counted (R37). -/
theorem Zone.loadAct_unarmed {z : Zone} {h : HostC} (hn : z.time.est = false) (hr : z.pllRuns = true)
    (ha : bit (z.reg Reg.TIME_EPOCH_CTL) 0 = false) : z.loadAct h = z.count Reg.TIME_SYNC_CNT 31 16 1 := by
  unfold Zone.loadAct
  simp [hr, ha, hn]

/-- A load edge of a zone that is armed but not locked does nothing (R37). -/
theorem Zone.loadAct_unlocked {z : Zone} {h : HostC} (hn : z.time.est = false) (hr : z.pllRuns = true)
    (ha : bit (z.reg Reg.TIME_EPOCH_CTL) 0 = true) (hl : z.pll.lock = false) : z.loadAct h = z := by
  unfold Zone.loadAct
  simp [hr, ha, hn, hl]

/-- A load edge with a CHECK armed (R37). -/
theorem Zone.loadAct_check {z : Zone} {h : HostC} (hn : z.time.est = false) (hr : z.pllRuns = true)
    (ha : bit (z.reg Reg.TIME_EPOCH_CTL) 0 = true) (hl : z.pll.lock = true) (hc : bit (z.reg Reg.TIME_EPOCH_CTL) 1 = true) :
    z.loadAct h = z.checkFrame := by
  unfold Zone.loadAct
  simp [hr, ha, hn, hl, hc]

/-- A lock that ends a free-running interval closes it, and judges its drift (R34). -/
theorem Zone.judge_noted {z : Zone} (h : z.regsWf = true) : Noted [Reg.TIME_STAT, Reg.MSG_DROPPED]
    { z with time := { z.time with free := false, hFr := 0, sFr := 0 } } z.judge := by
  generalize hy : ({ z with time := { z.time with free := false, hFr := 0, sFr := 0 } } : Zone) = y
  have w : y.regsWf = true := by rw [← hy]; exact h
  have hj : z.judge = if (z.time.free && z.driftOver) = true then (y.putBit Reg.TIME_STAT 1 true).send clsReport 0x0012 []
      else y := by rw [← hy]; rfl
  rw [hj]
  split
  · exact (Noted.putBit w (by simp) 1 true).trans (Noted.send (Zone.putBit_regsWf w _ _ _) (by simp) _ _ _)
  · exact .refl w

/-- A lock after the first is counted and told (R33, R51). -/
theorem Zone.relock_noted {z : Zone} (h : z.regsWf = true) (e : Int) :
    Noted [Reg.PLL_COUNT, Reg.MSG_DROPPED] z (z.relock e) ∧ Counted Reg.PLL_COUNT 15 0 1 z (z.relock e) := by
  have w : (z.count Reg.PLL_COUNT 15 0 1).regsWf = true := Zone.count_regsWf h _ _ _ _
  unfold Zone.relock
  refine ⟨(Noted.count h (by simp) 15 0 1).trans (Noted.send w (by simp) _ _ _), ?_⟩
  exact (Zone.count_counted h Reg.PLL_COUNT (by decide) (by decide) 1).congr (Zone.reg_send w _ _ _ (by decide))

/-- The registers that a lock can write: its count, NUM_DOUBT, and the count of records dropped. -/
abbrev lockRegs : List Nat := [Reg.PLL_COUNT, Reg.TIME_STAT, Reg.MSG_DROPPED]

/-- A zone locked by a step, before its lock is told. -/
def Zone.stepped (z : Zone) (e : Int) : Zone :=
  { z with
    time := { z.time with frame := z.aligned e, subf := 0, est := false, slowAcc := 0, free := false, hFr := 0, sFr := 0 }
    pll := { z.pll with lock := true, hold := false, slewing := false, everLock := true, slewE := e } }

/-- What a lock by a step does (R30, R51). -/
theorem Zone.lockStep_noted {z : Zone} (h : z.regsWf = true) (e : Int) : Noted lockRegs (z.stepped e) (z.lockStep e) := by
  generalize hy : ({ z with
    time := { z.time with frame := z.aligned e, subf := 0, est := false, slowAcc := 0 }
    pll := { z.pll with lock := true, hold := false, slewing := false, everLock := true, slewE := e } } : Zone) = y
  have w : y.regsWf = true := by rw [← hy]; exact h
  have hl : z.lockStep e = (if y.ctl.st = .init then y else y.relock e).judge := by rw [← hy]; rfl
  have hr : Noted [Reg.PLL_COUNT, Reg.MSG_DROPPED] y (if y.ctl.st = .init then y else y.relock e) := by
    split
    · exact .refl w
    · exact (Zone.relock_noted w e).1
  rw [hl]
  generalize (if y.ctl.st = .init then y else y.relock e) = x at hr
  obtain ⟨q, r, rfl, hx⟩ := hr
  have hj := (Zone.judge_noted (z := { y with msgs := q, regs := r }) hx.1).mono (l' := lockRegs) (by simp)
  obtain ⟨q', r', e', hx'⟩ := hj
  rw [e', ← hy]
  refine ⟨q', r', rfl, ?_⟩
  exact RegMapBut.trans (z := z.stepped e) (z' := { y with msgs := q, regs := r }) (by rw [← hy] at hx; exact hx.mono (by simp)) hx'

/-- The boundary that a lock by a step takes is the nearest whose number is a multiple of D (R29, R30). -/
theorem Zone.aligned_back (z : Zone) {e : Int} (he : e ≤ 0) :
    (z.aligned e).toNat = z.time.frame.toNat / frefD z.pll.rate * frefD z.pll.rate := by
  have hlt : z.time.frame.toNat / frefD z.pll.rate * frefD z.pll.rate < 2 ^ 48 :=
    lt_of_le_of_lt (Nat.div_mul_le_self _ _) z.time.frame.isLt
  unfold Zone.aligned
  simp only [if_pos he, add_zero, if_pos hlt, BitVec.toNat_ofNat, Nat.mod_eq_of_lt hlt]

theorem Zone.aligned_on (z : Zone) {e : Int} (he : 0 < e) :
    (z.aligned e).toNat = if (z.time.frame.toNat / frefD z.pll.rate + 1) * frefD z.pll.rate < 2 ^ 48
      then (z.time.frame.toNat / frefD z.pll.rate + 1) * frefD z.pll.rate else 0 := by
  unfold Zone.aligned
  simp only [if_neg (not_le.2 he), BitVec.toNat_ofNat]
  split
  · rename_i hlt
    exact Nat.mod_eq_of_lt hlt
  · rfl

section clauses
variable {s : State} {i : ZoneId} {z : Zone} {interval : Nat} {e : Int} {sync : Bool} (hz : s.zones[i] = z) (hq : Quiet s i)
  (hr : z.pllRuns = true)
include hz hq hr

theorem frefEdge_inLock (hl : z.pll.lock = true) (hs : sync = true ∨ z.time.syncHi = false) :
    Completes (.frefEdge i interval e sync) s (fun t => t.zones[i] = z.edgeSeen interval e sync ∧ Lone i s t) :=
  event_alone (f := fun z h => z.frefStep h interval e sync) hz hq rfl
    ((Zone.frefStep_noFall hs s.host).trans (Zone.frefEdge_locked hr hl)) ⟨rfl, rfl, rfl, rfl⟩ rfl rfl

/-- An edge in lock at which SYNC falls, with no load armed (R37). -/
theorem frefEdge_unarmed (hl : z.pll.lock = true) (hy : z.time.syncHi = true) (ok : frefValid z.pll.rate interval = true)
    (hn : z.time.est = false) (ha : bit (z.reg Reg.TIME_EPOCH_CTL) 0 = false) :
    Completes (.frefEdge i interval e false) s (fun t =>
      t.zones[i] = (z.edgeSeen interval e false).count Reg.TIME_SYNC_CNT 31 16 1 ∧ Lone i s t) := by
  have hload : (z.edgeSeen interval e false).loadAct s.host = (z.edgeSeen interval e false).count Reg.TIME_SYNC_CNT 31 16 1 :=
    Zone.loadAct_unarmed hn hr ha
  have hst : z.frefStep s.host interval e false = (z.edgeSeen interval e false).count Reg.TIME_SYNC_CNT 31 16 1 := by
    unfold Zone.frefStep
    rw [Zone.frefEdge_locked hr hl, hr, ok, hy]
    exact hload
  exact event_alone (f := fun z h => z.frefStep h interval e false) hz hq rfl hst ⟨rfl, rfl, rfl, rfl⟩ rfl rfl

theorem frefEdge_slews (hl : z.pll.lock = false) (hh : z.pll.hold = true) (hi : z.ctl.st ≠ .init)
    (hs : sync = true ∨ z.time.syncHi = false) (hw : z.pll.slewing = false) (hv : 15 ≤ z.pll.valid)
    (ok : frefValid z.pll.rate interval = true) :
    Completes (.frefEdge i interval e sync) s (fun t => t.zones[i] = { z.edgeSeen interval e sync with
      pll := { (z.edgeSeen interval e sync).pll with slewing := true, slewE := e, slewN := 0 } } ∧ Lone i s t) :=
  event_alone (f := fun z h => z.frefStep h interval e sync) hz hq rfl
    ((Zone.frefStep_noFall hs s.host).trans (Zone.frefEdge_slews hr hl hh hi hw hv ok)) ⟨rfl, rfl, rfl, rfl⟩ rfl rfl

theorem frefEdge_locks (hl : z.pll.lock = false) (hh : z.pll.hold = false) (hs : sync = true ∨ z.time.syncHi = false)
    (hv : 15 ≤ z.pll.small) (he : (e - z.pll.ref).natAbs ≤ 4) (ok : frefValid z.pll.rate interval = true) :
    Completes (.frefEdge i interval e sync) s (fun t =>
      Noted lockRegs ((z.edgeSeen interval e sync).stepped e) t.zones[i] ∧ OnlyZone i s t) := by
  have hw : (z.edgeSeen interval e sync).regsWf = true := Quiet.regsWf (z := z) hz hq
  have hk := Zone.lockStep_noted hw e
  have hn := (Zone.frefStep_noFall (e := e) hs s.host).trans (Zone.frefEdge_locks (sync := sync) hr hl hh hv he ok)
  refine (event_apart (f := fun z h => z.frefStep h interval e sync) hz hq rfl hn hk.apart).imp fun t h => ?_
  rw [h.1]
  exact ⟨hk, h.2⟩

end clauses

/-- What an edge's judgement leaves of the zone, and of its PLL (R29, R31, R37). -/
theorem Zone.edgeSeen_out (z : Zone) (interval : Nat) (e : Int) (sync : Bool) : ∃ p, z.edgeSeen interval e sync =
    { z with pll := p, time := { z.time with syncHi := if frefValid z.pll.rate interval then sync else z.time.syncHi } } ∧
      p.lock = z.pll.lock ∧ p.hold = z.pll.hold ∧ p.rate = z.pll.rate ∧ p.phase = satS 32 e := ⟨_, rfl, rfl, rfl, rfl, rfl⟩

/-- Settles O9: the edge's judgement, the slew's begin and the lock by a step are `Zone.edgeSeen`, its slew and `Zone.lockStep`; an
edge at which SYNC falls is counted by `Zone.loadAct`. -/
theorem frefEdges : Obligations.FrefEdges := by
  intro s i z interval e sync hz hq hr
  have hw := Quiet.regsWf hz hq
  obtain ⟨p, he, pl, ph, pr, pe⟩ := z.edgeSeen_out interval e sync
  refine ⟨fun hl hs => ?_, fun hl hs hy ok hn ha => ?_, fun hl hh hi hs hw15 hv ok => ?_, fun hl hh hs hv hs4 ok => ?_⟩
  · refine (frefEdge_inLock hz hq hr hl hs).imp fun t ⟨h, ho⟩ => ?_
    rw [h, he]
    exact ⟨pl.trans hl, ph, pe, rfl, rfl, ho⟩
  · subst hs
    refine (frefEdge_unarmed hz hq hr hl hy ok hn ha).imp fun t ⟨h, ho⟩ => ?_
    rw [ok, if_pos rfl] at he
    rw [h, he]
    exact ⟨pl.trans hl, rfl, Zone.count_counted hw _ (by decide) (by decide) 1,
      fun k hk => (Noted.count hw (by simp) 31 16 1).reg hk, rfl, ho⟩
  · refine (frefEdge_slews hz hq hr hl hh hi hs hw15 hv ok).imp fun t ⟨h, ho⟩ => ?_
    rw [ok, if_pos rfl] at he
    rw [h, he]
    exact ⟨pl.trans hl, ph.trans hh, rfl, rfl, rfl, rfl, ho⟩
  · refine (frefEdge_locks hz hq hr hl hh hs hv hs4 ok).imp fun t ⟨h, ho⟩ => ?_
    rw [he] at h
    obtain ⟨q, r, h, hk⟩ := h
    rw [h, ← pr]
    exact ⟨rfl, rfl, rfl, rfl, rfl, Zone.aligned_back _, Zone.aligned_on _, rfl, rfl, rfl, (hk.of_regs rfl).2, ho⟩

end Sys2Proof.Machine
end

section
namespace Sys2Proof.Machine

/-! Holdover (R30–R34). -/

/-- An edge of a locked zone that has been missing for 1.5 periods (R31). -/
theorem Zone.holdover_missing {z : Zone} {elapsed : Nat} (hr : z.pllRuns = true) (hl : z.pll.lock = true)
    (hs : z.pll.slewing = false) (he : 3 * (frefD z.pll.rate * 7680) < elapsed * 2) : ∃ p d k m,
      z.holdover elapsed = (Zone.count { z with
        pll := p, draws := d, time := { z.time with free := true, hFr := k, sFr := m } } Reg.PLL_COUNT 31 16 1).send clsFault 0x0010 [] ∧
      p.hold = true ∧ p.lock = false ∧ p.frefOk = false ∧ p.holdTk = 0 := by
  have hgone : decide (elapsed * 2 > frefD z.pll.rate * 7680 * 3) = true := decide_eq_true (by omega)
  have hd : z.holdDue elapsed = true := by
    unfold Zone.holdDue
    rw [hl, hgone]
    rfl
  unfold Zone.holdover Zone.holdEnter
  simp only [hr, hd, hgone, hs, Bool.and_self, Bool.not_true, Bool.and_false, Bool.false_eq_true, if_true, if_false]
  exact ⟨_, _, _, _, rfl, rfl, rfl, rfl, rfl⟩

/-- The holdover's entry is counted and told. -/
theorem holdover_enters {s : State} {i : ZoneId} {z : Zone} {elapsed : Nat} (hz : s.zones[i] = z) (hq : Quiet s i)
    (hr : z.pllRuns = true) (hl : z.pll.lock = true) (hs : z.pll.slewing = false)
    (he : 3 * (frefD z.pll.rate * 7680) < elapsed * 2) : Completes (.holdover i elapsed) s (fun t =>
      t.zones[i].pll.hold = true ∧ t.zones[i].pll.lock = false ∧ t.zones[i].pll.frefOk = false ∧ t.zones[i].pll.holdTk = 0 ∧
      t.zones[i].time.free = true ∧ t.zones[i].time.frame = z.time.frame ∧ t.zones[i].time.est = z.time.est ∧
      Counted Reg.PLL_COUNT 31 16 1 z t.zones[i] ∧ RegsBut [Reg.PLL_COUNT, Reg.MSG_DROPPED] z t.zones[i] ∧
      t.zones[i].ctl = z.ctl ∧ t.zones[i].pos = z.pos ∧ OnlyZone i s t) := by
  have hw := Quiet.regsWf hz hq
  obtain ⟨p, d, k, m, hn, h1, h2, h3, h4⟩ := Zone.holdover_missing hr hl hs he
  generalize hy : ({ z with pll := p, draws := d, time := { z.time with free := true, hFr := k, sFr := m } } : Zone) = y at hn
  have yw : y.regsWf = true := by rw [← hy]; exact hw
  have cw := Zone.count_regsWf yw Reg.PLL_COUNT 31 16 1
  have hc : Counted Reg.PLL_COUNT 31 16 1 z ((y.count Reg.PLL_COUNT 31 16 1).send clsFault 0x0010 []) := by
    have := (Zone.count_counted yw Reg.PLL_COUNT (by decide) (by decide) 1).congr
      (Zone.reg_send cw clsFault 0x0010 [] (j := Reg.PLL_COUNT) (by decide))
    rwa [← hy] at this ⊢
  have hk : Noted [Reg.PLL_COUNT, Reg.MSG_DROPPED] y ((y.count Reg.PLL_COUNT 31 16 1).send clsFault 0x0010 []) :=
    (Noted.count yw (by simp) 31 16 1).trans (Noted.send cw (by simp) _ _ _)
  generalize (y.count Reg.PLL_COUNT 31 16 1).send clsFault 0x0010 [] = n at hn hc hk
  obtain ⟨q, r, rfl, hk⟩ := hk
  subst hy
  refine (event_apart (f := fun z _ => z.holdover elapsed) hz hq rfl hn ⟨rfl, rfl, rfl, rfl⟩).imp fun t ⟨h, ho⟩ => ?_
  rw [h]
  exact ⟨h1, h2, h3, h4, rfl, rfl, rfl, hc, (hk.of_regs rfl).2, rfl, rfl, ho⟩

/-- A zone without clock keeps no held word (R32). -/
theorem Zone.toSlow_hold (z : Zone) : z.toSlow.pll.hold = false := by
  unfold Zone.toSlow
  dsimp only
  generalize hy : ({ z with pll := _, pos := _, time := _ } : Zone) = y
  obtain ⟨o, ph, e⟩ := y.parkCodes_move
  rw [e, ← hy]

/-- The limit's cause fences, and the counters run from ZSLOW (R32). -/
theorem holdoverLimit_fences {s : State} {i : ZoneId} {z : Zone} (hz : s.zones[i] = z) (hq : Quiet s i) (h1 : z.ctl.st ≠ .off)
    (h2 : z.ctl.st ≠ .fenced) (h3 : z.ctl.st ≠ .init) (ho : z.holdOver = true) (hb : bit (z.reg Reg.FENCE_EN) 0 = true) :
    Completes (.holdoverLimit i) s (fun t => t.zones[i].ctl.st = .fenced ∧ t.zones[i].reg Reg.FENCE_CAUSE = 1 ∧
      t.zones[i].time.est = true ∧ t.zones[i].pll.hold = false ∧ t.zones[i].time.frame = z.time.frame ∧ OnlyZone i s t) := by
  have hw := Quiet.regsWf hz hq
  have hen : 1 &&& z.fenceEn = 1 := Zone.enabled_of_bit (k := 0) hb
  have hodd : z.fenceEn % 2 = 1 := by rwa [Nat.one_and_eq_mod_two] at hen
  have ha : z.arising 1 = 1 := Zone.arising_all h1 h3 1
  have hc : Fenced z 1 (z.raise 1) := Zone.raise_fences hw ha h2 hen (by decide)
  have hn : z.holdLimit = (z.raise 1).toSlow := by
    unfold Zone.holdLimit Zone.limitDue Zone.raiseTick
    simp [ho, hodd, ha]
  generalize z.raise 1 = y at hc hn
  subst hz
  obtain ⟨yw, ya, yv⟩ := hc.quiet hq ⟨rfl, rfl⟩
  obtain ⟨k1, k2, _, _, _, _, _, k8, _⟩ := hc.leaves
  have hh := y.toSlow_hold
  obtain ⟨p, u, o, ph, e, _, he, hf⟩ := y.toSlow_out
  rw [e] at hn hh
  refine (event_leaves (f := fun z _ => z.holdLimit) rfl hq hn yw ya yv).imp fun t ⟨h, ho⟩ => ?_
  exact ⟨by rw [h.ctl]; exact k1, (h.reg (by decide)).trans k2, by rw [h.time]; exact he, by rw [h.pll]; exact hh,
    by rw [h.time]; exact hf.trans (congrArg ZTime.frame k8), ho⟩

/-- The zone once a slew has ended, before its lock is told (R33). -/
def Zone.slewed (z : Zone) : Zone :=
  { z with
    time := { z.time with free := false, hFr := 0, sFr := 0 }
    pll := { z.pll with slewing := false, hold := false, lock := true, everLock := true } }

/-- What the end of a slew does (R33 steps 3 and 4). -/
theorem Zone.slewDone_noted {z : Zone} (h : z.regsWf = true) (hs : z.pll.slewing = true) (hp : z.pll.phase.natAbs ≤ 4)
    (hr : z.slewRun = true) : Noted lockRegs z.slewed z.slewDone ∧ Counted Reg.PLL_COUNT 15 0 1 z z.slewDone := by
  generalize hy : ({ z with pll := { z.pll with slewing := false, hold := false, lock := true, everLock := true } } : Zone) = y
  have yw : y.regsWf = true := by rw [← hy]; exact h
  have hd : z.slewDone = (y.relock z.pll.slewE).judge := by
    unfold Zone.slewDone
    rw [hs, hr, decide_eq_true hp, ← hy]
    rfl
  obtain ⟨hn, hc⟩ := Zone.relock_noted yw z.pll.slewE
  rw [hd]
  generalize y.relock z.pll.slewE = x at hn hc
  have hj := Zone.judge_noted hn.wf
  have hc' : Counted Reg.PLL_COUNT 15 0 1 y x.judge := hc.congr (hj.reg (by decide))
  obtain ⟨q, r, rfl, hk⟩ := hn
  obtain ⟨q', r', e', hk'⟩ := hj.mono (l' := lockRegs) (by simp)
  rw [e'] at hc' ⊢
  subst hy
  exact ⟨⟨q', r', rfl, RegMapBut.trans (z := z.slewed) (z' := { z with msgs := q, regs := r }) (hk.mono (by simp)) hk'⟩, hc'⟩

/-- A write of PLL.CFG. -/
theorem Zone.regWrite_pllCfg {z : Zone} (hg : Grants z .host Reg.PLL_CFG) (h : HostC) (p0 : Bool) (v : Word) :
    z.regWrite h .host p0 Reg.PLL_CFG v = (0, z.stores Reg.PLL_CFG 0xFFFF0003 v) :=
  Zone.regWrite_plain hg (by decide) rfl rfl ⟨rfl, rfl, rfl⟩

/-- Settles O10: the holdover's entry, its limit's fence and the slew's end; PLL.CFG is a plain register. -/
theorem holdover : Obligations.Holdover := by
  intro s i z hz hq
  refine ⟨fun elapsed hr hl hs he => holdover_enters hz hq hr hl hs he, fun h1 h2 h3 hh hs hl hx hb => ?_,
    fun hs hp hr => ?_, fun v hg => ?_⟩
  · refine holdoverLimit_fences hz hq h1 h2 h3 ?_ hb
    unfold Zone.holdOver
    simp [hh, hs, hl, hx]
  · obtain ⟨hn, hc⟩ := Zone.slewDone_noted (Quiet.regsWf hz hq) hs hp hr
    refine (event_apart (f := fun z _ => z.slewDone) hz hq rfl rfl hn.apart).imp fun t ⟨h, ho⟩ => ?_
    rw [h]
    obtain ⟨q, r, e, hk⟩ := hn
    rw [e] at hc ⊢
    exact ⟨rfl, rfl, rfl, rfl, hc, (hk.of_regs rfl).2, rfl, rfl, ho⟩
  · exact write_alone hz hq rfl (by decide) (fun p0 => Zone.regWrite_pllCfg hg s.host p0 v) ⟨rfl, rfl, rfl, rfl⟩ rfl rfl

end Sys2Proof.Machine
end

section
namespace Sys2Proof.Machine

/-! Epochs (R36, R37). -/

/-- A write of TIME.EPOCH_CTL by host software. -/
theorem Zone.regWrite_epochCtl {z : Zone} (hg : Grants z .host Reg.TIME_EPOCH_CTL) (h : HostC) (p0 : Bool) (v : Word) :
    z.regWrite h .host p0 Reg.TIME_EPOCH_CTL v = (0, z.epochCtl v) :=
  Zone.regWrite_block hg (by decide) rfl rfl

/-- ARM written 1 (Table 2-8). -/
theorem Zone.epochCtl_arm (z : Zone) (check : Bool) : z.epochCtl (if check then 3 else 1) = z.epochArm check := by
  cases check <;> rfl

/-- ARM written 0 in an armed zone: CHECK stands. -/
theorem Zone.epochCtl_disarm {z : Zone} (ha : bit (z.reg Reg.TIME_EPOCH_CTL) 0 = true) :
    z.epochCtl (z.reg Reg.TIME_EPOCH_CTL &&& 2) = z.putBit Reg.TIME_EPOCH_CTL 0 false := by
  have h0 : bit (z.reg Reg.TIME_EPOCH_CTL &&& 2) 0 = false := by
    rw [bit_and, Bool.and_eq_false_iff]
    exact .inr rfl
  unfold Zone.epochCtl
  rw [h0, ha]
  rfl

section arm
variable {s : State} {i : ZoneId} {z : Zone} (hz : s.zones[i] = z) (hq : Quiet s i)
include hz hq

theorem epochCtl_alone {c : Instr} {v : Word} {n : Zone} {l : List Nat} (hg : Grants z .host Reg.TIME_EPOCH_CTL)
    (hc : exec c s = .next (s.busWrite (zoneAddr i Reg.TIME_EPOCH_CTL) v)) (hn : z.epochCtl v = n) (hm : n.msgs = z.msgs)
    (hk : Noted l z n) : Completes c s (fun t =>
      t.zones[i].reg Reg.TIME_EPOCH_CTL = n.reg Reg.TIME_EPOCH_CTL ∧ t.zones[i].reg Reg.TIME_STAT = n.reg Reg.TIME_STAT ∧
      RegsBut l z t.zones[i] ∧ { t.zones[i] with regs := z.regs } = z ∧ Lone i s t) := by
  obtain ⟨q, r, rfl, hr⟩ := hk
  obtain rfl : q = z.msgs := hm
  have hn' (p0 : Bool) := Zone.regWrite_epochCtl hg s.host p0 v
  rw [hn] at hn'
  refine (write_alone hz hq hc (by decide) hn' ⟨rfl, rfl, rfl, rfl⟩ rfl rfl).imp fun t ⟨h, ho⟩ => ?_
  rw [h]
  exact ⟨rfl, rfl, hr.2, rfl, ho⟩

end arm

/-- A load or check that takes place (R37): EPOCH_DIFF, EPOCH_DONE, ARM, and a record. -/
theorem Zone.epochDone_noted {z : Zone} (h : z.regsWf = true) (d : Int) (check : Bool) :
    Noted [Reg.TIME_EPOCH_DIFF, Reg.TIME_STAT, Reg.TIME_EPOCH_CTL, Reg.MSG_DROPPED] z (z.epochDone d check) ∧
      (z.epochDone d check).reg Reg.TIME_EPOCH_DIFF = wordI d ∧
      (z.epochDone d check).reg Reg.TIME_STAT = setBit (z.reg Reg.TIME_STAT) 2 true ∧
      bit ((z.epochDone d check).reg Reg.TIME_EPOCH_CTL) 0 = false := by
  unfold Zone.epochDone
  dsimp only
  generalize hx : z.setReg Reg.TIME_EPOCH_DIFF (wordI d) = x
  have xw : x.regsWf = true := by rw [← hx]; exact Zone.setReg_regsWf h _ _
  generalize hy : x.putBit Reg.TIME_STAT 2 true = y
  have yw : y.regsWf = true := by rw [← hy]; exact Zone.putBit_regsWf xw _ _ _
  have w := Zone.putBit_regsWf yw Reg.TIME_EPOCH_CTL 0 false
  refine ⟨?_, ?_, ?_, ?_⟩
  · refine (Noted.setReg h (k := Reg.TIME_EPOCH_DIFF) (by simp) (wordI d)).trans ?_
    rw [hx]
    refine (Noted.putBit xw (k := Reg.TIME_STAT) (by simp) 2 true).trans ?_
    rw [hy]
    exact (Noted.putBit yw (by simp) 0 false).trans (Noted.send w (by simp) _ _ _)
  · rw [Zone.reg_send w _ _ _ (by decide), Zone.reg_putBit_ne yw (by decide), ← hy, Zone.reg_putBit_ne xw (by decide), ← hx,
      Zone.reg_setReg h, if_pos rfl]
  · rw [Zone.reg_send w _ _ _ (by decide), Zone.reg_putBit_ne yw (by decide), ← hy, Zone.reg_putBit xw, if_pos rfl, ← hx,
      Zone.reg_setReg h, if_neg (by decide)]
  · rw [Zone.reg_send w _ _ _ (by decide), Zone.bit_putBit_same yw _ (by decide)]

theorem fdist_eq_zero {a b : BitVec 48} : fdist a b = 0 ↔ a = b := by
  unfold fdist
  rw [← BitVec.toInt_zero (w := 48), BitVec.toInt_inj]
  exact sub_eq_zero

theorem satS_eq_zero {x : Int} : satS 32 x = 0 ↔ x = 0 := by
  have hp : (2 : Int) ^ (32 - 1) = 2147483648 := by norm_num
  unfold satS clampI
  rw [hp]
  split_ifs with h1 h2
  · exact iff_of_false (by decide) (by omega)
  · exact iff_of_false (by decide) (by omega)
  · exact Iff.rfl

/-- What a CHECK does (R37): FRAME stays, CHECK_MIS tells whether E was met. -/
theorem Zone.checkFrame_noted {z : Zone} (h : z.regsWf = true) :
    Noted [Reg.TIME_EPOCH_DIFF, Reg.TIME_STAT, Reg.TIME_EPOCH_CTL, Reg.MSG_DROPPED] z z.checkFrame ∧
      z.checkFrame.reg Reg.TIME_EPOCH_DIFF = wordI (satS 32 (fdist z.time.frame z.epochE)) ∧
      bit (z.checkFrame.reg Reg.TIME_STAT) 2 = true ∧
      bit (z.checkFrame.reg Reg.TIME_STAT) 4 = (z.time.frame != z.epochE) ∧
      bit (z.checkFrame.reg Reg.TIME_EPOCH_CTL) 0 = false := by
  have hd : (satS 32 (fdist z.time.frame z.epochE) != 0) = (z.time.frame != z.epochE) := by
    rw [Bool.eq_iff_iff, bne_iff_ne, bne_iff_ne, Ne, satS_eq_zero, fdist_eq_zero]
  unfold Zone.checkFrame
  dsimp only
  generalize satS 32 (fdist z.time.frame z.epochE) = d at hd
  generalize hx : z.putBit Reg.TIME_STAT 4 (d != 0) = x
  have xn : Noted [Reg.TIME_STAT] z x := by rw [← hx]; exact Noted.putBit h (by simp) _ _
  have xb : bit (x.reg Reg.TIME_STAT) 4 = (d != 0) := by rw [← hx]; exact Zone.bit_putBit_same h _ (by decide) _
  have yn : Noted [Reg.TIME_STAT] x (if d = 0 then x.putBit Reg.TIME_STAT 1 false else x) := by
    split
    · exact Noted.putBit xn.wf (by simp) _ _
    · exact .refl xn.wf
  have yb : bit ((if d = 0 then x.putBit Reg.TIME_STAT 1 false else x).reg Reg.TIME_STAT) 4 = (d != 0) := by
    split
    · rw [Zone.bit_putBit_ne xn.wf _ (by decide) (by decide), xb]
    · exact xb
  generalize (if d = 0 then x.putBit Reg.TIME_STAT 1 false else x) = y at yn yb
  obtain ⟨k1, k2, k3, k4⟩ := Zone.epochDone_noted yn.wf d true
  refine ⟨((xn.trans yn).mono (by simp)).trans k1, k2, ?_, ?_, k4⟩
  · rw [k3, bit_setBit_same (by decide)]
  · rw [k3, bit_setBit_ne (by decide) (by decide), yb, hd]

theorem Zone.loadEdge_acts {z : Zone} {h : HostC} (hs : z.time.syncHi = true) (hr : z.pllRuns = true) :
    z.loadEdge h = Zone.loadAct { z with time := { z.time with syncHi := false } } h := by
  unfold Zone.loadEdge
  rw [hr, hs]
  rfl

/-- Settles O11: ARM and its refusal, the disarming, and what `Zone.loadAct` does at a load edge. -/
theorem epoch : Obligations.Epoch := by
  intro s i z hz hq
  have hw := Quiet.regsWf hz hq
  refine ⟨fun check hg ha he => ?_, fun check hg ha he => ?_, fun hg ha => ?_, fun hs hn hr ha => ?_, fun hs hn hr ha hl => ?_,
    fun hs hn hr ha hl hc => ?_⟩
  · have w1 := Zone.putBit_regsWf hw Reg.TIME_EPOCH_CTL 1 check
    have hn : z.epochCtl (if check then 3 else 1) = (z.putBit Reg.TIME_EPOCH_CTL 1 check).putBit Reg.TIME_EPOCH_CTL 0 true := by
      rw [Zone.epochCtl_arm]
      unfold Zone.epochArm
      rw [ha, if_neg (by decide), if_pos he]
    refine (epochCtl_alone hz hq (l := [Reg.TIME_EPOCH_CTL]) hg rfl hn rfl
      ((Noted.putBit hw (by simp) 1 check).trans (Noted.putBit w1 (by simp) 0 true))).imp fun t ⟨h, _, hk, hf, ho⟩ => ?_
    rw [h]
    exact ⟨Zone.bit_putBit_same w1 _ (by decide) _,
      (Zone.bit_putBit_ne w1 _ (by decide) (by decide) _).trans (Zone.bit_putBit_same hw _ (by decide) _), hk, hf, ho⟩
  · have w1 := Zone.putBit_regsWf hw Reg.TIME_EPOCH_CTL 1 check
    have hn : z.epochCtl (if check then 3 else 1) = (z.putBit Reg.TIME_EPOCH_CTL 1 check).putBit Reg.TIME_STAT 3 true := by
      rw [Zone.epochCtl_arm]
      unfold Zone.epochArm
      rw [ha, if_neg (by decide), if_neg he]
    refine (epochCtl_alone hz hq (l := [Reg.TIME_EPOCH_CTL, Reg.TIME_STAT]) hg rfl hn rfl
      ((Noted.putBit hw (by simp) 1 check).trans (Noted.putBit w1 (by simp) 3 true))).imp fun t ⟨h, h', hk, hf, ho⟩ => ?_
    rw [h, h']
    refine ⟨?_, Zone.bit_putBit_same w1 _ (by decide) _, hk, hf, ho⟩
    rw [Zone.reg_putBit_ne w1 (by decide), Zone.bit_putBit_ne hw _ (by decide) (by decide), ha]
  · have hc : exec (.epochDisarm i) s = .next (s.busWrite (zoneAddr i Reg.TIME_EPOCH_CTL) (z.reg Reg.TIME_EPOCH_CTL &&& 2)) := by
      rw [← hz]; rfl
    refine (epochCtl_alone hz hq (l := [Reg.TIME_EPOCH_CTL]) hg hc (Zone.epochCtl_disarm ha) rfl
      (Noted.putBit hw (by simp) 0 false)).imp fun t ⟨h, _, hk, hf, ho⟩ => ?_
    rw [h]
    exact ⟨Zone.bit_putBit_same hw _ (by decide) _, Zone.bit_putBit_ne hw _ (by decide) (by decide) _, hk, hf, ho⟩
  · have he := (Zone.loadEdge_acts (h := s.host) hs hr).trans (Zone.loadAct_unarmed hn hr ha)
    refine (event_alone (f := Zone.loadEdge) hz hq rfl he ⟨rfl, rfl, rfl, rfl⟩ rfl rfl).imp fun t ⟨h, ho⟩ => ?_
    rw [h]
    exact ⟨Zone.count_counted hw _ (by decide) (by decide) 1, rfl, fun k hk => (Noted.count hw (by simp) 31 16 1).reg hk, ho⟩
  · have he := (Zone.loadEdge_acts (h := s.host) hs hr).trans (Zone.loadAct_unlocked hn hr ha hl)
    exact event_alone (f := Zone.loadEdge) hz hq rfl he ⟨rfl, rfl, rfl, rfl⟩ rfl rfl
  · obtain ⟨k1, k2, k3, k4, k5⟩ := Zone.checkFrame_noted (z := { z with time := { z.time with syncHi := false } }) hw
    have he := (Zone.loadEdge_acts (h := s.host) hs hr).trans (Zone.loadAct_check hn hr ha hl hc)
    refine (event_apart (f := Zone.loadEdge) hz hq rfl he k1.apart).imp fun t ⟨h, ho⟩ => ?_
    rw [h]
    refine ⟨?_, k2, k3, k4, k5, fun k hk => k1.reg hk, ho⟩
    obtain ⟨q, r, e, _⟩ := k1
    rw [e]

end Sys2Proof.Machine
end

section
namespace Sys2Proof.Machine

/-! Track position (R39–R43). -/

/-- One level changes in quadrature: one edge, whose direction the levels give (R39). -/
theorem tachSign_quad {a0 b0 a b : Bool} (h : (a = a0) ≠ (b = b0)) (inv : Bool) :
    tachSign 0 a0 b0 a b inv = some (xor (if a = a0 then a != b else a == b) inv) := by
  revert a0 b0 a b inv
  decide

/-- A rising edge of TACHA with a direction (R39). -/
theorem tachSign_dir (b0 b inv : Bool) : tachSign 1 false b0 true b inv = some (b == inv) := by
  revert b0 b inv
  decide

/-- A counted edge moves the position by one, and nothing outside the position (R39, R41, R42). -/
theorem Zone.countEdge_out (z : Zone) (neg : Bool) (f : BitVec 48) (s : Nat) : ∃ p, z.countEdge neg f s = { z with pos := p } ∧
    p.pos = (if neg then z.pos.pos - 1 else z.pos.pos + 1) ∧ p.frac = 0 ∧ p.lvlA = z.pos.lvlA ∧ p.lvlB = z.pos.lvlB ∧
    p.stopped = false := ⟨_, rfl, rfl, rfl, rfl, rfl, rfl⟩

/-- Levels that count. -/
theorem Zone.tach_counts {z : Zone} {a b neg : Bool} (s : Nat) (hl : ¬(z.pos.mode = 0 ∧ a ≠ z.pos.lvlA ∧ b ≠ z.pos.lvlB))
    (hs : tachSign z.pos.mode z.pos.lvlA z.pos.lvlB a b (bit (z.reg Reg.POS_CFG) 2) = some neg) :
    z.tach a b s = Zone.countEdge { z with pos := { z.pos with lvlA := a, lvlB := b } } neg z.time.frame s := by
  unfold Zone.tach
  dsimp only
  rw [if_neg hl, hs]

/-- Both levels change at once in quadrature: the change is illegal (R39, assumption 74). -/
theorem Zone.tach_illegal {z : Zone} {a b : Bool} (s : Nat) (hm : z.pos.mode = 0) (ha : a ≠ z.pos.lvlA) (hb : b ≠ z.pos.lvlB) :
    z.tach a b s = Zone.count (Zone.putBit { z with pos := { z.pos with
      lvlA := a, lvlB := b, hist := [], last := none, speed := 0 } } Reg.POS_STAT 0 true) Reg.POS_COUNT 15 0 1 := by
  unfold Zone.tach
  dsimp only
  rw [if_pos ⟨hm, ha, hb⟩]
  rfl

/-- The event of accepted levels at a sub-frame time: from ZSLOW there is none (R50). -/
def Zone.tachAt (z : Zone) (a b : Bool) (sub : Nat) : Zone :=
  if z.time.est then z
  else { z.tach a b sub with time := { (z.tach a b sub).time with subf := Nat.max (z.tach a b sub).time.subf sub } }

/-- A write of POS.HCMD by host software. -/
theorem Zone.regWrite_hcmd {z : Zone} (hg : Grants z .host Reg.POS_HCMD) (h : HostC) (p0 : Bool) (v : Word) :
    z.regWrite h .host p0 Reg.POS_HCMD v = (0, z.hcmdWrite (bit v 0) (bit v 1) (bit v 2)) :=
  Zone.regWrite_block hg (by decide) rfl rfl

theorem Zone.regWrite_posCfg {z : Zone} (hg : Grants z .host Reg.POS_CFG) (h : HostC) (p0 : Bool) (v : Word) :
    z.regWrite h .host p0 Reg.POS_CFG v = (0, z.stores Reg.POS_CFG 0xFFFFFF07 v) :=
  Zone.regWrite_plain hg (by decide) rfl rfl ⟨rfl, rfl, rfl⟩

/-- A pending command whose boundary has come (R43). -/
theorem Zone.hcmdApply_out {z : Zone} {c : HCmd} (hc : z.pos.hcmd = some c) (hd : c.atTick = false ∨ z.atTick = true) :
    ∃ p, z.hcmdApply = { z with pos := p } ∧ p.hcmd = none ∧ p.pos = (if c.setpos then c.pos else z.pos.pos) ∧
      p.frac = (if c.setpos then 0 else z.pos.frac) ∧ p.vel = (if c.setvel ∧ z.pos.mode = 2 then c.vel else z.pos.vel) ∧
      p.stale = (z.pos.stale && !(c.setvel && z.pos.mode == 2)) := by
  have hnot : ¬ ((c.atTick && !z.atTick) = true) := by
    rcases hd with hd | hd <;> simp [hd]
  unfold Zone.hcmdApply
  rw [hc]
  dsimp only
  rw [if_neg hnot]
  refine ⟨_, rfl, ?_⟩
  cases c.setpos <;> cases c.setvel <;> by_cases hm : z.pos.mode = 2 <;> simp [hm]

section clauses
variable {s : State} {i : ZoneId} {z : Zone} (hz : s.zones[i] = z) (hq : Quiet s i)
include hz hq

/-- A counted edge outside the estimate of ZSLOW (R50). -/
theorem tachEdge_counts {a b neg : Bool} {sub : Fin 7680} (he : z.time.est = false)
    (hl : ¬(z.pos.mode = 0 ∧ a ≠ z.pos.lvlA ∧ b ≠ z.pos.lvlB))
    (hs : tachSign z.pos.mode z.pos.lvlA z.pos.lvlB a b (bit (z.reg Reg.POS_CFG) 2) = some neg) :
    Completes (.tachEdge i a b sub) s (fun t =>
      t.zones[i].pos.pos = (if neg then z.pos.pos - 1 else z.pos.pos + 1) ∧ t.zones[i].pos.frac = 0 ∧
      t.zones[i].pos.lvlA = a ∧ t.zones[i].pos.lvlB = b ∧ t.zones[i].pos.stopped = false ∧
      t.zones[i].time = { z.time with subf := Nat.max z.time.subf sub.val } ∧
      { t.zones[i] with pos := z.pos, time := z.time } = z ∧ Lone i s t) := by
  obtain ⟨p, hn, h1, h2, h3, h4, h5⟩ :=
    Zone.countEdge_out { z with pos := { z.pos with lvlA := a, lvlB := b } } neg z.time.frame sub.val
  have hf : z.tachAt a b sub.val = { z with pos := p, time := { z.time with subf := Nat.max z.time.subf sub.val } } := by
    rw [Zone.tachAt, he, if_neg (by decide), Zone.tach_counts sub.val hl hs, hn]
  refine (event_alone (f := fun z _ => z.tachAt a b sub.val) hz hq rfl hf ⟨rfl, rfl, rfl, rfl⟩ rfl rfl).imp fun t ⟨h, ho⟩ => ?_
  rw [h]
  exact ⟨h1, h2, h3, h4, h5, rfl, rfl, ho⟩

/-- An illegal change is counted, and the speed's history ends (R39). -/
theorem tachEdge_illegal {a b : Bool} {sub : Fin 7680} (he : z.time.est = false) (hm : z.pos.mode = 0)
    (ha : a ≠ z.pos.lvlA) (hb : b ≠ z.pos.lvlB) : Completes (.tachEdge i a b sub) s (fun t =>
      t.zones[i].pos = { z.pos with lvlA := a, lvlB := b, hist := [], last := none, speed := 0 } ∧
      bit (t.zones[i].reg Reg.POS_STAT) 0 = true ∧ Counted Reg.POS_COUNT 15 0 1 z t.zones[i] ∧
      RegsBut [Reg.POS_STAT, Reg.POS_COUNT] z t.zones[i] ∧ Lone i s t) := by
  have hw := Quiet.regsWf hz hq
  generalize hy : ({ z with pos := { z.pos with lvlA := a, lvlB := b, hist := [], last := none, speed := 0 } } : Zone) = y
  have yw : y.regsWf = true := by rw [← hy]; exact hw
  have xw := Zone.putBit_regsWf yw Reg.POS_STAT 0 true
  have hn : z.tachAt a b sub.val = { (y.putBit Reg.POS_STAT 0 true).count Reg.POS_COUNT 15 0 1 with
      time := { z.time with subf := Nat.max z.time.subf sub.val } } := by
    rw [Zone.tachAt, he, if_neg (by decide), Zone.tach_illegal sub.val hm ha hb, ← hy]
    rfl
  have hk : Noted [Reg.POS_STAT, Reg.POS_COUNT] y ((y.putBit Reg.POS_STAT 0 true).count Reg.POS_COUNT 15 0 1) :=
    (Noted.putBit yw (by simp) 0 true).trans (Noted.count xw (by simp) 15 0 1)
  have hb : bit (((y.putBit Reg.POS_STAT 0 true).count Reg.POS_COUNT 15 0 1).reg Reg.POS_STAT) 0 = true := by
    rw [Zone.reg_count xw, if_neg (by decide), Zone.bit_putBit_same yw _ (by decide)]
  have hc : Counted Reg.POS_COUNT 15 0 1 y ((y.putBit Reg.POS_STAT 0 true).count Reg.POS_COUNT 15 0 1) := by
    have := Zone.count_counted xw Reg.POS_COUNT (by decide : 0 ≤ 15) (by decide) 1
    unfold Counted at this ⊢
    rwa [Zone.reg_putBit_ne yw (by decide)] at this
  have hm : ((y.putBit Reg.POS_STAT 0 true).count Reg.POS_COUNT 15 0 1).msgs = y.msgs := rfl
  generalize (y.putBit Reg.POS_STAT 0 true).count Reg.POS_COUNT 15 0 1 = n at hn hk hb hc hm
  obtain ⟨q, r, rfl, hk⟩ := hk
  obtain rfl : q = y.msgs := hm
  subst hy
  refine (event_alone (f := fun z _ => z.tachAt a b sub.val) hz hq rfl hn ⟨rfl, rfl, rfl, rfl⟩ rfl rfl).imp fun t ⟨h, ho⟩ => ?_
  rw [h]
  exact ⟨rfl, hb, hc, (hk.of_regs rfl).2, ho⟩

theorem stale_sets (ht : z.atTick = true) (hm : z.pos.mode = 2) (hs : z.pos.stale = false)
    (hf : z.stopFrames ≤ fdist z.time.frame z.pos.since) : Completes (.stale i) s (fun t =>
      t.zones[i].pos.stale = true ∧ t.zones[i].pos.vel = (if bit (z.reg Reg.POS_CFG) 15 then 0 else z.pos.vel) ∧
      t.zones[i].pos.speed = t.zones[i].pos.vel ∧ t.zones[i].pos.pos = z.pos.pos ∧
      { t.zones[i] with pos := z.pos } = z ∧ Lone i s t) := by
  have hn : ∃ p, z.staleSet = { z with pos := p } ∧ p.stale = true ∧
      p.vel = (if bit (z.reg Reg.POS_CFG) 15 then 0 else z.pos.vel) ∧ p.speed = p.vel ∧ p.pos = z.pos.pos := by
    unfold Zone.staleSet
    dsimp only
    rw [ht, hm, hs, decide_eq_true hf]
    exact ⟨_, rfl, rfl, rfl, rfl, rfl⟩
  obtain ⟨p, hn, h1, h2, h3, h4⟩ := hn
  refine (event_alone (f := fun z _ => z.staleSet) hz hq rfl hn ⟨rfl, rfl, rfl, rfl⟩ rfl rfl).imp fun t ⟨h, ho⟩ => ?_
  rw [h]
  exact ⟨h1, h2, h3, h4, rfl, ho⟩

theorem hcmdApply_applies {c : HCmd} (hc : z.pos.hcmd = some c) (hd : c.atTick = false ∨ z.atTick = true) :
    Completes (.hcmdApply i) s (fun t =>
      t.zones[i].pos.hcmd = none ∧ t.zones[i].pos.pos = (if c.setpos then c.pos else z.pos.pos) ∧
      t.zones[i].pos.frac = (if c.setpos then 0 else z.pos.frac) ∧
      t.zones[i].pos.vel = (if c.setvel ∧ z.pos.mode = 2 then c.vel else z.pos.vel) ∧
      t.zones[i].pos.stale = (z.pos.stale && !(c.setvel && z.pos.mode == 2)) ∧
      { t.zones[i] with pos := z.pos } = z ∧ Lone i s t) := by
  obtain ⟨p, hn, h1, h2, h3, h4, h5⟩ := Zone.hcmdApply_out hc hd
  refine (event_alone (f := fun z _ => z.hcmdApply) hz hq rfl hn ⟨rfl, rfl, rfl, rfl⟩ rfl rfl).imp fun t ⟨h, ho⟩ => ?_
  rw [h]
  exact ⟨h1, h2, h3, h4, h5, rfl, ho⟩

end clauses

/-- Settles O12: a counted edge is `Zone.countEdge` of the direction `tachSign` gives; the rest are the events' own branches. -/
theorem position : Obligations.Position := by
  intro s i z hz hq
  refine ⟨fun a b sub he hm hab => ?_, fun a b sub he hm ha hb => tachEdge_illegal hz hq he hm ha hb,
    fun b sub he hm ha => ?_, fun ht hm hs hf => ?_, fun ht hm hs hf => stale_sets hz hq ht hm hs hf, fun atTick hg => ⟨?_, ?_⟩,
    fun c hc hd => hcmdApply_applies hz hq hc hd, fun v hg => ?_⟩
  · refine tachEdge_counts hz hq he (fun ⟨_, ha, hb⟩ => hab ?_) (by rw [hm]; exact tachSign_quad hab _)
    rw [eq_false ha, eq_false hb]
  · refine (tachEdge_counts hz hq he (neg := b == bit (z.reg Reg.POS_CFG) 2) (by omega)
      (by rw [hm, ha]; exact tachSign_dir _ _ _)).imp fun t ⟨h1, h2, h3, h4, _, h6, h7⟩ => ?_
    exact ⟨h1, h2, h3, h4, h6, h7⟩
  · have hn : z.standstill = { z with pos := { z.pos with speed := 0, stopped := true, hist := [], last := none } } := by
      unfold Zone.standstill
      dsimp only
      rw [ht, hs, decide_eq_true hm, decide_eq_true hf]
      rfl
    exact event_alone (f := fun z _ => z.standstill) hz hq rfl hn ⟨rfl, rfl, rfl, rfl⟩ rfl rfl
  · refine write_alone hz hq rfl (by decide) (fun p0 => (Zone.regWrite_hcmd hg s.host p0 _).trans ?_) ⟨rfl, rfl, rfl, rfl⟩ rfl rfl
    cases atTick <;> rfl
  · refine write_alone hz hq rfl (by decide) (fun p0 => (Zone.regWrite_hcmd hg s.host p0 _).trans ?_) ⟨rfl, rfl, rfl, rfl⟩ rfl rfl
    cases atTick <;> rfl
  · exact write_alone hz hq rfl (by decide) (fun p0 => Zone.regWrite_posCfg hg s.host p0 v) ⟨rfl, rfl, rfl, rfl⟩ rfl rfl

end Sys2Proof.Machine
end

section
namespace Sys2Proof.Machine

/-! Timers (R44–R46). -/

theorem Reg.TMR_CTL_ne_STAT (n : Nat) : Reg.TMR_CTL n ≠ Reg.TMR_STAT n := by unfold Reg.TMR_CTL Reg.TMR_STAT; omega

theorem Reg.TMR_NEXT_ne_STAT (n : Nat) : Reg.TMR_NEXT n ≠ Reg.TMR_STAT n := by unfold Reg.TMR_NEXT Reg.TMR_STAT; omega

theorem Reg.TMR_CTL_ne_NEXT (n : Nat) : Reg.TMR_CTL n ≠ Reg.TMR_NEXT n := by unfold Reg.TMR_CTL Reg.TMR_NEXT; omega

theorem Reg.TMR_CTL_ne_DROPPED (n : Fin 4) : Reg.TMR_CTL n.val ≠ Reg.MSG_DROPPED := by revert n; decide

theorem Reg.TMR_STAT_ne_DROPPED (n : Fin 4) : Reg.TMR_STAT n.val ≠ Reg.MSG_DROPPED := by revert n; decide

/-- The registers of a zone with other words in registers of a list. -/
theorem Noted.regs {l : List Nat} {a b : Zone} (h : Noted l a b) : RegMapBut l a b.regs := by
  obtain ⟨q, r, rfl, hk⟩ := h
  exact hk

/-- A timer's registers are registers of a zone's block above its page's header. -/
theorem Reg.TMR_CTL_place (n : Fin 4) : Reg.TMR_CTL n.val < 0x7400 ∧ 0x20 ≤ Reg.TMR_CTL n.val % 0x400 := by revert n; decide

theorem Reg.TMR_NEXT_place (n : Fin 4) : Reg.TMR_NEXT n.val < 0x7400 ∧ 0x20 ≤ Reg.TMR_NEXT n.val % 0x400 := by revert n; decide

/-! The end of a period, in its four parts: STAT, the timer and its EN, the record, the DSP's event. -/

/-- ELAPSED is set, and OVERRUN beside it where it stood (R44). -/
def Zone.tmrMark (z : Zone) (n : Fin 4) : Zone :=
  (if bit (z.reg (Reg.TMR_STAT n.val)) 0 then z.putBit (Reg.TMR_STAT n.val) 1 true else z).putBit (Reg.TMR_STAT n.val) 0 true

/-- The timer's next period, with a pending change (R44, R45, R49). -/
def Zone.tmrReload (z : Zone) (n : Fin 4) (ctl : Word) : ZTimer :=
  let t := { z.tmr[n] with count := if z.time.est && !z.tmr[n].unit then z.tmr[n].count - z.tmr[n].period else 0 }
  if t.pend then { t with period := (z.reg (Reg.TMR_NEXT n.val)).toNat, unit := bit ctl 1, oneshot := bit ctl 2, pend := false }
  else t

/-- The timer at its next period; one that has none stops (R44). -/
def Zone.tmrPut (z : Zone) (n : Fin 4) (t : ZTimer) : Zone :=
  if t.oneshot || t.period == 0 then Zone.putBit { z with tmr := vmod z.tmr n (fun _ => t) } (Reg.TMR_CTL n.val) 0 false
  else { z with tmr := vmod z.tmr n (fun _ => t) }

/-- The record of CTL.MSG, which a fenced zone does not send (R44). -/
def Zone.tmrTell (z : Zone) (n : Fin 4) (ctl : Word) : Zone :=
  if bit ctl 3 && z.ctl.st != .fenced then z.send clsEvent 0x0031 (natLe n.val 1) else z

/-- The event of CTL.DSP for the zone program (R44). -/
def Zone.tmrWake (z : Zone) (n : Fin 4) (ctl : Word) : Zone :=
  if bit ctl 4 then { z with dsp := { z.dsp with timerEv := z.dsp.timerEv ||| BitVec.ofNat 4 (2 ^ n.val) } } else z

theorem Zone.tmrEnd_parts (z : Zone) (n : Fin 4) : z.tmrEnd n =
    ((((z.tmrMark n).tmrPut n ((z.tmrMark n).tmrReload n (z.reg (Reg.TMR_CTL n.val)))).tmrTell n
      (z.reg (Reg.TMR_CTL n.val))).tmrWake n (z.reg (Reg.TMR_CTL n.val))) := rfl

section parts
variable {z : Zone} (h : z.regsWf = true) (n : Fin 4)
include h

theorem Zone.tmrMark_out : ∃ r, z.tmrMark n = { z with regs := r } ∧ RegMapBut [Reg.TMR_STAT n.val] z r ∧
    bit ((z.tmrMark n).reg (Reg.TMR_STAT n.val)) 0 = true ∧
    (bit (z.reg (Reg.TMR_STAT n.val)) 0 = true → bit ((z.tmrMark n).reg (Reg.TMR_STAT n.val)) 1 = true) := by
  generalize hx : (if bit (z.reg (Reg.TMR_STAT n.val)) 0 then z.putBit (Reg.TMR_STAT n.val) 1 true else z) = x
  have hm : z.tmrMark n = x.putBit (Reg.TMR_STAT n.val) 0 true := by rw [← hx]; rfl
  have hk : Noted [Reg.TMR_STAT n.val] z x := by
    rw [← hx]
    split
    · exact Noted.putBit h (by simp) 1 true
    · exact .refl h
  have ho : bit (z.reg (Reg.TMR_STAT n.val)) 0 = true → bit (x.reg (Reg.TMR_STAT n.val)) 1 = true := fun hb => by
    rw [← hx, if_pos hb]
    exact Zone.bit_putBit_same h _ (by decide) true
  have hq : x.msgs = z.msgs := by rw [← hx]; split <;> rfl
  rw [hm]
  refine ⟨(x.putBit (Reg.TMR_STAT n.val) 0 true).regs, ?_, ?_, Zone.bit_putBit_same hk.wf _ (by decide) _, fun hb => ?_⟩
  · obtain ⟨q, r, rfl, _⟩ := hk
    obtain rfl : q = z.msgs := hq
    rfl
  · exact (hk.trans (Noted.putBit hk.wf (k := Reg.TMR_STAT n.val) (by simp) 0 true)).regs
  · rw [Zone.bit_putBit_ne hk.wf _ (by decide) (by decide), ho hb]

/-- A timer that goes on keeps its EN, another loses it. -/
theorem Zone.tmrPut_noted (t : ZTimer) :
    Noted [Reg.TMR_CTL n.val] { z with tmr := vmod z.tmr n (fun _ => t) } (z.tmrPut n t) ∧
      (bit (z.reg (Reg.TMR_CTL n.val)) 0 = true →
        bit ((z.tmrPut n t).reg (Reg.TMR_CTL n.val)) 0 = !(t.oneshot || t.period == 0)) := by
  generalize hy : ({ z with tmr := vmod z.tmr n (fun _ => t) } : Zone) = y
  have yw : y.regsWf = true := by rw [← hy]; exact h
  have hr : y.reg (Reg.TMR_CTL n.val) = z.reg (Reg.TMR_CTL n.val) := by rw [← hy]; rfl
  unfold Zone.tmrPut
  rw [hy]
  split
  next hs => exact ⟨Noted.putBit yw (by simp) 0 false, fun _ => by rw [hs]; exact Zone.bit_putBit_same yw _ (by decide) false⟩
  next hs => exact ⟨.refl yw, fun hb => by rw [hr, hb, Bool.eq_false_iff.2 hs]; rfl⟩

theorem Zone.tmrTell_noted (ctl : Word) : Noted [Reg.MSG_DROPPED] z (z.tmrTell n ctl) := by
  unfold Zone.tmrTell
  split
  · exact Noted.send h (by simp) _ _ _
  · exact .refl h

end parts

theorem Zone.tmrWake_out (z : Zone) (n : Fin 4) (ctl : Word) : ∃ d, z.tmrWake n ctl = { z with dsp := d } := by
  unfold Zone.tmrWake
  split
  · exact ⟨_, rfl⟩
  · exact ⟨_, rfl⟩

/-- The timer after its period, outside the estimate of ZSLOW (R44, R45). -/
theorem Zone.tmrReload_out {z : Zone} {n : Fin 4} (ctl : Word) (he : z.time.est = false) :
    (z.tmrReload n ctl).count = 0 ∧ (z.tmrReload n ctl).pend = false ∧ (z.tmrReload n ctl).period =
      if z.tmr[n].pend then (z.reg (Reg.TMR_NEXT n.val)).toNat else z.tmr[n].period := by
  unfold Zone.tmrReload
  dsimp only
  cases z.tmr[n].pend <;> simp [he]

/-- The registers that the end of a period can write. -/
abbrev timerRegs (n : Fin 4) : List Nat := [Reg.TMR_STAT n.val, Reg.TMR_CTL n.val, Reg.MSG_DROPPED]

/-- What the end of a period does, outside the estimate of ZSLOW (R44). -/
theorem Zone.tmrEnd_noted {z : Zone} {n : Fin 4} (h : z.regsWf = true) (he : z.time.est = false) : ∃ d t,
    Noted (timerRegs n) { z with dsp := d, tmr := vmod z.tmr n (fun _ => t) } (z.tmrEnd n) ∧
    (t.count = 0 ∧ t.pend = false ∧ t.period = if z.tmr[n].pend then (z.reg (Reg.TMR_NEXT n.val)).toNat else z.tmr[n].period) ∧
    bit ((z.tmrEnd n).reg (Reg.TMR_STAT n.val)) 0 = true ∧
    (bit (z.reg (Reg.TMR_STAT n.val)) 0 = true → bit ((z.tmrEnd n).reg (Reg.TMR_STAT n.val)) 1 = true) ∧
    (bit (z.reg (Reg.TMR_CTL n.val)) 0 = true →
      bit ((z.tmrEnd n).reg (Reg.TMR_CTL n.val)) 0 = !(t.oneshot || t.period == 0)) := by
  rw [Zone.tmrEnd_parts]
  obtain ⟨r, ex, kx, s0, s1⟩ := Zone.tmrMark_out h n
  generalize z.tmrMark n = x at *
  have hc : x.reg (Reg.TMR_CTL n.val) = z.reg (Reg.TMR_CTL n.val) := by
    rw [ex]; exact kx.2 _ (by simp [Reg.TMR_CTL_ne_STAT])
  have hx : x.reg (Reg.TMR_NEXT n.val) = z.reg (Reg.TMR_NEXT n.val) := by
    rw [ex]; exact kx.2 _ (by simp [Reg.TMR_NEXT_ne_STAT])
  have xw : x.regsWf = true := by rw [ex]; exact kx.1
  have ht := Zone.tmrReload_out (z := x) (n := n) (z.reg (Reg.TMR_CTL n.val)) (by rw [ex]; exact he)
  rw [hx] at ht
  generalize x.tmrReload n (z.reg (Reg.TMR_CTL n.val)) = t at *
  obtain ⟨ky, hy⟩ := Zone.tmrPut_noted xw n t
  rw [hc] at hy
  generalize x.tmrPut n t = y at *
  have kw := Zone.tmrTell_noted ky.wf n (z.reg (Reg.TMR_CTL n.val))
  generalize y.tmrTell n (z.reg (Reg.TMR_CTL n.val)) = w at *
  have hs : w.reg (Reg.TMR_STAT n.val) = x.reg (Reg.TMR_STAT n.val) :=
    (kw.reg (by simp [Reg.TMR_STAT_ne_DROPPED])).trans (ky.reg (by simp [(Reg.TMR_CTL_ne_STAT _).symm]))
  have hw : w.reg (Reg.TMR_CTL n.val) = y.reg (Reg.TMR_CTL n.val) := kw.reg (by simp [Reg.TMR_CTL_ne_DROPPED])
  obtain ⟨d, ed⟩ := w.tmrWake_out n (z.reg (Reg.TMR_CTL n.val))
  rw [← hs] at s0 s1
  rw [← hw] at hy
  rw [ed]
  refine ⟨d, t, ?_, ?_, s0, s1, hy⟩
  · obtain ⟨q, r', rfl, hk⟩ := (ky.mono (l' := timerRegs n) (by simp)).trans (kw.mono (by simp))
    subst ex
    exact ⟨q, r', rfl, (kx.mono (by simp)).trans (z' := { z with regs := r }) (hk.of_regs rfl)⟩
  · subst ex
    exact ht

/-! Writes of a timer's registers (R45, R46). -/

theorem Zone.regWrite_tmrCtl {z : Zone} {n : Fin 4} (hg : Grants z .host (Reg.TMR_CTL n.val)) (h : HostC) (p0 : Bool) (v : Word) :
    z.regWrite h .host p0 (Reg.TMR_CTL n.val) v = (0, z.tmrCtlWrite n v) := by
  obtain ⟨r, hr, hb⟩ : ∃ r, zoneSpec (Reg.TMR_CTL n.val) = some r ∧ z.blockWrite h .host p0 r v = (0, z.tmrCtlWrite n v) := by
    clear hg
    fin_cases n
    · exact ⟨_, rfl, rfl⟩
    · exact ⟨_, rfl, rfl⟩
    · exact ⟨_, rfl, rfl⟩
    · exact ⟨_, rfl, rfl⟩
  exact Zone.regWrite_block hg (Reg.TMR_CTL_place n).2 hr hb

theorem Zone.regWrite_tmrNext {z : Zone} {n : Fin 4} (hg : Grants z .host (Reg.TMR_NEXT n.val)) (h : HostC) (p0 : Bool) (v : Word) :
    z.regWrite h .host p0 (Reg.TMR_NEXT n.val) v = (0, z.tmrNextWrite n v) := by
  obtain ⟨r, hr, hb⟩ : ∃ r, zoneSpec (Reg.TMR_NEXT n.val) = some r ∧ z.blockWrite h .host p0 r v = (0, z.tmrNextWrite n v) := by
    clear hg
    fin_cases n
    · exact ⟨_, rfl, rfl⟩
    · exact ⟨_, rfl, rfl⟩
    · exact ⟨_, rfl, rfl⟩
    · exact ⟨_, rfl, rfl⟩
  exact Zone.regWrite_block hg (Reg.TMR_NEXT_place n).2 hr hb

theorem vmod_idle {α : Type} {n : Nat} (v : Vector α n) (i : Fin n) : vmod v i (fun x => x) = v := by simp [vmod]

/-- A change of NEXT of a running timer is pending (R45). -/
theorem Zone.tmrNextWrite_out {z : Zone} (h : z.regsWf = true) (n : Fin 4) (v : Word) : z.tmrNextWrite n v =
    { z.setReg (Reg.TMR_NEXT n.val) v with tmr := vmod z.tmr n (fun t => { t with pend := t.pend || z.tmrEn n }) } := by
  have he : (z.setReg (Reg.TMR_NEXT n.val) v).tmrEn n = z.tmrEn n := by
    unfold Zone.tmrEn
    rw [Zone.reg_setReg h, if_neg (Reg.TMR_CTL_ne_NEXT _)]
  unfold Zone.tmrNextWrite
  dsimp only
  rw [he]
  cases z.tmrEn n with
  | false =>
    have hf : (fun t : ZTimer => { t with pend := t.pend || false }) = fun t => t := funext fun t => by rw [Bool.or_false]
    rw [hf, if_neg (by decide), vmod_idle]
    rfl
  | true => simp [Zone.setReg]

/-- A timer that starts takes NEXT and its control fields (R45). -/
theorem Zone.tmrCtlWrite_starts {z : Zone} (h : z.regsWf = true) {n : Fin 4} {v : Word} (he : z.tmrEn n = false)
    (hv : bit v 0 = true) (hp : z.reg (Reg.TMR_NEXT n.val) ≠ 0) : z.tmrCtlWrite n v =
      { z.setReg (Reg.TMR_CTL n.val) (v &&& 0x1F) with tmr := vmod z.tmr n (fun t => { t with
        period := (z.reg (Reg.TMR_NEXT n.val)).toNat, count := 0, unit := bit v 1, oneshot := bit v 2, force := bit v 7
        pend := false }) } := by
  have hx : (z.setReg (Reg.TMR_CTL n.val) (v &&& 0x1F)).reg (Reg.TMR_NEXT n.val) = z.reg (Reg.TMR_NEXT n.val) := by
    rw [Zone.reg_setReg h, if_neg (Reg.TMR_CTL_ne_NEXT _).symm]
  have h0 : (z.reg (Reg.TMR_NEXT n.val)).toNat ≠ 0 := fun e => hp (BitVec.eq_of_toNat_eq e)
  unfold Zone.tmrCtlWrite
  dsimp only
  rw [he, hv, hx, if_neg (by decide), if_pos rfl, if_neg h0]
  rfl

/-- FORCE of a running timer whose control fields are kept (R46). -/
theorem Zone.tmrCtlWrite_force {z : Zone} {n : Fin 4} (he : z.tmrEn n = true) :
    z.tmrCtlWrite n ((z.reg (Reg.TMR_CTL n.val) &&& 0x1F) ||| 0x80) =
      { z.setReg (Reg.TMR_CTL n.val) (z.reg (Reg.TMR_CTL n.val) &&& 0x1F) with
        tmr := vmod z.tmr n (fun t => { t with force := true }) } := by
  have hw (w : Word) : ((w &&& 0x1F) ||| 0x80) &&& 0x1F = w &&& 0x1F := by
    rw [BitVec.and_or_distrib_right, BitVec.and_assoc]
    simp
  have h1 (w : Word) : bit ((w &&& 0x1F) ||| 0x80) 1 = bit w 1 := by
    rw [bit_or, bit_and]; simp [bit]
  have h2 (w : Word) : bit ((w &&& 0x1F) ||| 0x80) 2 = bit w 2 := by
    rw [bit_or, bit_and]; simp [bit]
  have h7 (w : Word) : bit ((w &&& 0x1F) ||| 0x80) 7 = true := by
    rw [bit_or, show bit (0x80 : Word) 7 = true from by decide, Bool.or_true]
  unfold Zone.tmrCtlWrite
  dsimp only
  rw [he, if_pos rfl, hw, h1, h2, h7]
  simp [Zone.setReg]

/-- Settles O13: the end of a period in its parts (`Zone.tmrEnd_noted`), and the branches of the writes of NEXT and CTL. -/
theorem timers : Obligations.Timers := by
  intro s i n z hz hq
  have hw := Quiet.regsWf hz hq
  refine ⟨fun hb hd he => ?_, fun v hg => ?_, fun v hg hb hv hp => ?_, fun hg hb => ?_⟩
  · obtain ⟨d, t', hk, ⟨t0, t1, t2⟩, s0, s1, hc⟩ := Zone.tmrEnd_noted (n := n) hw he
    have hdue : z.tmrDue n = true := by
      unfold Zone.tmrDue
      rw [show z.tmrEn n = true from hb, decide_eq_true hd]
      rfl
    have hc := hc hb
    generalize hm : z.tmrEnd n = m at hk s0 s1 hc
    have hn : (if z.tmrDue n then z.tmrEnd n else z) = m := (if_pos hdue).trans hm
    obtain ⟨q, r, rfl, hk⟩ := hk
    refine (event_apart (f := fun z _ => if z.tmrDue n then z.tmrEnd n else z) hz hq rfl hn ⟨rfl, rfl, rfl, rfl⟩).imp
      fun t ⟨h, ho⟩ => ?_
    rw [h]
    have hv : (vmod z.tmr n fun _ => t')[n] = t' := vmod_self _ _ _
    exact ⟨(congrArg ZTimer.count hv).trans t0, (congrArg ZTimer.pend hv).trans t1, (congrArg ZTimer.period hv).trans t2,
      fun m hm => vmod_ne _ hm _, s0, s1, hc.trans (congrArg (fun t => !(t.oneshot || t.period == 0)) hv.symm),
      (hk.of_regs rfl).2, rfl, ho⟩
  · have hn (p0 : Bool) := (Zone.regWrite_tmrNext hg s.host p0 v).trans (congrArg (Prod.mk 0) (Zone.tmrNextWrite_out hw n v))
    refine (write_alone hz hq rfl (Reg.TMR_NEXT_place n).1 hn ⟨rfl, rfl, rfl, rfl⟩ rfl rfl).imp fun t ⟨h, ho⟩ => ?_
    rw [h]
    exact ⟨(Zone.reg_setReg hw _ _ _).trans (if_pos rfl), fun k hk => (Noted.setReg hw (by simp) v).reg hk, vmod_self _ _ _,
      fun m hm => vmod_ne _ hm _, rfl, ho⟩
  · have hn (p0 : Bool) := (Zone.regWrite_tmrCtl hg s.host p0 v).trans (congrArg (Prod.mk 0) (Zone.tmrCtlWrite_starts hw hb hv hp))
    refine (write_alone hz hq rfl (Reg.TMR_CTL_place n).1 hn ⟨rfl, rfl, rfl, rfl⟩ rfl rfl).imp fun t ⟨h, ho⟩ => ?_
    rw [h]
    exact ⟨(Zone.reg_setReg hw _ _ _).trans (if_pos rfl), fun k hk => (Noted.setReg hw (by simp) _).reg hk, vmod_self _ _ _,
      fun m hm => vmod_ne _ hm _, rfl, ho⟩
  · have hc : exec (.forceEnd i n) s =
        .next (s.busWrite (zoneAddr i (Reg.TMR_CTL n.val)) ((z.reg (Reg.TMR_CTL n.val) &&& 0x1F) ||| 0x80)) := by
      rw [← hz]; rfl
    have hn (p0 : Bool) := (Zone.regWrite_tmrCtl hg s.host p0 ((z.reg (Reg.TMR_CTL n.val) &&& 0x1F) ||| 0x80)).trans
      (congrArg (Prod.mk 0) (Zone.tmrCtlWrite_force hb))
    refine (write_alone hz hq hc (Reg.TMR_CTL_place n).1 hn ⟨rfl, rfl, rfl, rfl⟩ rfl rfl).imp fun t ⟨h, ho⟩ => ?_
    rw [h]
    exact ⟨vmod_self _ _ _, fun m hm => vmod_ne _ hm _, (Zone.reg_setReg hw _ _ _).trans (if_pos rfl),
      fun k hk => (Noted.setReg hw (by simp) _).reg hk, rfl, ho⟩

end Sys2Proof.Machine
end

section
namespace Sys2Proof.Machine

/-! Coherent reads (R47). -/

/-- A capture of the time draws SUBF, and is the reader's alone. -/
theorem Zone.latchTime_host (z : Zone) : ∃ u d, z.latchTime .host = { z with
    time := { z.time with subf := u, capHost :=
      ⟨BitVec.setWidth 32 (BitVec.extractLsb' 32 16 z.time.frame), BitVec.ofNat 32 u, z.tick⟩ }, draws := d } := by
  unfold Zone.latchTime Zone.drawSubf
  split
  · exact ⟨0, z.draws, rfl⟩
  · exact ⟨_, _, rfl⟩

theorem Zone.latchTime_prog (z : Zone) : ∃ u d, z.latchTime .prog = { z with
    time := { z.time with subf := u, capProg :=
      ⟨BitVec.setWidth 32 (BitVec.extractLsb' 32 16 z.time.frame), BitVec.ofNat 32 u, z.tick⟩ }, draws := d } := by
  unfold Zone.latchTime Zone.drawSubf
  split
  · exact ⟨0, z.draws, rfl⟩
  · exact ⟨_, _, rfl⟩

/-- The bridge's cycles are in the DSP and its count (R201, R210). -/
theorem Zone.dspHold_out (z : Zone) (n : Nat) : ∃ d r, z.dspHold n = { z with dsp := d, regs := r } := by
  unfold Zone.dspHold
  split
  · exact ⟨_, _, rfl⟩
  · exact ⟨_, _, rfl⟩

/-- The bridge's cycles do not depend on the time or on what is drawn. -/
theorem Zone.dspHold_time (z : Zone) (n : Nat) (t : ZTime) (d : Nat) :
    Zone.dspHold { z with time := t, draws := d } n = { z.dspHold n with time := t, draws := d } := by
  unfold Zone.dspHold
  dsimp only
  split
  · rfl
  · rfl

section reads
variable {z : Zone} {p : Party} (ha : Answers z)
include ha

/-- A zone that answers reads a register that does more than show a word. -/
theorem Zone.regRead_special {off : Nat} {r : RegSpec} {w : Word} {n : Zone} (ho : 0x20 ≤ off % 0x400) (hr : zoneSpec off = some r)
    (hx : r.acc ≠ .wo) (hs : z.readSpecial p off = some (w, n)) : z.regRead p off = ⟨0, w, n⟩ := by
  obtain ⟨h1, h2⟩ := ha
  unfold Zone.regRead
  dsimp only
  rw [if_neg (by omega), if_neg (fun h => h1 h.2), if_neg (fun h => by simp [h2] at h), if_neg (by omega), hr]
  dsimp only
  rw [if_neg hx, hs]

/-- FRAME_LO in LATCH mode. -/
theorem Zone.regRead_frameLo (hl : bit (z.reg Reg.TIME_CTL) 0 = false) :
    z.regRead p Reg.TIME_FRAME_LO = ⟨0, BitVec.extractLsb' 0 32 z.time.frame, z.latchTime p⟩ := by
  have hs : z.readSpecial p Reg.TIME_FRAME_LO =
      some (BitVec.extractLsb' 0 32 z.time.frame, if bit (z.reg Reg.TIME_CTL) 0 then z else z.latchTime p) := rfl
  rw [hl, if_neg (by decide)] at hs
  exact Zone.regRead_special ha (by decide) rfl (by decide) hs

/-- POS_LO in LATCH mode. -/
theorem Zone.regRead_posLo (hl : bit (z.reg Reg.TIME_CTL) 1 = false) :
    z.regRead p Reg.POS_POS_LO = ⟨0, BitVec.extractLsb' 0 32 z.pos.pos, z.latchPos p⟩ := by
  have hs : z.readSpecial p Reg.POS_POS_LO =
      some (BitVec.extractLsb' 0 32 z.pos.pos, if bit (z.reg Reg.TIME_CTL) 1 then z else z.latchPos p) := rfl
  rw [hl, if_neg (by decide)] at hs
  exact Zone.regRead_special ha (by decide) rfl (by decide) hs

end reads

/-- A read through the register bridge (R210). -/
theorem Zone.bridgeRead_of {z n : Zone} {off : Nat} {w : Word} (ho : off < 0x7400) (hr : z.regRead .prog off = ⟨0, w, n⟩) :
    (z.bridgeRead off).2 = n := by
  unfold Zone.bridgeRead
  rw [if_neg (by omega), hr]

/-- Settles O14: the capture is `Zone.latchTime` or `Zone.latchPos` of the reader; `Zone.dspHold` is the bridge's cost. -/
theorem latchedReads : Obligations.LatchedReads := by
  intro s i z hz hq ha
  refine ⟨fun hl => ⟨?_, ?_⟩, fun hl => ⟨?_, ?_⟩⟩
  · obtain ⟨u, d, hn⟩ := z.latchTime_host
    have hr := Zone.regRead_frameLo (p := .host) ha hl
    rw [hn] at hr
    refine (read_alone hz hq rfl (by decide) hr ⟨rfl, rfl, rfl, rfl⟩ rfl rfl).imp fun t ⟨h1, h2, h, ho⟩ => ?_
    rw [h]
    exact ⟨h1, h2, rfl, rfl, rfl, rfl, rfl, rfl, ho⟩
  · obtain ⟨u, d, hn⟩ := z.latchTime_prog
    have hr := (Zone.bridgeRead_of (by decide) (Zone.regRead_frameLo (p := .prog) ha hl)).trans hn
    have hh := (congrArg (Zone.dspHold · 6) hr).trans (z.dspHold_time 6 _ d)
    obtain ⟨e, r, hk⟩ := z.dspHold_out 6
    rw [hk] at hh ⊢
    refine (event_alone (f := fun z _ => (z.bridgeRead Reg.TIME_FRAME_LO).2.dspHold 6) hz hq rfl hh
      ⟨rfl, rfl, rfl, rfl⟩ rfl rfl).imp fun t ⟨h, ho⟩ => ?_
    rw [h]
    exact ⟨rfl, rfl, rfl, rfl, rfl, rfl, ho⟩
  · have hr := Zone.regRead_posLo (p := .host) ha hl
    exact read_alone hz hq rfl (by decide) hr ⟨rfl, rfl, rfl, rfl⟩ rfl rfl
  · have hr := congrArg (Zone.dspHold · 6) (Zone.bridgeRead_of (by decide) (Zone.regRead_posLo (p := .prog) ha hl))
    obtain ⟨e, r, hk⟩ := (z.latchPos .prog).dspHold_out 6
    refine (event_alone (f := fun z _ => (z.bridgeRead Reg.POS_POS_LO).2.dspHold 6) hz hq rfl (hr.trans hk)
      ⟨rfl, rfl, rfl, rfl⟩ rfl rfl).imp fun t ⟨h, ho⟩ => ?_
    exact ⟨h.trans hk.symm, ho⟩

end Sys2Proof.Machine
end

section
namespace Sys2Proof.Machine

/-! The number of a zone under operations that repeat or choose. -/

theorem iter_id {f : Nat → Zone → Zone} (hf : ∀ k z, (f k z).id = z.id) (n : Nat) (z : Zone) : (iter n f z).id = z.id :=
  iterFrom_keeps (g := Zone.id) hf 0 n z

theorem iter_snd_id {α : Type} {f : Nat → α × Zone → α × Zone} (hf : ∀ k a, (f k a).2.id = a.2.id) (n : Nat)
    (a : α × Zone) : (iter n f a).2.id = a.2.id :=
  iterFrom_keeps (g := fun a : α × Zone => a.2.id) hf 0 n a

theorem foldl_id {γ : Type} {f : Zone → γ → Zone} (hf : ∀ z x, (f z x).id = z.id) (l : List γ) (z : Zone) :
    (l.foldl f z).id = z.id :=
  foldl_keeps (g := Zone.id) hf l z

theorem foldl_snd_id {α γ : Type} {f : α × Zone → γ → α × Zone} (hf : ∀ a x, (f a x).2.id = a.2.id) (l : List γ)
    (a : α × Zone) : (l.foldl f a).2.id = a.2.id :=
  foldl_keeps (g := fun a : α × Zone => a.2.id) hf l a

@[simp] theorem ite_id (c : Prop) [Decidable c] (a b : Zone) :
    (if c then a else b).id = if c then a.id else b.id := apply_ite Zone.id c a b

@[simp] theorem ite_snd_id {α : Type} (c : Prop) [Decidable c] (a b : α × Zone) :
    (if c then a else b).2.id = if c then a.2.id else b.2.id :=
  apply_ite (fun r : α × Zone => r.2.id) c a b

theorem underTest_id {f : Zone → Zone} (hf : ∀ z, (f z).id = z.id) (z : Zone) : (z.underTest f).id = z.id := by
  unfold Zone.underTest
  split
  · exact hf _
  · exact hf _

end Sys2Proof.Machine
end

section
namespace Sys2Proof.Machine

/-! No operation of a zone changes its number. First the operations that can leave the zone's state (Table 1-2) as it is: on
its registers, memories, clocks, engines, outputs and messages. -/

@[simp] theorem Zone.draw_id (z : Zone) : z.draw.2.id = z.id := rfl

@[simp] theorem Zone.draw48_id (z : Zone) : z.draw48.2.id = z.id := rfl

@[simp] theorem Zone.freeWord_id (z : Zone) (what : Nat) : (z.freeWord what).2.id = z.id := rfl

@[simp] theorem Zone.freeCond_id (z : Zone) (what : Nat) : (z.freeCond what).2.id = z.id := rfl

@[simp] theorem Zone.arith_id (z : Zone) (page acc flag : Nat) : (z.arith page acc flag).id = z.id := by
  simp [Zone.arith]

@[simp] theorem Zone.upset_id (z : Zone) (u : Upset) : (z.upset u).id = z.id := rfl

@[simp] theorem Zone.eccRead_id (z : Zone) (c w : Nat) : (z.eccRead c w).2.id = z.id := by
  unfold Zone.eccRead
  split <;> simp

@[simp] theorem Zone.eccWrite_id (z : Zone) (c w : Nat) : (z.eccWrite c w).id = z.id := rfl

@[simp] theorem Zone.eccScan_id (z : Zone) (c lo n : Nat) : (z.eccScan c lo n).2.id = z.id := by
  unfold Zone.eccScan
  exact foldl_snd_id (fun a p => by simp) _ _

@[simp] theorem Zone.routeValidate_id (z : Zone) (arm : Bool) : (z.routeValidate arm).2.id = z.id := rfl

@[simp] theorem Zone.gainReq_id (z : Zone) (k : Nat) (t : Int) : (z.gainReq k t).id = z.id := by
  unfold Zone.gainReq
  split <;> simp

@[simp] theorem Zone.routeSwapped_id (z : Zone) (old new : Mem72) : (z.routeSwapped old new).id = z.id := by
  simp only [Zone.routeSwapped]
  rw [iter_id (fun k z => by simp), iter_id (fun k z => by simp)]
  simp

@[simp] theorem Zone.spliceDrop_id (z : Zone) : z.spliceDrop.id = z.id := rfl

@[simp] theorem Zone.gainsWarm_id (z : Zone) : z.gainsWarm.id = z.id := rfl

@[simp] theorem Zone.lfoStart_id (z : Zone) (p : LfoP) (old : Option LfoSt) :
    (z.lfoStart p old).2.id = z.id := by
  simp only [Zone.lfoStart]
  split <;> simp

@[simp] theorem Zone.cacheCheck_id (z : Zone) (ws : List Nat) : (z.cacheCheck ws).id = z.id := by
  unfold Zone.cacheCheck
  exact foldl_id (fun z x => by simp) _ _

@[simp] theorem Zone.oscStart_id (z : Zone) (h : HostC) (v n : Nat) (p : OscP) :
    (z.oscStart h v n p).2.2.id = z.id := by
  simp only [Zone.oscStart]
  repeat' split
  all_goals simp

@[simp] theorem Zone.paramFault_id (z : Zone) (item : Word) (v n : Nat) :
    (z.paramFault item v n).id = z.id := by
  simp [Zone.paramFault]

@[simp] theorem Zone.modVoice_id (z : Zone) (v : Fin 96) (f : Voice → Voice) : (z.modVoice v f).id = z.id := rfl

@[simp] theorem Zone.dlRisk_id (z : Zone) (handle : BitVec 16) (r : Rat) (d : DlSt) :
    (z.dlRisk handle r d).id = z.id := by
  simp [Zone.dlRisk]

@[simp] theorem Zone.dlMiss_id (z : Zone) (handle : BitVec 16) (rem : Rat) :
    (z.dlMiss handle rem).id = z.id := by
  simp [Zone.dlMiss]

@[simp] theorem Zone.dlBegin_id (z : Zone) (handle : BitVec 16) (rem : Rat) (d : DlSt) :
    (z.dlBegin handle rem d).2.id = z.id := by
  simp [Zone.dlBegin]

@[simp] theorem Zone.deadline_id (z : Zone) (h : HostC) (v : Fin 96) (first : Bool) :
    (z.deadline h v first).id = z.id := by
  simp only [Zone.deadline]
  split <;> simp

@[simp] theorem Zone.ctlWord_id (z : Zone) (v : Fin 96) (w : Word) : (z.ctlWord v w).id = z.id := by
  simp only [Zone.ctlWord]
  split_ifs <;> simp [iter_id]

@[simp] theorem Zone.presetCopy_id (z : Zone) (it : Item) (v : Fin 96) : (z.presetCopy it v).id = z.id := rfl

@[simp] theorem Zone.voiceBegin_id (z : Zone) (h : HostC) (v : Fin 96) (st : Start) :
    (z.voiceBegin h v st).id = z.id := by
  simp [Zone.voiceBegin, foldl_id]

@[simp] theorem Zone.presetCheck_id (z : Zone) (it : Item) : (z.presetCheck it).id = z.id := by
  unfold Zone.presetCheck
  split <;> simp

@[simp] theorem Zone.presetFetch_id (z : Zone) (v : Fin 96) (cls : Nat) (it : Item) :
    (z.presetFetch v cls it).id = z.id := rfl

@[simp] theorem Zone.waitDeadline_id (z : Zone) (st : Start) : (z.waitDeadline st).2.id = z.id := by
  unfold Zone.waitDeadline
  split <;> simp

@[simp] theorem Zone.startOn_id (z : Zone) (h : HostC) (v : Fin 96) (st : Start) (succ : Bool) :
    (z.startOn h v st succ).id = z.id := by
  simp only [Zone.startOn]
  repeat' split
  all_goals simp

@[simp] theorem Zone.vrelOne_id (z : Zone) (v : Fin 96) : (z.vrelOne v).id = z.id := rfl

@[simp] theorem Zone.vkillOne_id (z : Zone) (v : Fin 96) : (z.vkillOne v).id = z.id := rfl

@[simp] theorem Zone.succStart_id (z : Zone) (h : HostC) (v : Fin 96) : (z.succStart h v).id = z.id := by
  unfold Zone.succStart
  split <;> simp

@[simp] theorem Zone.succLost_id (z : Zone) (h : HostC) (v : Fin 96) : (z.succLost h v).id = z.id := by
  unfold Zone.succLost
  split <;> simp

@[simp] theorem Zone.lateStart_id (z : Zone) (vo : Voice) : (z.lateStart vo).id = z.id := by
  simp [Zone.lateStart]

@[simp] theorem Zone.waitCopy_id (z : Zone) (h : HostC) (v : Fin 96) : (z.waitCopy h v).id = z.id := by
  simp only [Zone.waitCopy]
  split <;> simp

@[simp] theorem Zone.completeVoice_id (z : Zone) (h : HostC) (v : Fin 96) :
    (z.completeVoice h v).id = z.id := by
  simp [Zone.completeVoice]

@[simp] theorem Zone.dropVoices_id (z : Zone) : z.dropVoices.id = z.id := rfl

@[simp] theorem Zone.oscSwap_id (z : Zone) (h : HostC) (v n : Nat) (old new : OscP) (o : OscSt) :
    (z.oscSwap h v n old new o).2.2.id = z.id := by
  simp only [Zone.oscSwap]
  repeat' split
  all_goals simp

@[simp] theorem Zone.voiceSwap_id (z : Zone) (h : HostC) (old new : Mem72) (v : Fin 96) :
    (z.voiceSwap h old new v).id = z.id := by
  simp only [Zone.voiceSwap]
  split_ifs
  · rfl
  · repeat rw [iter_id (fun k z => by simp)]

@[simp] theorem Zone.blocksSwapped_id (z : Zone) (h : HostC) (old new : Mem72) :
    (z.blocksSwapped h old new).id = z.id := by
  simp [Zone.blocksSwapped, iter_id]

@[simp] theorem Zone.arithOnce_id (z : Zone) (page acc flag : Nat) : (z.arithOnce page acc flag).id = z.id := by
  simp [Zone.arithOnce]

@[simp] theorem Zone.accFlags_id (z : Zone) (page num : Nat) (a b : AccSt) :
    (z.accFlags page num a b).id = z.id := by
  simp [Zone.accFlags]

@[simp] theorem Zone.decSample_id (z : Zone) (n : Fin 4) (c : Int) : (z.decSample n c).id = z.id := by
  simp [Zone.decSample]

@[simp] theorem Zone.decFeed_id (z : Zone) : z.decFeed.id = z.id := by
  unfold Zone.decFeed
  exact underTest_id (fun z => foldl_id (fun z n => by simp [foldl_id]) _ _) _

@[simp] theorem Zone.decReset_id (z : Zone) (n : Fin 4) : (z.decReset n).id = z.id := by
  simp [Zone.decReset]

@[simp] theorem Zone.fadesBegun_id (z : Zone) : z.fadesBegun.id = z.id := rfl

@[simp] theorem Zone.decLoad_id (z : Zone) (n : Fin 4) : (z.decLoad n).id = z.id := by
  simp [Zone.decLoad]

@[simp] theorem Zone.decLoadAll_id (z : Zone) : z.decLoadAll.id = z.id := by
  simp [Zone.decLoadAll, foldl_id]

@[simp] theorem Zone.chainStart_id (z : Zone) : z.chainStart.id = z.id := rfl

@[simp] theorem Zone.decTick_id (z : Zone) (n : Fin 4) : (z.decTick n).id = z.id := by
  simp [Zone.decTick]

@[simp] theorem Zone.decFreq_id (z : Zone) (n : Fin 4) (v : Word) : (z.decFreq n v).id = z.id := rfl

@[simp] theorem Zone.crossEnd_id (z : Zone) (n : Fin 4) : (z.crossEnd n).id = z.id := rfl

@[simp] theorem Zone.cdataHiRead_id (z : Zone) (n : Fin 4) (p : Party) : (z.cdataHiRead n p).2.id = z.id := rfl

@[simp] theorem Zone.cdataLoRead_id (z : Zone) (n : Fin 4) (p : Party) : (z.cdataLoRead n p).2.id = z.id := rfl

@[simp] theorem Zone.cdataLoWrite_id (z : Zone) (n : Fin 4) (p : Party) (v : Word) :
    (z.cdataLoWrite n p v).2.id = z.id := by
  simp [Zone.cdataLoWrite]

@[simp] theorem Zone.erleWindow_id (z : Zone) (c : Fin 2) : (z.erleWindow c).id = z.id := by
  simp [Zone.erleWindow]

@[simp] theorem Zone.bandTick_id (z : Zone) : z.bandTick.id = z.id := by
  unfold Zone.bandTick
  extract_lets sel useB pick y y' chB
  have hy : y.id = z.id := foldl_id (fun _ _ => by simp) _ _
  have hy' : y'.id = z.id := (Zone.setReg_id _ _ _).trans hy
  clear_value y'
  exact Eq.trans (rfl : _ = y'.id) hy'

@[simp] theorem Zone.bandsMsg_id (z : Zone) : z.bandsMsg.id = z.id := by
  simp [Zone.bandsMsg]

@[simp] theorem Zone.bandCapture_id (z : Zone) (p : Party) : (z.bandCapture p).id = z.id := by
  unfold Zone.bandCapture
  split <;> simp

@[simp] theorem Zone.windowEnd_id (z : Zone) (c : Fin 2) : (z.windowEnd c).id = z.id := by
  simp [Zone.windowEnd]

@[simp] theorem Zone.ampTick_id (z : Zone) : z.ampTick.id = z.id := rfl

@[simp] theorem Zone.spanWrite_id (z : Zone) (v : Word) : (z.spanWrite v).id = z.id := by
  simp [Zone.spanWrite]

@[simp] theorem Zone.pilotAgain_id (z : Zone) : z.pilotAgain.id = z.id := rfl

@[simp] theorem Zone.spanSwitch_id (z : Zone) : z.spanSwitch.id = z.id := by
  simp [Zone.spanSwitch]

@[simp] theorem Zone.unmute_id (z : Zone) : z.unmute.id = z.id := by
  unfold Zone.unmute
  split <;> simp

@[simp] theorem Zone.switchAct_id (z : Zone) : z.switchAct.id = z.id := by
  simp [Zone.switchAct]

@[simp] theorem Zone.spanTick_id (z : Zone) : z.spanTick.id = z.id := by
  simp [Zone.spanTick]

@[simp] theorem Zone.delayTick_id (z : Zone) : z.delayTick.id = z.id := by
  simp [Zone.delayTick]

@[simp] theorem Zone.ampOnTick_id (z : Zone) : z.ampOnTick.id = z.id := by
  simp [Zone.ampOnTick]

@[simp] theorem Zone.muStep_id (z : Zone) : z.muStep.id = z.id := rfl

@[simp] theorem Zone.cmSettled_id (z : Zone) : z.cmSettled.id = z.id := rfl

@[simp] theorem Zone.cmRamp_id (n : Nat) (z : Zone) : (z.cmRamp n).id = z.id := by
  simp [Zone.cmRamp]

@[simp] theorem Zone.pilotWrite_id (z : Zone) (v : Word) : (z.pilotWrite v).id = z.id := rfl

@[simp] theorem Zone.pilotTick_id (z : Zone) : z.pilotTick.id = z.id := by
  simp [Zone.pilotTick]

@[simp] theorem Zone.burst_id (z : Zone) : z.burst.id = z.id := by
  simp [Zone.burst]

@[simp] theorem Zone.fallbackTick_id (z : Zone) : z.fallbackTick.id = z.id := by
  simp [Zone.fallbackTick]

@[simp] theorem Zone.testRestart_id (z : Zone) : z.testRestart.id = z.id := rfl

@[simp] theorem Zone.testFrame_id (z : Zone) : z.testFrame.id = z.id := by
  simp [Zone.testFrame]

@[simp] theorem Zone.stoneWrite_id (z : Zone) (v : Word) : (z.stoneWrite v).id = z.id := by
  simp only [Zone.stoneWrite]
  split_ifs <;> simp

@[simp] theorem Zone.stoneTick_id (z : Zone) : z.stoneTick.id = z.id := by
  simp [Zone.stoneTick]

@[simp] theorem Zone.stoneUpdate_id (z : Zone) (u : Nat) : (z.stoneUpdate u).2.id = z.id := rfl

@[simp] theorem Zone.stoneFrame_id (z : Zone) : z.stoneFrame.id = z.id := by
  simp [Zone.stoneFrame]

@[simp] theorem Zone.parkCodes_id (z : Zone) : z.parkCodes.id = z.id := by
  simp [Zone.parkCodes]

@[simp] theorem Zone.pinsOff_id (z : Zone) : z.pinsOff.id = z.id := by
  simp [Zone.pinsOff]

@[simp] theorem Zone.clrAssert_id (z : Zone) : z.clrAssert.id = z.id := by
  simp [Zone.clrAssert]

@[simp] theorem Zone.clrRelease_id (z : Zone) (sub : Nat) : (z.clrRelease sub).id = z.id := by
  simp [Zone.clrRelease]

@[simp] theorem Zone.clrFade_id (z : Zone) : z.clrFade.id = z.id := rfl

@[simp] theorem Zone.clrAct_id (z : Zone) : z.clrAct.id = z.id := by
  simp [Zone.clrAct]

@[simp] theorem Zone.clrStale_id (z : Zone) : z.clrStale.id = z.id := by
  simp [Zone.clrStale]

@[simp] theorem Zone.clrTick_id (z : Zone) : z.clrTick.id = z.id := by
  simp [Zone.clrTick]

@[simp] theorem Zone.clrSlowTick_id (z : Zone) : z.clrSlowTick.id = z.id := by
  simp [Zone.clrSlowTick]

@[simp] theorem Zone.dacSat_id (z : Zone) : z.dacSat.id = z.id := by
  simp [Zone.dacSat]

@[simp] theorem Zone.dacUpdate_id (u : Nat) (z : Zone) : (z.dacUpdate u).id = z.id := by
  simp [Zone.dacUpdate]

@[simp] theorem Zone.outFrame_id (z : Zone) (inp : FrameIn) : (z.outFrame inp).id = z.id := by
  simp [Zone.outFrame, iter_id]

@[simp] theorem Zone.tdmStart_id (z : Zone) : z.tdmStart.id = z.id := by
  simp [Zone.tdmStart]

@[simp] theorem Zone.tdmEnd_id (z : Zone) (v : Vector Word 8) : (z.tdmEnd v).id = z.id := by
  simp [Zone.tdmEnd]

@[simp] theorem Zone.tdmTick_id (z : Zone) : z.tdmTick.id = z.id := by
  simp [Zone.tdmTick]

@[simp] theorem Zone.tdmSlip_id (z : Zone) (phase : Int) : (z.tdmSlip phase).id = z.id := by
  simp [Zone.tdmSlip]

@[simp] theorem Zone.tdmLocked_id (z : Zone) (phase : Int) : (z.tdmLocked phase).id = z.id := by
  simp [Zone.tdmLocked]

@[simp] theorem Zone.nalBandTick_id (z : Zone) (n : Fin 7) : (z.nalBandTick n).id = z.id := rfl

@[simp] theorem Zone.nalTick_id (z : Zone) : z.nalTick.id = z.id := by
  unfold Zone.nalTick
  split
  · exact foldl_id (fun z n => by simp) _ _
  · rfl

@[simp] theorem Zone.verdictSet_id (z : Zone) (v : Nat) : (z.verdictSet v).id = z.id := by
  simp [Zone.verdictSet]

@[simp] theorem Zone.lineBegin_id (z : Zone) : z.lineBegin.id = z.id := rfl

@[simp] theorem Zone.lineFrame_id (z : Zone) : z.lineFrame.id = z.id := by
  simp [Zone.lineFrame]

@[simp] theorem Zone.baseMisSet_id (z : Zone) : z.baseMisSet.id = z.id := by
  simp [Zone.baseMisSet]

@[simp] theorem Zone.lineDone_id (z : Zone) : z.lineDone.2.id = z.id := by
  simp [Zone.lineDone]

@[simp] theorem Zone.lineOff_id (z : Zone) : z.lineOff.id = z.id := by
  simp [Zone.lineOff]

@[simp] theorem Zone.baseLoad_id (z : Zone) (r : Option BaseRec) (bad : Bool) :
    (z.baseLoad r bad).id = z.id := by
  simp only [Zone.baseLoad]
  repeat' split
  all_goals simp

@[simp] theorem Zone.storeBase_id (z : Zone) : z.storeBase.id = z.id := by
  simp [Zone.storeBase]

@[simp] theorem Zone.clearBase_id (z : Zone) : z.clearBase.id = z.id := rfl

@[simp] theorem Zone.ampSeq_id (z : Zone) : z.ampSeq.id = z.id := by
  simp [Zone.ampSeq]

@[simp] theorem Zone.ampRelease_id (z : Zone) : z.ampRelease.id = z.id := by
  unfold Zone.ampRelease
  split <;> simp

@[simp] theorem Zone.ampSeqRun_id (z : Zone) (k : Nat) : (z.ampSeqRun k).id = z.id := by
  simp only [Zone.ampSeqRun]
  repeat' split
  all_goals simp

@[simp] theorem Zone.ampReset_id (z : Zone) : z.ampReset.id = z.id := by
  simp [Zone.ampReset]

@[simp] theorem Zone.holdStart_id (z : Zone) : z.holdStart.id = z.id := rfl

@[simp] theorem Zone.holdExpire_id (z : Zone) : z.holdExpire.id = z.id := by
  simp only [Zone.holdExpire]
  rw [foldl_id (fun z v => by split <;> simp)]
  simp

@[simp] theorem Zone.holdTick_id (z : Zone) : z.holdTick.id = z.id := by
  simp [Zone.holdTick]

@[simp] theorem Zone.armCheck_id (z : Zone) (p : Fin 6) (t : BitVec 32) : (z.armCheck p t).2.id = z.id := by
  simp [Zone.armCheck]

@[simp] theorem Zone.armSet_id (z : Zone) (p : Fin 6) (t : BitVec 32) (copy owned : Bool) :
    (z.armSet p t copy owned).id = z.id := rfl

@[simp] theorem Zone.arm_id (z : Zone) (p : Fin 6) (t : BitVec 32) (tgt : Option (BitVec 24)) (copy : Bool) :
    (z.arm p t tgt copy).2.id = z.id := by
  simp only [Zone.arm]
  repeat' split
  all_goals simp

@[simp] theorem Zone.armMask_id (z : Zone) (m : BitVec 6) (t : BitVec 32) (owned : Bool) :
    (z.armMask m t owned).2.id = z.id := by
  simp only [Zone.armMask]
  rw [ite_snd_id, foldl_id (fun z v => by simp), foldl_snd_id (fun z v => by simp), ite_self]

@[simp] theorem Zone.modeReport_id (z : Zone) (mode outcome : Nat) (target applied : BitVec 32) (dev : Bool) :
    (z.modeReport mode outcome target applied dev).id = z.id := by
  simp [Zone.modeReport]

@[simp] theorem Zone.modeArm_id (z : Zone) (mode : Nat) (m : BitVec 6) (t : BitVec 32) (dev : Bool) :
    (z.modeArm mode m t dev).2.id = z.id := by
  simp [Zone.modeArm]

@[simp] theorem Zone.dropOwned_id (z : Zone) : z.dropOwned.id = z.id := rfl

@[simp] theorem Zone.modeCancel_id (z : Zone) (outcome : Nat) : (z.modeCancel outcome).id = z.id := by
  unfold Zone.modeCancel
  split <;> simp

@[simp] theorem Zone.disarm_id (z : Zone) (p : Fin 6) : (z.disarm p).id = z.id := by
  simp [Zone.disarm]

@[simp] theorem Zone.swapped_id (z : Zone) (h : HostC) (p : Fin 6) : (z.swapped h p).id = z.id := by
  unfold Zone.swapped
  split <;> simp

@[simp] theorem Zone.swapNow_id (z : Zone) (h : HostC) (p : Fin 6) : (z.swapNow h p).id = z.id := by
  simp [Zone.swapNow]

@[simp] theorem Zone.swapsDue_id (z : Zone) (h : HostC) : (z.swapsDue h).id = z.id := by
  simp only [Zone.swapsDue]
  split
  · simp [foldl_id]
  · exact foldl_id (fun z p => by simp) _ _

@[simp] theorem Zone.swapsFenced_id (z : Zone) : z.swapsFenced.id = z.id := by
  unfold Zone.swapsFenced
  rw [Zone.modeCancel_id, foldl_id (fun z p => by simp)]

@[simp] theorem Zone.copyBatten_id (z : Zone) (p : Fin 6) : (z.copyBatten p).id = z.id := by
  unfold Zone.copyBatten
  split
  · rfl
  · rfl
  · rfl
  · exact foldl_id (fun z k => by simp) _ _

@[simp] theorem Zone.copyDone_id (z : Zone) (p : Fin 6) : (z.copyDone p).id = z.id := by
  simp [Zone.copyDone]

@[simp] theorem Zone.copiesDone_id (z : Zone) : z.copiesDone.id = z.id := by
  unfold Zone.copiesDone
  exact foldl_id (fun z x => by simp) _ _

@[simp] theorem Zone.post_id (z : Zone) (w : Vector Word 8) (tend : Option (BitVec 48)) (p0ctl : Bool) :
    (z.post w tend p0ctl).2.id = z.id := by
  simp [Zone.post]

@[simp] theorem Zone.cancel_id (z : Zone) (tag : BitVec 16) : (z.cancel tag).id = z.id := by
  simp [Zone.cancel]

@[simp] theorem Zone.flush_id (z : Zone) : z.flush.id = z.id := rfl

@[simp] theorem Zone.markDue_id (z : Zone) : z.markDue.id = z.id := rfl

@[simp] theorem Zone.recordCross_id (z : Zone) : z.recordCross.id = z.id := rfl

@[simp] theorem Zone.dspStop_id (z : Zone) : z.dspStop.id = z.id := rfl

@[simp] theorem Zone.outFence_id (z : Zone) : z.outFence.id = z.id := by
  simp [Zone.outFence]

@[simp] theorem Zone.outState_id (z : Zone) (old : ZSt) : (z.outState old).id = z.id := by
  simp only [Zone.outState]
  split <;> simp

@[simp] theorem Zone.govReset_id (z : Zone) : z.govReset.id = z.id := by
  simp [Zone.govReset]

@[simp] theorem Zone.initEnd_id (z : Zone) : z.initEnd.id = z.id := rfl

@[simp] theorem Zone.govState_id (z : Zone) (old : ZSt) : (z.govState old).id = z.id := by
  simp only [Zone.govState]
  split <;> simp

@[simp] theorem Zone.syncDue_id (z : Zone) : z.syncDue.id = z.id := by
  simp [Zone.syncDue]

@[simp] theorem Zone.syncReset_id (z : Zone) : z.syncReset.id = z.id := by
  simp [Zone.syncReset]

@[simp] theorem Zone.memClear_id (z : Zone) (keep : Bool) : (z.memClear keep).id = z.id := rfl

@[simp] theorem Zone.fenceMsg_id (z : Zone) (c : Nat) : (z.fenceMsg c).id = z.id := by
  simp [Zone.fenceMsg]

@[simp] theorem Zone.fenceStop_id (z : Zone) : z.fenceStop.id = z.id := by
  simp [Zone.fenceStop]

@[simp] theorem Zone.reject_id (z : Zone) : z.reject.id = z.id := rfl

@[simp] theorem Zone.coldMem_id (z : Zone) : z.coldMem.id = z.id := rfl

@[simp] theorem Zone.warmMem_id (z : Zone) : z.warmMem.id = z.id := by
  simp [Zone.warmMem]

@[simp] theorem Zone.toSlow_id (z : Zone) : z.toSlow.id = z.id := by
  simp [Zone.toSlow]

@[simp] theorem Zone.wdStart_id (z : Zone) : z.wdStart.id = z.id := rfl

@[simp] theorem Zone.wdTick_id (z : Zone) : z.wdTick.id = z.id := by
  simp [Zone.wdTick]

@[simp] theorem Zone.bucketLeak_id (z : Zone) : z.bucketLeak.id = z.id := rfl

@[simp] theorem Zone.judge_id (z : Zone) : z.judge.id = z.id := by
  simp [Zone.judge]

@[simp] theorem Zone.relock_id (z : Zone) (e : Int) : (z.relock e).id = z.id := by
  simp [Zone.relock]

@[simp] theorem Zone.lockStep_id (z : Zone) (e : Int) : (z.lockStep e).id = z.id := by
  simp [Zone.lockStep]

@[simp] theorem Zone.holdover_id (z : Zone) (elapsed : Nat) : (z.holdover elapsed).id = z.id := by
  simp [Zone.holdover, Zone.holdEnter]

@[simp] theorem Zone.edgeSeen_id (z : Zone) (interval : Nat) (e : Int) (sync : Bool) :
    (z.edgeSeen interval e sync).id = z.id := rfl

@[simp] theorem Zone.frefEdge_id (z : Zone) (interval : Nat) (e : Int) (sync : Bool) :
    (z.frefEdge interval e sync).id = z.id := by
  simp [Zone.frefEdge]

@[simp] theorem Zone.fofsRead_id (z : Zone) : z.fofsRead.2.id = z.id := rfl

@[simp] theorem Zone.slewDone_id (z : Zone) : z.slewDone.id = z.id := by
  simp [Zone.slewDone]

@[simp] theorem Zone.rateTick_id (z : Zone) : z.rateTick.id = z.id := by
  simp [Zone.rateTick]

@[simp] theorem Zone.epochArm_id (z : Zone) (check : Bool) : (z.epochArm check).id = z.id := by
  simp [Zone.epochArm]

@[simp] theorem Zone.epochDone_id (z : Zone) (d : Int) (check : Bool) : (z.epochDone d check).id = z.id := by
  simp [Zone.epochDone]

@[simp] theorem Zone.tmrCount_id (z : Zone) (unit : Bool) (k : Nat) : (z.tmrCount unit k).id = z.id := rfl

@[simp] theorem Zone.tmrForce_id (z : Zone) : z.tmrForce.id = z.id := rfl

@[simp] theorem Zone.tmrEnd_id (z : Zone) (n : Fin 4) : (z.tmrEnd n).id = z.id := by
  simp [Zone.tmrEnd]

@[simp] theorem Zone.tmrNextWrite_id (z : Zone) (n : Fin 4) (v : Word) : (z.tmrNextWrite n v).id = z.id := by
  simp [Zone.tmrNextWrite]

@[simp] theorem Zone.tmrCtlWrite_id (z : Zone) (n : Fin 4) (v : Word) : (z.tmrCtlWrite n v).id = z.id := by
  simp [Zone.tmrCtlWrite]

@[simp] theorem Zone.countEdge_id (z : Zone) (neg : Bool) (f : BitVec 48) (s : Nat) :
    (z.countEdge neg f s).id = z.id := rfl

@[simp] theorem Zone.tach_id (z : Zone) (a b : Bool) (s : Nat) : (z.tach a b s).id = z.id := by
  simp only [Zone.tach]
  repeat' split
  all_goals simp

@[simp] theorem Zone.posModeTo_id (z : Zone) (m : Nat) : (z.posModeTo m).id = z.id := rfl

@[simp] theorem Zone.posFrame_id (z : Zone) (n : Nat) : (z.posFrame n).id = z.id := by
  simp [Zone.posFrame]

@[simp] theorem Zone.standstill_id (z : Zone) : z.standstill.id = z.id := by
  simp [Zone.standstill]

@[simp] theorem Zone.staleSet_id (z : Zone) : z.staleSet.id = z.id := by
  simp [Zone.staleSet]

@[simp] theorem Zone.hcmdWrite_id (z : Zone) (setpos setvel atTick : Bool) :
    (z.hcmdWrite setpos setvel atTick).id = z.id := rfl

@[simp] theorem Zone.hcmdApply_id (z : Zone) : z.hcmdApply.id = z.id := by
  unfold Zone.hcmdApply
  split <;> simp

@[simp] theorem Zone.drawSubf_id (z : Zone) : z.drawSubf.id = z.id := by
  simp [Zone.drawSubf]

@[simp] theorem Zone.latchTime_id (z : Zone) (p : Party) : (z.latchTime p).id = z.id := by
  unfold Zone.latchTime
  split <;> simp

@[simp] theorem Zone.latchPos_id (z : Zone) (p : Party) : (z.latchPos p).id = z.id := by
  unfold Zone.latchPos
  split <;> simp

@[simp] theorem Zone.slowTick_id (z : Zone) : z.slowTick.id = z.id := by
  simp [Zone.slowTick]

@[simp] theorem Zone.advance_id (z : Zone) : z.advance.id = z.id := by
  simp [Zone.advance]

@[simp] theorem Zone.slowEdge_id (z : Zone) (a b : Bool) : (z.slowEdge a b).id = z.id := by
  simp [Zone.slowEdge]

@[simp] theorem Zone.spaceRead_id (z : Zone) (y : Bool) (w : Nat) : (z.spaceRead y w).2.2.id = z.id := by
  simp only [Zone.spaceRead]
  split_ifs <;> simp

@[simp] theorem Zone.freshen_id (z : Zone) (seg : Nat) : (z.freshen seg).id = z.id := rfl

@[simp] theorem Zone.yWrite_id (z : Zone) (w : Nat) (f : W72 → W72) : (z.yWrite w f).2.id = z.id := by
  simp [Zone.yWrite]

@[simp] theorem Zone.dWrite_id (z : Zone) (w : Nat) (f : W72 → W72) : (z.dWrite w f).id = z.id := rfl

@[simp] theorem Zone.zeroElems_id (z : Zone) (lo hi : Nat) : (z.zeroElems lo hi).id = z.id := rfl

@[simp] theorem Zone.expose_id (z : Zone) (p : Ptr) (n : Nat) : (z.expose p n).id = z.id := by
  simp [Zone.expose]

@[simp] theorem Zone.lenChange_id (z : Zone) (i : Fin 8) : (z.lenChange i).id = z.id := by
  simp [Zone.lenChange]

@[simp] theorem Zone.lenChanges_id (z : Zone) : z.lenChanges.id = z.id := by
  unfold Zone.lenChanges
  exact foldl_id (fun z x => by simp) _ _

@[simp] theorem Zone.dspReq_id (z : Zone) (act cls : Nat) : (z.dspReq act cls).id = z.id := by
  simp [Zone.dspReq]

@[simp] theorem Zone.dspStall_id (z : Zone) (n : Nat) : (z.dspStall n).id = z.id := rfl

@[simp] theorem Zone.dspHold_id (z : Zone) (n : Nat) : (z.dspHold n).id = z.id := by
  simp [Zone.dspHold]

@[simp] theorem Zone.dspArb_id (z : Zone) : z.dspArb.id = z.id := rfl

@[simp] theorem Zone.dspTick_id (z : Zone) : z.dspTick.id = z.id := by
  simp [Zone.dspTick]

@[simp] theorem Zone.progWrite_id (z : Zone) (w : Nat) (v : W72) : (z.progWrite w v).id = z.id := rfl

@[simp] theorem Zone.verdictNew_id (z : Zone) (v : Nat) : (z.verdictNew v).2.id = z.id := by
  simp [Zone.verdictNew]

@[simp] theorem Zone.intervalDone_id (z : Zone) : z.intervalDone.2.id = z.id := by
  simp only [Zone.intervalDone]
  repeat' split
  all_goals simp

@[simp] theorem Zone.intervalNext_id (z : Zone) : z.intervalNext.id = z.id := by
  simp [Zone.intervalNext]

@[simp] theorem Zone.govTick_id (z : Zone) : z.govTick.id = z.id := by
  simp [Zone.govTick]

@[simp] theorem Zone.modWin_id (z : Zone) (p : Party) (f : WinSet → WinSet) : (z.modWin p f).id = z.id := by
  unfold Zone.modWin
  split <;> simp

@[simp] theorem Zone.vwinCommit_id (z : Zone) (w : Nat) (v : W72) : (z.vwinCommit w v).id = z.id := by
  simp [Zone.vwinCommit]

@[simp] theorem Zone.vwinWrite_id (z : Zone) (p : Party) (v : Word) : (z.vwinWrite p v).2.id = z.id := by
  simp [Zone.vwinWrite]

@[simp] theorem Zone.rwinCommit_id (z : Zone) (w : Nat) (v : W72) : (z.rwinCommit w v).id = z.id := by
  simp [Zone.rwinCommit]

@[simp] theorem Zone.rwinWrite_id (z : Zone) (p : Party) (v : Word) : (z.rwinWrite p v).2.id = z.id := by
  simp [Zone.rwinWrite]

@[simp] theorem Zone.parWrite_id (z : Zone) (w : Nat) (v : W72) : (z.parWrite w v).id = z.id := by
  simp [Zone.parWrite]

@[simp] theorem Zone.dwinCommit_id (z : Zone) (sp w : Nat) (v : W72) : (z.dwinCommit sp w v).id = z.id := by
  simp only [Zone.dwinCommit]
  repeat' split
  all_goals simp

@[simp] theorem Zone.dwinWrite_id (z : Zone) (p : Party) (v : Word) : (z.dwinWrite p v).2.id = z.id := by
  simp [Zone.dwinWrite]

@[simp] theorem Zone.confRead_id (z : Zone) (off : Nat) : (z.confRead off).2.id = z.id := rfl

@[simp] theorem Zone.rcClear_id (z : Zone) (off : Nat) : (z.rcClear off).id = z.id := by
  simp [Zone.rcClear]

@[simp] theorem Zone.clrCnt_id (z : Zone) (page : Nat) : (z.clrCnt page).id = z.id := by
  unfold Zone.clrCnt
  exact foldl_id (fun z x => by simp) _ _

@[simp] theorem Zone.gramp_id (z : Zone) (k : Fin 64) : (z.gramp k).id = z.id := by
  simp [Zone.gramp]

@[simp] theorem Zone.gramps_id (z : Zone) : z.gramps.id = z.id := by
  unfold Zone.gramps
  exact foldl_id (fun z x => by simp) _ _

@[simp] theorem Zone.spliceEnd_id (z : Zone) : z.spliceEnd.id = z.id := by
  simp [Zone.spliceEnd]

@[simp] theorem Zone.memTick_id (z : Zone) : z.memTick.id = z.id := by
  simp [Zone.memTick]

@[simp] theorem Zone.segNext_id (z : Zone) : z.segNext.id = z.id := by
  simp [Zone.segNext]

@[simp] theorem Zone.cmdRun_id (z : Zone) : z.cmdRun.id = z.id := by
  simp [Zone.cmdRun]

@[simp] theorem Zone.cmdResume_id (z : Zone) : z.cmdResume.id = z.id := by
  simp [Zone.cmdResume]

@[simp] theorem Zone.wdogKick_id (z : Zone) (p : Party) (v : Word) : (z.wdogKick p v).id = z.id := by
  simp [Zone.wdogKick]

@[simp] theorem Zone.wdogWrite_id (z : Zone) (v : Word) : (z.wdogWrite v).id = z.id := by
  simp only [Zone.wdogWrite]
  split_ifs <;> simp

@[simp] theorem Zone.initSlowEv_id (z : Zone) : z.initSlowEv.id = z.id := by
  simp [Zone.initSlowEv]

@[simp] theorem Zone.leakCheck_id (z : Zone) : z.leakCheck.id = z.id := by
  simp [Zone.leakCheck]

@[simp] theorem Zone.zvaGood_id (z : Zone) : z.zvaGood.id = z.id := by
  simp [Zone.zvaGood]

@[simp] theorem Zone.cmokEv_id (z : Zone) : z.cmokEv.id = z.id := by
  simp [Zone.cmokEv]

@[simp] theorem Zone.haltOn_id (z : Zone) : z.haltOn.id = z.id := by
  simp [Zone.haltOn]

@[simp] theorem Zone.haltOff_id (z : Zone) (e : Int) : (z.haltOff e).id = z.id := by
  simp [Zone.haltOff]

@[simp] theorem Zone.sleepStart_id (z : Zone) : z.sleepStart.id = z.id := rfl

@[simp] theorem Zone.sleepNow_id (z : Zone) : z.sleepNow.id = z.id := by
  simp [Zone.sleepNow]

@[simp] theorem Zone.sleepTick_id (z : Zone) : z.sleepTick.id = z.id := by
  unfold Zone.sleepTick
  split <;> simp

@[simp] theorem Zone.sleepBack_id (z : Zone) : z.sleepBack.id = z.id := rfl

@[simp] theorem Zone.wakeNow_id (z : Zone) : z.wakeNow.id = z.id := by
  simp [Zone.wakeNow]

@[simp] theorem Zone.wakeTick_id (z : Zone) : z.wakeTick.id = z.id := by
  simp [Zone.wakeTick]

@[simp] theorem Zone.fltClear_id (z : Zone) (page : Nat) (v : Word) : (z.fltClear page v).id = z.id := by
  unfold Zone.fltClear
  split <;> simp

@[simp] theorem Zone.pgFltWrite_id (z : Zone) (page : Nat) (v : Word) : (z.pgFltWrite page v).id = z.id := by
  simp [Zone.pgFltWrite]

@[simp] theorem Zone.pgSwapWrite_id (z : Zone) (p : Fin 6) (v : Word) : (z.pgSwapWrite p v).2.id = z.id := by
  unfold Zone.pgSwapWrite
  split <;> simp

@[simp] theorem Zone.pgLockWrite_id (z : Zone) (page : Nat) (v : Word) : (z.pgLockWrite page v).id = z.id := by
  simp [Zone.pgLockWrite]

@[simp] theorem Zone.headerWrite_id (z : Zone) (page o : Nat) (v : Word) :
    (z.headerWrite page o v).2.id = z.id := by
  simp only [Zone.headerWrite]
  repeat' split
  all_goals simp

@[simp] theorem Zone.epochCtl_id (z : Zone) (v : Word) : (z.epochCtl v).id = z.id := by
  simp [Zone.epochCtl]

@[simp] theorem Zone.schedCmd_id (z : Zone) (p0 : Bool) (v : Word) : (z.schedCmd p0 v).2.id = z.id := by
  unfold Zone.schedCmd
  split <;> simp

@[simp] theorem Zone.swapsetWrite_id (z : Zone) (v : Word) : (z.swapsetWrite v).2.id = z.id := by
  simp [Zone.swapsetWrite]

@[simp] theorem Zone.greqWrite_id (z : Zone) (v : Word) : (z.greqWrite v).id = z.id := rfl

@[simp] theorem Zone.dspCtlWrite_id (z : Zone) (v : Word) : (z.dspCtlWrite v).id = z.id := rfl

@[simp] theorem Zone.decStage_id (z : Zone) (n : Fin 4) (off : Nat) (v : Word) :
    (z.decStage n off v).id = z.id := rfl

@[simp] theorem Zone.decCmd_id (z : Zone) (n : Fin 4) (v : Word) : (z.decCmd n v).id = z.id := by
  simp [Zone.decCmd]

@[simp] theorem Zone.modDecWin_id (z : Zone) (n : Fin 4) (p : Party) (f : DecWin → DecWin) :
    (z.modDecWin n p f).id = z.id := rfl

@[simp] theorem Zone.decWrite_id (z : Zone) (n : Fin 4) (p : Party) (off : Nat) (v : Word) :
    (z.decWrite n p off v).2.id = z.id := by
  unfold Zone.decWrite
  split <;> simp

@[simp] theorem Zone.aecCmd_id (z : Zone) (v : Word) : (z.aecCmd v).id = z.id := rfl

@[simp] theorem Zone.lineCmd_id (z : Zone) (v : Word) : (z.lineCmd v).id = z.id := by
  simp only [Zone.lineCmd]
  repeat' split
  all_goals simp

@[simp] theorem Zone.crcFeed_id (z : Zone) (n : Nat) (v : Word) : (z.crcFeed n v).id = z.id := rfl

@[simp] theorem Zone.crcOwned_id (z : Zone) (p : Party) (off : Nat) (v : Word) :
    (z.crcOwned p off v).id = z.id := by
  simp [Zone.crcOwned]

@[simp] theorem Zone.crcWrite_id (z : Zone) (p : Party) (off : Nat) (v : Word) :
    (z.crcWrite p off v).id = z.id := by
  simp [Zone.crcWrite]

@[simp] theorem Zone.stormWrite_id (z : Zone) (v : Word) : (z.stormWrite v).id = z.id := by
  simp [Zone.stormWrite]

@[simp] theorem Zone.regDeny_id (z : Zone) : z.regDeny.id = z.id := rfl

@[simp] theorem Zone.collide_id (z : Zone) (h : HostC) : (z.collide h).id = z.id := rfl

@[simp] theorem Zone.dspRes_id (z : Zone) (d0 : ZDsp) (dly name part : Nat) (v : W72) :
    (z.dspRes d0 dly name part v).id = z.id := rfl

@[simp] theorem Zone.dspHalf_id (z : Zone) (d0 : ZDsp) (dly name : Nat) (l : Bool) (v : Int) :
    (z.dspHalf d0 dly name l v).id = z.id := rfl

@[simp] theorem Zone.dspAcc_id (z : Zone) (a : Nat) (f : AccSt → AccSt) : (z.dspAcc a f).id = z.id := by
  simp [Zone.dspAcc]

@[simp] theorem Zone.dspSat_id (z : Zone) (num : Nat) : (z.dspSat num).id = z.id := by
  simp [Zone.dspSat]

@[simp] theorem Zone.dspSatAlu_id (z : Zone) : z.dspSatAlu.id = z.id := by
  simp [Zone.dspSatAlu]

@[simp] theorem Zone.macSlot_id (z : Zone) (d0 : ZDsp) (b : Bundle) : (z.macSlot d0 b).id = z.id := by
  unfold Zone.macSlot
  split <;> simp

@[simp] theorem Zone.aluSatRes_id (z : Zone) (d0 : ZDsp) (b : Bundle) (v : Int) :
    (z.aluSatRes d0 b v).id = z.id := by
  simp [Zone.aluSatRes]

@[simp] theorem Zone.setPred_id (z : Zone) (k : Nat) (v : Bool) : (z.setPred k v).id = z.id := rfl

@[simp] theorem Zone.fclr_id (z : Zone) (s x : Nat) : (z.fclr s x).id = z.id := rfl

@[simp] theorem Zone.aluSlot_id (z : Zone) (d0 : ZDsp) (b : Bundle) : (z.aluSlot d0 b).id = z.id := by
  unfold Zone.aluSlot
  split <;> simp

@[simp] theorem Zone.ptMove_id (z : Zone) (n : Nat) (m : Int) : (z.ptMove n m).id = z.id := rfl

@[simp] theorem Zone.memLoad_id (z : Zone) (d0 : ZDsp) (b : Bundle) (elem : Bool) :
    (z.memLoad d0 b elem).2.id = z.id := by
  simp only [Zone.memLoad]
  split <;> simp

@[simp] theorem Zone.memStore_id (z : Zone) (d0 : ZDsp) (b : Bundle) (elem : Bool) :
    (z.memStore d0 b elem).2.id = z.id := by
  simp only [Zone.memStore]
  split <;> simp

@[simp] theorem Zone.memTap_id (z : Zone) (d0 : ZDsp) (b : Bundle) : (z.memTap d0 b).2.id = z.id := by
  simp only [Zone.memTap]
  split <;> simp

@[simp] theorem Zone.ptsSlot_id (z : Zone) (d0 : ZDsp) (b : Bundle) : (z.ptsSlot d0 b).id = z.id := by
  simp [Zone.ptsSlot]

@[simp] theorem Zone.dspLatch_id (z : Zone) : z.dspLatch.id = z.id := rfl

@[simp] theorem Zone.leaveInit_id (z old : Zone) (r : Option BaseRec) : (z.leaveInit old r).id = z.id := by
  simp only [Zone.leaveInit]
  repeat' split
  all_goals simp

@[simp] theorem Zone.hostqSettle_id (z : Zone) : z.hostqSettle.id = z.id := by
  simp [Zone.hostqSettle]

@[simp] theorem Zone.fillLine_id (z : Zone) (h : HostC) (it : Item) (idx line : Nat) (f : Fetch) :
    (z.fillLine h it idx line f).id = z.id := rfl

@[simp] theorem Zone.chkField_id (z : Zone) (it : Item) (idx : Nat) : (z.chkField it idx).id = z.id := by
  simp [Zone.chkField]

@[simp] theorem Zone.fenceItem_id (z : Zone) (it : Item) (idx : Nat) : (z.fenceItem it idx).id = z.id := by
  simp [Zone.fenceItem]

@[simp] theorem Zone.fetchDrop_id (z : Zone) (f : Fetch) : (z.fetchDrop f).id = z.id := rfl

@[simp] theorem Zone.fetched_id (z : Zone) (h : HostC) (f : Fetch) (it : Item) (o : Nat) :
    (z.fetched h f it o).id = z.id := by
  simp only [Zone.fetched]
  repeat' split
  all_goals simp

@[simp] theorem Zone.cacheDrop_id (z : Zone) (unfence : Bool) : (z.cacheDrop unfence).id = z.id := rfl

@[simp] theorem Zone.loadRoute_id (z : Zone) (h : HostC) (it : Item) : (z.loadRoute h it).2.id = z.id := by
  have hw (n : Nat) : (iter n (fun k (z : Zone) => z.rwinCommit k (h.itemW72 it 0 k)) z).id = z.id :=
    iter_id (fun k z => Zone.rwinCommit_id z k _) n z
  fun_cases Zone.loadRoute z h it with
  | case1 => rfl
  | case2 _ y c z' hz =>
    have hy : y = iter 576 (fun k (z : Zone) => z.rwinCommit k (h.itemW72 it 0 k)) z := rfl
    clear_value y
    have hr := y.routeValidate_id false
    rw [hz] at hr
    rw [hr, hy, hw]

@[simp] theorem Zone.loadDsp_id (z : Zone) (h : HostC) (it : Item) : (z.loadDsp h it).2.id = z.id := by
  simp [Zone.loadDsp]

@[simp] theorem Zone.loadTable_id (z : Zone) (h : HostC) (it : Item) (tgt : Nat) :
    (z.loadTable h it tgt).2.id = z.id := by
  unfold Zone.loadTable
  generalize (if tgt = 2 then _ else _ : Fin 6 × Nat) = bank
  obtain ⟨p, page⟩ := bank
  dsimp only
  split
  · rfl
  · exact iter_id (fun e z => by split <;> simp) _ _

@[simp] theorem Zone.loadInto_id (z : Zone) (h : HostC) (it : Item) (tgt : Nat) :
    (z.loadInto h it tgt).2.id = z.id := by
  unfold Zone.loadInto
  split <;> simp

@[simp] theorem Zone.timers_id (z : Zone) : z.timers.id = z.id := by
  unfold Zone.timers
  exact foldl_id (fun z x => by simp) _ _

@[simp] theorem Zone.slowTimers_id (z : Zone) : z.slowTimers.id = z.id := by
  simp [Zone.slowTimers]

@[simp] theorem Zone.frameNew_id (z : Zone) : z.frameNew.id = z.id := rfl

@[simp] theorem Zone.frameBegin_id (z : Zone) : z.frameBegin.id = z.id := by
  simp [Zone.frameBegin]

@[simp] theorem Zone.tickCauses_id (z : Zone) : z.tickCauses.2.id = z.id := by
  simp [Zone.tickCauses]

@[simp] theorem Zone.hostGains_id (z : Zone) : z.hostGains.id = z.id := by
  unfold Zone.hostGains
  exact foldl_id (fun z x => by simp) _ _

@[simp] theorem Zone.bookLate_id (z : Zone) : z.bookLate.id = z.id := rfl

@[simp] theorem Zone.checkFrame_id (z : Zone) : z.checkFrame.id = z.id := by
  simp [Zone.checkFrame]

/-! The operations that can change the state of the zone, and those built of them: orders, fences, voices, frames. -/

@[simp] theorem Zone.goto_id (z : Zone) (s : ZSt) : (z.goto s).id = z.id := by
  simp [Zone.goto]

@[simp] theorem Zone.accAt_id (z : Zone) (d : Nat) (f : AccSt → AccSt) : (z.accAt d f).id = z.id := by
  simp [Zone.accAt]

@[simp] theorem Zone.runSlot_id (z : Zone) (w : W72) (r : Option Int) (second : Bool) : (z.runSlot w r second).id = z.id := by
  simp [Zone.runSlot]

@[simp] theorem Zone.keyStep_id (z : Zone) (i : Nat) (w : W72) : (z.keyStep i w).id = z.id := by
  simp [Zone.keyStep]

@[simp] theorem Zone.passSlot_id (z : Zone) (act : Mem72) (i : Nat) : (z.passSlot act i).id = z.id := by
  unfold Zone.passSlot
  dsimp only
  split
  · split <;> simp
  · simp

@[simp] theorem Zone.sinkStore_id (z : Zone) (t : Target) (a : AccSt) (num : Nat) : (z.sinkStore t a num).2.id = z.id := by
  simp [Zone.sinkStore]

@[simp] theorem Zone.passEnd_id (z : Zone) : z.passEnd.id = z.id := by
  simp [Zone.passEnd, iter_id]

@[simp] theorem Zone.routePass_id (z : Zone) : z.routePass.id = z.id := by
  unfold Zone.routePass
  dsimp only
  split
  · simp [foldl_id]
  · rfl

@[simp] theorem Zone.gainsCold_id (z : Zone) : z.gainsCold.id = z.id := rfl

@[simp] theorem Zone.lfoFrame_id (z : Zone) (p : LfoP) (l : LfoSt) (addend : Int) : (z.lfoFrame p l addend).2.id = z.id := by
  simp [Zone.lfoFrame]

@[simp] theorem Zone.modSrc_id (z : Zone) (v : Voice) (src : Nat) : (z.modSrc v src).2.id = z.id := by
  simp only [Zone.modSrc, ite_snd_id]
  cases v.st.dl <;> simp

@[simp] theorem Zone.modSlot_id (z : Zone) (v : Voice) (p : ModP) (m : ModSt) : (z.modSlot v p m).2.2.id = z.id := by
  unfold Zone.modSlot
  split
  · rfl
  · split
    · simp
    · dsimp only
      split
      · simp
      · split <;> simp

theorem matStep_id (m : Mem72) (v s : Nat) (a : List (Nat × AccSt) × Voice × Zone) : (matStep m v s a).2.2.id = a.2.2.id := by
  obtain ⟨l, vo, z⟩ := a
  unfold matStep
  dsimp only
  split <;> simp

@[simp] theorem Zone.matrix_id (z : Zone) (m : Mem72) (v : Nat) (vo : Voice) : (z.matrix m v vo).2.2.id = z.id :=
  iterFrom_keeps (g := fun a : List (Nat × AccSt) × Voice × Zone => a.2.2.id) (matStep_id m v) 0 16 ([], vo, z)

@[simp] theorem Zone.fetchReq_id (z : Zone) (f : Fetch) : (z.fetchReq f).id = z.id := rfl

@[simp] theorem Zone.oscCheck_id (z : Zone) (h : HostC) (m : Mem72) (v n : Nat) (vo : Voice) (a : Addends) :
    (z.oscCheck h m v n vo a).id = z.id := by
  simp [Zone.oscCheck]

@[simp] theorem Zone.laneFlag_id (z : Zone) (i : Nat) : (z.laneFlag i).id = z.id := by
  simp [Zone.laneFlag]

@[simp] theorem Zone.laneFlags_id (z : Zone) (f : LaneFl) : (z.laneFlags f).id = z.id := by
  simp [Zone.laneFlags]

@[simp] theorem Zone.laneLoad_id (z : Zone) (x : Int) : (z.laneLoad x).2.id = z.id := by
  simp [Zone.laneLoad]

@[simp] theorem Zone.laneSum_id (z : Zone) (xs : List Int) : (z.laneSum xs).2.id = z.id := by
  simp [Zone.laneSum]

@[simp] theorem Zone.notePclamp_id (z : Zone) : z.notePclamp.id = z.id := rfl

@[simp] theorem Zone.deadlineMiss_id (z : Zone) (h : HostC) (v : Fin 96) : (z.deadlineMiss h v).id = z.id := by
  simp only [Zone.deadlineMiss]
  split <;> simp

@[simp] theorem Zone.pinVoice_id (z : Zone) (h : HostC) (v : Fin 96) (a : Addends) : (z.pinVoice h v a).id = z.id := rfl

/-- The blocks that a voice misses, asked for (R96). -/
theorem Zone.fetchReqs_id (f : Nat → Fetch) (l : List Nat) (z : Zone) : (l.foldl (fun z b => z.fetchReq (f b)) z).id = z.id :=
  foldl_id (fun z b => z.fetchReq_id (f b)) l z

@[simp] theorem Zone.starveVoice_id (z : Zone) (h : HostC) (v : Fin 96) (a : Addends) : (z.starveVoice h v a).id = z.id := by
  have hy : (z.pinVoice h v a).id = z.id := Zone.pinVoice_id z h v a
  unfold Zone.starveVoice
  dsimp only
  generalize z.pinVoice h v a = y at hy ⊢
  generalize hu : (if y.ctl.hcloss && y.ctl.st == .hold then y else _) = u
  have h1 : u.id = z.id := by
    rw [← hu, ite_id, Zone.fetchReqs_id, ite_self, hy]
  clear hu
  split
  · simpa using h1
  · split
    · rw [iter_id (fun n z => by split <;> simp)]
      split <;> simpa using h1
    · split <;> simpa using h1

@[simp] theorem Zone.voiceControl_id (z : Zone) (v : Fin 96) : (z.voiceControl v).2.id = z.id := by
  unfold Zone.voiceControl
  dsimp only
  rw [Zone.matrix_id]
  exact iter_snd_id (fun l p => by simp) 3 _

@[simp] theorem Zone.voiceRetrig_id (z : Zone) (v : Fin 96) (a : Addends) : (z.voiceRetrig v a).id = z.id := rfl

@[simp] theorem Zone.voiceOscs_id (z : Zone) (h : HostC) (v : Fin 96) (a : Addends) : (z.voiceOscs h v a).2.id = z.id := by
  unfold Zone.voiceOscs
  exact iter_snd_id (fun n acc => by simp) 3 _

@[simp] theorem Zone.voiceOut_id (z : Zone) (v : Fin 96) (a : Addends) (os : List Int) : (z.voiceOut v a os).id = z.id := by
  unfold Zone.voiceOut
  extract_lets m vo into par p0 p1 lev
  have hl (p : FltP) (f : Nat) (y : Int) (z : Zone) : (lev p f y z).2.id = z.id := by
    simp only [lev]
    split <;> simp
  clear_value lev
  dsimp only
  rw [Zone.modVoice_id, iter_snd_id (fun s acc => by split <;> simp)]
  simp [hl]

@[simp] theorem Zone.voiceEnd_id (z : Zone) (v : Fin 96) : (z.voiceEnd v).id = z.id := by
  simp [Zone.voiceEnd]

@[simp] theorem Zone.renderVoice_id (z : Zone) (h : HostC) (v : Fin 96) : (z.renderVoice h v).id = z.id := by
  simp [Zone.renderVoice]

@[simp] theorem Zone.renderAll_id (z : Zone) (h : HostC) : (z.renderAll h).id = z.id :=
  iter_id (fun k z => z.renderVoice_id h (fin 96 k)) 96 z

@[simp] theorem Zone.noVoice_id (z : Zone) (cls : Nat) (handle : BitVec 16) (src reason : Nat) :
    (z.noVoice cls handle src reason).id = z.id := by
  simp [Zone.noVoice]

@[simp] theorem Zone.steal_id (z : Zone) (h : HostC) (v : Fin 96) (st : Start) : (z.steal h v st).id = z.id := by
  unfold Zone.steal
  dsimp only
  split
  · simp
  · split
    · simp
    · simp

@[simp] theorem Zone.vstart_id (z : Zone) (h : HostC) (src cls : Nat) (arg0 arg1 : Word) (dl : Option DlSt) (cnt : Bool) :
    (z.vstart h src cls arg0 arg1 dl cnt).2.id = z.id := by
  unfold Zone.vstart
  extract_lets hd hd' st y
  split
  · simp [y]
  split
  · simp
  split
  · simp
  split
  · simp
  · split
    · simp
    · simp

@[simp] theorem Zone.vctlOne_id (z : Zone) (w : Word) (v : Fin 96) : (z.vctlOne w v).id = z.id := by
  unfold Zone.vctlOne
  split <;> simp

theorem Zone.toHandle_id {f : Zone → Fin 96 → Zone} (hf : ∀ z v, (f z v).id = z.id) (z : Zone) (pr : P0Right)
    (hd : BitVec 16) : (z.toHandle pr hd f).id = z.id := by
  unfold Zone.toHandle
  split
  · rfl
  · exact foldl_id hf _ _

@[simp] theorem Zone.vrel_id (z : Zone) (pr : P0Right) (arg1 : Word) : (z.vrel pr arg1).id = z.id :=
  Zone.toHandle_id Zone.vrelOne_id z pr _

@[simp] theorem Zone.vkill_id (z : Zone) (pr : P0Right) (arg1 : Word) : (z.vkill pr arg1).id = z.id :=
  Zone.toHandle_id Zone.vkillOne_id z pr _

@[simp] theorem Zone.vctl_id (z : Zone) (pr : P0Right) (arg0 arg1 : Word) : (z.vctl pr arg0 arg1).id = z.id := by
  unfold Zone.vctl
  split
  · rfl
  · exact Zone.toHandle_id (fun z v => z.vctlOne_id arg0 v) z pr _

@[simp] theorem Zone.duckUpdate_id (z : Zone) : z.duckUpdate.id = z.id := rfl

@[simp] theorem Zone.decIn_id (z : Zone) (n : Fin 4) (codes : List Int) : (z.decIn n codes).id = z.id := rfl

@[simp] theorem Zone.sensCodes_id (z : Zone) (v : Vector (Fin 5) 64) : (z.sensCodes v).2.id = z.id := by
  unfold Zone.sensCodes
  split
  · rw [iter_snd_id]
    exact fun _ a => a.2.freeWord_id 21
  · rfl

@[simp] theorem Zone.decOut_id (z : Zone) (n : Fin 4) : (z.decOut n).id = z.id := by
  simp [Zone.decOut]

@[simp] theorem Zone.aecFront_id (z : Zone) (c : Fin 2) : (z.aecFront c).id = z.id := by
  simp [Zone.aecFront]

@[simp] theorem Zone.aecAdapt_id (z : Zone) (s : AecCh) (xs : List Int) (num : Nat) : (z.aecAdapt s xs num).2.id = z.id := by
  simp [Zone.aecAdapt]

@[simp] theorem Zone.aecChannel_id (z : Zone) (c : Fin 2) : (z.aecChannel c).id = z.id := by
  unfold Zone.aecChannel
  extract_lets cfg s1 s2 en xs mx low dt s3 put
  have hp (s : AecCh) (y : Zone) : (put s y).id = y.id := rfl
  clear_value put s3
  split
  · exact hp _ _
  split
  · exact hp _ _
  split
  next num y e =>
    have hy : y.id = z.id := by rw [← z.freeWord_id 3, e]
    extract_lets n a0 a v d y1 y2 y3 s4
    have h3 : y3.id = z.id := by simp [y3, y2, y1, hy]
    clear_value y3
    split
    · simp [hp, h3]
    · simp [hp, h3]

@[simp] theorem Zone.aecEcc_id (z : Zone) : z.aecEcc.id = z.id := by
  unfold Zone.aecEcc
  refine foldl_id (fun z p => ?_) _ _
  dsimp only
  split
  · simp only [Zone.eccWrite_id, Zone.setFlt_id, Zone.count_id, Zone.freeCond_id, Zone.eccRead_id]
  · simp only [Zone.eccRead_id]

@[simp] theorem Zone.bandIn_id (z : Zone) (i : Fin 5) (x : Int) (ok : Bool) : (z.bandIn i x ok).id = z.id := rfl

@[simp] theorem Zone.aecInstant_id (z : Zone) : z.aecInstant.id = z.id := by
  unfold Zone.aecInstant
  split
  · rfl
  · extract_lets y1 x y2 y3 y4 a b y5 y6
    have h4 : y4.id = z.id := (foldl_id Zone.aecChannel_id _ y3).trans (Zone.aecEcc_id z)
    have h6 : y6.id = z.id := by simp [y6, y5, h4]
    clear_value y6
    split
    · exact h6
    · exact h6

@[simp] theorem Zone.measStart_id (z : Zone) : z.measStart.id = z.id := by
  unfold Zone.measStart
  split
  · rw [Zone.aecInstant_id, foldl_id Zone.aecFront_id, underTest_id (fun z => foldl_id Zone.decOut_id _ z),
      foldl_id Zone.windowEnd_id]
  · rfl

@[simp] theorem Zone.measEnd_id (z : Zone) (inp : FrameIn) : (z.measEnd inp).id = z.id := by
  unfold Zone.measEnd
  extract_lets c y a x
  have hx : x.id = z.id := rfl
  clear_value x
  split
  · simp [hx]
  · exact hx

theorem Zone.nalSection_id (a : Int × Zone) (n : Fin 7) : (Zone.nalSection a n).2.id = a.2.id := by
  unfold Zone.nalSection
  dsimp only
  simp

@[simp] theorem Zone.nalFrame_id (z : Zone) : z.nalFrame.2.id = z.id := by
  unfold Zone.nalFrame
  exact foldl_snd_id Zone.nalSection_id _ _

@[simp] theorem Zone.ridge_id (z : Zone) (x : Int) : (z.ridge x).id = z.id := by
  simp [Zone.ridge]

@[simp] theorem Zone.limFrame_id (z : Zone) : z.limFrame.id = z.id := by
  simp [Zone.limFrame]

@[simp] theorem Zone.dspHandler_id (z : Zone) (n : Nat) (arg : Word) : (z.dspHandler n arg).id = z.id := by
  simp [Zone.dspHandler]

@[simp] theorem Zone.schedEvent_id (z : Zone) (tag : BitVec 16) (late : Bool) (l act : Nat) (arg0 : Word) :
    (z.schedEvent tag late l act arg0).id = z.id := by
  simp [Zone.schedEvent]

@[simp] theorem Zone.actRefused_id (z : Zone) (tag : BitVec 16) (reason : Nat) : (z.actRefused tag reason).id = z.id := by
  simp [Zone.actRefused]

@[simp] theorem Zone.actSwap_id (z : Zone) (tag : BitVec 16) (arg0 arg1 : Word) : (z.actSwap tag arg0 arg1).id = z.id := by
  simp [Zone.actSwap]

@[simp] theorem Zone.actMode_id (z : Zone) (tag : BitVec 16) (arg0 arg1 : Word) : (z.actMode tag arg0 arg1).id = z.id := by
  simp [Zone.actMode]

@[simp] theorem Zone.actGain_id (z : Zone) (arg0 arg1 : Word) : (z.actGain arg0 arg1).id = z.id := by
  simp [Zone.actGain]

@[simp] theorem Zone.actVstart_id (z : Zone) (h : HostC) (cls : Nat) (arg0 arg1 : Word) (dl : Option DlSt) (late : Bool) :
    (z.actVstart h cls arg0 arg1 dl late).id = z.id := by
  simp [Zone.actVstart]

@[simp] theorem Zone.doAct_id (z : Zone) (h : HostC) (e : Entry) (late : Bool) : (z.doAct h e late).id = z.id := by
  simp only [Zone.doAct]
  split <;> simp

@[simp] theorem Zone.execEntry_id (z : Zone) (h : HostC) (e : Entry) : (z.execEntry h e).id = z.id := by
  simp [Zone.execEntry]

theorem Window.item_id {f : Zone → Zone} (hf : ∀ z, (f z).id = z.id) (w : Window) (cost : Nat) :
    (w.item cost f).z.id = w.z.id := by
  simp only [Window.item]
  split_ifs
  · rfl
  · exact hf _
  · rfl

theorem Window.iter_id {f : Nat → Window → Window} (hf : ∀ k w, (f k w).z.id = w.z.id) (n : Nat) (w : Window) :
    (iter n f w).z.id = w.z.id :=
  iterFrom_keeps (g := fun w : Window => w.z.id) hf 0 n w

@[simp] theorem Window.entries_id (w : Window) (h : HostC) : (w.entries h).z.id = w.z.id := by
  unfold Window.entries
  dsimp only
  rw [foldl_keeps (g := fun w : Window => w.z.id) (fun w e => w.item_id (fun z => by simp) _)]
  split <;> simp

@[simp] theorem Zone.prefEntry_id (z : Zone) (h : HostC) (cfg : Word) (e : Entry) : (z.prefEntry h cfg e).id = z.id := by
  unfold Zone.prefEntry
  split
  · rfl
  · split
    · rfl
    · exact foldl_id (fun z b => by split <;> simp) _ _

@[simp] theorem Zone.prefetch_id (z : Zone) (h : HostC) : (z.prefetch h).id = z.id :=
  foldl_id (fun z e => z.prefEntry_id h _ e) _ _

@[simp] theorem Zone.enter_num (z : Zone) (s : ZSt) : (z.enter s).id = z.id := by
  simp [Zone.enter]

@[simp] theorem Zone.dropMsgs_id (z : Zone) : z.dropMsgs.id = z.id := rfl

@[simp] theorem Zone.fenceMark_id (z : Zone) (causes : Nat) : (z.fenceMark causes).id = z.id := rfl

@[simp] theorem Zone.fenceNow_id (z : Zone) (causes : Nat) : (z.fenceNow causes).id = z.id := by
  simp [Zone.fenceNow]

@[simp] theorem Zone.raise_id (z : Zone) (causes : Nat) : (z.raise causes).id = z.id := by
  have hd (l : List Nat) (z : Zone) :
      (l.foldl (fun z i => (z.putBit Reg.FENCE_PEND i true).send clsFault 0x0002 (natLe i 1)) z).id = z.id :=
    foldl_id (fun z i => by simp) l z
  unfold Zone.raise
  dsimp only
  split_ifs
  · rfl
  · exact hd _ _
  · exact (foldl_id (fun z i => by simp) _ _).trans (hd _ _)
  · exact (Zone.fenceNow_id _ _).trans (hd _ _)

@[simp] theorem Zone.initPll_id (z : Zone) : z.initPll.id = z.id := by
  simp [Zone.initPll]

@[simp] theorem Zone.initMark_id (z : Zone) (warm : Bool) : (z.initMark warm).id = z.id := rfl

@[simp] theorem Zone.initStop_id (z : Zone) : z.initStop.id = z.id := rfl

@[simp] theorem Zone.initMem_id (z : Zone) (warm : Bool) : (z.initMem warm).id = z.id := by
  simp [Zone.initMem]

@[simp] theorem Zone.initPower_id (z : Zone) : z.initPower.id = z.id := rfl

@[simp] theorem Zone.toInit_id (z : Zone) (warm : Bool) : (z.toInit warm).id = z.id := by
  simp [Zone.toInit]

@[simp] theorem Zone.wdRestart_id (z : Zone) : z.wdRestart.id = z.id := by
  simp [Zone.wdRestart]

@[simp] theorem Zone.toRun_id (z : Zone) : z.toRun.id = z.id := by
  simp [Zone.toRun]

@[simp] theorem Zone.stateTick_id (z : Zone) : z.stateTick.id = z.id := by
  simp [Zone.stateTick]

@[simp] theorem Zone.whyHold_id (z : Zone) : z.whyHold.id = z.id := by
  simp [Zone.whyHold]

@[simp] theorem Zone.wdExpire_id (z : Zone) : z.wdExpire.id = z.id := by
  simp [Zone.wdExpire]

@[simp] theorem Zone.bucketAdd_id (z : Zone) : z.bucketAdd.id = z.id := by
  simp [Zone.bucketAdd]

@[simp] theorem Zone.holdEnter_id (z : Zone) : z.holdEnter.id = z.id := by
  simp [Zone.holdEnter]

@[simp] theorem Zone.raiseTick_id (z : Zone) (causes : Nat) : (z.raiseTick causes).id = z.id := by
  simp [Zone.raiseTick]

@[simp] theorem Zone.holdLimit_id (z : Zone) : z.holdLimit.id = z.id := by
  simp [Zone.holdLimit]

@[simp] theorem Zone.dspTrap_id (z : Zone) (cause : Nat) : (z.dspTrap cause).id = z.id := by
  unfold Zone.dspTrap
  extract_lets tpc inTrap d z1 z2 z3 z4 z5 z6 d' z7
  have h4 : z4.id = z.id := rfl
  clear_value z4
  have h6 : z6.id = z.id := by simp [z6, z5, h4]
  clear_value z6
  have h7 : z7.id = z.id := by
    simp only [z7]
    split_ifs
    · exact h6
    · exact h6
  exact (Zone.bucketAdd_id _).trans h7

@[simp] theorem Zone.verdictIssue_id (z : Zone) (v : Nat) : (z.verdictIssue v).id = z.id := by
  simp [Zone.verdictIssue]

@[simp] theorem Zone.ampCheck_id (z : Zone) : z.ampCheck.id = z.id := by
  unfold Zone.ampCheck
  split
  · dsimp only
    split
    · simp
    · split
      · simp
      · split_ifs <;> simp
      · split_ifs <;> simp
  · rfl

@[simp] theorem Zone.ampPin_id (z : Zone) (a : Bool) : (z.ampPin a).id = z.id := by
  simp only [Zone.ampPin]
  split_ifs <;> simp

@[simp] theorem Zone.intervalEnd_id (z : Zone) : z.intervalEnd.id = z.id := by
  simp [Zone.intervalEnd]

@[simp] theorem Zone.winCheck_id (z : Zone) (code w : Nat) : (z.winCheck code w).2.id = z.id := by
  simp [Zone.winCheck]

@[simp] theorem Zone.winFetch_id (z : Zone) (code w : Nat) (v : W72) : (z.winFetch code w v).2.id = z.id := by
  simp [Zone.winFetch]

@[simp] theorem Zone.vwinRead_id (z : Zone) (p : Party) : (z.vwinRead p).2.id = z.id := by
  simp [Zone.vwinRead]

@[simp] theorem Zone.rwinRead_id (z : Zone) (p : Party) : (z.rwinRead p).2.id = z.id := by
  simp [Zone.rwinRead]

@[simp] theorem Zone.dwinFetch_id (z : Zone) (sp w : Nat) (inact : Bool) : (z.dwinFetch sp w inact).2.id = z.id := by
  unfold Zone.dwinFetch
  split
  · rfl
  · split <;> simp

@[simp] theorem Zone.dwinRead_id (z : Zone) (p : Party) : (z.dwinRead p).2.id = z.id := by
  simp [Zone.dwinRead]

@[simp] theorem Zone.memFetch_id (z : Zone) (code w : Nat) : (z.memFetch code w).2.id = z.id := by
  unfold Zone.memFetch
  split
  · rfl
  · split <;> simp

@[simp] theorem Zone.memRead_id (z : Zone) (p : Party) : (z.memRead p).2.id = z.id := by
  simp [Zone.memRead]

/-- What an answer that may be none keeps of the number i. -/
def AnswerOf {α : Type} (i : ZoneId) (r : Option (α × Zone)) : Prop := ∀ x, r = some x → x.2.id = i

@[simp] theorem AnswerOf.none {α : Type} {i : ZoneId} : AnswerOf i (none : Option (α × Zone)) := fun _ h => by cases h

@[simp] theorem AnswerOf.some {α : Type} {i : ZoneId} {x : α × Zone} : AnswerOf i (some x) ↔ x.2.id = i :=
  ⟨fun h => h _ rfl, fun h _ e => by cases e; exact h⟩

theorem AnswerOf.ite {α : Type} {i : ZoneId} {c : Prop} [Decidable c] {x y : Option (α × Zone)} (hx : AnswerOf i x)
    (hy : AnswerOf i y) : AnswerOf i (if c then x else y) := by
  split
  · exact hx
  · exact hy

theorem Zone.readSpecial_id (z : Zone) (p : Party) (off : Nat) : AnswerOf z.id (z.readSpecial p off) := by
  unfold Zone.readSpecial
  split
  · simp
  · dsimp only
    cases p
    all_goals
      repeat' apply AnswerOf.ite
      all_goals simp

@[simp] theorem Zone.regRead_id (z : Zone) (p : Party) (off : Nat) : (z.regRead p off).z.id = z.id := by
  unfold Zone.regRead
  dsimp only
  split_ifs
  · rfl
  · rfl
  · rfl
  · rfl
  · split
    · rfl
    · split
      · rfl
      · split
        · rename_i h
          exact Zone.readSpecial_id z p off _ h
        · simp

@[simp] theorem Zone.scrubMem_id (z : Zone) (c : Nat) : (z.scrubMem c).id = z.id := by
  simp [Zone.scrubMem]

@[simp] theorem Zone.scrubPass_id (z : Zone) : z.scrubPass.id = z.id := by
  unfold Zone.scrubPass
  split
  · rfl
  · exact iter_id (fun c z => z.scrubMem_id c) 8 _

@[simp] theorem Zone.btYield_id (z : Zone) (c : Nat) : (z.btYield c).id = z.id := by
  simp [Zone.btYield]

@[simp] theorem Zone.btFail_id (z : Zone) (c seg : Nat) : (z.btFail c seg).id = z.id := by
  simp [Zone.btFail]

@[simp] theorem Zone.borrow_id (z : Zone) (marchFail yielded : Bool) : (z.borrow marchFail yielded).id = z.id := by
  simp [Zone.borrow]

theorem Zone.reset_id (i : ZoneId) : (Zone.reset i).id = i := rfl

@[simp] theorem Zone.enableRegs_id (z : Zone) : z.enableRegs.id = z.id := rfl

@[simp] theorem Zone.cmdEnable_id (z : Zone) (h : HostC) : (z.cmdEnable h).id = z.id := by
  simp [Zone.cmdEnable]

@[simp] theorem Zone.toOff_id (z : Zone) : z.toOff.id = z.id := by
  simp [Zone.toOff]

@[simp] theorem Zone.cmdDisable_id (z : Zone) : z.cmdDisable.id = z.id := by
  simp [Zone.cmdDisable]

@[simp] theorem Zone.cmdReset_id (z : Zone) (warm : Bool) : (z.cmdReset warm).id = z.id := by
  simp [Zone.cmdReset]

@[simp] theorem Zone.cmdFence_id (z : Zone) : z.cmdFence.id = z.id := by
  simp [Zone.cmdFence]

@[simp] theorem Zone.cmdRecover_id (z : Zone) : z.cmdRecover.id = z.id := by
  simp [Zone.cmdRecover]

@[simp] theorem Zone.zctlCmd_id (z : Zone) (h : HostC) (v : Word) : (z.zctlCmd h v).id = z.id := by
  unfold Zone.zctlCmd
  split
  · simp
  · split <;> simp

@[simp] theorem Zone.initComplete_id (z : Zone) : z.initComplete.id = z.id := by
  simp [Zone.initComplete]

@[simp] theorem Zone.ladderEnd_id (z : Zone) : z.ladderEnd.id = z.id := by
  simp [Zone.ladderEnd]

@[simp] theorem Zone.testComplete_id (z : Zone) (march ladder : Bool) : (z.testComplete march ladder).id = z.id := by
  simp [Zone.testComplete]

@[simp] theorem Zone.wdCheck_id (z : Zone) : z.wdCheck.id = z.id := by
  simp [Zone.wdCheck]

@[simp] theorem Zone.orphanSet_id (z : Zone) (silence : Nat) : (z.orphanSet silence).id = z.id := by
  simp [Zone.orphanSet]

@[simp] theorem Zone.hclossSet_id (z : Zone) (on : Bool) : (z.hclossSet on).id = z.id := by
  simp [Zone.hclossSet]

@[simp] theorem Zone.regTrip_id (z : Zone) (core analog : Bool) : (z.regTrip core analog).id = z.id := by
  simp [Zone.regTrip]

@[simp] theorem Zone.vanaFail_id (z : Zone) : z.vanaFail.id = z.id := by
  simp [Zone.vanaFail]

@[simp] theorem Zone.plainWrite_id (z : Zone) (r : RegSpec) (v : Word) : (z.plainWrite r v).id = z.id := rfl

theorem Zone.writeA_id (z : Zone) (h : HostC) (p : Party) (p0 : Bool) (off : Nat) (v : Word) :
    AnswerOf z.id (z.writeA h p p0 off v) := by
  unfold Zone.writeA
  repeat' apply AnswerOf.ite
  all_goals simp

theorem Zone.writeB_id (z : Zone) (p : Party) (off : Nat) (v : Word) : AnswerOf z.id (z.writeB p off v) := by
  unfold Zone.writeB
  repeat' apply AnswerOf.ite
  all_goals simp

@[simp] theorem Zone.blockWrite_id (z : Zone) (h : HostC) (p : Party) (p0 : Bool) (r : RegSpec) (v : Word) :
    (z.blockWrite h p p0 r v).2.id = z.id := by
  unfold Zone.blockWrite
  split
  · rfl
  · rfl
  · split
    · split <;> rfl
    · rfl
  · split
    · rename_i e
      exact Zone.writeA_id z h p p0 _ v _ e
    · split
      · rename_i e
        exact Zone.writeB_id z p _ v _ e
      · simp

@[simp] theorem Zone.regWrite_id (z : Zone) (h : HostC) (p : Party) (p0 : Bool) (off : Nat) (v : Word) :
    (z.regWrite h p p0 off v).2.id = z.id := by
  unfold Zone.regWrite
  dsimp only
  split_ifs
  · rfl
  · rfl
  · simp
  · rfl
  · simp
  · split <;> simp

@[simp] theorem Zone.bridgeRead_id (z : Zone) (off : Nat) : (z.bridgeRead off).2.id = z.id := by
  simp [Zone.bridgeRead]

@[simp] theorem Zone.bridgeWrite_id (z : Zone) (h : HostC) (off : Nat) (v : Word) : (z.bridgeWrite h off v).id = z.id := by
  simp [Zone.bridgeWrite]

@[simp] theorem Zone.ioRead_id (z : Zone) (d0 : ZDsp) (a : Nat) : (z.ioRead d0 a).2.id = z.id := by
  unfold Zone.ioRead
  dsimp only
  split_ifs
  · rfl
  · rfl
  · split
    case h_15 => simp
    all_goals rfl

@[simp] theorem Zone.ioWrite_id (z : Zone) (d0 : ZDsp) (h : HostC) (a : Nat) (g : W72) : (z.ioWrite d0 h a g).2.id = z.id := by
  unfold Zone.ioWrite
  dsimp only
  split
  · rfl
  · split
    case h_3 => split <;> simp
    case h_8 => simp
    all_goals rfl

@[simp] theorem Zone.memSlot_id (z : Zone) (d0 : ZDsp) (h : HostC) (b : Bundle) : (z.memSlot d0 h b).2.id = z.id := by
  unfold Zone.memSlot
  split <;> simp

@[simp] theorem Zone.issue_id (z : Zone) (h : HostC) (b : Bundle) : (z.issue h b).id = z.id := by
  have hm : (if z.dsp.guard b.ge then z.memSlot z.dsp h b else (none, z)).2.id = z.id := by simp
  unfold Zone.issue
  dsimp only
  split
  · simp
  · generalize (if z.dsp.guard b.ge then z.memSlot z.dsp h b else (none, z)) = r at hm
    obtain ⟨t, y⟩ := r
    cases t with
    | some t => exact (y.dspTrap_id t).trans hm
    | none => simpa using hm

@[simp] theorem Zone.fetchIssue_id (z : Zone) (h : HostC) : (z.fetchIssue h).id = z.id := by
  simp [Zone.fetchIssue]

@[simp] theorem Zone.dspEnter_id (z : Zone) (vec hnum : Nat) (harg : Word) : (z.dspEnter vec hnum harg).id = z.id := rfl

theorem Zone.dspNext_id {z y : Zone} (e : z.dspNext = some y) : y.id = z.id := by
  unfold Zone.dspNext at e
  dsimp only at e
  split at e
  · cases e
    simp
  · split at e
    · cases e
      simp
    · cases e

theorem dspGo_id (h : HostC) : ∀ (n : Nat) (todo : List (Nat × Nat)) (z : Zone), (dspGo h n todo z).id = z.id
  | 0, _, _ => rfl
  | n + 1, todo, z => by
    unfold dspGo
    split
    · rfl
    split
    · split
      · simp
      · simp [dspGo_id h n]
    · split
      · split
        · simp
        · simp [dspGo_id h n]
      · split
        · rename_i y e
          split
          · simp
          · rw [dspGo_id h n, Zone.dspNext_id e]
        · rfl

@[simp] theorem Zone.dspEnd_id (z : Zone) : z.dspEnd.id = z.id := by
  simp [Zone.dspEnd]

@[simp] theorem Zone.dspFrame_id (z : Zone) (h : HostC) : (z.dspFrame h).id = z.id := by
  unfold Zone.dspFrame
  split
  · rfl
  · exact (Zone.dspEnd_id _).trans (dspGo_id h _ _ _)

@[simp] theorem Zone.overrun_id (z : Zone) : z.overrun.id = z.id := by
  simp [Zone.overrun]

@[simp] theorem Zone.settle_id (z old : Zone) (r : Option BaseRec) : (z.settle old r).id = z.id := by
  simp [Zone.settle]

@[simp] theorem Zone.bcastWrite_id (z : Zone) (h : HostC) (p0 : Bool) (off : Nat) (v : Word) :
    (z.bcastWrite h p0 off v).2.id = z.id := by
  simp [Zone.bcastWrite]

theorem Zone.afterReset_id (z : Zone) : z.afterReset.id = z.id := rfl

@[simp] theorem Zone.heartbeat_id (z : Zone) : z.heartbeat.id = z.id := by
  simp [Zone.heartbeat]

@[simp] theorem Zone.judgeTick_id (z : Zone) (h : HostC) : (z.judgeTick h).id = z.id := by
  simp [Zone.judgeTick]

@[simp] theorem Zone.deadlines_id (z : Zone) (h : HostC) : (z.deadlines h).id = z.id := by
  unfold Zone.deadlines
  split
  · rfl
  · exact iter_id (fun k z => by simp) _ z

@[simp] theorem Zone.tickWork_id (z : Zone) (h : HostC) : (z.tickWork h).id = z.id := by
  simp [Zone.tickWork, foldl_id]

@[simp] theorem Window.completions_id (w : Window) (h : HostC) : (w.completions h).z.id = w.z.id := by
  unfold Window.completions
  rw [Window.iter_id]
  exact fun k w => w.item_id (fun z => z.completeVoice_id h (fin 96 k)) _

@[simp] theorem Zone.dspRequest_id (z : Zone) (h : HostC) (r : DspReq) : (z.dspRequest h r).id = z.id := by
  unfold Zone.dspRequest
  split <;> simp

theorem Window.requests_id (h : HostC) : ∀ (l : List DspReq) (w : Window), (Window.requests h l w).z.id = w.z.id
  | [], _ => rfl
  | r :: t, w => by
    have hi : (w.item (w.z.requestCost h r) (fun z => z.dspRequest h r)).z.id = w.z.id :=
      w.item_id (fun z => z.dspRequest_id h r) _
    unfold Window.requests
    dsimp only
    split
    · exact hi
    · exact (Window.requests_id h t _).trans hi

@[simp] theorem Zone.takeRes_id (z : Zone) : z.takeRes.id = z.id := rfl

@[simp] theorem Zone.hostVoice_id (z : Zone) (h : HostC) (c : HostV) : (z.hostVoice h c).2.id = z.id := by
  unfold Zone.hostVoice
  dsimp only
  split
  · have hv := z.vstart_id h 1 c.cls c.arg0 c.arg1 none false
    generalize z.vstart h 1 c.cls c.arg0 c.arg1 none false = r at hv ⊢
    obtain ⟨a, y⟩ := r
    cases a <;> exact hv
  all_goals simp

@[simp] theorem Zone.hostTake_id (z : Zone) (h : HostC) (c : HostV) : (z.hostTake h c).id = z.id := by
  simp [Zone.hostTake]

theorem Window.hostCmds_id (h : HostC) : ∀ (l : List HostV) (w : Window), (Window.hostCmds h l w).z.id = w.z.id
  | [], _ => rfl
  | c :: t, w => by
    unfold Window.hostCmds
    rw [Window.hostCmds_id h t]
    exact w.item_id (fun z => z.hostTake_id h c) _

@[simp] theorem Window.work_id (w : Window) (h : HostC) : (w.work h).id = w.z.id := by
  have h1 := w.completions_id h
  unfold Window.work
  generalize w.completions h = w1 at h1 ⊢
  extract_lets w2 w3 w4 w5 w6 l y d w7 y' d' w8 y8 v8 z9
  have h3 : w3.z.id = w.z.id := (Zone.markDue_id _).trans h1
  clear_value w3
  have h4 : w4.z.id = w.z.id := by
    simp only [w4]
    split
    · rw [Window.entries_id, h3]
    · exact h3
  clear_value w4
  have h5 : w5.z.id = w.z.id := by
    simp only [w5]
    split
    · rw [Window.hostCmds_id, h4]
    · exact h4
  clear_value w5
  have h6 : w6.z.id = w.z.id := (Zone.hostGains_id _).trans h5
  clear_value w6
  have h8 : w8.z.id = w.z.id := by
    simp only [w8]
    split
    · exact (Window.requests_id h _ _).trans h6
    · exact h6
  clear_value w8
  split
  · exact (Zone.bookLate_id _).trans h8
  · exact h8

@[simp] theorem Zone.window_id (z : Zone) (h : HostC) : (z.window h).id = z.id := by
  unfold Zone.window
  dsimp only
  rw [Window.work_id]
  exact Zone.takeRes_id _

@[simp] theorem Zone.windowOn_id (z : Zone) (h : HostC) : (z.windowOn h).id = z.id :=
  Window.work_id _ h

@[simp] theorem Zone.eccFence_id (z : Zone) (c lo n : Nat) : (z.eccFence c lo n).id = z.id := by
  simp [Zone.eccFence]

@[simp] theorem Zone.voiceEcc_id (z : Zone) : z.voiceEcc.id = z.id := by
  unfold Zone.voiceEcc
  refine iter_id (fun k z => ?_) 96 z
  dsimp only
  split <;> simp

@[simp] theorem Zone.routeEcc_id (z : Zone) : z.routeEcc.id = z.id := by
  simp [Zone.routeEcc]

@[simp] theorem Zone.routeFrame_id (z : Zone) : z.routeFrame.id = z.id := by
  unfold Zone.routeFrame
  dsimp only
  rw [Zone.limFrame_id]
  simp

@[simp] theorem Zone.voiceFrame_id (z : Zone) (h : HostC) : (z.voiceFrame h).id = z.id := by
  simp [Zone.voiceFrame]

@[simp] theorem Zone.frameBody_id (z : Zone) (h : HostC) (inp : FrameIn) : (z.frameBody h inp).id = z.id := by
  have hu : (inp.upsets.foldl Zone.upset z).switchAct.clrAct.id = z.id := by simp [foldl_id Zone.upset_id]
  unfold Zone.frameBody
  dsimp only
  generalize (inp.upsets.foldl Zone.upset z).switchAct.clrAct = y at hu ⊢
  split
  · simp [hu]
  · simp [hu]

@[simp] theorem Zone.slowTickWork_id (z : Zone) (h : HostC) : (z.slowTickWork h).id = z.id := by
  simp [Zone.slowTickWork]

@[simp] theorem Zone.loadFrame_id (z : Zone) (h : HostC) : (z.loadFrame h).id = z.id := by
  unfold Zone.loadFrame
  extract_lets d was inst t q a y1 y2 y3 y4 y5
  have h1 : y1.id = z.id := rfl
  clear_value y1
  have h4 : y4.id = z.id := by simp [y4, y3, y2, h1]
  clear_value y4
  have h5 : y5.id = z.id := by simp [y5, h4]
  clear_value y5
  simp [h5]

@[simp] theorem Zone.loadAct_id (z : Zone) (h : HostC) : (z.loadAct h).id = z.id := by
  simp [Zone.loadAct]

@[simp] theorem Zone.loadEdge_id (z : Zone) (h : HostC) : (z.loadEdge h).id = z.id := by
  simp [Zone.loadEdge]

@[simp] theorem Zone.frefStep_id (z : Zone) (h : HostC) (interval : Nat) (e : Int) (sync : Bool) :
    (z.frefStep h interval e sync).id = z.id := by
  simp [Zone.frefStep]

end Sys2Proof.Machine
end

section
namespace Sys2Proof.Machine

/-! Each zone's number and its notices to the host complex, in the device: what a command makes of them. -/

/-- A zone that is another's later state: it has the same number, and no notice more to the host complex. -/
structure Zone.Tended (z n : Zone) : Prop where
  id : n.id = z.id
  told : Told z → Told n

@[simp] theorem Zone.Tended.refl {z : Zone} : z.Tended z := ⟨rfl, fun h => h⟩

/-- A zone with the notices of another has none to give where that one has none. -/
theorem Zone.Tended.of_notices {z n : Zone} (h : n.id = z.id) (hb : n.gov.baseReq = z.gov.baseReq)
    (hd : n.sched.devRep = z.sched.devRep) (hp : n.sched.p0prot = z.sched.p0prot) (ha : n.vox.ans = z.vox.ans) : z.Tended n :=
  ⟨h, fun ⟨h1, h2, h3, h4⟩ => ⟨hb.trans h1, hd.trans h2, hp.trans h3, ha.trans h4⟩⟩

theorem Zone.sleepBack_tended (z : Zone) : z.Tended z.sleepBack := .of_notices rfl rfl rfl rfl rfl

theorem Zone.wakeNow_tended (z : Zone) : z.Tended z.wakeNow := by
  unfold Zone.wakeNow
  dsimp only
  split_ifs
  · exact z.sleepBack_tended
  · exact .refl
  · exact .of_notices rfl rfl rfl rfl rfl
  · exact .of_notices rfl rfl rfl rfl rfl

theorem Zone.cacheDrop_tended (z : Zone) (b : Bool) : z.Tended (z.cacheDrop b) := .of_notices rfl rfl rfl rfl rfl

/-- Every zone of the device a later state of what it was. -/
structure Tends (s t : State) : Prop where
  zone : ∀ i : ZoneId, s.zones[i].Tended t.zones[i]

section tends
variable {s t u : State}

@[simp] theorem Tends.refl : Tends s s := ⟨fun _ => .refl⟩

theorem Tends.trans (h : Tends s t) (h' : Tends t u) : Tends s u :=
  ⟨fun i => ⟨(h'.zone i).id.trans (h.zone i).id, fun ht => (h'.zone i).told ((h.zone i).told ht)⟩⟩

theorem Tends.of_zones (h : t.zones = s.zones) : Tends s t := ⟨fun i => by rw [h]; exact .refl⟩

theorem HostWork.tends (h : HostWork s t) : Tends s t := .of_zones h.1

/-- The host complex changes something. -/
theorem Tends.host (m : Tends s t) (h : HostC) : Tends s { t with host := h } := m.trans (.of_zones rfl)

theorem State.modHost_tends {f : HostC → HostC} : Tends s (s.modHost f) := .of_zones rfl

theorem Tends.ite {c : Prop} [Decidable c] (ht : Tends s t) (hu : Tends s u) : Tends s (if c then t else u) := by
  split
  · exact ht
  · exact hu

theorem State.mapped_tends {f : Zone → Zone} (hf : ∀ z : Zone, z.Tended (f z)) {h : HostC} :
    Tends s { s with zones := s.zones.map f, host := h } :=
  ⟨fun i => by simpa using hf s.zones[i]⟩

theorem State.set_tends {i : ZoneId} {z : Zone} (hz : s.zones[i].Tended z) {h : HostC} :
    Tends s { s with zones := s.zones.set i z, host := h } := by
  refine ⟨fun j => ?_⟩
  change s.zones[j].Tended (s.zones.set i z)[j]
  rw [vset_eq]
  split
  next e => rw [e]; exact hz
  next => exact .refl

theorem State.putZone_tends {i : ZoneId} {z : Zone} (h : s.zones[i].Tended z) : Tends s (s.putZone i z) :=
  State.set_tends h

theorem State.abandonSleep_tends (s : State) (r : Nat) : Tends s (s.abandonSleep r) :=
  State.mapped_tends Zone.wakeNow_tended

/-- The host complex takes the notices of a zone that has changed. -/
theorem State.gather_tends {i : ZoneId} {o n : Zone} (h : n.id = s.zones[i].id) : Tends s (s.gather i o n) := by
  have hn : s.zones[i].Tended n.taken := ⟨h, fun _ => n.told_taken⟩
  unfold State.gather
  exact .ite ((State.set_tends hn).trans (State.abandonSleep_tends _ 2)) (State.set_tends hn)

theorem State.onZone_tends {i : ZoneId} {f : Zone → HostC → Zone} (h : (f s.zones[i] s.host).id = s.zones[i].id) :
    Tends s (s.onZone i f) :=
  State.gather_tends ((Zone.settle_id _ _ _).trans h)

theorem State.onZoneR_tends {α : Type} {i : ZoneId} {f : Zone → HostC → α × Zone}
    (h : (f s.zones[i] s.host).2.id = s.zones[i].id) : Tends s (s.onZoneR i f).2 :=
  State.gather_tends ((Zone.settle_id _ _ _).trans h)

theorem foldl_tends {α : Type} {f : State → α → State} (h : ∀ s a, Tends s (f s a)) :
    ∀ (l : List α) (s : State), Tends s (l.foldl f s)
  | [], _ => .refl
  | a :: l, s => (h s a).trans (foldl_tends h l (f s a))

theorem State.onAll_tends {f : Zone → HostC → Zone} (h : ∀ (z : Zone) (x : HostC), (f z x).id = z.id) :
    Tends s (s.onAll f) :=
  foldl_tends (fun _ _ => State.onZone_tends (h _ _)) _ s

end tends

end Sys2Proof.Machine
end

section
namespace Sys2Proof.Machine

/-! What the device's own work makes of each zone's number and notices: content, security. -/

section tends
variable {s : State}

/-! Content. -/

theorem State.mount_tends : Tends s s.mount.2 := by
  unfold State.mount
  dsimp only
  split
  · exact .refl
  · exact State.mapped_tends fun z => z.cacheDrop_tended _

theorem State.unmount_tends : Tends s s.unmount.2 := by
  unfold State.unmount
  split
  · exact .refl
  · exact State.mapped_tends fun z => z.cacheDrop_tended _

theorem State.loadBlock_tends (j : PortJob) (it : Item) (k : Nat) (r : List Nat) (i : ZoneId) (tgt o : Nat) :
    Tends s (s.loadBlock j it k r i tgt o) := by
  unfold State.loadBlock
  dsimp only
  split
  · split
    · exact State.modHost_tends
    · exact State.modHost_tends
  · have hl (u : State) : Tends u (u.onZoneR i (fun z h => z.loadInto h it tgt)).2 :=
      State.onZoneR_tends (Zone.loadInto_id _ _ _ _)
    split
    · refine Tends.trans ?_ State.modHost_tends
      refine Tends.trans ?_ (hl _)
      exact State.onZone_tends (by split_ifs <;> simp)
    · refine Tends.trans ?_ State.modHost_tends
      exact State.onZone_tends (by split_ifs <;> simp)

theorem State.loadSlot_tends (j : PortJob) (id : Word) (i : ZoneId) (tgt : Nat) (cdqs : Bool) :
    Tends s (s.loadSlot j id i tgt cdqs) := by
  unfold State.loadSlot
  split
  · exact State.modHost_tends
  · exact State.modHost_tends
  · dsimp only
    split_ifs
    · exact State.modHost_tends
    · exact State.modHost_tends
    · exact State.loadBlock_tends ..
    · refine Tends.trans ?_ (State.loadBlock_tends ..)
      exact State.modHost_tends
    · exact State.modHost_tends
    · exact State.loadBlock_tends ..

theorem State.jobSlot_tends (j : PortJob) (cdqs : Bool) : Tends s (s.jobSlot j cdqs) := by
  unfold State.jobSlot
  split
  · exact State.modHost_tends
  · exact State.loadSlot_tends ..

theorem State.contCmd_tends (v : Word) : Tends s (s.contCmd v).2 := by
  unfold State.contCmd
  split
  · exact State.mount_tends
  · exact State.unmount_tends
  · exact s.load_hostWork.tends
  · unfold State.unfence
    dsimp only
    refine State.onZone_tends ?_
    rfl
  · exact .refl

theorem State.slotServe_tends (i : ZoneId) (own cdqs : Bool) : Tends s (s.slotServe i own cdqs) := by
  unfold State.slotServe
  split
  · exact .refl
  · split
    · exact State.onZone_tends (Zone.fetchDrop_id _ _)
    · dsimp only
      split
      · exact State.onZone_tends (by simp)
      · split
        · split
          · exact State.onZone_tends (by rfl)
          · exact State.onZone_tends (Zone.fetched_id _ _ _ _ _)
        · split
          · refine Tends.trans ?_ (State.onZone_tends (Zone.fetched_id _ _ _ _ _))
            exact State.modHost_tends
          · split
            · exact State.onZone_tends (by rfl)
            · exact State.onZone_tends (Zone.fetched_id _ _ _ _ _)

theorem State.fetchSlot_tends (cdqs : Bool) : Tends s (s.fetchSlot cdqs) := by
  unfold State.fetchSlot
  split_ifs
  · exact .refl
  · split
    · exact State.jobSlot_tends ..
    · exact .refl
  · split
    · exact (State.slotServe_tends ..).trans (State.slotNext_hostWork _ _).tends
    · exact (State.jobSlot_tends ..).trans (State.slotNext_hostWork _ _).tends
    · exact (State.slotServe_tends ..).trans (State.slotNext_hostWork _ _).tends
    · exact (State.slotNext_hostWork _ _).tends

/-! Tamper and the life-cycle: a device that enters DEAD takes its zones to OFF (R340). -/

theorem State.toDead_tends (r : Nat) : Tends s (s.toDead r) := by
  unfold State.toDead
  dsimp only
  refine Tends.trans ?_ (State.lcsChange_hostWork ..).tends
  refine Tends.trans ?_ (State.onAll_tends fun z _ => z.toOff_id)
  exact (s.closeSession_hostWork r).tends.host _

theorem State.tamper_tends (source : Nat) (counts : Bool) : Tends s (s.tamper source counts) := by
  unfold State.tamper
  dsimp only
  generalize (if counts then satAdd 255 s.host.lcs.tamper 1 else s.host.lcs.tamper) = n
  have h (t : State) (e : t.zones = s.zones) (c : Nat) (p : List Byte) : Tends s (t.secMsg c p) :=
    (Tends.of_zones e).trans (t.secMsg_hostWork c p).tends
  split
  · refine (h _ ?_ _ _).trans (State.toDead_tends 4)
    rfl
  · refine h _ ?_ _ _
    rfl

/-- An event of Avhar that closes the session and is a tamper event. -/
theorem State.tampered_tends {h : HostC} {source : Nat} {counts : Bool} :
    Tends s (({ s.closeSession 4 with host := h } : State).tamper source counts) :=
  ((s.closeSession_hostWork 4).tends.host h).trans (State.tamper_tends ..)

theorem State.keyrec_tends (k : KeyRec) : Tends s (s.keyrec k) := by
  unfold State.keyrec
  exact State.tampered_tends

theorem State.clkmon_tends : Tends s s.clkmon := by
  unfold State.clkmon
  exact State.tampered_tends

theorem State.puf_tends : Tends s s.puf := by
  unfold State.puf
  exact State.tampered_tends

theorem State.shield_tends : Tends s s.shield := by
  unfold State.shield
  exact State.tampered_tends

theorem State.kill_tends : Tends s s.kill := by
  unfold State.kill
  split
  · exact (State.lcsEnd_hostWork ..).tends
  · dsimp only
    generalize (if s.host.sessionState then s.host.ownerToken 4 else s.host.makerSig 9) = r
    split
    · exact (State.lcsEnd_hostWork ..).tends
    · exact (State.toDead_tends 3).trans (State.lcsEnd_hostWork ..).tends

theorem State.lcsCmd_tends (v : Word) : Tends s (s.lcsCmd v) := by
  unfold State.lcsCmd
  split
  · exact .refl
  · split
    · exact s.genkey_hostWork.tends
    · exact s.provision_hostWork.tends
    · exact s.takeOwner_hostWork.tends
    · exact s.lockField_hostWork.tends
    · exact s.unlock_hostWork.tends
    · exact s.rma_hostWork.tends
    · exact s.rmaMaker_hostWork.tends
    · exact s.remake_hostWork.tends
    · exact State.kill_tends
    · exact .refl

end tends

end Sys2Proof.Machine
end

section
namespace Sys2Proof.Machine

/-! Registers of the host complex and accesses of host software. -/

section tends
variable {s : State}

/-! Reads. -/

theorem State.rcClearHost_tends (a : Nat) : Tends s (s.rcClearHost a) := by
  unfold State.rcClearHost
  split
  · exact State.putZone_tends (.of_notices rfl rfl rfl rfl rfl)
  · exact State.modHost_tends

theorem State.hostRead_tends (a : Nat) : Tends s (s.hostRead a).s := by
  unfold State.hostRead
  dsimp only
  split
  · exact .refl
  · split
    · exact .refl
    · split
      · exact .refl
      · split
        · exact .refl
        · split
          · exact Tends.host .refl _
          · split
            · exact Tends.host .refl _
            · dsimp only
              split
              · exact State.rcClearHost_tends a
              · exact .refl

theorem State.regRead_tends (a : Nat) : Tends s (s.regRead a).s := by
  unfold State.regRead
  split
  · exact State.hostRead_tends a
  · exact State.gather_tends (Zone.regRead_id _ _ _)
  · exact .refl
  · exact .refl

/-- The words of a burst of reads. -/
theorem readRun_tends (addr : BitVec 24) : ∀ (n k : Nat) (r : Nat × Nat × List Word × State),
    Tends r.2.2.2 (readRun addr k n r).2.2.2
  | 0, _, _ => .refl
  | n + 1, k, (_, _, _, _) => by
    unfold readRun
    refine Tends.trans ?_ (readRun_tends addr n (k + 1) _)
    exact State.regRead_tends (burstAddr addr k)

/-! Mode changes of the device and sleep. -/

theorem State.modeArmDev_tends (next : Bool) (pmask : BitVec 6) (mode zmask : Nat) :
    Tends s (s.modeArmDev next pmask mode zmask).2 := by
  unfold State.modeArmDev
  split
  · exact .refl
  · dsimp only
    refine Tends.trans ?_ (foldl_tends (fun _ _ => State.onZone_tends (Zone.modeArm_id _ _ _ _ _)) _ _)
    exact Tends.host .refl _

theorem State.modeAbort_tends (zmask : Nat) : Tends s (s.modeAbort zmask) := by
  unfold State.modeAbort
  refine foldl_tends (fun _ _ => State.onZone_tends ?_) _ s
  split
  · split
    · rfl
    · exact Zone.modeCancel_id _ _
  · rfl

theorem State.modeCmd_tends (v : Word) : Tends s (s.modeCmd v).2 := by
  unfold State.modeCmd
  split
  · exact State.modeArmDev_tends ..
  · exact State.modeArmDev_tends ..
  · exact State.modeAbort_tends _
  · exact .refl

theorem State.sleepEnter_tends (i : ZoneId) : Tends s (s.sleepEnter i) := by
  unfold State.sleepEnter
  split
  · exact .refl
  · dsimp only
    split
    · exact s.abandonSleep_tends _
    · refine Tends.trans ?_ (State.onZone_tends (Zone.sleepStart_id _))
      exact Tends.host .refl _

theorem State.sleepWrite_tends (v : Word) : Tends s (s.sleepWrite v).2 := by
  unfold State.sleepWrite
  extract_lets h ok old h1 p q h2 t
  split
  · exact Tends.host .refl _
  · have ht : Tends s t := Tends.host .refl _
    split
    · exact ht.trans (foldl_tends (fun _ i => State.sleepEnter_tends i) _ _)
    · exact ht

/-! Writes in the host complex. -/

theorem State.clrCntHost_tends (page : Nat) : Tends s (s.clrCntHost page) := by
  unfold State.clrCntHost
  exact foldl_tends (fun _ r => State.rcClearHost_tends (RegSpec.off r)) _ s

theorem State.hostHeaderWrite_tends (page o : Nat) (v : Word) : Tends s (s.hostHeaderWrite page o v).2 := by
  unfold State.hostHeaderWrite
  split
  · dsimp only
    split
    · exact State.clrCntHost_tends page
    · exact .refl
  · dsimp only
    exact State.modHost_tends
  · dsimp only
    exact State.modHost_tends
  · exact .refl
  · dsimp only
    split
    · exact State.modHost_tends
    · exact .refl
  · exact .refl
  · exact .refl

/-- What an answer that may be none makes of the device. -/
def AnswerTends (s : State) (r : Option (Nat × State)) : Prop := ∀ x, r = some x → Tends s x.2

theorem AnswerTends.some {n : Nat} {t : State} (h : Tends s t) : AnswerTends s (some (n, t)) :=
  fun _ e => by cases e; exact h

theorem AnswerTends.ite {c : Prop} [Decidable c] {x y : Option (Nat × State)} (hx : AnswerTends s x)
    (hy : AnswerTends s y) : AnswerTends s (if c then x else y) := by
  split
  · exact hx
  · exact hy

theorem State.hostSpecial_tends (a : Nat) (v : Word) : AnswerTends s (s.hostSpecial a v) := by
  unfold State.hostSpecial
  refine .ite (.some (State.sleepWrite_tends v)) ?_
  refine .ite (.some (State.modeCmd_tends v)) ?_
  refine .ite (.some State.modHost_tends) ?_
  refine .ite (.some (s.sgWrite_hostWork v).tends) ?_
  refine .ite (.some (State.contCmd_tends v)) ?_
  refine .ite (.some (s.xcmd_hostWork v).tends) ?_
  refine .ite (.some State.modHost_tends) ?_
  refine .ite (.some (Tends.host .refl _)) ?_
  refine .ite (.some State.modHost_tends) ?_
  refine .ite (.some (s.secCmd_hostWork v).tends) ?_
  refine .ite (.some (State.lcsCmd_tends v)) ?_
  exact fun _ e => by cases e

theorem State.hostWrite_tends (a : Nat) (v : Word) : Tends s (s.hostWrite a v).2 := by
  unfold State.hostWrite
  dsimp only
  split
  · exact .refl
  · split
    · exact .refl
    · split
      · exact State.hostHeaderWrite_tends ..
      · split
        · exact .refl
        · split
          · exact .refl
          · split
            next hx => exact State.hostSpecial_tends a v _ hx
            next =>
              dsimp only
              exact State.modHost_tends

/-! Writes by address. -/

/-- A fold over zones that carries an answer with the device. -/
theorem foldlAns_tends {α β : Type} {g : β → State} {f : β → α → β} (h : ∀ r a, Tends (g r) (g (f r a))) :
    ∀ (l : List α) (r : β), Tends (g r) (g (l.foldl f r))
  | [], _ => .refl
  | a :: l, r => (h r a).trans (foldlAns_tends h l (f r a))

theorem State.zoneWrite_tends {p0 : Bool} {i : ZoneId} {off a : Nat} {v : Word} : Tends s (s.zoneWrite p0 i off a v).s := by
  have hz : Tends s (s.onZoneR i (fun z h => z.regWrite h .host p0 off v)).2 :=
    State.onZoneR_tends (Zone.regWrite_id ..)
  unfold State.zoneWrite
  dsimp only
  split
  · exact hz.trans (State.wrote_hostWork ..).tends
  · exact hz

theorem State.bcastWrite_tends {p0 : Bool} {skip off a : Nat} {v : Word} : Tends s (s.bcastWrite p0 skip off a v).s := by
  unfold State.bcastWrite
  refine Tends.trans ?_ (State.wrote_hostWork ..).tends
  refine foldlAns_tends (g := WrAns.s) (fun r i => ?_) (List.finRange 8) ⟨0, 0, 0, s⟩
  have hz : Tends r.s (r.s.onZoneR i (fun z h => z.bcastWrite h p0 off v)).2 :=
    State.onZoneR_tends (Zone.bcastWrite_id ..)
  dsimp only
  split
  · exact .refl
  · split
    · exact hz
    · exact hz

theorem State.regWrite_tends {p0 : Bool} {skip a : Nat} {v : Word} : Tends s (s.regWrite p0 skip a v).s := by
  unfold State.regWrite
  split
  · exact State.hostWrite_tends a v
  · exact State.zoneWrite_tends
  · exact State.bcastWrite_tends
  · exact .refl

end tends

end Sys2Proof.Machine
end

section
namespace Sys2Proof.Machine

/-! The link and its protocols. -/

section tends
variable {s : State}

/-! Frames. -/

theorem State.validFrame_tends (mode : Nat) (valid : Bool) : Tends s (s.validFrame mode valid) := by
  unfold State.validFrame
  dsimp only
  split
  · refine Tends.trans ?_ (State.onAll_tends fun z _ => z.orphanSet_id 0)
    exact Tends.host .refl _
  · exact Tends.host .refl _

theorem State.checkFrame_tends (f : RxFrame) : Tends s (s.checkFrame f) := by
  unfold State.checkFrame
  dsimp only
  split
  · exact State.modHost_tends
  split
  · exact .refl
  generalize ht : s.modHost _ = t
  have hm : Tends s t := by rw [← ht]; exact State.modHost_tends
  refine hm.trans ?_
  split
  · have he : Tends t (t.modHost (fun h => h.linkErr Reg.LINK_COUNT 7 0 1 2)) :=
      State.modHost_tends
    split
    · exact he
    · exact he.trans (State.nakNow_hostWork ..).tends
  · have hv (b : Bool) : Tends t ((t.validFrame 1 b).modHost HostC.heardRate) :=
      (State.validFrame_tends 1 b).trans State.modHost_tends
    split
    · exact (hv _).trans (State.broadcast_hostWork ..).tends
    · exact (hv _).trans (State.addressed_hostWork ..).tends

theorem State.frameReceived_tends (f : RxFrame) : Tends s (s.frameReceived f) := by
  unfold State.frameReceived
  extract_lets h h1 l h2
  split
  · exact .refl
  · split
    · exact Tends.host .refl _
    · refine Tends.trans ?_ (State.checkFrame_tends f)
      exact Tends.host .refl _

theorem State.recsSent_tends (l : List (Nat × BitVec 16)) : Tends s (s.recsSent l) := by
  unfold State.recsSent
  refine State.mapped_tends fun _ => ?_
  exact .of_notices rfl rfl rfl rfl rfl

theorem State.transmit_tends (o : ArbOutcome) : Tends s (s.transmit o) := by
  unfold State.transmit
  split
  · exact .refl
  · split
    · exact .refl
    · split
      · exact State.modHost_tends
      · exact State.modHost_tends
      · dsimp only
        split
        · refine Tends.trans ?_ (State.recsSent_tends _)
          exact State.modHost_tends
        · exact State.modHost_tends

theorem State.transmitFrame_tends (o : ArbOutcome) : Tends s (s.transmitFrame o) := by
  unfold State.transmitFrame
  dsimp only
  split
  · exact (State.transmit_tends o).trans (State.hsend_hostWork ..).tends
  · exact State.transmit_tends o

theorem State.messageResend_tends : Tends s s.messageResend := by
  unfold State.messageResend
  refine State.mapped_tends fun _ => ?_
  exact .of_notices rfl rfl rfl rfl rfl

theorem State.msgAck_tends (src : Nat) (m : BitVec 16) : Tends s (s.msgAck src m) := by
  unfold State.msgAck
  split
  · exact State.modHost_tends
  · exact State.putZone_tends (.of_notices rfl rfl rfl rfl rfl)

/-! Commands of the protocol engine. -/

theorem burstRun_tends {p0 : Bool} {addr : BitVec 24} : ∀ (ws : List Word) (k : Nat) (r : WrAns),
    Tends r.s (burstRun p0 addr k ws r).s
  | [], _, _ => .refl
  | v :: rest, k, r => by
    unfold burstRun
    extract_lets a isB w lower
    split
    · exact .refl
    · refine Tends.trans ?_ (burstRun_tends rest (k + 1) _)
      exact State.regWrite_tends

theorem State.regWriteCmd_tends {c : Hdr} {addr : BitVec 24} {ws : List Word} :
    Tends s (s.regWriteCmd c addr ws) := by
  unfold State.regWriteCmd
  dsimp only
  have hb : Tends s (burstRun s.host.p0ctl addr 0 ws ⟨0, 0, 0, s⟩).s := burstRun_tends ws 0 ⟨0, 0, 0, s⟩
  iterate 4 refine .ite (State.nak_hostWork ..).tends ?_
  exact .ite (hb.trans (State.ack_hostWork ..).tends) (hb.trans (State.nak_hostWork ..).tends)

theorem State.regReadCmd_tends (c : Hdr) (addr : BitVec 24) (count : Byte) : Tends s (s.regReadCmd c addr count) := by
  unfold State.regReadCmd
  dsimp only
  iterate 4 refine .ite (State.nak_hostWork ..).tends ?_
  exact (readRun_tends addr _ 0 (0, 255, [], s)).trans (State.reply_hostWork ..).tends

theorem State.eachZone_tends {zmask : Nat} {f : Zone → HostC → (Nat × Nat) × Zone}
    (h : ∀ z x, (f z x).2.id = z.id) : Tends s (s.eachZone zmask f).s := by
  unfold State.eachZone
  refine foldlAns_tends (g := WrAns.s) (fun r i => ?_) (List.finRange 8) ⟨0, 0, 0, s⟩
  have hz : Tends r.s (r.s.onZoneR i f).2 := State.onZoneR_tends (h _ _)
  dsimp only
  split
  · exact .refl
  · split
    · exact hz
    · exact hz

theorem State.zoneAns_tends (w : WrAns) (c : Hdr) (zmask : Nat) : Tends w.s (State.zoneAns w c zmask) := by
  unfold State.zoneAns
  split
  · exact (State.ack_hostWork ..).tends
  · exact (State.nak_hostWork ..).tends

theorem State.voiceSend_tends (c : Hdr) (zmask : Nat) (v : HostV) : Tends s (s.voiceSend c zmask v) := by
  unfold State.voiceSend
  dsimp only
  refine Tends.trans ?_ (State.voiceDone_hostWork _).tends
  refine Tends.trans ?_ (foldl_tends (fun _ _ => ?_) _ _)
  · exact State.modHost_tends
  · split
    · exact .refl
    · exact State.onZone_tends (by rfl)

/-- The authority of a command that needs one. -/
theorem State.authorityIf_tends (p : Prop) [Decidable p] (zmask : Nat) (item : Word) (a : Auth) :
    Tends s (if p then s.authority zmask item a else (0, 0, s)).2.2 := by
  split
  · exact (State.authority_hostWork ..).tends
  · exact .refl

theorem State.voiceCmd_tends (c : Hdr) (op zmask cls : Byte) (arg0 arg1 : Word) (a : Auth) :
    Tends s (s.voiceCmd c op zmask cls arg0 arg1 a) := by
  unfold State.voiceCmd
  extract_lets p0 r z
  iterate 7 refine .ite (State.nak_hostWork ..).tends ?_
  have ha : Tends s (if p0 then s.authority z arg0 a else (0, 0, s)).2.2 := State.authorityIf_tends p0 z arg0 a
  generalize (if p0 then s.authority z arg0 a else (0, 0, s)) = x at ha
  dsimp only
  split
  · exact ha.trans (State.nak_hostWork ..).tends
  · exact ha.trans (State.voiceSend_tends ..)

theorem State.eventPost_tends (c : Hdr) (zmask : Byte) (e : Vector Word 8) (a : Auth) : Tends s (s.eventPost c zmask e a) := by
  unfold State.eventPost
  extract_lets p0 r z
  iterate 5 refine .ite (State.nak_hostWork ..).tends ?_
  have ha : Tends s (if p0 then s.authority z e[(4 : Fin 8)] a else (0, 0, s)).2.2 :=
    State.authorityIf_tends (p0 = true) z e[(4 : Fin 8)] a
  generalize (if p0 then s.authority z e[(4 : Fin 8)] a else (0, 0, s)) = x at ha
  dsimp only
  split
  · exact ha.trans (State.nak_hostWork ..).tends
  · refine (ha.trans (State.eachZone_tends fun y h => ?_)).trans (State.zoneAns_tends ..)
    split
    · rfl
    split
    · rfl
    · exact Zone.post_id ..

theorem State.msgackCmd_tends (c : Hdr) (src : Byte) (m : BitVec 16) : Tends s (s.msgackCmd c src m) := by
  unfold State.msgackCmd
  dsimp only
  iterate 2 refine .ite (State.nak_hostWork ..).tends ?_
  exact (State.msgAck_tends ..).trans (State.ack_hostWork ..).tends

/-! Compatibility commands. -/

/-- The work of a compatibility command, which keeps each zone's number and leaves no notice. -/
abbrev Minds (act : State → Nat × List Byte × State) : Prop := ∀ s, Tends s (act s).2.2

theorem State.compatTake_tends {act : State → Nat × List Byte × State} (h : Minds act) (f : CompatFrame) (cmd : Nat) :
    Tends s (s.compatTake f cmd act) := by
  unfold State.compatTake
  split
  · refine Tends.trans ?_ (State.lswAnswer_hostWork ..).tends
    exact State.modHost_tends
  · dsimp only
    refine Tends.trans (Tends.trans ?_ (h _)) (State.lswAnswer_hostWork ..).tends
    exact (State.validFrame_tends 2 true).trans State.modHost_tends

theorem State.compat_tends {act : State → Nat × List Byte × State} (h : Minds act) (f : CompatFrame) (cmd : Nat) :
    Tends s (s.compat f cmd act) := by
  unfold State.compat
  extract_lets h0 h1
  split
  · exact .refl
  · split
    · exact Tends.host .refl _
    · dsimp only
      split
      · exact Tends.host .refl _
      · refine Tends.trans ?_ (State.compatTake_tends h f cmd)
        exact Tends.host .refl _

theorem State.compatWrite_minds {f : CompatFrame} : Minds (State.compatWrite f.data) := by
  intro s
  unfold State.compatWrite
  dsimp only
  split
  · exact .refl
  · exact burstRun_tends _ 0 ⟨0, 0, 0, s⟩

theorem State.compatRead_minds (d : List Byte) : Minds (State.compatRead d) := by
  intro s
  unfold State.compatRead
  dsimp only
  split
  · exact .refl
  · exact readRun_tends _ _ 0 (0, 255, [], s)

theorem protoRun_tends {c : Instr} : Tends s (protoRun c s) := by
  unfold protoRun
  split
  · exact (State.ping_hostWork ..).tends
  · exact (State.ident_hostWork ..).tends
  · exact State.regWriteCmd_tends
  · exact State.regReadCmd_tends ..
  · exact State.voiceCmd_tends ..
  · exact State.eventPost_tends ..
  · exact (State.bulkWr_hostWork ..).tends
  · exact (State.bulkRd_hostWork ..).tends
  · exact State.msgackCmd_tends ..
  · exact (State.helloCmd_hostWork ..).tends
  · exact (State.authCmd_hostWork ..).tends
  · exact (State.closeCmd_hostWork ..).tends
  · exact (State.resumeCmd_hostWork ..).tends
  · exact (State.statusCmd_hostWork ..).tends
  · exact (State.getcertCmd_hostWork ..).tends
  · exact State.compat_tends State.compatWrite_minds ..
  · exact State.compat_tends (State.compatRead_minds _) ..
  · exact State.compat_tends (fun _ => .refl) ..
  · exact .refl

end tends

end Sys2Proof.Machine
end

section
namespace Sys2Proof.Machine

/-! What boundaries, commands in their order and accesses of a party make of each zone's number and notices. -/

section tends
variable {s : State}

theorem State.hostTicks_tends (i : ZoneId) : Tends s (s.hostTicks i) := by
  unfold State.hostTicks
  split
  · exact .refl
  · refine State.mapped_tends fun _ => ?_
    exact .of_notices rfl rfl rfl rfl rfl

theorem State.setBegan_tends (i : ZoneId) (b : Bool) : Tends s (s.setBegan i b) := by
  unfold State.setBegan vmod
  dsimp only
  refine State.set_tends ?_
  exact .of_notices rfl rfl rfl rfl rfl

/-! Boundaries. -/

theorem State.frameStart_tends (i : ZoneId) : Tends s (s.frameStart i) := by
  have h : Tends s (s.onZone i (fun z _ => ((z.frameBegin).ampSeqRun 1).cmRamp 256)) := State.onZone_tends (by simp)
  unfold State.frameStart
  dsimp only
  split
  · exact (h.trans (State.hostTicks_tends i)).trans (State.onZone_tends (Zone.tickWork_id ..))
  · exact h

theorem State.frameBoundary_tends (i : ZoneId) (inp : FrameIn) : Tends s (s.frameBoundary i inp) := by
  unfold State.frameBoundary
  split
  · exact .refl
  · dsimp only
    refine Tends.trans ?_ (State.onZone_tends (Zone.frameBody_id ..))
    split
    · exact State.setBegan_tends i false
    · exact State.frameStart_tends i

theorem State.tickBoundary_tends (i : ZoneId) : Tends s (s.tickBoundary i) := by
  unfold State.tickBoundary
  dsimp only
  split
  · exact .refl
  · exact (State.frameStart_tends i).trans (State.setBegan_tends i true)

theorem State.zslowEdge_tends (i : ZoneId) (a b : Bool) : Tends s (s.zslowEdge i a b) := by
  unfold State.zslowEdge
  split
  · exact .refl
  · have h : Tends s (s.onZone i (fun z _ =>
        ((((((z.decFeed).slowEdge a b).slowTimers).hcmdApply).standstill).staleSet).cmRamp 750)) :=
      State.onZone_tends (by simp)
    dsimp only
    split
    · exact (h.trans (State.hostTicks_tends i)).trans (State.onZone_tends (Zone.slowTickWork_id ..))
    · exact h

/-! Commands of the link in their order (R312). -/

theorem State.drain_tends : ∀ (n : Nat) (s : State), Tends s (State.drain n s)
  | 0, _ => .refl
  | n + 1, s => by
    unfold State.drain
    split
    · exact .refl
    · split
      · refine Tends.trans (Tends.trans ?_ protoRun_tends) (State.drain_tends n _)
        exact State.modHost_tends
      · exact .refl

theorem State.flush_tends : Tends s s.flush :=
  s.voiceDone_hostWork.tends.trans (State.drain_tends _ _)

theorem State.inOrder_tends (c : Instr) : Tends s (s.inOrder c) := by
  unfold State.inOrder
  dsimp only
  split
  · exact State.flush_tends.trans protoRun_tends
  · exact State.flush_tends.trans State.modHost_tends

theorem State.compatIn_tends (c : Instr) : Tends s (s.compatIn c) := by
  unfold State.compatIn
  split
  · exact .refl
  · exact State.modHost_tends.trans (State.inOrder_tends c)

theorem State.wake_tends (c : WakeCause) : Tends s (s.wake c) := by
  unfold State.wake
  split
  · exact .refl
  split
  · exact s.abandonSleep_tends 2
  split
  · exact .refl
  · exact (State.mapped_tends Zone.wakeNow_tended).trans State.flush_tends

/-! Accesses of a party. -/

theorem State.busWrite_tends {a : Nat} {v : Word} : Tends s (s.busWrite a v) := by
  unfold State.busWrite
  exact State.regWrite_tends.trans State.modHost_tends

theorem State.busRead_tends {a : Nat} : Tends s (s.busRead a) := by
  unfold State.busRead
  exact (State.regRead_tends a).trans State.modHost_tends

theorem State.partyWrite_tends {p : Party} {i : ZoneId} {off : Nat} {v : Word} : Tends s (s.partyWrite p i off v) := by
  cases p with
  | host => exact State.busWrite_tends
  | prog =>
    unfold State.partyWrite
    exact State.onZone_tends (by simp)

theorem State.partyRead_tends {p : Party} {i : ZoneId} {off : Nat} : Tends s (s.partyRead p i off) := by
  cases p with
  | host => exact State.busRead_tends
  | prog =>
    unfold State.partyRead
    exact State.onZone_tends (by simp)

theorem State.addrWrite_tends {p : Party} {a : Nat} {v : Word} : Tends s (s.addrWrite p a v) := by
  unfold State.addrWrite
  split
  · exact State.partyWrite_tends
  · exact .refl
  · exact State.busWrite_tends

theorem State.addrRead_tends {p : Party} {a : Nat} : Tends s (s.addrRead p a) := by
  unfold State.addrRead
  split
  · exact State.partyRead_tends
  · exact .refl
  · exact State.busRead_tends

/-! Device resets. -/

theorem bootStep_tends (r : BootRun) (e : Nat) : Tends r.s (bootStep r e).s := by
  unfold bootStep
  split
  · exact .refl
  · extract_lets at0 n w a v stop
    split
    · split
      · exact .refl
      · have hx : Tends r.s (r.s.regWrite false 0 a v).s := State.regWrite_tends
        split
        · exact hx
        · exact hx
    · have hx : Tends r.s (r.s.regRead a).s := State.regRead_tends a
      split
      · exact hx
      · dsimp only
        split_ifs
        all_goals exact hx.host _
    · split
      · exact .refl
      · exact .refl
    · exact .refl

theorem State.boot_tends : Tends s s.boot := by
  unfold State.boot
  split
  · exact .refl
  · split
    · exact State.modHost_tends
    · have h := foldlAns_tends (g := BootRun.s) bootStep_tends
        (List.range (leNat (byRead s.host.nvm.mem (0x11000 + 8) 4))) ⟨0, false, 0, 0, 0, s⟩
      exact h.trans State.modHost_tends

theorem Zone.afterReset_tended (z : Zone) : z.Tended z.afterReset := ⟨z.afterReset_id, fun _ => ⟨rfl, rfl, rfl, rfl⟩⟩

theorem State.deviceReset_tends (cause : ResetCause) (ta : BitVec 2) : Tends s (s.deviceReset cause ta) := by
  have hm (t : State) (o n p : Nat) : Tends t (t.lcsChange o n p) := (State.lcsChange_hostWork ..).tends
  have hs (t : State) (c : Nat) (p : List Byte) : Tends t (t.secMsg c p) := (State.secMsg_hostWork ..).tends
  unfold State.deviceReset
  dsimp only
  refine Tends.trans ?_ State.boot_tends
  split
  · refine Tends.trans ?_ (hm ..)
    split
    · exact (State.mapped_tends Zone.afterReset_tended).trans (hs ..)
    · exact State.mapped_tends Zone.afterReset_tended
  · split
    · exact (State.mapped_tends Zone.afterReset_tended).trans (hs ..)
    · exact State.mapped_tends Zone.afterReset_tended

end tends

/-! Every command. -/

/-- An event of a zone. -/
theorem event_tends {s : State} {i : ZoneId} {f : Zone → HostC → Zone} (h : ∀ z x, (f z x).id = z.id) :
    Tends s (s.onZone i f) :=
  State.onZone_tends (h _ _)

/-- What is ordered in a zone that executes voice operations. -/
theorem liveDo_tends {s : State} {i : ZoneId} {f : Zone → HostC → Zone} (h : ∀ z x, (f z x).id = z.id) :
    Tends s (s.onZone i (fun z h => if z.live then f z h else z)) :=
  event_tends fun z x => by
    split
    · exact h z x
    · rfl

theorem exec_tends (c : Instr) (s : State) : Completes c s (Tends s) := by
  cases c
  -- orders
  case enable | disable | resetWarm | resetCold | run | resume | fence | recover => exact ⟨_, rfl, State.busWrite_tends⟩
  -- bundles of a zone's DSP
  case macMnop | mpy | mac | msu | gmpy | gmac | dmpy | dmac | dmac2 | wmpy | wmac | wgmac | ald | aadd | asub | aclr | anop
      | mov | add | sub | neg | abs | min | max | and | or | xor | shra | shra8 | shl | ldi | ldis | cmpeq | cmplt | cmple
      | rdacc | sts | stg | fclr | hmov | br | loop | endRoutine | memMnop | ldw | stw | lde | ste | tap | ioRead | ioWrite
      | pts => exact ⟨_, rfl, event_tends fun z x => z.issue_id x _⟩
  -- what is ordered in a zone that executes voice operations
  case vrel | vkill | vctl | swap | mode | msg | gain | handler => exact ⟨_, rfl, liveDo_tends fun z x => by simp⟩
  case retrig =>
    refine ⟨_, rfl, State.onZone_tends ?_⟩
    dsimp only
    split
    · exact Zone.vctl_id ..
    · rfl
  case vstart => exact ⟨_, rfl, liveDo_tends fun z x => by
    split
    · rfl
    · split <;> simp⟩
  -- writes of host software to a zone
  case wdogWrite | frefRate | epochArm | epochDisarm | setpos | setvel | posMode | swapset | post | cancel | flush | validate
      | greqLo | stoneCfg | dspRun | clra | clrb | storeBase | clearBase | ampReset | spanRequest | mute | pilotRequest
      | tdmCfg => exact ⟨_, rfl, State.busWrite_tends⟩
  case tmrNext | tmrCtl | forceEnd | srst | cdataLo | freq | armAtTgt | armNext | armAtTgtCopy | armNextCopy | disarm =>
    exact ⟨_, rfl, State.busWrite_tends⟩
  -- accesses of either party
  case wdogKick | vwinDataWrite | dwinDataWrite | rwinDataWrite =>
    exact ⟨_, rfl, State.partyWrite_tends⟩
  case vwinDataRead | dwinDataRead | rwinDataRead | btickRead | wdataRead | latchRead =>
    exact ⟨_, rfl, State.partyRead_tends⟩
  case cdataHi => exact ⟨_, rfl, State.busRead_tends⟩
  -- events of a zone
  case initComplete | initSlow | testComplete | wdog | trapBucketLeak | router | regulatorTrip | orphan | hcloss
      | holdover | holdoverLimit | slewComplete | standstill | stale | hcmdApply
      | spliceWindowEnd | gramp | overrun | crossFadeEnd | aecInstant | erleWindow
      | intervalEnd | ampfault | spanSwitch | cmok | unmute | clrnAssert | clrnRelease
      | clrCrossFade | slip | tdmLock | debugHaltEnd | scrubPass | borrow | vanaFail
      | zvaInRegulation =>
    exact ⟨_, rfl, event_tends fun _ _ => by simp⟩
  case tachEdge | periodEnd | copyDone | presetCopy | successorStart | ovl | ovlClear | dtHoldEnd | checkpoint
      | ampenRelease | holdTimeout | burst | debugHalt | correctedWriteBack =>
    exact ⟨_, rfl, event_tends fun _ _ => by simp⟩
  case frefEdge => exact ⟨_, rfl, event_tends fun _ _ => Zone.frefStep_id ..⟩
  case loadEdge => exact ⟨_, rfl, event_tends fun _ _ => Zone.loadEdge_id ..⟩
  -- writes and reads of host software in the host complex
  case sgArm | sgDisarm | mount | unmount | load | unfence | xcmd | modeArm | modeArmNext | abort | sleepArm | installOpk
      | revokeOpk | setCek | setTgk | installSt | removeSt | setFloor | setCfloor | genkey | provision | takeOwner | lockField
      | unlock | rma | rmaMaker | remake | kill =>
    exact ⟨_, rfl, State.busWrite_tends⟩
  case nvmData wr =>
    cases wr with
    | some v => exact ⟨_, rfl, State.busWrite_tends⟩
    | none => exact ⟨_, rfl, State.busRead_tends⟩
  case pgLock => exact ⟨_, rfl, State.busWrite_tends⟩
  -- accesses by address
  case crcFeed | start | cur | clrcnt | registerWrite => exact ⟨_, rfl, State.addrWrite_tends⟩
  case rcRead => exact ⟨_, rfl, State.addrRead_tends⟩
  -- commands of the link
  case ping | ident | regWrite | regRead | voice | eventPost | bulkWr | bulkRd | msgack | hello | auth | close | resumeSession
      | status | getcert => exact ⟨_, rfl, State.inOrder_tends _⟩
  case write | read | pingCompat => exact ⟨_, rfl, State.compatIn_tends _⟩
  case transmitFrame o => exact ⟨_, rfl, State.flush_tends.trans (State.transmitFrame_tends o)⟩
  case messageResend => exact ⟨_, rfl, State.messageResend_tends⟩
  case frameReceived f =>
    refine ⟨_, rfl, ?_⟩
    split
    · exact State.frameReceived_tends f
    · exact .refl
  case recordCreated src cls code p =>
    refine ⟨_, rfl, ?_⟩
    split
    · exact .refl
    split
    · exact State.onZone_tends (Zone.send_id ..)
    · exact (State.hsend_hostWork ..).tends
  -- boundaries, sleep and wake
  case frameBoundary i inp =>
    exact ⟨_, rfl, (State.frameBoundary_tends i inp).trans State.flush_tends⟩
  case tickBoundary i =>
    exact ⟨_, rfl, (State.tickBoundary_tends i).trans State.flush_tends⟩
  case zslowEdge i a b =>
    exact ⟨_, rfl, (State.zslowEdge_tends i a b).trans State.flush_tends⟩
  case sleepEntry i => exact ⟨_, rfl, State.sleepEnter_tends i⟩
  case wake c => exact ⟨_, rfl, State.wake_tends c⟩
  -- Avhar and content
  case fetchSlot => exact ⟨_, rfl, State.fetchSlot_tends _⟩
  case vglitch => exact ⟨_, rfl, State.tamper_tends ..⟩
  case temp =>
    refine ⟨_, rfl, Tends.trans ?_ (State.tamper_tends ..)⟩
    exact State.modHost_tends
  case keyrec k => exact ⟨_, rfl, State.keyrec_tends k⟩
  case clkmon => exact ⟨_, rfl, State.clkmon_tends⟩
  case puf => exact ⟨_, rfl, State.puf_tends⟩
  case shield => exact ⟨_, rfl, State.shield_tends⟩
  case tempInRange =>
    refine ⟨_, rfl, Tends.trans ?_ State.flush_tends⟩
    exact State.modHost_tends
  case p0Check =>
    refine ⟨_, rfl, ?_⟩
    split
    · exact .refl
    · exact (State.p0Check_hostWork ..).tends
  case handshakeTimeout =>
    refine ⟨_, rfl, ?_⟩
    split
    · exact .refl
    · exact State.modHost_tends
  case linkBreak => exact ⟨_, rfl, s.linkBreak_hostWork.tends⟩
  case timeout => exact ⟨_, rfl, s.linkTimeout_hostWork.tends⟩
  case wakeEdge => exact ⟨_, rfl, (s.wakeEdge_hostWork _ _).tends⟩
  case syncPulse => exact ⟨_, rfl, (s.syncPulse_hostWork _).tends⟩
  case message => exact ⟨_, rfl, s.message_hostWork.tends⟩
  case nonceExpiry => exact ⟨_, rfl, s.nonceExpiry_hostWork.tends⟩
  case debugOpen => exact ⟨_, rfl, (s.debugOpen_hostWork _ _).tends⟩
  case ready => exact ⟨_, rfl, s.ready_hostWork.tends⟩
  case x32Check => exact ⟨_, rfl, (s.x32Check_hostWork _).tends⟩
  case slept => exact ⟨_, rfl, s.slept_hostWork.tends⟩
  case avharClockReturn =>
    refine ⟨_, rfl, ?_⟩
    exact State.modHost_tends
  case deviceReset => exact ⟨_, rfl, State.deviceReset_tends ..⟩
  case brownOut cause =>
    cases cause with
    | vcore | vaux | vio => exact ⟨_, rfl, State.deviceReset_tends ..⟩
    | por | resetn => exact ⟨_, rfl, .refl⟩

/-- A step is the effect of a command, or nothing where none is pending. -/
theorem step_tends {s t : State} (h : step s = .next t) : Tends s t := by
  unfold step at h
  split at h
  · cases h
    exact .refl
  next c r _ =>
    have hr : Tends s { s with pending := r } := .of_zones rfl
    exact hr.trans ((exec_tends c _).of_next h)

/-- Settles O54: each zone is a later state of what it was. -/
theorem noticesTaken : Obligations.NoticesTaken := by
  intro s t h hs i
  obtain ⟨hid, ht⟩ := (step_tends hs).zone i
  exact ⟨hid.trans (h i).1, ht (h i).2⟩

end Sys2Proof.Machine
end

section
namespace Sys2Proof.Machine

/-! What a command makes of a quiet zone whose state and notices it leaves alone: the zone, the answer to the access. -/

/-- State, amplifier, waiting voice commands and notices are as before: the zone has nothing to settle, and nothing for the host
complex to take but records. -/
structure Silent (z n : Zone) : Prop where
  ctl : n.ctl = z.ctl
  gov : n.gov = z.gov
  hostq : n.vox.hostq = z.vox.hostq
  ans : n.vox.ans = z.vox.ans
  devRep : n.sched.devRep = z.sched.devRep
  p0prot : n.sched.p0prot = z.sched.p0prot

/-- A silent zone that has created no record and keeps its lock. -/
structure Mute (z n : Zone) : Prop extends Silent z n where
  nseq : n.msgs.nseq = z.msgs.nseq
  lock : n.pll.lock = z.pll.lock

theorem Silent.refl (z : Zone) : Silent z z := ⟨rfl, rfl, rfl, rfl, rfl, rfl⟩

theorem Mute.refl (z : Zone) : Mute z z := ⟨.refl z, rfl, rfl⟩

theorem Silent.trans {a b c : Zone} (h : Silent a b) (h' : Silent b c) : Silent a c :=
  ⟨h'.ctl.trans h.ctl, h'.gov.trans h.gov, h'.hostq.trans h.hostq, h'.ans.trans h.ans, h'.devRep.trans h.devRep,
    h'.p0prot.trans h.p0prot⟩

theorem Noted.silent {l : List Nat} {z n : Zone} (h : Noted l z n) : Silent z n := by
  obtain ⟨q, r, rfl, -⟩ := h
  exact ⟨rfl, rfl, rfl, rfl, rfl, rfl⟩

section quiet
variable {s : State} {i : ZoneId} {c : Instr} {z n : Zone} {f : Zone → HostC → Zone} (hz : s.zones[i] = z) (hq : Quiet s i)
include hz hq

theorem Silent.settled (h : Silent z n) : Settled z n := by
  subst hz
  exact .of_st (by rw [h.gov]; exact hq.1) (by rw [h.hostq]; exact hq.2.2.2.2) (by rw [h.ctl])

theorem Silent.told (h : Silent z n) : Told n := by
  subst hz
  rw [Told, h.gov, h.devRep, h.p0prot, h.ans]
  exact hq.2.2.1

/-- Something that happens in the zone. -/
theorem onZone_silent (hn : f z s.host = n) (h : Silent z n) : (s.onZone i f).zones[i] = n ∧ OnlyZone i s (s.onZone i f) := by
  have ht := h.told hz hq
  have hs := h.settled hz hq
  subst hz hn
  have ho := onZone_only hq.2.1 hs
  rwa [Zone.taken_told ht] at ho

theorem onZone_mute (hn : f z s.host = n) (h : Mute z n) : (s.onZone i f).zones[i] = n ∧ Lone i s (s.onZone i f) := by
  have ht := h.told hz hq
  have hs := h.settled hz hq
  subst hz
  exact onZone_lone hq.2.1 hn hs ht h.nseq h.lock

/-- An event. -/
theorem event_silent (hc : exec c s = inZoneH s i f) (hn : f z s.host = n) (h : Silent z n) :
    Completes c s (fun t => t.zones[i] = n ∧ OnlyZone i s t) := ⟨_, hc, onZone_silent hz hq hn h⟩

theorem event_mute (hc : exec c s = inZoneH s i f) (hn : f z s.host = n) (h : Mute z n) :
    Completes c s (fun t => t.zones[i] = n ∧ Lone i s t) := ⟨_, hc, onZone_mute hz hq hn h⟩

/-- What is ordered in a zone that executes voice operations. -/
theorem liveDo_silent (hl : z.live = true) (hc : exec c s = liveDo s i f) (hn : f z s.host = n) (h : Silent z n) :
    Completes c s (fun t => t.zones[i] = n ∧ OnlyZone i s t) :=
  event_silent hz hq (f := fun z x => if z.live then f z x else z) hc (by rw [if_pos hl, hn]) h

theorem liveDo_mute (hl : z.live = true) (hc : exec c s = liveDo s i f) (hn : f z s.host = n) (h : Mute z n) :
    Completes c s (fun t => t.zones[i] = n ∧ Lone i s t) :=
  event_mute hz hq (f := fun z x => if z.live then f z x else z) hc (by rw [if_pos hl, hn]) h

omit hq in
/-- A write of host software: what the zone makes of it and what it answers. -/
theorem busWrite_answer {off r : Nat} {v : Word} (hoff : off < 0x7400) (hn : z.regWrite s.host .host s.host.p0ctl off v = (r, n)) :
    ∃ b : BusRes, b.reason = r ∧ s.busWrite (zoneAddr i off) v =
      (s.onZone i (fun z x => (z.regWrite x .host s.host.p0ctl off v).2)).modHost (fun x => { x with bus := b }) := by
  have hw : (s.zoneWrite s.host.p0ctl i off (zoneAddr i off) v).why = r := by
    change (s.zones[i].regWrite s.host .host s.host.p0ctl off v).1 = r
    rw [hz, hn]
  obtain ⟨b, hb⟩ := zoneWrite_s s s.host.p0ctl i off (zoneAddr i off) v
  unfold State.busWrite State.regWrite
  rw [placeOf_zoneAddr i hoff]
  dsimp only
  rw [hw, hb]
  generalize s.onZone i (fun z x => (z.regWrite x .host s.host.p0ctl off v).2) = t
  refine ⟨_, ?_, rfl⟩
  rfl

theorem write_silent {off r : Nat} {v : Word} (hc : exec c s = .next (s.busWrite (zoneAddr i off) v)) (hoff : off < 0x7400)
    (hn : z.regWrite s.host .host s.host.p0ctl off v = (r, n)) (h : Silent z n) :
    Completes c s (fun t => t.host.bus.reason = r ∧ t.zones[i] = n ∧ OnlyZone i s t) := by
  obtain ⟨b, hb, e⟩ := busWrite_answer hz hoff hn
  refine ⟨_, hc, ?_⟩
  have ht := onZone_silent hz hq (f := fun z x => (z.regWrite x .host s.host.p0ctl off v).2) (congrArg Prod.snd hn) h
  rw [e]
  generalize s.onZone i (fun z x => (z.regWrite x .host s.host.p0ctl off v).2) = t at ht ⊢
  exact ⟨hb, ht⟩

theorem write_mute {off r : Nat} {v : Word} (hc : exec c s = .next (s.busWrite (zoneAddr i off) v)) (hoff : off < 0x7400)
    (hn : z.regWrite s.host .host s.host.p0ctl off v = (r, n)) (h : Mute z n) :
    Completes c s (fun t => t.host.bus.reason = r ∧ t.zones[i] = n ∧ Lone i s t) := by
  obtain ⟨b, hb, e⟩ := busWrite_answer hz hoff hn
  refine ⟨_, hc, ?_⟩
  obtain ⟨h1, h2, h3⟩ := onZone_mute hz hq (f := fun z x => (z.regWrite x .host s.host.p0ctl off v).2) (congrArg Prod.snd hn) h
  rw [e]
  generalize s.onZone i (fun z x => (z.regWrite x .host s.host.p0ctl off v).2) = t at h1 h2 h3 ⊢
  exact ⟨hb, h1, h2, congrArg (fun x : HostC => { x with bus := s.host.bus }) h3⟩

/-- A write that the zone refuses. -/
theorem write_refused {off r : Nat} {v : Word} (hc : exec c s = .next (s.busWrite (zoneAddr i off) v)) (hoff : off < 0x7400)
    (hn : z.regWrite s.host .host s.host.p0ctl off v = (r, z)) :
    Completes c s (fun t => t.host.bus.reason = r ∧ t.zones[i] = z ∧ Lone i s t) := write_mute hz hq hc hoff hn (.refl z)

end quiet

end Sys2Proof.Machine
end

section
namespace Sys2Proof.Machine

/-! Swaps: the words that order them, arming of one page and of a set (R54, R57, R58). -/

/-- The word of PG_SWAP with an OP and a TGT (Table 3-9). -/
theorem fld_swapWord {op : Nat} (h : op < 8) (tgt : BitVec 24) : fld (BitVec.ofNat 32 (op * 2 ^ 24 + tgt.toNat)) 26 24 = op := by
  have ht := tgt.isLt
  simp only [fld, BitVec.toNat_ofNat]
  omega

theorem low_swapWord (op : Nat) (tgt : BitVec 24) :
    BitVec.extractLsb' 0 24 (BitVec.ofNat 32 (op * 2 ^ 24 + tgt.toNat)) = tgt := by
  have hd : 2 ^ 24 ∣ 2 ^ 32 := pow_dvd_pow 2 (by omega)
  apply BitVec.eq_of_toNat_eq
  rw [BitVec.extractLsb'_toNat, BitVec.toNat_ofNat, Nat.shiftRight_zero, Nat.mod_mod_of_dvd _ hd, Nat.mul_add_mod_self_right,
    Nat.mod_eq_of_lt tgt.isLt]

section arm
variable {z : Zone} {p : Fin 6} {h : HostC} {p0 : Bool} {v : Word}

/-- A write of PG_SWAP that the zone takes reaches the page's swap control. -/
theorem Zone.regWrite_pgSwap (hg : Grants z .host (bankedPage p.val + 0x14)) :
    z.regWrite h .host p0 (bankedPage p.val + 0x14) v = z.pgSwapWrite p v := by
  have hp : pageOf (bankedPage p.val + 0x14) = bankedPage p.val := by clear hg; revert p; decide
  have ho : (bankedPage p.val + 0x14) % 0x400 = 0x14 := by clear hg hp; revert p; decide
  have hb : bankOf (bankedPage p.val) = some p := by clear hg hp ho; revert p; decide
  obtain ⟨h1, h2, h3⟩ := hg
  rw [if_pos rfl, hp] at h3
  unfold Zone.regWrite Zone.headerWrite
  simp [hp, ho, hb, h1, h2, h3]

/-! The operations of PG_SWAP (Table 3-9). -/

theorem Zone.pgSwapWrite_atTgt (tgt : BitVec 24) :
    z.pgSwapWrite p (BitVec.ofNat 32 (1 * 2 ^ 24 + tgt.toNat)) = z.arm p (z.tgtTick tgt) (some tgt) false := by
  rw [Zone.pgSwapWrite, fld_swapWord (by decide), low_swapWord]
  rfl

theorem Zone.pgSwapWrite_next (tgt : BitVec 24) :
    z.pgSwapWrite p (BitVec.ofNat 32 (2 * 2 ^ 24 + tgt.toNat)) = z.arm p (z.tick + 1) none false := by
  rw [Zone.pgSwapWrite, fld_swapWord (by decide)]
  rfl

theorem Zone.pgSwapWrite_disarm (tgt : BitVec 24) :
    z.pgSwapWrite p (BitVec.ofNat 32 (3 * 2 ^ 24 + tgt.toNat)) = (0, z.disarm p) := by
  rw [Zone.pgSwapWrite, fld_swapWord (by decide)]
  rfl

theorem Zone.pgSwapWrite_atTgtCopy (tgt : BitVec 24) :
    z.pgSwapWrite p (BitVec.ofNat 32 (4 * 2 ^ 24 + tgt.toNat)) = z.arm p (z.tgtTick tgt) (some tgt) true := by
  rw [Zone.pgSwapWrite, fld_swapWord (by decide), low_swapWord]
  rfl

theorem Zone.pgSwapWrite_nextCopy (tgt : BitVec 24) :
    z.pgSwapWrite p (BitVec.ofNat 32 (5 * 2 ^ 24 + tgt.toNat)) = z.arm p (z.tick + 1) none true := by
  rw [Zone.pgSwapWrite, fld_swapWord (by decide)]
  rfl

/-- A page that is pending or copying refuses (Table 3-3). -/
theorem Zone.armCheck_busy (hf : z.ctl.st ≠ .fenced) (hi : ¬ Idle z p) (t : BitVec 32) : z.armCheck p t = (0x09, z) := by
  have hb : z.swaps[p].pend = true ∨ z.swaps[p].copying = true := by
    cases hx : z.swaps[p].pend
    · cases hy : z.swaps[p].copying
      · exact absurd ⟨hx, hy⟩ hi
      · exact .inr rfl
    · exact .inl rfl
  unfold Zone.armCheck
  rw [if_neg hf, if_pos hb]

/-- An idle page that is not ROUTE accepts. -/
theorem Zone.armCheck_idle (hf : z.ctl.st ≠ .fenced) (hi : Idle z p) (hp : p ≠ 1) (t : BitVec 32) :
    z.armCheck p t = (0, z) := by
  have hb : ¬ (z.swaps[p].pend = true ∨ z.swaps[p].copying = true) := by
    rw [hi.1, hi.2]
    simp
  unfold Zone.armCheck
  rw [if_neg hf, if_neg hb, if_neg hp]

/-- An idle ROUTE page accepts where no splice window runs and the image is valid; the validation is recorded (R178, R183). -/
theorem Zone.armCheck_route (hf : z.ctl.st ≠ .fenced) (hi : Idle z 1) {t : BitVec 32} (hs : z.spliceBusy t = false)
    (hv : (validate z.routeAct z.routeIn true).1 = 0) : z.armCheck 1 t = (0, (z.routeValidate true).2) := by
  have hb : ¬ (z.swaps[(1 : Fin 6)].pend = true ∨ z.swaps[(1 : Fin 6)].copying = true) := by
    rw [hi.1, hi.2]
    simp
  have hr : (z.routeValidate true).1 = 0 := hv
  unfold Zone.armCheck
  rw [if_neg hf, if_neg hb, if_pos rfl, hs]
  dsimp only
  rw [hr]
  rfl

end arm

/-! Arming one page. -/

/-- A page's swap armed for tick t. -/
def ZSwap.armed (s : ZSwap) (t : BitVec 32) (tgt : BitVec 24) (copy : Bool) : ZSwap :=
  { s with pend := true, target := t, copy := copy, owned := false, tgt := tgt }

theorem vmod_vmod {α : Type} {n : Nat} (v : Vector α n) (i : Fin n) (f g : α → α) :
    vmod (vmod v i f) i g = vmod v i (fun x => g (f x)) := by
  simp [vmod]

section arm
variable {z : Zone} {p : Fin 6}

/-- What the checks of an arm leave of a zone that accepts it: ROUTE records its validation. -/
def Checked (z : Zone) (p : Fin 6) (y : Zone) : Prop :=
  ∃ r m, y = { z with route := r, regs := m } ∧ (p ≠ 1 → r = z.route ∧ m = z.regs)

theorem Zone.armCheck_accepts {t : BitVec 32} (hf : z.ctl.st ≠ .fenced) (hi : Idle z p)
    (hr : p = 1 → z.spliceBusy t = false ∧ (validate z.routeAct z.routeIn true).1 = 0) :
    ∃ y, z.armCheck p t = (0, y) ∧ Checked z p y := by
  by_cases hp : p = 1
  · subst hp
    obtain ⟨hs, hv⟩ := hr rfl
    exact ⟨_, Zone.armCheck_route hf hi hs hv, _, _, rfl, fun h => absurd rfl h⟩
  · exact ⟨z, Zone.armCheck_idle hf hi hp t, z.route, z.regs, rfl, fun _ => ⟨rfl, rfl⟩⟩

/-- An accepted arm. -/
theorem Zone.arm_accepted {y : Zone} {t : BitVec 32} (h : z.armCheck p t = (0, y)) (g : Option (BitVec 24)) (copy : Bool) :
    z.arm p t g copy = (0, y.modSwap p (fun s => s.armed t (g.getD s.tgt) copy)) := by
  unfold Zone.arm
  rw [h]
  cases g with
  | none => rfl
  | some g =>
    simp only [Zone.armSet, Zone.modSwap, vmod_vmod]
    rfl

theorem Zone.arm_busy (hf : z.ctl.st ≠ .fenced) (hi : ¬ Idle z p) (t : BitVec 32) (g : Option (BitVec 24)) (copy : Bool) :
    z.arm p t g copy = (0x09, z) := by
  unfold Zone.arm
  rw [Zone.armCheck_busy hf hi]
  rfl

theorem low_signExtend (d : BitVec 24) : BitVec.extractLsb' 0 24 (d.signExtend 32) = d := by
  refine BitVec.eq_of_getLsbD_eq fun j hj => ?_
  have hj' : j < 32 := by omega
  rw [BitVec.getLsbD_extractLsb', zero_add, BitVec.getLsbD_signExtend]
  simp [hj, hj']

/-- The tick nearest to the present one with the low bits TGT. -/
theorem Zone.tgtTick_near (z : Zone) (tgt : BitVec 24) : NearTick z tgt (z.tgtTick tgt) := by
  have hd : tickDist (z.tgtTick tgt) z.tick = (tgt - BitVec.extractLsb' 0 24 z.tick).toInt := by
    unfold tickDist Zone.tgtTick
    rw [BitVec.add_comm, BitVec.add_sub_cancel, BitVec.toInt_signExtend_of_le (by decide)]
  refine ⟨?_, ?_, ?_⟩
  · rw [Zone.tgtTick, BitVec.extractLsb'_add (by decide), low_signExtend, BitVec.add_comm, BitVec.sub_add_cancel]
  · rw [hd]; exact BitVec.le_toInt _
  · rw [hd]; exact BitVec.toInt_lt

section completes
variable {s : State} {i : ZoneId} {c : Instr} {v : Word} {t : BitVec 32} {g : Option (BitVec 24)} {copy : Bool}
  (hz : s.zones[i] = z) (hq : Quiet s i) (hg : Grants z .host (bankedPage p.val + 0x14))
  (hc : exec c s = .next (s.busWrite (zoneAddr i (bankedPage p.val + 0x14)) v))
  (hv : z.pgSwapWrite p v = z.arm p t g copy)
include hz hq hg hc hv

/-- An arm that the page accepts. -/
theorem arm_completes (hi : Idle z p) (hr : p = 1 → z.spliceBusy t = false ∧ (validate z.routeAct z.routeIn true).1 = 0)
    {at0 : BitVec 32 → Prop} (ha : at0 t) : Completes c s (fun u => Armed z u.zones[i] p copy at0 ∧
      u.zones[i].swaps[p].tgt = g.getD z.swaps[p].tgt ∧ u.host.bus.reason = 0 ∧
      (p ≠ 1 → { u.zones[i] with swaps := z.swaps } = z) ∧
      { u.zones[i] with swaps := z.swaps, route := z.route, regs := z.regs } = z ∧ Lone i s u) := by
  obtain ⟨y, hy, r, m, rfl, hrm⟩ := Zone.armCheck_accepts hg.2.1 hi hr
  have hoff : bankedPage p.val + 0x14 < 0x7400 := by clear hg hc hv hr hrm hy hi; revert p; decide
  have hw := (Zone.regWrite_pgSwap (h := s.host) (p0 := s.host.p0ctl) hg).trans (hv.trans (Zone.arm_accepted hy g copy))
  refine (write_mute hz hq hc hoff hw ⟨⟨rfl, rfl, rfl, rfl, rfl, rfl⟩, rfl, rfl⟩).imp fun u ⟨hb, hn, hl⟩ => ?_
  have hself : (vmod z.swaps p fun x => x.armed t (g.getD x.tgt) copy)[p] = z.swaps[p].armed t (g.getD z.swaps[p].tgt) copy :=
    vmod_self ..
  rw [hn]
  refine ⟨⟨congrArg ZSwap.pend hself, congrArg ZSwap.copy hself, congrArg ZSwap.owned hself, (congrArg ZSwap.active hself :),
    (congrArg ZSwap.copying hself).trans hi.2, ?_, fun q hq => vmod_ne _ hq _⟩, (congrArg ZSwap.tgt hself :),
    hb, fun hp => ?_, rfl, hl⟩
  · exact (congrArg ZSwap.target hself).symm ▸ ha
  · obtain ⟨rfl, rfl⟩ := hrm hp
    rfl

/-- An arm of a page that is pending or copying. -/
theorem arm_refuses (hi : ¬ Idle z p) : Completes c s (fun u => u.host.bus.reason = 0x09 ∧ u.zones[i] = z ∧ Lone i s u) := by
  have hoff : bankedPage p.val + 0x14 < 0x7400 := by clear hg hc hv hi; revert p; decide
  exact write_refused hz hq hc hoff ((Zone.regWrite_pgSwap hg).trans (hv.trans (Zone.arm_busy hg.2.1 hi ..)))

end completes

end arm

/-- Settles O15: each operation of PG_SWAP is one arm, which an idle page accepts and another refuses. -/
theorem swapArming : Obligations.SwapArming := by
  intro s i p tgt z hz hq hg
  refine ⟨fun hi hr => ⟨?_, ?_, ?_, ?_⟩, fun hi => ⟨?_, ?_, ?_, ?_⟩⟩
  · exact arm_completes hz hq hg rfl (Zone.pgSwapWrite_atTgt tgt) hi (fun h => ⟨(hr h).1, (hr h).2.2⟩) (z.tgtTick_near tgt)
  · exact arm_completes hz hq hg rfl (Zone.pgSwapWrite_next 0) hi (fun h => (hr h).2) rfl
  · exact arm_completes hz hq hg rfl (Zone.pgSwapWrite_atTgtCopy tgt) hi (fun h => ⟨(hr h).1, (hr h).2.2⟩) (z.tgtTick_near tgt)
  · exact arm_completes hz hq hg rfl (Zone.pgSwapWrite_nextCopy 0) hi (fun h => (hr h).2) rfl
  · exact arm_refuses hz hq hg rfl (Zone.pgSwapWrite_atTgt tgt) hi
  · exact arm_refuses hz hq hg rfl (Zone.pgSwapWrite_next 0) hi
  · exact arm_refuses hz hq hg rfl (Zone.pgSwapWrite_atTgtCopy tgt) hi
  · exact arm_refuses hz hq hg rfl (Zone.pgSwapWrite_nextCopy 0) hi

end Sys2Proof.Machine
end

section
namespace Sys2Proof.Machine

/-! DISARM (R57). -/

section disarm
variable {z : Zone} {p : Fin 6}

theorem Zone.disarm_reached (h : 0 ≤ tickDist z.tick z.swaps[p].target) : z.disarm p = z := by
  have hr : z.reached z.swaps[p].target = true := decide_eq_true h
  unfold Zone.disarm
  dsimp only
  rw [hr, Bool.or_true, if_pos rfl]

/-- A pending swap of its own before its target is cleared, and told. -/
theorem Zone.disarm_pending (hp : z.swaps[p].pend = true) (ho : z.swaps[p].owned = false)
    (h : tickDist z.tick z.swaps[p].target < 0) : z.disarm p =
      (z.modSwap p (fun s => { s with pend := false, result := 3 })).send clsReport 0x0021 (natLe p.val 1 ++ [0]) := by
  have hr : z.reached z.swaps[p].target = false := decide_eq_false (by omega)
  unfold Zone.disarm
  dsimp only
  rw [hr, hp, ho]
  rfl

end disarm

/-! The copy of a batten (R56). -/

section copy
variable {z : Zone} {p : Fin 6}

/-- Registers from the active batten into the inactive one. -/
def Zone.copyRegs (z : Zone) (p : Fin 6) (l : List Nat) : Zone :=
  l.foldl (fun (z : Zone) k => z.setReg (z.bank p true k) (z.reg (z.bank p false k))) z

theorem Zone.copyBatten_regs (h : 3 ≤ p.val) : z.copyBatten p = z.copyRegs p (bankedRegs p) := by
  unfold Zone.copyBatten Zone.copyRegs
  split
  · simp at h
  · simp at h
  · simp at h
  · rfl

theorem Zone.copyRegs_shape (p : Fin 6) : ∀ (l : List Nat) (z : Zone), ∃ r, z.copyRegs p l = { z with regs := r }
  | [], z => ⟨z.regs, rfl⟩
  | k :: l, z => by
    obtain ⟨r, h⟩ := Zone.copyRegs_shape p l (z.setReg (z.bank p true k) (z.reg (z.bank p false k)))
    exact ⟨r, h⟩

/-- The battens of two registers lie apart (R53). -/
theorem Zone.bank_ne {k j : Nat} (hk : k < 0x8000) (hj : j < 0x8000) : z.bank p false k ≠ z.bank p true j := by
  unfold Zone.bank
  cases z.swaps[p].active
  · simp only [Bool.xor_false, Bool.xor_true, Bool.not_false, if_true, Bool.false_eq_true, if_false]
    omega
  · simp only [Bool.xor_false, Bool.xor_true, Bool.not_true, if_true, Bool.false_eq_true, if_false]
    omega

theorem Zone.bank_inj {b : Bool} {k j : Nat} : z.bank p b k = z.bank p b j ↔ k = j := by
  unfold Zone.bank
  split <;> omega

/-- The copy leaves the active batten and makes the inactive one like it. -/
theorem Zone.reg_copyRegs : ∀ {l : List Nat} {z : Zone}, z.regsWf = true → (∀ k ∈ l, k < 0x8000) → ∀ k : Nat, k < 0x8000 →
    (z.copyRegs p l).reg (z.bank p false k) = z.reg (z.bank p false k) ∧
    (z.copyRegs p l).reg (z.bank p true k) = if k ∈ l then z.reg (z.bank p false k) else z.reg (z.bank p true k)
  | [], z, _, _, k, _ => ⟨rfl, by simp [Zone.copyRegs]⟩
  | j :: l, z, hz, hl, k, hk => by
    have hj := hl j (by simp)
    have hw := Zone.setReg_regsWf hz (z.bank p true j) (z.reg (z.bank p false j))
    obtain ⟨ha, hi⟩ := Zone.reg_copyRegs (l := l) hw (fun k hk => hl k (by simp [hk])) k hk
    have hact : (z.setReg (z.bank p true j) (z.reg (z.bank p false j))).reg (z.bank p false k) = z.reg (z.bank p false k) := by
      rw [Zone.reg_setReg hz, if_neg (Zone.bank_ne hk hj)]
    refine ⟨ha.trans hact, hi.trans ?_⟩
    change (if k ∈ l then (z.setReg (z.bank p true j) (z.reg (z.bank p false j))).reg (z.bank p false k)
      else (z.setReg (z.bank p true j) (z.reg (z.bank p false j))).reg (z.bank p true k)) = _
    rw [hact, Zone.reg_setReg hz]
    by_cases hkl : k ∈ l
    · simp [hkl]
    · by_cases hkj : k = j
      · simp [hkj]
      · simp [hkl, hkj, Zone.bank_inj]

theorem bankedRegs_lt (p : Fin 6) : ∀ k ∈ bankedRegs p, k < 0x8000 := by
  have h : ∀ r ∈ zoneRegs, r.off < 0x8000 := by decide +kernel
  intro k hk
  simp only [bankedRegs, List.mem_map, List.mem_filter] at hk
  obtain ⟨r, ⟨hr, -⟩, rfl⟩ := hk
  exact h r hr

/-- What a copy leaves as it is. -/
theorem Zone.copyBatten_keeps (z : Zone) (p : Fin 6) : Mute z (z.copyBatten p) ∧ (z.copyBatten p).swaps = z.swaps ∧
    (z.copyBatten p).time = z.time ∧ (z.copyBatten p).sched = z.sched ∧ (z.copyBatten p).voices = z.voices := by
  by_cases h : 3 ≤ p.val
  · obtain ⟨r, e⟩ := Zone.copyRegs_shape p (bankedRegs p) z
    rw [Zone.copyBatten_regs h, e]
    exact ⟨⟨⟨rfl, rfl, rfl, rfl, rfl, rfl⟩, rfl, rfl⟩, rfl, rfl, rfl, rfl⟩
  · have hp : p = 0 ∨ p = 1 ∨ p = 2 := by
      revert p
      decide
    rcases hp with rfl | rfl | rfl
    · exact ⟨⟨⟨rfl, rfl, rfl, rfl, rfl, rfl⟩, rfl, rfl⟩, rfl, rfl, rfl, rfl⟩
    · exact ⟨⟨⟨rfl, rfl, rfl, rfl, rfl, rfl⟩, rfl, rfl⟩, rfl, rfl, rfl, rfl⟩
    · exact ⟨⟨⟨rfl, rfl, rfl, rfl, rfl, rfl⟩, rfl, rfl⟩, rfl, rfl, rfl, rfl⟩

end copy

section completes
variable {s : State} {i : ZoneId} {p : Fin 6} {z : Zone} (hz : s.zones[i] = z) (hq : Quiet s i)
include hz hq

/-- A pending swap before its target is disarmed (R57). -/
theorem disarm_clears (hg : Grants z .host (bankedPage p.val + 0x14)) (hp : z.swaps[p].pend = true) (ho : z.swaps[p].owned = false)
    (ht : tickDist z.tick z.swaps[p].target < 0) : Completes (.disarm i p) s (fun t =>
      t.zones[i].swaps[p] = { z.swaps[p] with pend := false, result := 3 } ∧
      (∀ q : Fin 6, q ≠ p → t.zones[i].swaps[q] = z.swaps[q]) ∧ RegsBut [Reg.MSG_DROPPED] z t.zones[i] ∧
      { t.zones[i] with swaps := z.swaps, regs := z.regs, msgs := z.msgs } = z ∧ OnlyZone i s t) := by
  have hoff : bankedPage p.val + 0x14 < 0x7400 := by clear hg hp ho ht; revert p; decide
  have hw := (Zone.regWrite_pgSwap (h := s.host) (p0 := s.host.p0ctl) hg).trans (Zone.pgSwapWrite_disarm 0)
  let y := z.modSwap p (fun s => { s with pend := false, result := 3 })
  have hy : y.regsWf = true := (Quiet.regsWf hz hq : z.regsWf = true)
  rw [Zone.disarm_pending hp ho ht] at hw
  obtain ⟨q, r, e, -, hr⟩ := Zone.send_full hy clsReport 0x0021 (natLe p.val 1 ++ [0])
  rw [e] at hw
  refine (write_silent hz hq rfl hoff hw ⟨rfl, rfl, rfl, rfl, rfl, rfl⟩).imp fun t ⟨_, hn, ho⟩ => ?_
  rw [hn]
  exact ⟨vmod_self .., fun q hq => vmod_ne _ hq _, fun k hk => hr k (by simpa using hk), rfl, ho⟩

/-- The end of a copy (R56). -/
theorem copyDone_completes (hc : z.swaps[p].copying = true) : Completes (.copyDone i p) s (fun t =>
    t.zones[i] = z.copyDone p ∧ Lone i s t) := by
  obtain ⟨hm, -⟩ := z.copyBatten_keeps p
  exact event_mute hz hq (f := fun z _ => if z.swaps[p].copying then z.copyDone p else z) rfl (if_pos hc)
    ⟨⟨hm.ctl, hm.gov, hm.hostq, hm.ans, hm.devRep, hm.p0prot⟩, hm.nseq, hm.lock⟩

end completes

/-- Settles O16: a DISARM by the target's distance; a copy by the page, which is one of memory words or one of registers. -/
theorem swapDisarmAndCopy : Obligations.SwapDisarmAndCopy := by
  intro s i p z hz hq
  refine ⟨disarm_clears hz hq, fun hg ht => ?_, fun hc => (copyDone_completes hz hq hc).imp fun t ⟨hn, hl⟩ => ?_⟩
  · have hoff : bankedPage p.val + 0x14 < 0x7400 := by clear hg ht; revert p; decide
    have hw := (Zone.regWrite_pgSwap (h := s.host) (p0 := s.host.p0ctl) hg).trans (Zone.pgSwapWrite_disarm 0)
    rw [Zone.disarm_reached ht] at hw
    exact (write_refused hz hq rfl hoff hw).imp fun _ h => h.2
  · obtain ⟨-, hs, htm, hsc, hv⟩ := z.copyBatten_keeps p
    have hswaps : t.zones[i].swaps = vmod z.swaps p (fun s => { s with copying := false }) := by
      rw [hn, ← hs]
      rfl
    rw [hswaps, hn]
    refine ⟨vmod_self .., fun q hq => vmod_ne _ hq _, ?_, ?_, ?_, fun h k hk => ?_, htm, hsc, hv, hl⟩
    · rintro rfl
      exact ⟨rfl, rfl⟩
    · rintro rfl
      exact ⟨rfl, rfl⟩
    · rintro rfl
      exact ⟨rfl, rfl⟩
    · have hk' := bankedRegs_lt p k hk
      have hr := (Zone.reg_copyRegs (p := p) (Quiet.regsWf hz hq) (bankedRegs_lt p) k hk').2
      rw [if_pos hk, ← Zone.copyBatten_regs h] at hr
      exact hr

end Sys2Proof.Machine
end

section
namespace Sys2Proof.Machine

/-! Sets of pages (R58). -/

section masks
variable {z : Zone} {m : BitVec 6} {t : BitVec 32} {owned : Bool}

theorem mem_maskPages {p : Fin 6} : p ∈ maskPages m ↔ m.getLsbD p.val = true := by
  simp [maskPages]

/-- A page's swap armed with a set of pages. -/
def ZSwap.inSet (s : ZSwap) (t : BitVec 32) (owned : Bool) : ZSwap :=
  { s with pend := true, target := t, copy := false, owned := owned }

/-- Every page of a list armed. -/
theorem armSets_swaps (t : BitVec 32) (owned : Bool) : ∀ (l : List (Fin 6)) (z : Zone), ∃ sw : Vector ZSwap 6,
    l.foldl (fun z p => z.armSet p t false owned) z = { z with swaps := sw } ∧
    ∀ q : Fin 6, sw[q] = if q ∈ l then z.swaps[q].inSet t owned else z.swaps[q]
  | [], z => ⟨z.swaps, rfl, fun q => by simp⟩
  | p :: l, z => by
    obtain ⟨sw, e, hs⟩ := armSets_swaps t owned l (z.armSet p t false owned)
    refine ⟨sw, e, fun q => (hs q).trans ?_⟩
    change (if q ∈ l then (vmod z.swaps p (fun s => s.inSet t owned))[q].inSet t owned
      else (vmod z.swaps p (fun s => s.inSet t owned))[q]) = _
    by_cases hq : q = p
    · subst hq
      rw [vmod_self]
      by_cases hl : q ∈ l
      · simp [hl, ZSwap.inSet]
      · simp [hl]
    · rw [vmod_ne _ hq]
      by_cases hl : q ∈ l
      · simp [hl]
      · simp [hl, hq]

/-- The checks of a list of pages, one after the other until one refuses (R58). -/
abbrev checkAll (t : BitVec 32) (l : List (Fin 6)) (a : Nat × Zone) : Nat × Zone :=
  l.foldl (fun (a : Nat × Zone) p => if a.1 ≠ 0 then a else a.2.armCheck p t) a

theorem checkAll_refused {r : Nat} (hr : r ≠ 0) : ∀ l : List (Fin 6), checkAll t l (r, z) = (r, z)
  | [] => rfl
  | p :: l => by
    rw [checkAll, List.foldl_cons, if_pos hr]
    exact checkAll_refused hr l

theorem checkAll_accepted : ∀ {l : List (Fin 6)}, (∀ p ∈ l, z.armCheck p t = (0, z)) → checkAll t l (0, z) = (0, z)
  | [], _ => rfl
  | p :: l, h => by
    rw [checkAll, List.foldl_cons, if_neg (by simp), h p (by simp)]
    exact checkAll_accepted fun q hq => h q (by simp [hq])

theorem checkAll_first {r : Nat} (hr : r ≠ 0) : ∀ {l : List (Fin 6)},
    (∀ p ∈ l, z.armCheck p t = (0, z) ∨ z.armCheck p t = (r, z)) → (∃ p ∈ l, z.armCheck p t = (r, z)) →
    checkAll t l (0, z) = (r, z)
  | [], _, ⟨_, hp, _⟩ => absurd hp (by simp)
  | p :: l, h, ⟨q, hq, he⟩ => by
    rw [checkAll, List.foldl_cons, if_neg (by simp)]
    rcases h p (by simp) with h0 | h0
    · rw [h0]
      refine checkAll_first hr (fun x hx => h x (by simp [hx])) ⟨q, ?_, he⟩
      rcases List.mem_cons.mp hq with rfl | hl
      · rw [h0] at he
        exact absurd (congrArg Prod.fst he).symm hr
      · exact hl
    · rw [h0]
      exact checkAll_refused hr l

theorem not_route (h1 : m.getLsbD 1 = false) {p : Fin 6} (hp : m.getLsbD p.val = true) : p ≠ 1 := by
  rintro rfl
  rw [show ((1 : Fin 6).val) = 1 from rfl, h1] at hp
  exact absurd hp (by simp)

variable (hf : z.ctl.st ≠ .fenced) (h1 : m.getLsbD 1 = false)
include hf h1

/-- A set of idle pages without ROUTE is armed. -/
theorem Zone.armMask_idle (hi : ∀ p : Fin 6, m.getLsbD p.val = true → Idle z p) : ∃ sw : Vector ZSwap 6,
    z.armMask m t owned = (0, { z with swaps := sw }) ∧
    ∀ q : Fin 6, sw[q] = if m.getLsbD q.val then z.swaps[q].inSet t owned else z.swaps[q] := by
  obtain ⟨sw, e, hs⟩ := armSets_swaps t owned (maskPages m) z
  have hc : checkAll t (maskPages m) (0, z) = (0, z) := checkAll_accepted fun p hp =>
    Zone.armCheck_idle hf (hi p (mem_maskPages.mp hp)) (not_route h1 (mem_maskPages.mp hp)) t
  refine ⟨sw, ?_, fun q => ?_⟩
  · unfold Zone.armMask
    rw [show (maskPages m).foldl _ (0, z) = _ from hc]
    dsimp only
    rw [if_neg (by simp), e]
  · rw [hs q]
    simp only [mem_maskPages]

/-- A set with a page that is not idle is refused whole. -/
theorem Zone.armMask_busy (hb : ∃ p : Fin 6, m.getLsbD p.val = true ∧ ¬ Idle z p) : z.armMask m t owned = (0x09, z) := by
  obtain ⟨p, hp, hi⟩ := hb
  have hc : checkAll t (maskPages m) (0, z) = (0x09, z) := by
    refine checkAll_first (by decide) (fun q hq => ?_) ⟨p, mem_maskPages.mpr hp, Zone.armCheck_busy hf hi t⟩
    by_cases hx : Idle z q
    · exact .inl (Zone.armCheck_idle hf hx (not_route h1 (mem_maskPages.mp hq)) t)
    · exact .inr (Zone.armCheck_busy hf hx t)
  unfold Zone.armMask
  rw [show (maskPages m).foldl _ (0, z) = _ from hc]
  dsimp only
  rw [if_pos (by decide)]

end masks

/-! The words that name a set of pages. -/

theorem low_mask (n : Nat) (m : BitVec 6) (h : n % 64 = 0) : BitVec.extractLsb' 0 6 (BitVec.ofNat 32 (n + m.toNat)) = m := by
  have hm := m.isLt
  apply BitVec.eq_of_toNat_eq
  rw [BitVec.extractLsb'_toNat, BitVec.toNat_ofNat, Nat.shiftRight_zero, Nat.mod_mod_of_dvd _ (pow_dvd_pow 2 (by omega)),
    Nat.add_mod,
    show n % 2 ^ 6 = 0 from h, zero_add, Nat.mod_mod, Nat.mod_eq_of_lt hm]

/-- A word of SCHED.SWAPSET with ARM (Table 3-8). -/
def swapsetWord (next : Bool) (m : BitVec 6) : Word := BitVec.ofNat 32 (2 ^ 31 + b2n next * 2 ^ 30 + m.toNat)

theorem bit31_swapsetWord (next : Bool) (m : BitVec 6) : bit (swapsetWord next m) 31 = true := by
  have hm := m.isLt
  have hb : b2n next ≤ 1 := by cases next <;> decide
  simp only [bit, swapsetWord, BitVec.toNat_ofNat, beq_iff_eq]
  omega

theorem bit30_swapsetWord (next : Bool) (m : BitVec 6) : bit (swapsetWord next m) 30 = next := by
  have hm := m.isLt
  have hn : (2 ^ 31 + b2n next * 2 ^ 30 + m.toNat) % 2 ^ 32 / 2 ^ 30 % 2 = b2n next := by
    have hb : b2n next ≤ 1 := by cases next <;> decide
    omega
  rw [bit, swapsetWord, BitVec.toNat_ofNat, hn]
  cases next <;> rfl

theorem low_swapsetWord (next : Bool) (m : BitVec 6) : BitVec.extractLsb' 0 6 (swapsetWord next m) = m :=
  low_mask _ m (by cases next <;> rfl)

theorem low_setWidth (m : BitVec 6) : BitVec.extractLsb' 0 6 (m.setWidth 32) = m := by
  refine BitVec.eq_of_getLsbD_eq fun j hj => ?_
  have hj' : j < 32 := by omega
  simp [hj, hj']

theorem bit31_setWidth (m : BitVec 6) : bit (m.setWidth 32) 31 = false := by
  rw [bit_eq_getLsbD]
  simp

/-! Writes of SCHED.SWAPSET and the SWAP action (R58, R60). -/

theorem Zone.regWrite_swapset {z : Zone} (hg : Grants z .host Reg.SCHED_SWAPSET) (h : HostC) (p0 : Bool) (v : Word) :
    z.regWrite h .host p0 Reg.SCHED_SWAPSET v = z.swapsetWrite v :=
  (Zone.regWrite_granted hg (by decide) rfl).trans rfl

section sets
variable {z : Zone} {m : BitVec 6}

theorem Zone.swapsetWrite_arm (next : Bool) {t : BitVec 32} (ht : t = if next then z.tick + 1 else z.reg Reg.SCHED_SWAPTGT) :
    z.swapsetWrite (swapsetWord next m) = ((z.armMask m t false).1,
      if (z.armMask m t false).1 = 0 then
        (z.armMask m t false).2.setReg Reg.SCHED_SWAPSET (swapsetWord next m &&& 0x4000003F)
      else (z.armMask m t false).2) := by
  unfold Zone.swapsetWrite
  rw [bit31_swapsetWord, bit30_swapsetWord, low_swapsetWord, if_pos rfl, ← ht]

theorem Zone.actSwap_arm (tag : BitVec 16) (arg1 : Word) : z.actSwap tag (m.setWidth 32) arg1 =
    if (z.armMask m arg1 false).1 = 0 then (z.armMask m arg1 false).2
    else (z.armMask m arg1 false).2.actRefused tag (z.armMask m arg1 false).1 := by
  unfold Zone.actSwap Zone.actTick
  rw [low_setWidth, bit31_setWidth, if_neg (by simp)]

end sets

/-- A zone that executes voice operations is in RUN or HOLD (R308). -/
theorem Zone.live_notFenced {z : Zone} (h : z.live = true) : z.ctl.st ≠ .fenced := by
  intro e
  unfold Zone.live at h
  rw [e] at h
  exact absurd h (by simp)

/-- Settles O17: both ways to arm a set go through its checks, which a page that is not idle ends with its reason. -/
theorem swapSets : Obligations.SwapSets := by
  intro s i mask z hz hq h1
  have hw := Quiet.regsWf hz hq
  refine ⟨fun hi => ⟨fun next hg => ?_, fun tag arg1 hl hf => ?_⟩, fun hb => ⟨fun next hg => ?_, fun tag arg1 hl => ?_⟩⟩
  · obtain ⟨sw, e, hs⟩ := Zone.armMask_idle
      (t := if next then z.tick + 1 else z.reg Reg.SCHED_SWAPTGT) (owned := false) hg.2.1 h1 hi
    have hn := (Zone.regWrite_swapset hg s.host s.host.p0ctl _).trans (Zone.swapsetWrite_arm (m := mask) next rfl)
    rw [e] at hn
    refine (write_mute hz hq rfl (by decide) hn ⟨⟨rfl, rfl, rfl, rfl, rfl, rfl⟩, rfl, rfl⟩).imp fun t ⟨hr, ht, hl⟩ => ?_
    rw [ht]
    refine ⟨hr, hs, fun k hk => ?_, rfl, hl⟩
    exact Zone.reg_setReg_ne hw (by simpa using hk)
  · obtain ⟨sw, e, hs⟩ := Zone.armMask_idle (t := arg1) (owned := false) hf h1 hi
    have hn := Zone.actSwap_arm (z := z) (m := mask) tag arg1
    rw [e] at hn
    refine (liveDo_mute hz hq (f := fun z _ => z.actSwap tag (mask.setWidth 32) arg1) hl rfl hn
      ⟨⟨rfl, rfl, rfl, rfl, rfl, rfl⟩, rfl, rfl⟩).imp fun t ⟨ht, ho⟩ => ?_
    rw [ht]
    exact ⟨hs, rfl, ho⟩
  · have hn := (Zone.regWrite_swapset hg s.host s.host.p0ctl _).trans (Zone.swapsetWrite_arm (m := mask) next rfl)
    rw [Zone.armMask_busy hg.2.1 h1 hb] at hn
    exact write_refused hz hq rfl (by decide) hn
  · have hn := Zone.actSwap_arm (z := z) (m := mask) tag arg1
    rw [Zone.armMask_busy (Zone.live_notFenced hl) h1 hb] at hn
    obtain ⟨q, r, e, -, hr⟩ := Zone.send_full hw clsReport 0x0023 (natLe tag.toNat 2 ++ natLe 0x09 1)
    have hk := z.send_nseq clsReport 0x0023 (natLe tag.toNat 2 ++ natLe 0x09 1)
    replace hn := hn.trans (e : z.actRefused tag 0x09 = _)
    rw [e] at hk
    refine (liveDo_silent hz hq (f := fun z _ => z.actSwap tag (mask.setWidth 32) arg1) hl rfl hn
      ⟨rfl, rfl, rfl, rfl, rfl, rfl⟩).imp fun t ⟨ht, ho⟩ => ?_
    rw [ht]
    exact ⟨rfl, hk, fun k hk => hr k (by simpa using hk), rfl, ho⟩

end Sys2Proof.Machine
end

section
namespace Sys2Proof.Machine

/-! The event queue (R59, R60). -/

section queue
variable {z : Zone}

theorem Zone.staged_get (z : Zone) (k : Fin 8) : z.staged[k] = z.reg (Reg.SCHED_E0 + 4 * k.val) := by
  simp [Zone.staged]

/-- The staged entry as a POST of the present frame takes it up. -/
def Zone.stagedEntry (z : Zone) (p0 : Bool) : Entry :=
  { seq := z.sched.seq, e := z.staged, posted := z.time.frame, trig := none, before := true, past := false, tend := none, p0ctl := p0 }

/-- An entry that names a trigger, an action and a class, without EXPIRE, is accepted while the queue has room. -/
theorem Zone.postCheck_accepts (p0 : Bool) (hl : z.sched.queue.length < 256) (ht : fld (z.reg Reg.SCHED_E0) 31 28 ≤ 3)
    (ha : fld (z.reg Reg.SCHED_E0) 27 24 ≤ 7) (hc : fld (z.reg Reg.SCHED_E0) 27 24 = 0 →
      1 ≤ fld (z.reg Reg.SCHED_E0) 23 21 ∧ fld (z.reg Reg.SCHED_E0) 23 21 ≤ 5)
    (he : fld (z.reg (Reg.SCHED_E0 + 8)) 31 16 = 0) : z.postCheck (z.stagedEntry p0) false = (0, 0) := by
  have h0 : (z.stagedEntry p0).e[(0 : Fin 8)] = z.reg Reg.SCHED_E0 := z.staged_get 0
  have h2 : (z.stagedEntry p0).e[(2 : Fin 8)] = z.reg (Reg.SCHED_E0 + 8) := z.staged_get 2
  unfold Zone.postCheck Entry.trigK Entry.act Entry.cls Entry.expire
  rw [h0, h2, if_neg (by omega), if_neg (by omega), if_neg (by omega), if_neg, if_neg]
  · exact fun h => h.2.1 he
  · rintro ⟨h, hb⟩
    have := hc h
    omega

/-- The staged entry as it joins the queue: a POS entry notes where its point lies (R64). -/
def Zone.postedEntry (z : Zone) (p0 : Bool) : Entry :=
  let e := z.stagedEntry p0
  let at0 := e.trigK = 2 ∧ z.atP e
  { e with before := !at0, past := at0 ∧ e.pastok }

/-- An accepted entry joins the queue at its end. -/
theorem Zone.post_accepted {p0 : Bool} (h : z.postCheck (z.stagedEntry p0) false = (0, 0)) :
    z.post z.staged none p0 = (0, { z with sched := { z.sched with
      queue := z.sched.queue ++ [z.postedEntry p0], seq := z.sched.seq + 1
      high := max z.sched.high (z.sched.queue ++ [z.postedEntry p0]).length } }) := by
  unfold Zone.post
  dsimp only
  unfold Zone.stagedEntry at h
  rw [Option.isSome_none, h]
  rfl

/-- A full queue refuses (Table 3-7). -/
theorem Zone.post_full (h : 256 ≤ z.sched.queue.length) (w : Vector Word 8) (tend : Option (BitVec 48)) (p0 : Bool) :
    z.post w tend p0 = (0x0E, { z with sched := { z.sched with err := 1 } }) := by
  have hp (e : Entry) (auth : Bool) : z.postCheck e auth = (0x0E, 1) := if_pos h
  unfold Zone.post
  dsimp only
  rw [hp]
  rfl

theorem Zone.regWrite_schedCmd (hg : Grants z .host Reg.SCHED_CMD) (h : HostC) (p0 : Bool) (v : Word) :
    z.regWrite h .host p0 Reg.SCHED_CMD v = z.schedCmd p0 v :=
  (Zone.regWrite_granted hg (by decide) rfl).trans rfl

/-- The word of SCHED.CMD that cancels a TAG (Table 3-7). -/
theorem Zone.schedCmd_cancel (p0 : Bool) (tag : BitVec 16) :
    z.schedCmd p0 (BitVec.ofNat 32 (tag.toNat * 2 ^ 16 + 2)) = (0, z.cancel tag) := by
  have ht := tag.isLt
  have hv : (BitVec.ofNat 32 (tag.toNat * 2 ^ 16 + 2)).toNat = tag.toNat * 2 ^ 16 + 2 := by
    rw [BitVec.toNat_ofNat]
    omega
  have hop : fld (BitVec.ofNat 32 (tag.toNat * 2 ^ 16 + 2)) 3 0 = 2 := by
    rw [fld, hv]
    omega
  have htag : BitVec.extractLsb' 16 16 (BitVec.ofNat 32 (tag.toNat * 2 ^ 16 + 2)) = tag := by
    apply BitVec.eq_of_toNat_eq
    rw [BitVec.extractLsb'_toNat, hv, Nat.shiftRight_eq_div_pow]
    omega
  unfold Zone.schedCmd
  rw [hop, htag]
  rfl

end queue

/-- Settles O18: each operation of SCHED.CMD is one operation of the queue, none of which tells the host complex anything. -/
theorem eventQueue : Obligations.EventQueue := by
  intro s i z hz hq hg
  refine ⟨fun hl ht ha hc he => ?_, fun hl => ?_, fun tag => ?_, ?_⟩
  · have e := Zone.post_accepted (Zone.postCheck_accepts s.host.p0ctl hl ht ha hc he)
    have hn := (Zone.regWrite_schedCmd hg s.host s.host.p0ctl 1).trans e
    refine (write_mute hz hq rfl (by decide) hn ⟨⟨rfl, rfl, rfl, rfl, rfl, rfl⟩, rfl, rfl⟩).imp fun t ⟨hr, ht, ho⟩ => ?_
    rw [ht]
    refine ⟨by simp, by simp, fun e he => ?_, rfl, rfl, hr, ho⟩
    rw [List.getLast?_concat, Option.mem_some] at he
    subst he
    exact ⟨rfl, rfl, rfl, rfl, rfl, z.staged_get⟩
  · have hn := (Zone.regWrite_schedCmd hg s.host s.host.p0ctl 1).trans (Zone.post_full hl _ _ _)
    exact (write_mute hz hq rfl (by decide) hn ⟨⟨rfl, rfl, rfl, rfl, rfl, rfl⟩, rfl, rfl⟩).imp
      fun t ⟨hr, ht, ho⟩ => ⟨ht, hr, ho⟩
  · have hn := (Zone.regWrite_schedCmd hg s.host s.host.p0ctl _).trans (Zone.schedCmd_cancel _ tag)
    by_cases h0 : tag = 0
    · have hc : z.cancel tag = z := if_pos h0
      rw [hc] at hn
      refine (write_refused hz hq rfl (by decide) hn).imp fun t ⟨_, ht, ho⟩ => ?_
      rw [ht, if_pos h0]
      exact ⟨rfl, rfl, ho⟩
    · have hc : z.cancel tag = { z with sched := { z.sched with queue := z.sched.queue.filter (fun e => e.tag != tag) } } := if_neg h0
      rw [hc] at hn
      refine (write_mute hz hq rfl (by decide) hn ⟨⟨rfl, rfl, rfl, rfl, rfl, rfl⟩, rfl, rfl⟩).imp fun t ⟨_, ht, ho⟩ => ?_
      rw [ht, if_neg h0]
      exact ⟨rfl, rfl, ho⟩
  · have hn := Zone.regWrite_schedCmd hg s.host s.host.p0ctl 3
    exact (write_mute hz hq rfl (by decide) (hn.trans rfl) ⟨⟨rfl, rfl, rfl, rfl, rfl, rfl⟩, rfl, rfl⟩).imp
      fun t ⟨_, ht, ho⟩ => ⟨ht, ho⟩

end Sys2Proof.Machine
end

section
namespace Sys2Proof.Machine

/-! Outcomes of mode changes (R68, Table 3-6). -/

theorem fld_lt (w : Word) (hi lo : Nat) : fld w hi lo < 2 ^ (hi + 1 - lo) := Nat.mod_lt _ (by positivity)

/-- The registers that the report of a mode change writes. -/
abbrev mrepRegs : List Nat := [Reg.SCHED_MREP, Reg.SCHED_MREP_TGT, Reg.MSG_DROPPED]

/-- SCHED.MREP of an outcome that is not LATE (Table 3-6). -/
def mrepWord (outcome mode : Nat) : Word := BitVec.ofNat 32 (outcome * 2 ^ 29 + mode % 256)

theorem fld_mrepWord_outcome {outcome : Nat} (h : outcome < 8) (mode : Nat) : fld (mrepWord outcome mode) 31 29 = outcome := by
  have hm : mode % 256 < 256 := Nat.mod_lt _ (by decide)
  simp only [fld, mrepWord, BitVec.toNat_ofNat]
  omega

theorem low_ofNat (n : Nat) : fld (BitVec.ofNat 32 n) 7 0 = n % 256 := by
  rw [fld, pow_zero, Nat.div_one, BitVec.toNat_ofNat, Nat.mod_mod_of_dvd _ (pow_dvd_pow 2 (by omega))]
  rfl

theorem fld_mrepWord_mode (outcome mode : Nat) : fld (mrepWord outcome mode) 7 0 = mode % 256 := by
  rw [mrepWord, low_ofNat]
  omega

theorem mrepWord_zero (outcome mode : Nat) :
    BitVec.ofNat 32 (outcome * 2 ^ 29 + 0 * 2 ^ 16 + mode % 256) = mrepWord outcome mode := by
  rw [Nat.zero_mul, Nat.add_zero, mrepWord]

/-- The report of a mode change that was not late. -/
theorem Zone.modeReport_full {z : Zone} (h : z.regsWf = true) {outcome : Nat} (ho : outcome ≠ 1) (mode : Nat) (t a : BitVec 32)
    (dev : Bool) : ∃ q r, z.modeReport mode outcome t a dev =
      { z with sched := { z.sched with devRep := if dev then some outcome else z.sched.devRep }, msgs := q, regs := r } ∧
      RegMapBut mrepRegs z r ∧ smGet zoneRst r Reg.SCHED_MREP = mrepWord outcome mode ∧ q.nseq = z.msgs.nseq + 1 := by
  have hw : ((z.setReg Reg.SCHED_MREP (mrepWord outcome mode)).setReg Reg.SCHED_MREP_TGT t).regsWf = true :=
    Zone.setReg_regsWf (Zone.setReg_regsWf h _ _) _ _
  have hb : RegMapBut mrepRegs z ((z.setReg Reg.SCHED_MREP (mrepWord outcome mode)).setReg Reg.SCHED_MREP_TGT t).regs :=
    ((RegMapBut.refl h).set (by decide) _).set (by decide) _
  have hk : ((z.setReg Reg.SCHED_MREP (mrepWord outcome mode)).setReg Reg.SCHED_MREP_TGT t).reg Reg.SCHED_MREP =
      mrepWord outcome mode := by
    rw [Zone.reg_setReg (Zone.setReg_regsWf h _ _), if_neg (by decide), Zone.reg_setReg h, if_pos rfl]
  obtain ⟨r0, e0⟩ : ∃ r0, (z.setReg Reg.SCHED_MREP (mrepWord outcome mode)).setReg Reg.SCHED_MREP_TGT t = { z with regs := r0 } :=
    ⟨_, rfl⟩
  have e : z.modeReport mode outcome t a dev =
      ({ z with regs := r0, sched := { z.sched with devRep := if dev then some outcome else z.sched.devRep } } : Zone).send
        clsReport 0x0026 (natLe mode 1 ++ natLe outcome 1 ++ natLe t.toNat 4 ++ natLe a.toNat 4) := by
    unfold Zone.modeReport
    dsimp only
    rw [if_neg ho, mrepWord_zero, e0]
    cases dev <;> rfl
  rw [e0] at hw hb hk
  generalize natLe mode 1 ++ natLe outcome 1 ++ natLe t.toNat 4 ++ natLe a.toNat 4 = ps at e
  obtain ⟨q, r, es, hr, hg⟩ := Zone.send_full
    (z := { z with regs := r0, sched := { z.sched with devRep := if dev then some outcome else z.sched.devRep } })
    hw clsReport 0x0026 ps
  have hn := Zone.send_nseq { z with regs := r0, sched := { z.sched with devRep := if dev then some outcome else z.sched.devRep } }
    clsReport 0x0026 ps
  rw [es] at hn e
  exact ⟨q, r, e, ⟨hr, fun k hk' => (hg k fun ek => hk' (by simp [ek])).trans (hb.2 k hk')⟩, (hg _ (by decide)).trans hk, hn⟩

/-! The scheduled actions (Table 3-5). -/

section actions
variable {z : Zone}

theorem getLsbD_pages (arg0 : Word) (p : Fin 6) : (BitVec.extractLsb' 0 6 arg0).getLsbD p.val = bit arg0 p.val := by
  rw [BitVec.getLsbD_extractLsb', bit_eq_getLsbD, zero_add]
  simp

/-- A mode change that reaches an idle zone (R67). -/
theorem Zone.modeArm_idle (hf : z.ctl.st ≠ .fenced) (hm : z.sched.mode = none) {m : BitVec 6} (h1 : m.getLsbD 1 = false)
    (hi : ∀ p : Fin 6, m.getLsbD p.val = true → Idle z p) (mode : Nat) (t : BitVec 32) (dev : Bool) : ∃ sw : Vector ZSwap 6,
    z.modeArm mode m t dev = (0, { z with swaps := sw, sched := { z.sched with mode := some ⟨mode, m, t, dev⟩ } }) ∧
    ∀ q : Fin 6, sw[q] = if m.getLsbD q.val then z.swaps[q].inSet t true else z.swaps[q] := by
  obtain ⟨sw, e, hs⟩ := Zone.armMask_idle (t := t) (owned := true) hf h1 hi
  refine ⟨sw, ?_, hs⟩
  unfold Zone.modeArm
  rw [if_neg hf, hm, Option.isSome_none, if_neg (by simp), e]
  rfl

/-- One that meets another pending is refused and reported (R67, R68). -/
theorem Zone.modeArm_pending (hf : z.ctl.st ≠ .fenced) (hm : z.sched.mode ≠ none) (mode : Nat) (m : BitVec 6) (t : BitVec 32)
    (dev : Bool) : z.modeArm mode m t dev = (0x0C, z.modeReport mode 3 t 0 dev) := by
  unfold Zone.modeArm
  rw [if_neg hf, if_pos (Option.isSome_iff_ne_none.mpr hm)]

/-- A request of a gain register (R185, R186). -/
theorem GainReg.request_tgt (g : GainReg) (keyed : Bool) (t : Int) : (g.request keyed t).tgt = t := by
  unfold GainReg.request
  split_ifs <;> rfl

theorem GainReg.request_unkeyed {g : GainReg} (h : g.ramp = 0) (t : Int) : (g.request false t).cur = t := by
  unfold GainReg.request
  rw [if_neg (by omega)]
  by_cases ht : t = g.cur
  · rw [if_pos ht, ht]
  · rw [if_neg ht, if_pos (by simp)]

end actions

section completes
variable {s : State} {i : ZoneId} {z : Zone} (hz : s.zones[i] = z) (hq : Quiet s i) (hl : z.live = true)
include hz hq hl

/-- MODE in a zone without a pending mode change (R67). -/
theorem mode_completes (tag : BitVec 16) (arg0 arg1 : Word) (hm : z.sched.mode = none) (h1 : bit arg0 1 = false)
    (h31 : bit arg0 31 = false) (hi : ∀ p : Fin 6, bit arg0 p.val = true → Idle z p) :
    Completes (.mode i tag arg0 arg1) s (fun t =>
      t.zones[i].sched.mode = some ⟨fld arg0 15 8, BitVec.extractLsb' 0 6 arg0, arg1, false⟩ ∧
      (∀ p : Fin 6, t.zones[i].swaps[p] = if bit arg0 p.val then
        { z.swaps[p] with pend := true, target := arg1, copy := false, owned := true } else z.swaps[p]) ∧
      { t.zones[i] with swaps := z.swaps, sched := z.sched } = z ∧ t.zones[i].sched.queue = z.sched.queue ∧ Lone i s t) := by
  obtain ⟨sw, e, hs⟩ := Zone.modeArm_idle (Zone.live_notFenced hl) hm ((getLsbD_pages arg0 1).trans h1)
    (fun p hp => hi p ((getLsbD_pages arg0 p).symm.trans hp)) (fld arg0 15 8) arg1 false
  have hn : z.actMode tag arg0 arg1 = { z with
      swaps := sw, sched := { z.sched with mode := some ⟨fld arg0 15 8, BitVec.extractLsb' 0 6 arg0, arg1, false⟩ } } := by
    unfold Zone.actMode Zone.actTick
    rw [h31, if_neg (by simp), e]
    rfl
  refine (liveDo_mute hz hq (f := fun z _ => z.actMode tag arg0 arg1) hl rfl hn
    ⟨⟨rfl, rfl, rfl, rfl, rfl, rfl⟩, rfl, rfl⟩).imp fun t ⟨ht, ho⟩ => ?_
  rw [ht]
  refine ⟨rfl, fun p => (hs p).trans ?_, rfl, rfl, ho⟩
  rw [getLsbD_pages]
  rfl

/-- MODE in a zone with one: it is refused, with both its records (R60, R68). -/
theorem mode_refuses (tag : BitVec 16) (arg0 arg1 : Word) (hm : z.sched.mode ≠ none) :
    Completes (.mode i tag arg0 arg1) s (fun t =>
      t.zones[i].sched.mode = z.sched.mode ∧ t.zones[i].swaps = z.swaps ∧ t.zones[i].msgs.nseq = z.msgs.nseq + 2 ∧
      fld (t.zones[i].reg Reg.SCHED_MREP) 31 29 = 3 ∧ fld (t.zones[i].reg Reg.SCHED_MREP) 7 0 = fld arg0 15 8 ∧
      RegsBut mrepRegs z t.zones[i] ∧ OnlyZone i s t) := by
  obtain ⟨q, r, e, hb, hk, hs⟩ := Zone.modeReport_full (Quiet.regsWf hz hq) (outcome := 3) (by decide) (fld arg0 15 8)
    (z.actTick (bit arg0 31) arg1) 0 false
  let y : Zone := { z with msgs := q, regs := r }
  obtain ⟨q', r', e', hw, hg⟩ := Zone.send_full (z := y) hb.1 clsReport 0x0023 (natLe tag.toNat 2 ++ natLe 0x0C 1)
  have hs' := y.send_nseq clsReport 0x0023 (natLe tag.toNat 2 ++ natLe 0x0C 1)
  rw [e'] at hs'
  have hn : z.actMode tag arg0 arg1 = { z with msgs := q', regs := r' } := by
    unfold Zone.actMode
    rw [Zone.modeArm_pending (Zone.live_notFenced hl) hm, e]
    exact e'
  refine (liveDo_silent hz hq (f := fun z _ => z.actMode tag arg0 arg1) hl rfl hn
    ⟨rfl, rfl, rfl, rfl, rfl, rfl⟩).imp fun t ⟨ht, ho⟩ => ?_
  have hrep : smGet zoneRst r' Reg.SCHED_MREP = mrepWord 3 (fld arg0 15 8) := (hg _ (by decide)).trans hk
  rw [ht]
  refine ⟨rfl, rfl, ?_, ?_, ?_, fun k hk' => ?_, ho⟩
  · exact hs'.trans (by rw [show y.msgs.nseq = _ from hs, BitVec.add_assoc]; rfl)
  · exact (congrArg (fun w => fld w 31 29) hrep).trans (fld_mrepWord_outcome (by decide) _)
  · exact (congrArg (fun w => fld w 7 0) hrep).trans ((fld_mrepWord_mode 3 _).trans (Nat.mod_eq_of_lt (fld_lt arg0 15 8)))
  · exact (hg k fun ek => hk' (by simp [ek])).trans (hb.2 k hk')

/-- MSG sends its record (Table 3-5). -/
theorem msg_completes (tag : BitVec 16) (arg0 : Word) : Completes (.msg i tag arg0) s (fun t =>
    t.zones[i].msgs.nseq = z.msgs.nseq + 1 ∧ RegsBut [Reg.MSG_DROPPED] z t.zones[i] ∧
    { t.zones[i] with msgs := z.msgs, regs := z.regs } = z ∧ OnlyZone i s t) := by
  let ps := natLe tag.toNat 2 ++ natLe (b2n false * 2 ^ 31 + min 0 (2 ^ 31 - 1)) 4 ++ natLe 5 1 ++ natLe arg0.toNat 4
  obtain ⟨q, r, e, -, hg⟩ := Zone.send_full (Quiet.regsWf hz hq) clsEvent 0x0030 ps
  have hs := z.send_nseq clsEvent 0x0030 ps
  rw [e] at hs
  refine (liveDo_silent hz hq (f := fun z _ => z.schedEvent tag false 0 5 arg0) hl rfl e
    ⟨rfl, rfl, rfl, rfl, rfl, rfl⟩).imp fun t ⟨ht, ho⟩ => ?_
  rw [ht]
  exact ⟨hs, fun k hk => hg k (by simpa using hk), rfl, ho⟩

/-- GAIN of one of the 64 registers (R185). -/
theorem gain_completes (arg0 arg1 : Word) (k : Fin 64) (hk : fld arg0 11 0 = k.val) : Completes (.gain i arg0 arg1) s (fun t =>
    t.zones[i].route.g[k].tgt = wrapS 36 (fld arg0 19 16 * 2 ^ 32 + arg1.toNat) ∧
    ((keySlot z.routeAct k.val) = none → z.route.g[k].ramp = 0 → t.zones[i].route.g[k].cur = t.zones[i].route.g[k].tgt) ∧
    (∀ j : Fin 64, j ≠ k → t.zones[i].route.g[j] = z.route.g[j]) ∧
    { t.zones[i] with route := { t.zones[i].route with g := z.route.g } } = z ∧ Lone i s t) := by
  let tgt := wrapS 36 (fld arg0 19 16 * 2 ^ 32 + arg1.toNat)
  let f : GainReg → GainReg := fun g => g.request (keySlot z.routeAct k.val).isSome tgt
  have hn : z.actGain arg0 arg1 = { z with route := { z.route with g := vmod z.route.g k f } } := by
    unfold Zone.actGain
    rw [hk]
    exact dif_pos k.isLt
  refine (liveDo_mute hz hq (f := fun z _ => z.actGain arg0 arg1) hl rfl hn
    ⟨⟨rfl, rfl, rfl, rfl, rfl, rfl⟩, rfl, rfl⟩).imp fun t ⟨ht, ho⟩ => ?_
  have hself : (vmod z.route.g k f)[k] = z.route.g[k].request (keySlot z.routeAct k.val).isSome tgt := vmod_self ..
  have htgt : (vmod z.route.g k f)[k].tgt = tgt := by rw [hself, GainReg.request_tgt]
  rw [ht]
  refine ⟨htgt, fun hs hr => ?_, fun j hj => vmod_ne _ hj _, rfl, ho⟩
  change (vmod z.route.g k f)[k].cur = (vmod z.route.g k f)[k].tgt
  rw [htgt, hself, hs]
  exact GainReg.request_unkeyed hr tgt

/-- GAIN of a register that does not exist is counted (R185). -/
theorem gain_rejects (arg0 arg1 : Word) (hk : 64 ≤ fld arg0 11 0) : Completes (.gain i arg0 arg1) s (fun t =>
    Counted Reg.VCTL_COUNT 7 0 1 z t.zones[i] ∧ RegsBut [Reg.VCTL_COUNT] z t.zones[i] ∧ t.zones[i].route = z.route ∧
    Lone i s t) := by
  have hw : z.regsWf = true := Quiet.regsWf hz hq
  have hn : z.actGain arg0 arg1 = z.count Reg.VCTL_COUNT 7 0 1 := dif_neg (by omega)
  refine (liveDo_mute hz hq (f := fun z _ => z.actGain arg0 arg1) hl rfl hn
    ⟨⟨rfl, rfl, rfl, rfl, rfl, rfl⟩, rfl, rfl⟩).imp fun t ⟨ht, ho⟩ => ?_
  rw [ht]
  refine ⟨Zone.count_counted hw _ (by decide) (by decide) 1, fun k hk => ?_, rfl, ho⟩
  exact Zone.reg_setReg_ne hw (by simpa using hk)

/-- HANDLER with room in the queue of a running DSP (R206). -/
theorem handler_completes (arg0 arg1 : Word) (hr : z.dsp.running = true) (hh : z.dsp.handlers.length < 16) :
    Completes (.handler i arg0 arg1) s (fun t => t.zones[i] = { z with dsp := { z.dsp with
      handlers := z.dsp.handlers ++ [(fld arg0 3 0, arg1, z.time.frame, 768 - z.vox.winLeft)] } } ∧ Lone i s t) := by
  have hn : z.dspHandler (fld arg0 3 0) arg1 = { z with dsp := { z.dsp with
      handlers := z.dsp.handlers ++ [(fld arg0 3 0, arg1, z.time.frame, 768 - z.vox.winLeft)] } } := by
    have hf : fld arg0 3 0 % 16 = fld arg0 3 0 := Nat.mod_eq_of_lt (fld_lt arg0 3 0)
    unfold Zone.dspHandler
    rw [if_pos (by simp [hr, hh]), hf]
  exact liveDo_mute hz hq (f := fun z _ => z.dspHandler (fld arg0 3 0) arg1) hl rfl hn
    ⟨⟨rfl, rfl, rfl, rfl, rfl, rfl⟩, rfl, rfl⟩

/-- HANDLER without: discarded, counted and flagged (R206). -/
theorem handler_discards (arg0 arg1 : Word) (h : z.dsp.running = false ∨ 16 ≤ z.dsp.handlers.length) :
    Completes (.handler i arg0 arg1) s (fun t => t.zones[i].dsp = z.dsp ∧ Counted Reg.DSP_COUNT 7 0 1 z t.zones[i] ∧
      bit (t.zones[i].reg 0x300C) 6 = true ∧ RegsBut [Reg.DSP_COUNT, 0x300C] z t.zones[i] ∧ Lone i s t) := by
  have hw : z.regsWf = true := Quiet.regsWf hz hq
  have hw' := Zone.count_regsWf hw Reg.DSP_COUNT 7 0 1
  have hn : z.dspHandler (fld arg0 3 0) arg1 = (z.count Reg.DSP_COUNT 7 0 1).setFlt 0x3000 6 := by
    unfold Zone.dspHandler
    rw [if_neg]
    rcases h with h | h
    · simp [h]
    · simp [h]
  refine (liveDo_mute hz hq (f := fun z _ => z.dspHandler (fld arg0 3 0) arg1) hl rfl hn
    ⟨⟨rfl, rfl, rfl, rfl, rfl, rfl⟩, rfl, rfl⟩).imp fun t ⟨ht, ho⟩ => ?_
  rw [ht]
  refine ⟨rfl, ?_, ?_, fun k hk => ?_, ho⟩
  · exact (Zone.count_counted hw _ (by decide) (by decide) 1).congr (by rw [Zone.reg_setFlt hw', if_neg (by decide)])
  · exact Zone.bit_putBit_same hw' 0x300C (by decide) true
  · simp only [List.mem_cons, List.not_mem_nil, or_false, not_or] at hk
    exact (Zone.reg_setReg_ne hw' hk.2).trans (Zone.reg_setReg_ne hw hk.1)

end completes

/-- Settles O20: one effect per action, and one refusal for each that can be refused. -/
theorem scheduledActions : Obligations.ScheduledActions := by
  intro s i z hz hq hl
  exact ⟨mode_completes hz hq hl, mode_refuses hz hq hl, msg_completes hz hq hl, gain_completes hz hq hl, gain_rejects hz hq hl,
    handler_completes hz hq hl, handler_discards hz hq hl⟩

end Sys2Proof.Machine
end

section
namespace Sys2Proof.Machine

/-! DEV.MODE_CMD (R68, R69, Table 3-10). -/

/-- The word of DEV.MODE_CMD. -/
def modeWord (op : Nat) (pmask : BitVec 6) (m zmask : Byte) : Word :=
  BitVec.ofNat 32 (op * 2 ^ 30 + pmask.toNat * 2 ^ 16 + m.toNat * 2 ^ 8 + zmask.toNat)

section word
variable {op : Nat} (ho : op < 4) (pmask : BitVec 6) (m zmask : Byte)
include ho

theorem toNat_modeWord : (modeWord op pmask m zmask).toNat =
    op * 2 ^ 30 + pmask.toNat * 2 ^ 16 + m.toNat * 2 ^ 8 + zmask.toNat := by
  have hp := pmask.isLt
  have hm := m.isLt
  have hz := zmask.isLt
  rw [modeWord, BitVec.toNat_ofNat]
  omega

theorem fld_modeWord_op : fld (modeWord op pmask m zmask) 31 30 = op := by
  have hp := pmask.isLt
  have hm := m.isLt
  have hz := zmask.isLt
  rw [fld, toNat_modeWord ho]
  omega

theorem fld_modeWord_mode : fld (modeWord op pmask m zmask) 15 8 = m.toNat := by
  have hm := m.isLt
  have hz := zmask.isLt
  rw [fld, toNat_modeWord ho]
  omega

theorem fld_modeWord_zmask : fld (modeWord op pmask m zmask) 7 0 = zmask.toNat := by
  have hz := zmask.isLt
  rw [fld, toNat_modeWord ho]
  omega

theorem pages_modeWord : BitVec.extractLsb' 16 6 (modeWord op pmask m zmask) = pmask := by
  have hp := pmask.isLt
  have hm := m.isLt
  have hz := zmask.isLt
  apply BitVec.eq_of_toNat_eq
  rw [BitVec.extractLsb'_toNat, toNat_modeWord ho, Nat.shiftRight_eq_div_pow]
  omega

end word

section device
variable {s : State}

theorem State.modeCmd_arm (pmask : BitVec 6) (m zmask : Byte) :
    s.modeCmd (modeWord 1 pmask m zmask) = s.modeArmDev false pmask m.toNat zmask.toNat := by
  unfold State.modeCmd
  rw [fld_modeWord_op (by decide), fld_modeWord_mode (by decide), fld_modeWord_zmask (by decide), pages_modeWord (by decide)]
  rfl

theorem State.modeCmd_armNext (pmask : BitVec 6) (m zmask : Byte) :
    s.modeCmd (modeWord 3 pmask m zmask) = s.modeArmDev true pmask m.toNat zmask.toNat := by
  unfold State.modeCmd
  rw [fld_modeWord_op (by decide), fld_modeWord_mode (by decide), fld_modeWord_zmask (by decide), pages_modeWord (by decide)]
  rfl

theorem State.modeCmd_abort (zmask : Byte) : s.modeCmd (modeWord 2 0 0 zmask) = (0, s.modeAbort zmask.toNat) := by
  unfold State.modeCmd
  rw [fld_modeWord_op (by decide), fld_modeWord_zmask (by decide)]
  rfl

/-- A write of DEV.MODE_CMD that the page takes. -/
theorem busWrite_modeCmd (ho : HostOpen s 0) (v : Word) : ∃ b : BusRes, b.reason = (s.modeCmd v).1 ∧
    s.busWrite Reg.DEV_MODE_CMD v = (s.modeCmd v).2.modHost (fun h => { h with bus := b }) := by
  have hl : pageOf Reg.DEV_MODE_CMD = 0 ∧ Reg.DEV_MODE_CMD % 0x400 = 0x100 ∧ hostLockable 0 = true := by decide
  obtain ⟨r, hr, ha, hb⟩ : ∃ r, hostSpec Reg.DEV_MODE_CMD = some r ∧ r.acc ≠ .ro ∧ r.acc ≠ .rc :=
    ⟨_, rfl, by decide, by decide⟩
  have hx : s.hostSpecial Reg.DEV_MODE_CMD v = some (s.modeCmd v) := rfl
  have hw : s.hostWrite Reg.DEV_MODE_CMD v = s.modeCmd v := by
    have hlock : bit (s.host.reg 0x18) 0 = false := ho
    unfold State.hostWrite
    dsimp only
    simp [hl, hr, ha, hb, hx, hlock]
  unfold State.busWrite State.regWrite
  rw [show placeOf Reg.DEV_MODE_CMD = .host by decide]
  dsimp only
  rw [hw]
  exact ⟨_, rfl, rfl⟩

theorem bit_two_pow : ∀ j i : ZoneId, (2 ^ j.val / 2 ^ i.val % 2 == 1) = decide (i = j) := by decide

theorem filter_finRange : ∀ j : ZoneId, (List.finRange 8).filter (fun i => decide (i = j)) = [j] := by decide

/-- The zones that a mask of one zone names. -/
theorem zones_of_mask (j : ZoneId) : (List.finRange 8).filter (fun i : ZoneId => 2 ^ j.val / 2 ^ i.val % 2 == 1) = [j] := by
  simp only [bit_two_pow]
  exact filter_finRange j

theorem zones_of_mask_and {j : ZoneId} {f : ZoneId → Bool} (hf : f j = true) :
    (List.finRange 8).filter (fun i : ZoneId => 2 ^ j.val / 2 ^ i.val % 2 == 1 && f i) = [j] := by
  have h : (fun i : ZoneId => decide (i = j) && f i) = fun i => decide (i = j) := by
    funext i
    by_cases e : i = j
    · rw [e, hf, Bool.and_true]
    · simp [e]
  simp only [bit_two_pow]
  rw [h, filter_finRange]

/-- The host complex once a device-wide mode change has been forwarded to a set of zones (Table 3-10). -/
def HostC.modeSent (h : HostC) (mode adr : Nat) : HostC :=
  (h.setReg Reg.DEV_MODE_STATE (BitVec.ofNat 32 (adr * 256 + (if adr = 0 then 2 else 1)))).setReg Reg.DEV_MODE_OK
    (BitVec.ofNat 32 (mode % 256 * 2 ^ 16))

/-- ARM of one zone that is not off. -/
theorem State.modeArmDev_one {j : ZoneId} (h1 : fld (s.host.reg Reg.DEV_MODE_STATE) 1 0 ≠ 1) (hst : s.zones[j].ctl.st ≠ .off)
    (next : Bool) (pmask : BitVec 6) (mode : Nat) : s.modeArmDev next pmask mode (2 ^ j.val) =
      (0, State.onZone { s with host := s.host.modeSent mode (2 ^ j.val) } j (fun z _ => (z.modeArm mode pmask
        (if next then z.tick + 1 else (s.host.modeSent mode (2 ^ j.val)).reg Reg.DEV_MODE_TGT) true).2)) := by
  have hz := zones_of_mask_and (j := j) (f := fun i => s.zones[i].ctl.st != .off) (by simpa using hst)
  unfold State.modeArmDev
  rw [if_neg h1, hz]
  simp only [List.foldl_cons, List.foldl_nil, Nat.zero_add]
  rfl

theorem State.modeArmDev_busy (h1 : fld (s.host.reg Reg.DEV_MODE_STATE) 1 0 = 1) (next : Bool) (pmask : BitVec 6)
    (mode zmask : Nat) : s.modeArmDev next pmask mode zmask = (0x0C, s) := if_pos h1

/-- What ABORT makes of a zone: a change that is pending before its target is cancelled (R68). -/
def Zone.modeAborted (z : Zone) : Zone :=
  match z.sched.mode with
  | some m => if z.reached m.target then z else z.modeCancel 4
  | none => z

theorem Zone.modeAborted_pending {z : Zone} {x : ModePend} (hm : z.sched.mode = some x) (hx : tickDist z.tick x.target < 0) :
    z.modeAborted = Zone.modeReport { z.dropOwned with sched := { z.sched with mode := none } } x.mode 4 x.target 0 x.dev := by
  have hx' : ¬ z.reached x.target = true := by simpa [Zone.reached] using hx
  unfold Zone.modeAborted Zone.modeCancel
  rw [hm]
  exact if_neg hx'

/-- ABORT for one zone. -/
theorem State.modeAbort_one (j : ZoneId) : s.modeAbort (2 ^ j.val) = s.onZone j (fun z _ => z.modeAborted) := by
  unfold State.modeAbort
  rw [zones_of_mask]
  rfl

end device

theorem HostC.modeSent_wf {h : HostC} (hw : h.regsWf = true) (mode adr : Nat) : (h.modeSent mode adr).regsWf = true :=
  HostC.setReg_wf (HostC.setReg_wf hw)

theorem HostC.modeSent_target {h : HostC} (hw : h.regsWf = true) (mode adr : Nat) :
    (h.modeSent mode adr).reg Reg.DEV_MODE_TGT = h.reg Reg.DEV_MODE_TGT :=
  (HostC.reg_setReg_ne (HostC.setReg_wf hw) (by decide)).trans (HostC.reg_setReg_ne hw (by decide))

theorem HostC.modeSent_state {h : HostC} (hw : h.regsWf = true) (mode : Nat) {adr : Nat} (ha : adr ≠ 0) :
    (h.modeSent mode adr).reg Reg.DEV_MODE_STATE = BitVec.ofNat 32 (adr * 256 + 1) := by
  refine (HostC.reg_setReg_ne (HostC.setReg_wf hw) (by decide)).trans ((HostC.reg_setReg_same hw).trans ?_)
  rw [if_neg ha]

theorem fld_modeState_op (adr : Nat) : fld (BitVec.ofNat 32 (adr * 256 + 1)) 1 0 = 1 := by
  rw [fld, BitVec.toNat_ofNat]
  omega

theorem fld_modeState_zones {adr : Nat} (h : adr < 256) : fld (BitVec.ofNat 32 (adr * 256 + 1)) 15 8 = adr := by
  rw [fld, BitVec.toNat_ofNat]
  omega

/-- A zone is quiet whatever the host complex's registers hold. -/
theorem Quiet.modeSent {s : State} {j : ZoneId} (hq : Quiet s j) (mode adr : Nat) :
    Quiet { s with host := s.host.modeSent mode adr } j := by
  obtain ⟨ha, hp, ht, hw, hv⟩ := hq
  refine ⟨ha, hp, ht, ?_, hv⟩
  have hr := HostC.modeSent_wf (State.wf_host hw).1 mode adr
  simp only [State.wf, Bool.and_eq_true] at hw ⊢
  exact ⟨⟨hw.1.1, hr⟩, hw.2⟩

/-- A write of DEV.MODE_CMD answers, and beyond its answer does what the order does. -/
theorem modeCmd_completes {s u : State} {c : Instr} {v : Word} {r : Nat} (ho : HostOpen s 0)
    (hc : exec c s = .next (s.busWrite Reg.DEV_MODE_CMD v)) (hu : s.modeCmd v = (r, u)) : Completes c s (fun t =>
      t.host.bus.reason = r ∧ t.zones = u.zones ∧ t.pending = u.pending ∧ ∀ k, t.host.reg k = u.host.reg k) := by
  obtain ⟨b, hb, e⟩ := busWrite_modeCmd ho v
  rw [hu] at hb e
  exact ⟨_, hc, by rw [e]; exact ⟨hb, rfl, rfl, fun _ => rfl⟩⟩

section commands
variable {s : State} {j : ZoneId} {z : Zone} (hz : s.zones[j] = z) (hq : Quiet s j)
include hz hq

omit hz hq in
theorem SameHost.reg {s t : State} (h : SameHost s t) (k : Nat) : t.host.reg k = s.host.reg k := by
  change HostC.reg { t.host with bus := s.host.bus } k = s.host.reg k
  rw [h]

/-- What a device-wide change does to one idle zone, and to the host complex. -/
theorem modeArmDev_idle (ho : z.ctl.st ≠ .off) (hf : z.ctl.st ≠ .fenced) (hm : z.sched.mode = none) {pmask : BitVec 6}
    (h1 : pmask.getLsbD 1 = false) (hi : ∀ p : Fin 6, pmask.getLsbD p.val = true → Idle z p)
    (hs : fld (s.host.reg Reg.DEV_MODE_STATE) 1 0 ≠ 1) (next : Bool) (mode : Nat) : ∃ (sw : Vector ZSwap 6) (t : State),
      s.modeArmDev next pmask mode (2 ^ j.val) = (0, t) ∧
      t.zones[j] = { z with
        swaps := sw
        sched := { z.sched with mode := some ⟨mode, pmask, if next then z.tick + 1 else s.host.reg Reg.DEV_MODE_TGT, true⟩ } } ∧
      (∀ p : Fin 6, pmask.getLsbD p.val = true → sw[p].pend = true ∧ sw[p].owned = true) ∧ OnlyZone j s t ∧
      fld (t.host.reg Reg.DEV_MODE_STATE) 1 0 = 1 ∧ fld (t.host.reg Reg.DEV_MODE_STATE) 15 8 = 2 ^ j.val := by
  have hw := (State.wf_host hq.2.2.2.1).1
  have hadr : 2 ^ j.val < 256 := Nat.pow_lt_pow_right (by decide) j.isLt
  have hstate := HostC.modeSent_state hw mode (adr := 2 ^ j.val) (by positivity)
  have htgt := HostC.modeSent_target hw mode (2 ^ j.val)
  obtain ⟨sw, e, hsw⟩ := Zone.modeArm_idle hf hm h1 hi mode (if next then z.tick + 1 else s.host.reg Reg.DEV_MODE_TGT) true
  let n : Zone := { z with
    swaps := sw
    sched := { z.sched with mode := some ⟨mode, pmask, if next then z.tick + 1 else s.host.reg Reg.DEV_MODE_TGT, true⟩ } }
  let s' : State := { s with host := s.host.modeSent mode (2 ^ j.val) }
  let f : Zone → HostC → Zone := fun z _ =>
    (z.modeArm mode pmask (if next then z.tick + 1 else (s.host.modeSent mode (2 ^ j.val)).reg Reg.DEV_MODE_TGT) true).2
  have hone : s.modeArmDev next pmask mode (2 ^ j.val) = (0, s'.onZone j f) :=
    State.modeArmDev_one hs (by rw [hz]; exact ho) next pmask mode
  obtain ⟨ht, ho', hh⟩ := onZone_mute (s := s') (f := f) (i := j) hz (hq.modeSent mode (2 ^ j.val)) (n := n)
    (by simp only [f]; rw [htgt, e]) ⟨⟨rfl, rfl, rfl, rfl, rfl, rfl⟩, rfl, rfl⟩
  have hreg : (s'.onZone j f).host.reg Reg.DEV_MODE_STATE = BitVec.ofNat 32 (2 ^ j.val * 256 + 1) :=
    (SameHost.reg hh _).trans hstate
  generalize s'.onZone j f = t at hone ht ho' hreg
  refine ⟨sw, t, hone, ht, fun p hp => ?_, ho', ?_, ?_⟩
  · rw [hsw, if_pos hp]
    exact ⟨rfl, rfl⟩
  · rw [hreg, fld_modeState_op]
  · rw [hreg, fld_modeState_zones hadr]

theorem modeArm_completes (ho : HostOpen s 0) (hoff : z.ctl.st ≠ .off) (hf : z.ctl.st ≠ .fenced) (hm : z.sched.mode = none)
    {pmask : BitVec 6} (h1 : pmask.getLsbD 1 = false) (hi : ∀ p : Fin 6, pmask.getLsbD p.val = true → Idle z p)
    (hs : fld (s.host.reg Reg.DEV_MODE_STATE) 1 0 ≠ 1) (m zmask : Byte) (hzm : zmask.toNat = 2 ^ j.val) :
    Completes (.modeArm pmask m zmask) s (fun t =>
      t.zones[j].sched.mode = some ⟨m.toNat, pmask, s.host.reg Reg.DEV_MODE_TGT, true⟩ ∧
      (∀ p : Fin 6, pmask.getLsbD p.val = true → t.zones[j].swaps[p].pend = true ∧ t.zones[j].swaps[p].owned = true) ∧
      { t.zones[j] with swaps := z.swaps, sched := z.sched } = z ∧ fld (t.host.reg Reg.DEV_MODE_STATE) 1 0 = 1 ∧
      fld (t.host.reg Reg.DEV_MODE_STATE) 15 8 = zmask.toNat ∧ OnlyZone j s t) := by
  obtain ⟨sw, t, e, ht, hsw, hoz, hop, hzs⟩ := modeArmDev_idle hz hq hoff hf hm h1 hi hs false m.toNat
  have hu : s.modeCmd (modeWord 1 pmask m zmask) = (0, t) := by rw [State.modeCmd_arm, hzm, e]
  refine (modeCmd_completes ho rfl hu).imp fun t' ⟨_, hzs', hpn, hrg⟩ => ?_
  rw [OnlyZone, hzs', hpn, hrg, ht, hzm]
  exact ⟨rfl, hsw, rfl, hop, hzs, hoz⟩

theorem modeArmNext_completes (ho : HostOpen s 0) (hoff : z.ctl.st ≠ .off) (hf : z.ctl.st ≠ .fenced) (hm : z.sched.mode = none)
    {pmask : BitVec 6} (h1 : pmask.getLsbD 1 = false) (hi : ∀ p : Fin 6, pmask.getLsbD p.val = true → Idle z p)
    (hs : fld (s.host.reg Reg.DEV_MODE_STATE) 1 0 ≠ 1) (m zmask : Byte) (hzm : zmask.toNat = 2 ^ j.val) :
    Completes (.modeArmNext pmask m zmask) s (fun t => t.zones[j].sched.mode = some ⟨m.toNat, pmask, z.tick + 1, true⟩ ∧
      { t.zones[j] with swaps := z.swaps, sched := z.sched } = z ∧ fld (t.host.reg Reg.DEV_MODE_STATE) 1 0 = 1 ∧
      OnlyZone j s t) := by
  obtain ⟨sw, t, e, ht, -, hoz, hop, -⟩ := modeArmDev_idle hz hq hoff hf hm h1 hi hs true m.toNat
  have hu : s.modeCmd (modeWord 3 pmask m zmask) = (0, t) := by rw [State.modeCmd_armNext, hzm, e]
  refine (modeCmd_completes ho rfl hu).imp fun t' ⟨_, hzs', hpn, hrg⟩ => ?_
  rw [OnlyZone, hzs', hpn, hrg, ht]
  exact ⟨rfl, rfl, hop, hoz⟩

/-- ABORT of a change that is pending before its target. -/
theorem abort_completes (ho : HostOpen s 0) (zmask : Byte) (hzm : zmask.toNat = 2 ^ j.val) {x : ModePend}
    (hm : z.sched.mode = some x) (hx : tickDist z.tick x.target < 0) : Completes (.abort zmask) s (fun t =>
      t.zones[j].sched.mode = none ∧ t.zones[j].sched.queue = z.sched.queue ∧
      (∀ p : Fin 6, t.zones[j].swaps[p] = if z.swaps[p].owned then { z.swaps[p] with pend := false, owned := false, result := 3 }
        else z.swaps[p]) ∧ fld (t.zones[j].reg Reg.SCHED_MREP) 31 29 = 4 ∧ RegsBut mrepRegs z t.zones[j] ∧ OnlyZone j s t) := by
  have hw : z.regsWf = true := Quiet.regsWf hz hq
  let y : Zone := { z.dropOwned with sched := { z.sched with mode := none } }
  obtain ⟨q, r, e, hb, hk, -⟩ := Zone.modeReport_full (z := y) hw (outcome := 4) (by decide) x.mode x.target 0 x.dev
  have hf : z.modeAborted = { y with
      sched := { y.sched with devRep := if x.dev then some 4 else y.sched.devRep }, msgs := q, regs := r } :=
    (Zone.modeAborted_pending hm hx).trans e
  have hg : z.gov.ampFlt = false ∧ z.vox.hostq = [] := by
    rw [← hz]
    exact ⟨hq.1, hq.2.2.2.2⟩
  have hset : Settled s.zones[j] s.zones[j].modeAborted := by
    rw [hz, hf]
    exact .of_st hg.1 hg.2 rfl
  obtain ⟨ht, hoz⟩ := onZone_only (f := fun z _ => z.modeAborted) hq.2.1 hset
  rw [hz, hf] at ht
  have hu : s.modeCmd (modeWord 2 0 0 zmask) = (0, s.onZone j (fun z _ => z.modeAborted)) := by
    rw [State.modeCmd_abort, hzm, State.modeAbort_one]
  refine (modeCmd_completes ho rfl hu).imp fun t ⟨_, hzs, hpn, _⟩ => ?_
  rw [OnlyZone, hzs, hpn, ht]
  refine ⟨rfl, rfl, fun p => Vector.getElem_map .., ?_, hb.2, hoz⟩
  exact (congrArg (fun w => fld w 31 29) hk).trans (fld_mrepWord_outcome (by decide) _)

end commands

section busy
variable {s : State} (ho : HostOpen s 0) (hs : fld (s.host.reg Reg.DEV_MODE_STATE) 1 0 = 1) (pmask : BitVec 6) (m zmask : Byte)
include ho hs

/-- ARM while a change is collected (R69). -/
theorem modeArm_refused : Completes (.modeArm pmask m zmask) s (fun t => t.host.bus.reason = 0x0C ∧ NoZone s t) := by
  have hu : s.modeCmd (modeWord 1 pmask m zmask) = (0x0C, s) := by rw [State.modeCmd_arm, State.modeArmDev_busy hs]
  exact (modeCmd_completes ho rfl hu).imp fun t ⟨hr, hzs, hpn, _⟩ => ⟨hr, hzs, hpn⟩

theorem modeArmNext_refused : Completes (.modeArmNext pmask m zmask) s (fun t => t.host.bus.reason = 0x0C ∧ NoZone s t) := by
  have hu : s.modeCmd (modeWord 3 pmask m zmask) = (0x0C, s) := by rw [State.modeCmd_armNext, State.modeArmDev_busy hs]
  exact (modeCmd_completes ho rfl hu).imp fun t ⟨hr, hzs, hpn, _⟩ => ⟨hr, hzs, hpn⟩

end busy

/-- Settles O21: ARM reaches one zone at its target, a further ARM is refused, ABORT drops what is pending. -/
theorem deviceModes : Obligations.DeviceModes := by
  intro s j pmask m zmask z hz hq ho hzm
  exact ⟨fun hs hoff hf hm h1 hi => ⟨modeArm_completes hz hq ho hoff hf hm h1 hi hs m zmask hzm,
      modeArmNext_completes hz hq ho hoff hf hm h1 hi hs m zmask hzm⟩,
    fun hs => ⟨modeArm_refused ho hs pmask m zmask, modeArmNext_refused ho hs pmask m zmask⟩,
    fun x hm hx => abort_completes hz hq ho zmask hzm hm hx⟩

end Sys2Proof.Machine
end

section
namespace Sys2Proof.Machine

/-! Window writes (R82, R137, R175, R219): a party's window registers, what an access costs it, the word that part 2 commits. -/

section parties
variable {z : Zone}

theorem Zone.modWin_congr {p : Party} {f g : WinSet → WinSet} (h : f (z.win p) = g (z.win p)) : z.modWin p f = z.modWin p g := by
  cases p with
  | host => exact congrArg (fun w => { z with winH := w }) h
  | prog => exact congrArg (fun w => { z with winP := w }) h

theorem Zone.count_regs_congr {y : Zone} (h : y.regs = z.regs) (k hi lo n : Nat) :
    (y.count k hi lo n).regs = (z.count k hi lo n).regs := by
  unfold Zone.count Zone.putFld Zone.setReg Zone.reg
  dsimp only
  rw [h]

/-- The bridge's cycles go to the zone program's own counters (R201). -/
theorem Zone.dspHold_full (z : Zone) (n : Nat) : ∃ cy dl,
    z.dspHold n = { z with dsp := { z.dsp with cycle := cy, delay := dl }, regs := (z.count Reg.DSP_RCOUNT 31 16 n).regs } := by
  unfold Zone.dspHold
  split
  · exact ⟨_, _, rfl⟩
  · exact ⟨_, _, rfl⟩

/-- A party's window registers after its access, and what that has cost. -/
theorem Zone.cost_modWin (z : Zone) (p : Party) (f : WinSet → WinSet) : ∃ wh wp cy dl,
    (z.modWin p f).cost p =
      { z with winH := wh, winP := wp, dsp := { z.dsp with cycle := cy, delay := dl }, regs := (z.cost p).regs } ∧
    ((z.modWin p f).cost p).win p = f (z.win p) := by
  cases p with
  | host => exact ⟨_, _, _, _, rfl, rfl⟩
  | prog =>
    obtain ⟨cy, dl, e⟩ := Zone.dspHold_full (z.modWin .prog f) 6
    obtain ⟨_, _, e'⟩ := Zone.dspHold_full z 6
    refine ⟨z.winH, f z.winP, cy, dl, ?_, ?_⟩
    · change (z.modWin .prog f).dspHold 6 = { z with
        winH := z.winH, winP := f z.winP, dsp := { z.dsp with cycle := cy, delay := dl }, regs := (z.dspHold 6).regs }
      rw [e, e']
      rfl
    · change ((z.modWin .prog f).dspHold 6).win .prog = f z.winP
      rw [e]
      rfl

theorem Zone.cost_regs {y : Zone} (h : y.regs = z.regs) (p : Party) : (y.cost p).regs = (z.cost p).regs := by
  cases p with
  | host => exact h
  | prog =>
    obtain ⟨_, _, e⟩ := Zone.dspHold_full y 6
    obtain ⟨_, _, e'⟩ := Zone.dspHold_full z 6
    change (y.dspHold 6).regs = (z.dspHold 6).regs
    rw [e, e']
    exact Zone.count_regs_congr h _ _ _ _

theorem Mute.cost_modWin {y : Zone} (h : Mute z y) (p : Party) (f : WinSet → WinSet) : Mute z ((y.modWin p f).cost p) := by
  obtain ⟨wh, wp, cy, dl, e, -⟩ := y.cost_modWin p f
  rw [e]
  exact ⟨⟨h.ctl, h.gov, h.hostq, h.ans, h.devRep, h.p0prot⟩, h.nseq, h.lock⟩

end parties

/-- A write of either party that the zone takes. -/
theorem party_completes {s : State} {i : ZoneId} {p : Party} {c : Instr} {off r : Nat} {v : Word} {z n : Zone}
    (hz : s.zones[i] = z) (hq : Quiet s i) (hc : exec c s = .next (s.partyWrite p i off v)) (hoff : off < 0x7400)
    (ha : Alone s i p off) (hn : ∀ b, z.regWrite s.host p b off v = (r, n)) (h : Mute z (n.cost p)) :
    Completes c s (fun t => t.zones[i] = n.cost p ∧ Lone i s t) := by
  cases p with
  | host => exact (write_mute hz hq hc hoff (hn _) h).imp fun t ⟨_, ht⟩ => ht
  | prog =>
    obtain hm : s.zones[i].mayMeet s.host off = false := ha.resolve_left (by decide)
    refine ⟨_, hc, ?_⟩
    rw [progWrite_zone s i v hoff hm]
    refine onZone_mute hz hq ?_ h
    rw [if_pos ⟨hz.symm, rfl⟩, hz, hn]
    rfl

/-! The word that part 2 commits. -/

section commits
variable {z : Zone} {w : Nat} (v : W72)

theorem Zone.vwinCommit_full (hw : w < 3072) : ∃ a b m, z.vwinCommit w v =
    { z with
      vox := { z.vox with battA := a, battB := b }
      voices := vmod z.voices (fin 96 (w / 32)) (fun vo => { vo with edit := true })
      mem := m } ∧
    (if z.swaps[(0 : Fin 6)].active then a else b) = m72Set z.battIn w v ∧
    (if z.swaps[(0 : Fin 6)].active then b else a) = z.battAct := by
  unfold Zone.vwinCommit Zone.battIn Zone.battAct
  rw [if_neg (by omega)]
  cases z.swaps[(0 : Fin 6)].active with
  | false => exact ⟨_, _, _, rfl, rfl, rfl⟩
  | true => exact ⟨_, _, _, rfl, rfl, rfl⟩

theorem Zone.rwinCommit_full (hw : w < 576) : ∃ a b m, z.rwinCommit w v =
    { z with
      route := { z.route with batA := a, batB := b, inactOk := false }
      mem := m } ∧
    (if z.swaps[(1 : Fin 6)].active then a else b) = m72Set z.routeIn w v ∧
    (if z.swaps[(1 : Fin 6)].active then b else a) = z.routeAct := by
  unfold Zone.rwinCommit Zone.routeIn Zone.routeAct
  rw [if_neg (by omega)]
  cases z.swaps[(1 : Fin 6)].active with
  | false => exact ⟨_, _, _, rfl, rfl, rfl⟩
  | true => exact ⟨_, _, _, rfl, rfl, rfl⟩

theorem Zone.dwinCommit_prog (hw : w < 16384) : ∃ m, z.dwinCommit 0 w v =
    { z with
      dsp := { z.dsp with prog := m72Set z.dsp.prog w v, loaded := true }
      mem := m } := by
  unfold Zone.dwinCommit
  rw [if_neg (by simpa [dwinSize] using hw)]
  exact ⟨_, rfl⟩

end commits

/-! The registers' accesses. -/

section access
variable {z : Zone} {h : HostC} {p : Party} {b : Bool} (v : Word)

theorem Zone.idle_holds {k : Fin 6} (hi : Idle z k) : z.swapHolds k = false := by
  rw [Zone.swapHolds, hi.1, hi.2]
  rfl

theorem Zone.busy_holds {k : Fin 6} (hi : ¬ Idle z k) : z.swapHolds k = true := by
  by_contra hn
  have hn' : z.swaps[k].pend = false ∧ z.swaps[k].copying = false := by simpa [Zone.swapHolds] using hn
  exact hi hn'

theorem Zone.regWrite_vwinData (hg : Grants z p Reg.VWIN_DATA) : z.regWrite h p b Reg.VWIN_DATA v = z.vwinWrite p v :=
  (Zone.regWrite_granted hg (by decide) rfl).trans rfl

theorem Zone.regWrite_rwinData (hg : Grants z p Reg.RWIN_DATA) : z.regWrite h p b Reg.RWIN_DATA v = z.rwinWrite p v :=
  (Zone.regWrite_granted hg (by decide) rfl).trans rfl

theorem Zone.regWrite_dwinData (hg : Grants z p Reg.DWIN_DATA) : z.regWrite h p b Reg.DWIN_DATA v = z.dwinWrite p v :=
  (Zone.regWrite_granted hg (by decide) rfl).trans rfl

theorem Zone.vwinWrite_staged (hi : Idle z 0) (hp : winPart (z.win p).vaddr 12 ≠ 2) : z.vwinWrite p v = (0, z.modWin p (fun w =>
    { w with vaddr := winAdvance w.vaddr 12 11 17 3072, v := w.v.stage (winPart w.vaddr 12) v })) := by
  unfold Zone.vwinWrite
  rw [Zone.idle_holds hi, if_neg (by simp)]
  dsimp only
  rw [if_neg hp]
  exact congrArg (Prod.mk 0) (Zone.modWin_congr rfl)

theorem Zone.vwinWrite_commits (hi : Idle z 0) (hp : winPart (z.win p).vaddr 12 = 2) : z.vwinWrite p v = (0,
    (z.vwinCommit (fld (z.win p).vaddr 11 0) (ofParts (z.win p).v.p0 (z.win p).v.p1 v)).modWin p (fun w =>
      { w with vaddr := winAdvance (z.win p).vaddr 12 11 17 3072, v := w.v.stage 2 v })) := by
  unfold Zone.vwinWrite
  rw [Zone.idle_holds hi, if_neg (by simp)]
  dsimp only
  rw [if_pos hp, hp]

theorem Zone.vwinWrite_held (hi : ¬ Idle z 0) : z.vwinWrite p v = (0x09, z) := by
  unfold Zone.vwinWrite
  rw [Zone.busy_holds hi, if_pos rfl]

theorem Zone.rwinWrite_staged (hi : Idle z 1) (hp : winPart (z.win p).raddr 12 ≠ 2) : z.rwinWrite p v = (0, z.modWin p (fun w =>
    { w with raddr := winAdvance w.raddr 12 11 17 576, r := w.r.stage (winPart w.raddr 12) v })) := by
  unfold Zone.rwinWrite
  rw [Zone.idle_holds hi, if_neg (by simp)]
  dsimp only
  rw [if_neg hp]
  exact congrArg (Prod.mk 0) (Zone.modWin_congr rfl)

theorem Zone.rwinWrite_commits (hi : Idle z 1) (hp : winPart (z.win p).raddr 12 = 2) : z.rwinWrite p v = (0,
    (z.rwinCommit (fld (z.win p).raddr 11 0) (ofParts (z.win p).r.p0 (z.win p).r.p1 v)).modWin p (fun w =>
      { w with raddr := winAdvance (z.win p).raddr 12 11 17 576, r := w.r.stage 2 v })) := by
  unfold Zone.rwinWrite
  rw [Zone.idle_holds hi, if_neg (by simp)]
  dsimp only
  rw [if_pos hp, hp]

section program
variable (hs : fld (z.win p).daddr 31 30 = 0)
include hs

theorem Zone.dwinWrite_staged (hr : z.dsp.running = false) (hc : bit (z.reg Reg.DSP_CTL) 0 = false)
    (hp : winPart (z.win p).daddr 26 ≠ 2) : z.dwinWrite p v = (0, z.modWin p (fun w =>
    { w with daddr := winAdvance w.daddr 26 16 29 16384, d := w.d.stage (winPart w.daddr 26) v })) := by
  unfold Zone.dwinWrite
  dsimp only
  rw [hs, hr, hc, if_neg (by simp), if_neg (by simp), if_neg hp]
  exact congrArg (Prod.mk 0) (Zone.modWin_congr rfl)

theorem Zone.dwinWrite_commits (hr : z.dsp.running = false) (hc : bit (z.reg Reg.DSP_CTL) 0 = false)
    (hp : winPart (z.win p).daddr 26 = 2) : z.dwinWrite p v = (0,
    (z.dwinCommit 0 (fld (z.win p).daddr 16 0) (ofParts (z.win p).d.p0 (z.win p).d.p1 v)).modWin p (fun w =>
      { w with daddr := winAdvance (z.win p).daddr 26 16 29 16384, d := w.d.stage 2 v })) := by
  unfold Zone.dwinWrite
  dsimp only
  rw [hs, hr, hc, if_neg (by simp), if_neg (by simp), if_pos hp, hp]
  rfl

theorem Zone.dwinWrite_running (hr : z.dsp.running = true ∨ bit (z.reg Reg.DSP_CTL) 0 = true) : z.dwinWrite p v = (0x15, z) := by
  unfold Zone.dwinWrite
  exact if_pos ⟨hs, hr⟩

end program
end access

/-- The memories that the windows commit to are in canonical form. -/
theorem Quiet.windows_wf {s : State} {i : ZoneId} {z : Zone} (hz : s.zones[i] = z) (hq : Quiet s i) :
    m72Wf z.battIn = true ∧ m72Wf z.routeIn = true ∧ m72Wf z.dsp.prog = true := by
  have hm := (State.wf_zone hq.2.2.2.1 i).2
  rw [hz] at hm
  simp only [Zone.memWf, Bool.and_eq_true, and_assoc] at hm
  obtain ⟨hvA, hvB, hrA, hrB, -, hp, -⟩ := hm
  refine ⟨?_, ?_, hp⟩
  · unfold Zone.battIn
    split_ifs
    · exact hvA
    · exact hvB
  · unfold Zone.routeIn
    split_ifs
    · exact hrA
    · exact hrB

theorem m72Set_only {m m' : Mem72} {w : Nat} {v : W72} (hm : m72Wf m = true) (e : m' = m72Set m w v) :
    m72Get m' w = v ∧ MemBut [w] m m' := by
  subst e
  exact ⟨m72Get_m72Set_same hm, fun k hk => m72Get_m72Set_ne hm (by simpa using hk)⟩

/-- A write of either party that commits a word: the zone with the word, the party's window registers and the bridge's cost. -/
theorem commit_completes {s : State} {i : ZoneId} {p : Party} {c : Instr} {off r : Nat} {v : Word} {z y : Zone}
    {f : WinSet → WinSet} (hz : s.zones[i] = z) (hq : Quiet s i) (hc : exec c s = .next (s.partyWrite p i off v))
    (hoff : off < 0x7400) (ha : Alone s i p off) (hn : ∀ b, z.regWrite s.host p b off v = (r, y.modWin p f)) (h : Mute z y)
    (hr : y.regs = z.regs) : Completes c s (fun t =>
      (∃ wh wp cy dl, t.zones[i] =
        { y with winH := wh, winP := wp, dsp := { y.dsp with cycle := cy, delay := dl }, regs := (z.cost p).regs }) ∧
      t.zones[i].win p = f (y.win p) ∧ Lone i s t) := by
  refine (party_completes hz hq hc hoff ha hn (h.cost_modWin p f)).imp fun t ⟨ht, ho⟩ => ?_
  obtain ⟨wh, wp, cy, dl, e, hw⟩ := y.cost_modWin p f
  rw [← ht, Zone.cost_regs hr] at e
  rw [← ht] at hw
  exact ⟨⟨wh, wp, cy, dl, e⟩, hw, ho⟩

section completes
variable {s : State} {i : ZoneId} {p : Party} {z : Zone} (v : Word) (hz : s.zones[i] = z) (hq : Quiet s i)
include hz hq

section voices
variable (hg : Grants z p Reg.VWIN_DATA) (ha : Alone s i p Reg.VWIN_DATA) (hi : Idle z 0)
include hg ha hi

theorem vwin_stages (hp : winPart (z.win p).vaddr 12 ≠ 2) : Completes (.vwinDataWrite i p v) s (fun t =>
    t.zones[i] = (z.modWin p (fun w =>
      { w with vaddr := winAdvance w.vaddr 12 11 17 3072, v := w.v.stage (winPart w.vaddr 12) v })).cost p ∧ Lone i s t) :=
  party_completes hz hq rfl (by decide) ha
    (fun _ => (Zone.regWrite_vwinData v hg).trans (Zone.vwinWrite_staged v hi hp)) ((Mute.refl z).cost_modWin p _)

theorem vwin_commits (hp : winPart (z.win p).vaddr 12 = 2) (hw : fld (z.win p).vaddr 11 0 < 3072) :
    Completes (.vwinDataWrite i p v) s (fun t =>
      m72Get t.zones[i].battIn (fld (z.win p).vaddr 11 0) = ofParts (z.win p).v.p0 (z.win p).v.p1 v ∧
      MemBut [fld (z.win p).vaddr 11 0] z.battIn t.zones[i].battIn ∧ t.zones[i].battAct = z.battAct ∧
      t.zones[i].voices[fin 96 (fld (z.win p).vaddr 11 0 / 32)] =
        { z.voices[fin 96 (fld (z.win p).vaddr 11 0 / 32)] with edit := true } ∧
      OnlyVoice (fin 96 (fld (z.win p).vaddr 11 0 / 32)) z t.zones[i] ∧ t.zones[i].regs = (z.cost p).regs ∧
      (t.zones[i].win p).vaddr = winAdvance (z.win p).vaddr 12 11 17 3072 ∧ Lone i s t) := by
  obtain ⟨hm, -, -⟩ := Quiet.windows_wf hz hq
  let w := fld (z.win p).vaddr 11 0
  let word := ofParts (z.win p).v.p0 (z.win p).v.p1 v
  obtain ⟨a, b, m, e, hin, hact⟩ := Zone.vwinCommit_full (z := z) word hw
  have hmute : Mute z (z.vwinCommit w word) := by
    rw [e]
    exact ⟨⟨rfl, rfl, rfl, rfl, rfl, rfl⟩, rfl, rfl⟩
  refine (commit_completes hz hq rfl (by decide) ha (fun _ => (Zone.regWrite_vwinData v hg).trans
    (Zone.vwinWrite_commits v hi hp)) hmute (by rw [e])).imp fun t ⟨⟨wh, wp, cy, dl, ht⟩, hwin, ho⟩ => ?_
  rw [e] at ht
  obtain ⟨hget, hbut⟩ := m72Set_only (m' := t.zones[i].battIn) hm (by rw [ht]; exact hin)
  have hv : t.zones[i].voices = vmod z.voices (fin 96 (w / 32)) (fun vo => { vo with edit := true }) := by rw [ht]
  refine ⟨hget, hbut, by rw [ht]; exact hact, ?_, fun u hu => ?_, by rw [ht], by rw [hwin], ho⟩
  · rw [hv]
    exact vmod_self ..
  · rw [hv]
    exact vmod_ne _ hu _

end voices

section route
variable (hg : Grants z p Reg.RWIN_DATA) (ha : Alone s i p Reg.RWIN_DATA) (hi : Idle z 1)
include hg ha hi

theorem rwin_stages (hp : winPart (z.win p).raddr 12 ≠ 2) : Completes (.rwinDataWrite i p v) s (fun t =>
    t.zones[i] = (z.modWin p (fun w =>
      { w with raddr := winAdvance w.raddr 12 11 17 576, r := w.r.stage (winPart w.raddr 12) v })).cost p ∧ Lone i s t) :=
  party_completes hz hq rfl (by decide) ha
    (fun _ => (Zone.regWrite_rwinData v hg).trans (Zone.rwinWrite_staged v hi hp)) ((Mute.refl z).cost_modWin p _)

theorem rwin_commits (hp : winPart (z.win p).raddr 12 = 2) (hw : fld (z.win p).raddr 11 0 < 576) :
    Completes (.rwinDataWrite i p v) s (fun t =>
      m72Get t.zones[i].routeIn (fld (z.win p).raddr 11 0) = ofParts (z.win p).r.p0 (z.win p).r.p1 v ∧
      MemBut [fld (z.win p).raddr 11 0] z.routeIn t.zones[i].routeIn ∧ t.zones[i].routeAct = z.routeAct ∧
      t.zones[i].route.inactOk = false ∧ t.zones[i].voices = z.voices ∧ t.zones[i].regs = (z.cost p).regs ∧
      (t.zones[i].win p).raddr = winAdvance (z.win p).raddr 12 11 17 576 ∧ Lone i s t) := by
  obtain ⟨-, hm, -⟩ := Quiet.windows_wf hz hq
  let w := fld (z.win p).raddr 11 0
  let word := ofParts (z.win p).r.p0 (z.win p).r.p1 v
  obtain ⟨a, b, m, e, hin, hact⟩ := Zone.rwinCommit_full (z := z) word hw
  have hmute : Mute z (z.rwinCommit w word) := by
    rw [e]
    exact ⟨⟨rfl, rfl, rfl, rfl, rfl, rfl⟩, rfl, rfl⟩
  refine (commit_completes hz hq rfl (by decide) ha (fun _ => (Zone.regWrite_rwinData v hg).trans
    (Zone.rwinWrite_commits v hi hp)) hmute (by rw [e])).imp fun t ⟨⟨wh, wp, cy, dl, ht⟩, hwin, ho⟩ => ?_
  rw [e] at ht
  obtain ⟨hget, hbut⟩ := m72Set_only (m' := t.zones[i].routeIn) hm (by rw [ht]; exact hin)
  exact ⟨hget, hbut, by rw [ht]; exact hact, by rw [ht], by rw [ht], by rw [ht], by rw [hwin], ho⟩

end route

section program
variable (hg : Grants z p Reg.DWIN_DATA) (ha : Alone s i p Reg.DWIN_DATA) (hs : fld (z.win p).daddr 31 30 = 0)
  (hr : z.dsp.running = false) (hc : bit (z.reg Reg.DSP_CTL) 0 = false)
include hg ha hs hr hc

theorem dwin_stages (hp : winPart (z.win p).daddr 26 ≠ 2) : Completes (.dwinDataWrite i p v) s (fun t =>
    t.zones[i] = (z.modWin p (fun w =>
      { w with daddr := winAdvance w.daddr 26 16 29 16384, d := w.d.stage (winPart w.daddr 26) v })).cost p ∧ Lone i s t) :=
  party_completes hz hq rfl (by decide) ha
    (fun _ => (Zone.regWrite_dwinData v hg).trans (Zone.dwinWrite_staged v hs hr hc hp)) ((Mute.refl z).cost_modWin p _)

theorem dwin_commits (hp : winPart (z.win p).daddr 26 = 2) (hw : fld (z.win p).daddr 16 0 < 16384) :
    Completes (.dwinDataWrite i p v) s (fun t =>
      m72Get t.zones[i].dsp.prog (fld (z.win p).daddr 16 0) = ofParts (z.win p).d.p0 (z.win p).d.p1 v ∧
      MemBut [fld (z.win p).daddr 16 0] z.dsp.prog t.zones[i].dsp.prog ∧ t.zones[i].dsp.data = z.dsp.data ∧
      t.zones[i].regs = (z.cost p).regs ∧ (t.zones[i].win p).daddr = winAdvance (z.win p).daddr 26 16 29 16384 ∧
      Lone i s t) := by
  obtain ⟨-, -, hm⟩ := Quiet.windows_wf hz hq
  let w := fld (z.win p).daddr 16 0
  let word := ofParts (z.win p).d.p0 (z.win p).d.p1 v
  obtain ⟨m, e⟩ := Zone.dwinCommit_prog (z := z) word hw
  have hmute : Mute z (z.dwinCommit 0 w word) := by
    rw [e]
    exact ⟨⟨rfl, rfl, rfl, rfl, rfl, rfl⟩, rfl, rfl⟩
  refine (commit_completes hz hq rfl (by decide) ha (fun _ => (Zone.regWrite_dwinData v hg).trans
    (Zone.dwinWrite_commits v hs hr hc hp)) hmute (by rw [e])).imp fun t ⟨⟨wh, wp, cy, dl, ht⟩, hwin, ho⟩ => ?_
  rw [e] at ht
  obtain ⟨hget, hbut⟩ := m72Set_only (m' := t.zones[i].dsp.prog) hm (by rw [ht])
  exact ⟨hget, hbut, by rw [ht], by rw [ht], by rw [hwin], ho⟩

end program

/-- A pending swap holds the inactive batten (R53). -/
theorem vwin_refused (hg : Grants z .host Reg.VWIN_DATA) (hi : ¬ Idle z 0) : Completes (.vwinDataWrite i .host v) s (fun t =>
    t.host.bus.reason = 0x09 ∧ t.zones[i] = z ∧ Lone i s t) :=
  write_refused hz hq rfl (by decide) ((Zone.regWrite_vwinData v hg).trans (Zone.vwinWrite_held v hi))

/-- A running program is not written (R219). -/
theorem dwin_refused (hg : Grants z .host Reg.DWIN_DATA) (hs : fld z.winH.daddr 31 30 = 0)
    (hr : z.dsp.running = true ∨ bit (z.reg Reg.DSP_CTL) 0 = true) : Completes (.dwinDataWrite i .host v) s (fun t =>
      t.host.bus.reason = 0x15 ∧ t.zones[i] = z ∧ Lone i s t) :=
  write_refused hz hq rfl (by decide) ((Zone.regWrite_dwinData v hg).trans (Zone.dwinWrite_running v hs hr))

end completes

/-- Settles O23: each of the three windows stages parts 0 and 1 and commits part 2, for either party. -/
theorem windowWrites : Obligations.WindowWrites := by
  intro s i p v z hz hq
  exact ⟨fun hg ha hi => ⟨vwin_stages v hz hq hg ha hi, vwin_commits v hz hq hg ha hi⟩,
    fun hg ha hi => ⟨rwin_stages v hz hq hg ha hi, rwin_commits v hz hq hg ha hi⟩,
    fun hg ha hs hr hc => ⟨dwin_stages v hz hq hg ha hs hr hc, dwin_commits v hz hq hg ha hs hr hc⟩,
    vwin_refused v hz hq, dwin_refused v hz hq⟩

end Sys2Proof.Machine
end

section
namespace Sys2Proof.Machine

/-! Wrapped integers and accumulators (R74–R79). -/

/-- The A72 code of the low 72 bits of an integer, by cases. -/
theorem wrapS_eq (s : Int) : wrapS 72 s = if 2 ^ 71 ≤ s % 2 ^ 72 then s % 2 ^ 72 - 2 ^ 72 else s % 2 ^ 72 := rfl

/-- The low 72 bits of an integer are a code of A72. -/
theorem wrapS_range (s : Int) : -(2 ^ 71) ≤ wrapS 72 s ∧ wrapS 72 s < 2 ^ 71 := by
  rw [wrapS_eq]
  split <;> omega

/-- The k of R74 is the multiple of 2^72 by which an exact sum exceeds its wrapped value. -/
theorem wrapS_add_wrapK (s : Int) : s = wrapS 72 s + wrapK s * 2 ^ 72 := by
  rw [wrapK, wrapS_eq]
  split <;> omega

/-- An exact sum has one form v + k × 2^72 with v a code of A72. -/
theorem wrapK_unique {s v k : Int} (hl : -(2 ^ 71) ≤ v) (hu : v < 2 ^ 71) (h : s = v + k * 2 ^ 72) :
    wrapS 72 s = v ∧ wrapK s = k := by
  have hr := wrapS_range s
  have hw := wrapS_add_wrapK s
  omega

theorem AccSt.put_val (a : AccSt) (s : Int) : (a.put s).val = wrapS 72 s := by
  unfold AccSt.put
  dsimp only
  split_ifs <;> rfl

/-- Without a wrap only the value changes. -/
theorem AccSt.put_exact {a : AccSt} {s : Int} (h : wrapK s = 0) : a.put s = { a with val := wrapS 72 s } := by
  simp [AccSt.put, h]

/-- A wrap of a stuck accumulator turns LDIR alone. -/
theorem AccSt.put_stuck {a : AccSt} {s : Int} (h : wrapK s ≠ 0) (hs : a.stuck = true) :
    a.put s = { a with val := wrapS 72 s, ldir := (wrapK s).sign } := by
  simp [AccSt.put, h, hs]

/-- A wrap that WRAP can count. -/
theorem AccSt.put_counts {a : AccSt} {s : Int} (h : wrapK s ≠ 0) (hs : a.stuck = false)
    (hr : -7 ≤ a.wrap + wrapK s ∧ a.wrap + wrapK s ≤ 7) :
    a.put s = { a with val := wrapS 72 s, wrap := a.wrap + wrapK s, ldir := (wrapK s).sign, aov := true } := by
  have hn : ¬ (a.wrap + wrapK s > 7 ∨ a.wrap + wrapK s < -7) := by omega
  simp [AccSt.put, h, hs, hn]

/-- A wrap beyond the range of WRAP. -/
theorem AccSt.put_sticks {a : AccSt} {s : Int} (h : wrapK s ≠ 0) (hs : a.stuck = false)
    (hr : a.wrap + wrapK s < -7 ∨ 7 < a.wrap + wrapK s) :
    a.put s = ⟨wrapS 72 s, 7 * (wrapK s).sign, true, (wrapK s).sign, true, true⟩ := by
  have hc : a.wrap + wrapK s > 7 ∨ a.wrap + wrapK s < -7 := hr.symm
  simp [AccSt.put, h, hs, hc]

/-- Settles O28: a sum is its wrapped value and its k, by which the four cases of R74 and R75 go; a read and a store go by STUCK
and WRAP. -/
theorem accumulatorRules : Obligations.AccumulatorRules := by
  unfold Obligations.AccumulatorRules
  intro a x k
  have hv : (a.add x).val = wrapS 72 (a.val + x) := a.put_val _
  have hr := wrapS_range (a.val + x)
  refine ⟨hv ▸ hr, ?_, fun hk => ?_, ?_, fun hw hs => ?_, fun hw hs => ?_, fun hw hs => ?_, fun hs => ?_⟩
  · have hw := wrapS_add_wrapK (a.val + x)
    omega
  · rw [hv] at hk ⊢
    obtain ⟨-, rfl⟩ := wrapK_unique hr.1 hr.2 hk
    exact ⟨AccSt.put_exact, AccSt.put_stuck, AccSt.put_counts, AccSt.put_sticks⟩
  · simp [AccSt.load, AccSt.add]
  · exact ⟨by simp [AccSt.read, hw, hs], fun t => by simp [AccSt.store, hw, hs]⟩
  · have hn : a.wrap ≠ 0 := by omega
    exact ⟨by simp [AccSt.read, hw, hs, hn], fun t => by simp [AccSt.store, hw, hs]⟩
  · have hn : a.wrap ≠ 0 := by omega
    have hp : ¬ a.wrap > 0 := by omega
    exact ⟨by simp [AccSt.read, hp, hs, hn], fun t => by simp [AccSt.store, hw, hp, hs]⟩
  · exact ⟨by simp [AccSt.read, hs], fun t => by simp [AccSt.store, hs]⟩

/-- Settles O37: the two cases of R75 in which an exact sum wraps and WRAP does not count it. -/
theorem stuckAccumulator : Obligations.StuckAccumulator := by
  unfold Obligations.StuckAccumulator
  intro a x k hl hu hk
  obtain ⟨hv, rfl⟩ := wrapK_unique hl hu (s := a.val + x) (k := k) (by omega)
  refine ⟨fun hs hr => ?_, fun hs => ?_⟩
  · have h7 : 7 * (wrapK (a.val + x)).sign = if 0 < wrapK (a.val + x) then 7 else -7 := by
      split
      · next hp => rw [Int.sign_eq_one_of_pos hp]; rfl
      · next hp => rw [Int.sign_eq_neg_one_of_neg (by omega)]; rfl
    rw [← hv, ← h7]
    exact AccSt.put_sticks hk hs hr
  · rw [show a.add x = _ from AccSt.put_stuck hk hs]
    exact ⟨rfl, hs, rfl, rfl, rfl⟩

end Sys2Proof.Machine
end

section
namespace Sys2Proof.Machine

/-! Window reads (R82, R137, R175, R219, R378, R412). -/

section reads
variable {z : Zone} {p : Party}

/-- A word without an error is delivered as it stands. -/
theorem Zone.winFetch_clean {c w : Nat} (h : z.mem.mark c w = 0) (v : W72) : z.winFetch c w v = (v, z) := by
  simp [Zone.winFetch, Zone.winCheck, Zone.eccRead, h]

/-! Part 0 fetches the word. -/

section fetches
variable {w : Nat}

theorem Zone.vwinRead_fetches (hw : fld (z.win p).vaddr 11 0 = w) (hl : w < 3072) (hp : winPart (z.win p).vaddr 12 = 0)
    (hm : z.mem.mark memBatten (z.battWord 0 3072 (bit (z.win p).vaddr 16) w) = 0) : z.vwinRead p =
    (BitVec.extractLsb' 0 32 (m72Get (if bit (z.win p).vaddr 16 then z.battIn else z.battAct) w), z.modWin p (fun x =>
      { x with vaddr := winAdvance x.vaddr 12 11 17 3072, v :=
        ⟨x.v.p0, x.v.p1, m72Get (if bit x.vaddr 16 then z.battIn else z.battAct) w⟩ })) := by
  subst hw
  unfold Zone.vwinRead
  dsimp only
  rw [hp, if_neg (by simp), if_neg (by omega), Zone.winFetch_clean hm]
  exact congrArg (Prod.mk _) (Zone.modWin_congr rfl)

theorem Zone.rwinRead_fetches (hw : fld (z.win p).raddr 11 0 = w) (hl : w < 576) (hp : winPart (z.win p).raddr 12 = 0)
    (hm : z.mem.mark memRoute (z.battWord 1 576 (bit (z.win p).raddr 16) w) = 0) : z.rwinRead p =
    (BitVec.extractLsb' 0 32 (m72Get (if bit (z.win p).raddr 16 then z.routeIn else z.routeAct) w), z.modWin p (fun x =>
      { x with raddr := winAdvance x.raddr 12 11 17 576, r :=
        ⟨x.r.p0, x.r.p1, m72Get (if bit x.raddr 16 then z.routeIn else z.routeAct) w⟩ })) := by
  subst hw
  unfold Zone.rwinRead
  dsimp only
  rw [hp, if_neg (by simp), if_neg (by omega), Zone.winFetch_clean hm]
  exact congrArg (Prod.mk _) (Zone.modWin_congr rfl)

theorem Zone.dwinRead_fetches (hw : fld (z.win p).daddr 16 0 = w) (hl : w < 30720) (hp : winPart (z.win p).daddr 26 = 0)
    (hs : fld (z.win p).daddr 31 30 = 1) (hm : z.mem.mark memData w = 0) : z.dwinRead p =
    (BitVec.extractLsb' 0 32 (m72Get z.dsp.data w), z.modWin p (fun x =>
      { x with daddr := winAdvance x.daddr 26 16 29 30720, d := ⟨x.d.p0, x.d.p1, m72Get z.dsp.data w⟩ })) := by
  subst hw
  have hf : z.dwinFetch 1 (fld (z.win p).daddr 16 0) (bit (z.win p).daddr 28) =
      (m72Get z.dsp.data (fld (z.win p).daddr 16 0), z) := by
    unfold Zone.dwinFetch
    rw [if_neg (by simpa [dwinSize] using hl)]
    exact Zone.winFetch_clean hm _
  unfold Zone.dwinRead
  dsimp only
  rw [hp, hs, if_neg (by simp), hf]
  exact congrArg (Prod.mk _) (Zone.modWin_congr rfl)

theorem Zone.memRead_fetches (hw : fld (z.win p).maddr 16 0 = w) (hp : winPart (z.win p).maddr 18 = 0)
    (hs : fld (z.win p).maddr 31 29 = 0) (hm : z.mem.mark memCache w = 0) : z.memRead p =
    (BitVec.extractLsb' 0 32 (m72Get z.cache.mem w), z.modWin p (fun x =>
      { x with maddr := winAdvance x.maddr 18 16 17 131072, m := ⟨x.m.p0, x.m.p1, m72Get z.cache.mem w⟩ })) := by
  subst hw
  have hl : fld (z.win p).maddr 16 0 < 131072 := Nat.mod_lt _ (by decide)
  have hf : z.memFetch 0 (fld (z.win p).maddr 16 0) = (m72Get z.cache.mem (fld (z.win p).maddr 16 0), z) := by
    unfold Zone.memFetch
    rw [if_neg (by simpa [memWords] using hl)]
    exact Zone.winFetch_clean hm _
  unfold Zone.memRead
  dsimp only
  rw [hp, hs, if_neg (by simp), hf]
  exact congrArg (Prod.mk _) (Zone.modWin_congr rfl)

end fetches

/-- Parts 1 and 2 give the word fetched before. -/
theorem Zone.vwinRead_staged (hp : winPart (z.win p).vaddr 12 ≠ 0) : z.vwinRead p =
    (partOf (z.win p).v.rd (winPart (z.win p).vaddr 12), z.modWin p (fun x =>
      { x with vaddr := winAdvance x.vaddr 12 11 17 3072 })) := by
  unfold Zone.vwinRead
  dsimp only
  rw [if_pos hp]
  exact congrArg (Prod.mk _) (Zone.modWin_congr rfl)

/-! The registers of the windows. -/

section access
variable {r : Word × Zone} (ha : Answers z)
include ha

theorem Zone.regRead_vwinData (h : z.vwinRead p = r) : z.regRead p Reg.VWIN_DATA = ⟨0, r.1, r.2⟩ :=
  Zone.regRead_special ha (by decide) rfl (by decide) (congrArg some h)

theorem Zone.regRead_rwinData (h : z.rwinRead p = r) : z.regRead p Reg.RWIN_DATA = ⟨0, r.1, r.2⟩ :=
  Zone.regRead_special ha (by decide) rfl (by decide) (congrArg some h)

theorem Zone.regRead_dwinData (h : z.dwinRead p = r) : z.regRead p Reg.DWIN_DATA = ⟨0, r.1, r.2⟩ :=
  Zone.regRead_special ha (by decide) rfl (by decide) (congrArg some h)

theorem Zone.regRead_wdata (h : z.memRead p = r) : z.regRead p Reg.MEM_WDATA = ⟨0, r.1, r.2⟩ := by
  have hs : (zoneSpec Reg.MEM_WDATA).any (fun x => x.acc != .wo) = true := by decide +kernel
  obtain ⟨x, hx, hw⟩ := Option.any_eq_true _ _ |>.mp hs
  exact Zone.regRead_special ha (by decide) hx (by simpa using hw) (congrArg some h)

end access

/-- A read of either party that changes the party's window registers. -/
theorem party_reads {s : State} {i : ZoneId} {c : Instr} {off : Nat} {w : Word} {f : WinSet → WinSet} (hz : s.zones[i] = z)
    (hq : Quiet s i) (hc : exec c s = .next (s.partyRead p i off)) (hoff : off < 0x7400)
    (hr : z.regRead p off = ⟨0, w, z.modWin p f⟩) : Completes c s (fun t => t.zones[i] = (z.modWin p f).cost p ∧
      (p = .host → t.host.bus.reason = 0 ∧ t.host.bus.data = w) ∧ Lone i s t) := by
  cases p with
  | host =>
    refine (read_alone hz hq hc hoff hr ⟨rfl, rfl, rfl, rfl⟩ rfl rfl).imp fun t ⟨hd, he, ht, ho⟩ => ?_
    exact ⟨ht, fun _ => ⟨he, hd⟩, ho⟩
  | prog =>
    refine (event_mute (f := fun z _ => (z.bridgeRead off).2.dspHold 6) hz hq hc ?_ ((Mute.refl z).cost_modWin .prog f)).imp fun t ⟨ht, ho⟩ =>
      ⟨ht, nofun, ho⟩
    rw [Zone.bridgeRead_of hoff hr]
    rfl

end reads

/-- Settles O24: each window's register gives what `Zone.vwinRead`, `Zone.rwinRead`, `Zone.dwinRead` or `Zone.memRead` reads, to
either party. -/
theorem windowReads : Obligations.WindowReads := by
  intro s i p z hz hq ha
  refine ⟨fun w hw hl hp hm => ?_, fun hp => ?_, fun w hw hl hp hm => ?_, fun w hw hl hp hs hm => ?_,
    fun w hw hp hs hm => ?_⟩
  · refine (party_reads hz hq rfl (by decide) (Zone.regRead_vwinData ha (Zone.vwinRead_fetches hw hl hp hm))).imp
      fun t ⟨ht, hb, ho⟩ => ⟨ht, fun h => ?_, ho⟩
    subst h
    exact hb rfl
  · refine (party_reads hz hq rfl (by decide) (Zone.regRead_vwinData ha (Zone.vwinRead_staged hp))).imp
      fun t ⟨ht, hb, ho⟩ => ⟨ht, fun h => ?_, ho⟩
    subst h
    exact (hb rfl).2
  · refine (party_reads hz hq rfl (by decide) (Zone.regRead_rwinData ha (Zone.rwinRead_fetches hw hl hp hm))).imp
      fun t ⟨ht, hb, ho⟩ => ⟨ht, fun h => ?_, ho⟩
    subst h
    exact (hb rfl).2
  · exact (party_reads hz hq rfl (by decide) (Zone.regRead_dwinData ha (Zone.dwinRead_fetches hw hl hp hs hm))).imp
      fun t ⟨ht, hb, ho⟩ => ⟨ht, fun h => (hb h).2, ho⟩
  · exact (party_reads hz hq rfl (by decide) (Zone.regRead_wdata ha (Zone.memRead_fetches hw hp hs hm))).imp
      fun t ⟨ht, hb, ho⟩ => ⟨ht, fun h => (hb h).2, ho⟩

end Sys2Proof.Machine
end

section
namespace Sys2Proof.Machine

/-! Halves of a word (R81). -/

theorem ofInt_loHalf_halves (h l : Int) : BitVec.ofInt 36 (loHalf (halves h l)) = BitVec.ofInt 36 l := by
  rw [loHalf, halves, BitVec.ofInt_toInt]
  ext k hk
  rw [BitVec.getElem_extractLsb', Nat.zero_add]
  exact BitVec.getLsbD_append.trans (by simp [hk])

theorem ofInt_hiHalf_halves (h l : Int) : BitVec.ofInt 36 (hiHalf (halves h l)) = BitVec.ofInt 36 h := by
  rw [hiHalf, halves, BitVec.ofInt_toInt]
  ext k hk
  rw [BitVec.getElem_extractLsb']
  exact BitVec.getLsbD_append.trans (by simp [BitVec.getLsbD_eq_getElem hk])

/-- A half that lands is the half that was issued. -/
theorem withHalf_low (w w' : W72) (v : Int) : withHalf w true (loHalf (withHalf w' true v)) = withHalf w true v :=
  congrArg (BitVec.ofInt 36 (hiHalf w) ++ ·) (ofInt_loHalf_halves (hiHalf w') v)

theorem withHalf_high (w w' : W72) (v : Int) : withHalf w false (hiHalf (withHalf w' false v)) = withHalf w false v :=
  congrArg (· ++ BitVec.ofInt 36 (loHalf w)) (ofInt_hiHalf_halves v (loHalf w'))

/-! Results on their way to the registers of the zone DSP (R201). -/

/-- The word of a register after a result has landed on it. -/
def DspRes.landed (r : DspRes) (w : W72) : W72 :=
  if r.part = 1 then withHalf w false (hiHalf r.val) else if r.part = 2 then withHalf w true (loHalf r.val) else r.val

theorem ZDsp.land_same (d : ZDsp) (r : DspRes) : (d.land r).g[r.reg] = r.landed d.g[r.reg] :=
  vmod_self d.g r.reg _

theorem ZDsp.land_ne (d : ZDsp) (r : DspRes) {n : Fin 64} (h : n ≠ r.reg) : (d.land r).g[n] = d.g[n] :=
  vmod_ne d.g h _

/-- Results change the registers alone. -/
theorem foldl_land (l : List DspRes) (d : ZDsp) : l.foldl ZDsp.land d = { d with g := (l.foldl ZDsp.land d).g } := by
  induction l generalizing d with
  | nil => rfl
  | cons r t ih =>
    rw [List.foldl_cons, ih]
    rfl

/-- The results for a register that land in one cycle: the last one. -/
theorem lastOnly_filter (n : Fin 64) (l : List DspRes) :
    (lastOnly l).filter (fun r => r.reg == n) = (l.filter (fun r => r.reg == n)).getLast?.toList := by
  induction l with
  | nil => rfl
  | cons r t ih =>
    unfold lastOnly
    by_cases hr : r.reg = n
    · subst hr
      by_cases ht : t.any (fun x => x.reg == r.reg) = true
      · obtain ⟨x, hx, he⟩ := List.any_eq_true.mp ht
        have hn : t.filter (fun x => x.reg == r.reg) ≠ [] := List.ne_nil_of_mem (List.mem_filter.mpr ⟨hx, he⟩)
        rw [if_pos ht, ih, List.filter_cons_of_pos (by simp), List.getLast?_cons, List.getLast?_eq_some_getLast hn]
        rfl
      · have hn : t.filter (fun x => x.reg == r.reg) = [] := by simpa [List.filter_eq_nil_iff] using ht
        rw [if_neg ht, List.filter_cons_of_pos (by simp), ih, List.filter_cons_of_pos (by simp), hn]
        rfl
    · have hr' : ¬ (r.reg == n) = true := by simpa using hr
      have hf : (r :: t).filter (fun r => r.reg == n) = t.filter (fun r => r.reg == n) := List.filter_cons_of_neg hr'
      rw [hf, ← ih]
      split
      · rfl
      · exact List.filter_cons_of_neg hr'

/-- The word of a register after results have landed: only those for the register count. -/
theorem foldl_land_reg (n : Fin 64) (l : List DspRes) (d : ZDsp) :
    (l.foldl ZDsp.land d).g[n] = (l.filter (fun r => r.reg == n)).foldl (fun w r => r.landed w) d.g[n] := by
  induction l generalizing d with
  | nil => rfl
  | cons r t ih =>
    rw [List.foldl_cons, ih]
    by_cases hr : r.reg = n
    · subst hr
      rw [List.filter_cons_of_pos (by simp), List.foldl_cons, ZDsp.land_same]
    · rw [List.filter_cons_of_neg (by simpa using hr), ZDsp.land_ne d r (Ne.symm hr)]

/-- The results that land with the bundle after the present one. -/
def ZDsp.due (d : ZDsp) : List DspRes :=
  (d.pend.map (fun r : DspRes => { r with dly := r.dly - 1 })).filter (fun r => r.dly == 0)

theorem ZDsp.tickRes_reg (d : ZDsp) (n : Fin 64) : d.tickRes.g[n] =
    (d.due.filter (fun r => r.reg == n)).getLast?.toList.foldl (fun w r => r.landed w) d.g[n] := by
  rw [← lastOnly_filter, ← foldl_land_reg]
  rfl

/-- Landing changes the registers and what is on its way. -/
theorem ZDsp.tickRes_frame (d : ZDsp) : d.tickRes = { d with g := d.tickRes.g, pend := d.tickRes.pend } := by
  unfold ZDsp.tickRes
  dsimp only
  rw [foldl_land]

/-- The core with a result on its way that lands at once. -/
def ZDsp.issues (d : ZDsp) (n : Fin 64) (part : Nat) (v : W72) : ZDsp :=
  { d with pend := d.pend ++ [{ dly := 1, reg := n, part := part, val := v }] }

theorem ZDsp.issues_due (d : ZDsp) (n : Fin 64) (part : Nat) (v : W72) :
    (d.issues n part v).due = d.due ++ [{ dly := 0, reg := n, part := part, val := v }] := by
  simp [ZDsp.due, ZDsp.issues]

/-- It stands for the whole register, whatever else was due to land there. -/
theorem ZDsp.issues_same (d : ZDsp) (n : Fin 64) (part : Nat) (v : W72) :
    (d.issues n part v).tickRes.g[n] = DspRes.landed { dly := 0, reg := n, part := part, val := v } d.g[n] := by
  rw [ZDsp.tickRes_reg, ZDsp.issues_due, List.filter_append]
  simp [ZDsp.issues]

theorem ZDsp.issues_ne (d : ZDsp) {n m : Fin 64} (h : m ≠ n) (part : Nat) (v : W72) :
    (d.issues n part v).tickRes.g[m] = d.tickRes.g[m] := by
  rw [ZDsp.tickRes_reg, ZDsp.tickRes_reg, ZDsp.issues_due, List.filter_append]
  simp [ZDsp.issues, h.symm]

theorem ZDsp.issues_tickRes (d : ZDsp) (n : Fin 64) (part : Nat) (v : W72) :
    (d.issues n part v).tickRes = { d.tickRes with g := (d.issues n part v).tickRes.g } := by
  have hp : (d.issues n part v).tickRes.pend = d.tickRes.pend := by simp [ZDsp.tickRes, ZDsp.issues]
  rw [ZDsp.tickRes_frame, hp, d.tickRes_frame]
  rfl

/-! The next bundle (R202, R203). -/

/-- The predicates that a core's next bundle makes of others: the stages of a rotating loop are set anew. -/
def ZDsp.nextQ (d : ZDsp) (q : BitVec 16) : BitVec 16 := ({ d with q := q }).next.q

theorem ZDsp.next_with_g (d : ZDsp) (g : Vector W72 64) : ({ d with g := g }).next = { d.next with g := g } := by
  unfold ZDsp.next ZDsp.stages
  dsimp only
  split
  · split_ifs <;> rfl
  · rfl

theorem ZDsp.next_with_sat (d : ZDsp) (b : Bool) : ({ d with sat := b }).next = { d.next with sat := b } := by
  unfold ZDsp.next ZDsp.stages
  dsimp only
  split
  · split_ifs <;> rfl
  · rfl

theorem ZDsp.next_with_acc (d : ZDsp) (a : Vector AccSt 4) : ({ d with acc := a }).next = { d.next with acc := a } := by
  unfold ZDsp.next ZDsp.stages
  dsimp only
  split
  · split_ifs <;> rfl
  · rfl

theorem ZDsp.next_with_q (d : ZDsp) (q : BitVec 16) : ({ d with q := q }).next = { d.next with q := d.nextQ q } := by
  unfold ZDsp.nextQ ZDsp.next ZDsp.stages
  dsimp only
  split
  · split_ifs <;> rfl
  · rfl


/-! Predicates (R199, R203). -/

/-- The stages lie above the predicates that compares set. -/
theorem stages_dvd (i trip : Nat) : ∀ (l : List Nat) (n : Nat), 256 ∣ n →
    256 ∣ l.foldl (fun n s => n + (if s ≤ i ∧ i - s < trip then 2 ^ (8 + s) else 0)) n
  | [], _, h => h
  | s :: l, n, h => by
    refine stages_dvd i trip l _ (Nat.dvd_add h ?_)
    split
    · exact ⟨2 ^ s, pow_add 2 8 s⟩
    · exact dvd_zero _

/-- A core's next bundle keeps predicates, or sets those of the stages. -/
theorem ZDsp.nextQ_cases (d : ZDsp) :
    (∀ q, d.nextQ q = q) ∨ ∃ hi, ∀ q : BitVec 16, d.nextQ q = BitVec.ofNat 16 (q.toNat % 2 ^ 8 + 2 ^ 8 * hi) := by
  have hs (ix : BitVec 16) (trip : Nat) := stages_dvd ix.toNat trip (List.range 8) 0 (dvd_zero _)
  unfold ZDsp.nextQ ZDsp.next ZDsp.stages
  dsimp only
  split
  · split_ifs
    · exact .inl fun _ => rfl
    · exact .inl fun _ => rfl
    · obtain ⟨m, hm⟩ := hs (d.ix + 1) (by assumption : DspLoop).trip
      exact .inr ⟨m, fun q => congrArg (fun n => BitVec.ofNat 16 (q.toNat % 2 ^ 8 + n)) hm⟩
    all_goals exact .inl fun _ => rfl
  · exact .inl fun _ => rfl

theorem ZDsp.nextQ_low (d : ZDsp) (q : BitVec 16) {k : Nat} (h : k < 8) : (d.nextQ q).getLsbD k = q.getLsbD k := by
  rcases d.nextQ_cases with e | ⟨hi, e⟩
  · rw [e]
  · rw [e, BitVec.getLsbD_ofNat, add_comm, Nat.testBit_two_pow_mul_add _ (Nat.mod_lt _ (by decide)), if_pos h, Nat.testBit_mod_two_pow,
      BitVec.getLsbD]
    simp [h, show k < 16 by omega]

theorem ZDsp.nextQ_high (d : ZDsp) {q q' : BitVec 16} {k : Nat} (h : 8 ≤ k) (hq : q'.getLsbD k = q.getLsbD k) :
    (d.nextQ q').getLsbD k = (d.nextQ q).getLsbD k := by
  rcases d.nextQ_cases with e | ⟨hi, e⟩
  · rw [e, e, hq]
  · rw [e, e, BitVec.getLsbD_ofNat, BitVec.getLsbD_ofNat, add_comm, add_comm (q.toNat % _),
      Nat.testBit_two_pow_mul_add _ (Nat.mod_lt _ (by decide)), Nat.testBit_two_pow_mul_add _ (Nat.mod_lt _ (by decide)),
      if_neg (by omega), if_neg (by omega)]

/-- A compare sets its predicate alone. -/
theorem Zone.setPred_q (z : Zone) {k : Nat} (hk : k < 16) (v : Bool) {j : Nat} (hj : j < 16) :
    (z.setPred k v).dsp.q.getLsbD j = if j = k then v else z.dsp.q.getLsbD j := by
  let w : Word := z.dsp.q.setWidth 32
  have hn : w.toNat = z.dsp.q.toNat := by
    rw [BitVec.toNat_setWidth, Nat.mod_eq_of_lt (lt_trans z.dsp.q.isLt (by decide))]
  have hw : (z.setPred k v).dsp.q = BitVec.setWidth 16 (setBit w k v) := by
    change BitVec.ofNat 16 _ = _
    rw [setBit, setFld, BitVec.setWidth_ofNat_of_le (by decide)]
    unfold fld
    rw [Nat.add_sub_cancel_left, pow_one, hn]
    cases v <;> rfl
  rw [hw, BitVec.getLsbD_setWidth, decide_eq_true hj, Bool.true_and, ← bit_eq_getLsbD]
  split
  · next e => rw [e, bit_setBit_same (by omega)]
  · next e =>
    rw [bit_setBit_ne (by omega) e, bit_eq_getLsbD, BitVec.getLsbD_setWidth]
    simp [show j < 32 by omega]


/-! Landing commutes with changes of what does not land. -/

theorem foldl_land_comm {f : ZDsp → ZDsp} (hf : ∀ d r, (f d).land r = f (d.land r)) (l : List DspRes) (d : ZDsp) :
    l.foldl ZDsp.land (f d) = f (l.foldl ZDsp.land d) := by
  induction l generalizing d with
  | nil => rfl
  | cons r t ih => rw [List.foldl_cons, hf, ih, List.foldl_cons]

theorem ZDsp.tickRes_with_q (d : ZDsp) (q : BitVec 16) : ({ d with q := q }).tickRes = { d.tickRes with q := q } :=
  congrArg (fun e : ZDsp => { e with pend := d.tickRes.pend })
    (foldl_land_comm (f := fun d => { d with q := q }) (fun _ _ => rfl) _ d)

theorem ZDsp.tickRes_with_sat (d : ZDsp) (b : Bool) : ({ d with sat := b }).tickRes = { d.tickRes with sat := b } :=
  congrArg (fun e : ZDsp => { e with pend := d.tickRes.pend })
    (foldl_land_comm (f := fun d => { d with sat := b }) (fun _ _ => rfl) _ d)

theorem ZDsp.tickRes_with_acc (d : ZDsp) (a : Vector AccSt 4) : ({ d with acc := a }).tickRes = { d.tickRes with acc := a } :=
  congrArg (fun e : ZDsp => { e with pend := d.tickRes.pend })
    (foldl_land_comm (f := fun d => { d with acc := a }) (fun _ _ => rfl) _ d)

/-- The core once a bundle whose slots have left d of a core with the accumulators a has counted (R201). -/
def ZDsp.counted (d : ZDsp) (a : Vector AccSt 4) : ZDsp := { d.tickRes with accOld := a, cycle := d.tickRes.cycle + 1 }

/-- The same at the next bundle. -/
def ZDsp.after (d : ZDsp) (a : Vector AccSt 4) : ZDsp := (d.counted a).next

theorem ZDsp.passed_eq (d : ZDsp) : d.passed = d.after d.acc := by
  rw [ZDsp.passed, ZDsp.after, ZDsp.counted, d.tickRes_frame]

theorem ZDsp.after_sat (d : ZDsp) (b : Bool) (a : Vector AccSt 4) :
    ({ d with sat := b }).after a = { d.after a with sat := b } := by
  rw [ZDsp.after, ZDsp.counted, ZDsp.tickRes_with_sat]
  exact ZDsp.next_with_sat (d.counted a) b

theorem ZDsp.after_acc (d : ZDsp) (x a : Vector AccSt 4) :
    ({ d with acc := x }).after a = { d.after a with acc := x } := by
  rw [ZDsp.after, ZDsp.counted, ZDsp.tickRes_with_acc]
  exact ZDsp.next_with_acc (d.counted a) x

theorem ZDsp.after_flags (d : ZDsp) (x a : Vector AccSt 4) (b : Bool) :
    ({ d with acc := x, sat := b }).after a = { d.after a with acc := x, sat := b } := by
  have h := ZDsp.after_sat { d with acc := x } b a
  rw [ZDsp.after_acc] at h
  exact h

theorem ZDsp.after_q (d : ZDsp) (q : BitVec 16) (a : Vector AccSt 4) :
    ({ d with q := q }).after a = { d.after a with q := (d.counted a).nextQ q } := by
  rw [ZDsp.after, ZDsp.counted, ZDsp.tickRes_with_q]
  exact ZDsp.next_with_q (d.counted a) q

theorem ZDsp.after_issues (d : ZDsp) (n : Fin 64) (part : Nat) (v : W72) :
    (d.issues n part v).after d.acc = { d.passed with g := (d.issues n part v).tickRes.g } := by
  rw [ZDsp.passed_eq, ZDsp.after, ZDsp.counted, ZDsp.issues_tickRes]
  exact ZDsp.next_with_g (d.counted d.acc) _

theorem ZDsp.passed_sat (d : ZDsp) : d.passed.sat = d.sat := by
  have h := congrArg ZDsp.sat (ZDsp.after_sat d d.sat d.acc)
  rw [ZDsp.passed_eq]
  exact h

/-! A bundle with one ALU slot (R197, R199). -/

theorem fin_val {n : Nat} [NeZero n] (k : Fin n) : fin n k.val = k := Fin.ofNat_val_eq_self k

section fields
variable (op : Nat) (g : Fin 16) (d r : Fin 64) (x : Fin 8)

theorem aluOf_arg : (Bundle.ofAlu op (aluOf g d r x)).aarg = d.val * 512 + r.val * 8 + x.val :=
  Nat.mod_eq_of_lt (by omega)

theorem aluOf_d : (Bundle.ofAlu op (aluOf g d r x)).d = d.val := by
  rw [Bundle.d, aluOf_arg]
  omega

theorem aluOf_s : (Bundle.ofAlu op (aluOf g d r x)).s = r.val := by
  rw [Bundle.s, aluOf_arg]
  omega

theorem aluOf_x : (Bundle.ofAlu op (aluOf g d r x)).x = x.val := by
  rw [Bundle.x, aluOf_arg]
  omega

/-- The accumulator that an accumulator read or store names. -/
theorem aluOf_acc {a : Fin 4} (h : r.val = a.val) (acc : Vector AccSt 4) :
    acc[fin 4 (Bundle.ofAlu op (aluOf g d r x)).s] = acc[a] := by
  simp only [aluOf_s, h, fin_val]

end fields

/-- An ALU slot but BR, LOOP and END is followed by the next bundle. -/
theorem ZDsp.control_next (d : ZDsp) {d0 : ZDsp} {b : Bundle} (hg : d0.guard b.ga = true) (ho : b.aop < 24) :
    d.control d0 b = d.next := by
  unfold ZDsp.control
  rw [hg, if_neg (by simp)]
  split
  · omega
  · omega
  · omega
  · rfl

/-- A legal ALU slot whose guard holds and that does not branch acts, and the next bundle follows. -/
theorem Zone.issue_acts {z : Zone} {h : HostC} {op : Nat} {f : AluF} (hg : z.dsp.guard f.g.val = true)
    (hb : (Bundle.ofAlu op f).aluBad z.dsp.pc = false) (ho : op < 24) {u y : Zone}
    (hu : (if op = 22 then z.fclr (Bundle.ofAlu op f).s (Bundle.ofAlu op f).x else z) = u)
    (hy : u.aluSlot z.dsp (Bundle.ofAlu op f) = y) :
    z.issue h (Bundle.ofAlu op f) = { y with dsp := y.dsp.after z.dsp.acc } := by
  have hi : (Bundle.ofAlu op f).illegal z.dsp = false := by
    have h25 : (op == 25) = false := by simpa using (by omega : op ≠ 25)
    have hm : (Bundle.ofAlu op f).macBad = false := rfl
    have he : (Bundle.ofAlu op f).memBad = false := rfl
    have ha : (Bundle.ofAlu op f).aop = op := rfl
    simp [Bundle.illegal, hm, he, hb, ha, h25]
  have hm (u : Zone) : (if z.dsp.guard (Bundle.ofAlu op f).gm then u.macSlot z.dsp (Bundle.ofAlu op f) else u) = u := ite_self u
  have he : (if z.dsp.guard (Bundle.ofAlu op f).ge then z.memSlot z.dsp h (Bundle.ofAlu op f) else (none, z)) = (none, z) :=
    ite_self _
  have hga : z.dsp.guard (Bundle.ofAlu op f).ga = true := hg
  have hc (e : ZDsp) : e.control z.dsp (Bundle.ofAlu op f) = e.next := ZDsp.control_next e hga ho
  unfold Zone.issue
  dsimp only
  rw [hi, if_neg (by simp), he]
  dsimp only
  rw [hm, hga, if_pos rfl, hc]
  simp only [and_true]
  rw [show (Bundle.ofAlu op f).aop = op from rfl, hu, hy]
  rfl

theorem Zone.issue_alu {z : Zone} {h : HostC} {op : Nat} {f : AluF} (hg : z.dsp.guard f.g.val = true)
    (hb : (Bundle.ofAlu op f).aluBad z.dsp.pc = false) (ho : op < 24) (ho' : op ≠ 22) {y : Zone}
    (hy : z.aluSlot z.dsp (Bundle.ofAlu op f) = y) :
    z.issue h (Bundle.ofAlu op f) = { y with dsp := y.dsp.after z.dsp.acc } :=
  Zone.issue_acts hg hb ho (if_neg ho') hy

/-- SAT by a store, its flag of the page, and what it reports (R80). -/
theorem Zone.dspSat_noted {z : Zone} (h : z.regsWf = true) (num : Nat) : ∃ q r,
    z.dspSat num = { z with dsp := { z.dsp with sat := true }, msgs := q, regs := r } ∧
    RegMapBut [0x300C, Reg.MSG_DROPPED] z r ∧ bit (smGet zoneRst r 0x300C) 2 = true := by
  have hb := Zone.bit_putBit_same h 0x300C (i := 2) (by decide) true
  have hw : (z.putBit 0x300C 2 true).regsWf = true := Zone.putBit_regsWf h _ _ _
  unfold Zone.dspSat
  split
  next hs =>
    have he : ({ z with dsp := { z.dsp with sat := true } } : Zone) = z := by rw [← hs]
    exact ⟨z.msgs, _, congrArg (Zone.setFlt · 0x3000 2) he.symm, (RegMapBut.refl h).set (by simp) _, hb⟩
  next hs =>
    unfold Zone.arith
    dsimp only
    split
    · obtain ⟨q, r, e, hr⟩ := Zone.send_but (l := [Reg.MSG_DROPPED]) (z := ({ z with dsp := { z.dsp with sat := true } }).setFlt 0x3000 2)
        hw (by simp) clsReport 0x0040 [BitVec.ofNat 8 (0x3000 / 1024), BitVec.ofNat 8 num, BitVec.ofNat 8 2]
      refine ⟨q, r, e, ?_, ?_⟩
      · exact RegMapBut.trans (z' := z.putBit 0x300C 2 true) ((RegMapBut.refl h).set (by simp) _) (hr.mono (by simp))
      · exact (congrArg (bit · 2) (hr.2 0x300C (by decide))).trans hb
    · exact ⟨z.msgs, _, rfl, (RegMapBut.refl h).set (by simp) _, hb⟩

/-! What an ALU slot leaves (R199). -/

section leaves
variable {s : State} {i : ZoneId} {c : Instr} {b : Bundle} {z n : Zone} (hz : s.zones[i] = z) (hq : Quiet s i)
  (hc : exec c s = slotRow s i b)
include hz hq hc

/-- A bundle that changes the DSP alone. -/
theorem slot_dsp {d : ZDsp} (hn : z.issue s.host b = { z with dsp := d }) : Completes c s (DspIs i s d) := by
  subst hz
  exact event_mute rfl hq hc hn ⟨⟨rfl, rfl, rfl, rfl, rfl, rfl⟩, rfl, rfl⟩

/-- A bundle that issues one result, which lands at once, and that may set SAT. -/
theorem slot_leaves {d : Fin 64} {part : Nat} {w v : W72} {sat : Bool} {q : MsgQ} {r : RegMap}
    (hn : z.issue s.host b = { z with
      dsp := ({ z.dsp.issues (z.dsp.phys d) part w with sat := z.dsp.sat || sat }).after z.dsp.acc, msgs := q, regs := r })
    (hv : DspRes.landed { dly := 0, reg := z.dsp.phys d, part := part, val := w } (z.dsp.rd d) = v)
    (hr : RegMapBut [0x300C, Reg.MSG_DROPPED] z r) (hf : sat = true → bit (smGet zoneRst r 0x300C) 2 = true)
    (hs : sat = false → q = z.msgs ∧ r = z.regs) : Completes c s (AluLeaves i s d v sat) := by
  rw [ZDsp.after_sat, ZDsp.after_issues] at hn
  have ho := event_silent hz hq (f := fun z h => z.issue h b) hc hn ⟨rfl, rfl, rfl, rfl, rfl, rfl⟩
  have hm (h : sat = false) := event_mute hz hq (f := fun z h => z.issue h b) hc hn
    ⟨⟨rfl, rfl, rfl, rfl, rfl, rfl⟩, by rw [(hs h).1], rfl⟩
  subst hz
  obtain ⟨t, hx, ht, ho⟩ := ho
  have hl (h : sat = false) : Lone i s t := ((hm h).of_next hx).2
  have hd : ({ t with zones := t.zones.set i { t.zones[i] with draws := s.zones[i].draws } } : State) = t := by
    rw [ht, ← ht]
    simp
  refine ⟨t, hx, ⟨?_, fun m hm => ?_⟩, ?_, fun h => ?_, ?_, fun h => ⟨?_, hl h⟩⟩
  · rw [ht]
    exact (ZDsp.issues_same ..).trans hv
  · rw [ht]
    exact ZDsp.issues_ne _ hm ..
  · rw [ht]
  · rw [ht]
    exact hf h
  · rw [hd]
    refine ⟨?_, fun k hk => ?_, ho⟩
    · rw [ht]
    · rw [ht]
      exact hr.2 k hk
  · rw [ht, (hs h).1, (hs h).2]

end leaves

/-! The rows of compares, accumulator reads and stores, HMOV and FCLR (Table 10-4). -/

section legal
variable (g : Fin 16) (d r : Fin 64) (x : Fin 8) (pc : Nat)

theorem compare_legal {op : Nat} (ho : 16 ≤ op ∧ op ≤ 18) (hx : x.val < 7) :
    (Bundle.ofAlu op (aluOf g d r x)).aluBad pc = false := by
  unfold Bundle.aluBad
  rw [show (Bundle.ofAlu op (aluOf g d r x)).aop = op from rfl, if_neg (by omega), if_pos ho, aluOf_x]
  simpa using (by omega : x.val ≠ 7)

theorem accumulator_legal {op : Nat} (ho : 19 ≤ op ∧ op ≤ 21) (hr : r.val < 4) :
    (Bundle.ofAlu op (aluOf g d r x)).aluBad pc = false := by
  unfold Bundle.aluBad
  rw [show (Bundle.ofAlu op (aluOf g d r x)).aop = op from rfl, if_neg (by omega), if_neg (by omega), if_pos ho, aluOf_s]
  simpa using hr

end legal

/-- What a half leaves that lands. -/
theorem DspRes.landed_half (n : Fin 64) (l : Bool) (v : Int) (u : W72) :
    DspRes.landed { dly := 0, reg := n, part := if l then 2 else 1, val := withHalf 0 l v } u = withHalf u l v := by
  cases l with
  | false => simp [DspRes.landed, withHalf_high]
  | true => simp [DspRes.landed, withHalf_low]

section rows
variable {s : State} {i : ZoneId} {c : Instr} {op : Nat} {g : Fin 16} {d r : Fin 64} {x : Fin 8} {z : Zone}
  (hz : s.zones[i] = z) (hq : Quiet s i) (hg : z.dsp.guard g.val = true)
  (hc : exec c s = slotRow s i (Bundle.ofAlu op (aluOf g d r x)))
include hz hq hg hc

/-- A slot with a result for a register or a half of one. -/
theorem alu_result {part : Nat} {w v : W72} (hb : (Bundle.ofAlu op (aluOf g d r x)).aluBad z.dsp.pc = false) (ho : op < 24)
    (ho' : op ≠ 22) (hy : z.aluSlot z.dsp (Bundle.ofAlu op (aluOf g d r x)) = z.dspRes z.dsp 1 d.val part w)
    (hv : DspRes.landed { dly := 0, reg := z.dsp.phys d, part := part, val := w } (z.dsp.rd d) = v) :
    Completes c s (AluLeaves i s d v false) := by
  refine slot_leaves hz hq hc (part := part) (w := w) (q := z.msgs) (r := z.regs) ?_ hv (.refl (Quiet.regsWf hz hq)) nofun
    fun _ => ⟨rfl, rfl⟩
  rw [Zone.issue_alu hg hb ho ho' hy, Zone.dspRes, fin_val, Bool.or_false]
  rfl

/-- A compare. -/
theorem compare_completes {b : Bool} (ho : 16 ≤ op ∧ op ≤ 18) (hx : x.val < 7)
    (hy : z.aluSlot z.dsp (Bundle.ofAlu op (aluOf g d r x)) = z.setPred (x.val + 1) b) :
    Completes c s (fun t => (∀ k : Fin 16, t.zones[i].dsp.q.getLsbD k.val =
        if k.val = x.val + 1 then b else z.dsp.passed.q.getLsbD k.val) ∧
      DspIs i s { z.dsp.passed with q := t.zones[i].dsp.q } t) := by
  have hn := Zone.issue_alu (h := s.host) hg (compare_legal g d r x z.dsp.pc ho hx) (by omega) (by omega) hy
  have hp (k : Fin 16) := z.setPred_q (k := x.val + 1) (by omega) b k.isLt
  generalize hQ : (z.setPred (x.val + 1) b).dsp.q = q at hp
  have hd : (z.setPred (x.val + 1) b).dsp = { z.dsp with q := q } := by rw [← hQ]; rfl
  have he : z.issue s.host (Bundle.ofAlu op (aluOf g d r x)) =
      { z with dsp := { z.dsp.passed with q := (z.dsp.counted z.dsp.acc).nextQ q } } := by
    rw [hn, hd, ZDsp.after_q, ← ZDsp.passed_eq]
    rfl
  have hpq : z.dsp.passed.q = (z.dsp.counted z.dsp.acc).nextQ z.dsp.q := by
    have h := congrArg ZDsp.q (ZDsp.after_q z.dsp z.dsp.q z.dsp.acc)
    rw [ZDsp.passed_eq]
    exact h
  refine (slot_dsp hz hq hc he).imp fun t ⟨ht, hl⟩ => ⟨fun k => ?_, ?_, hl⟩
  · rw [ht, hpq]
    dsimp only
    by_cases hk : k.val < 8
    · rw [ZDsp.nextQ_low _ _ hk, ZDsp.nextQ_low _ _ hk, hp]
    · rw [if_neg (by omega)]
      exact ZDsp.nextQ_high _ (by omega) ((hp k).trans (if_neg (by omega)))
  · rw [ht]

/-- A store of an accumulator (R79). -/
theorem store_completes {a : Fin 4} {st : Int × Bool} (ho : op = 20 ∨ op = 21) (hr : r.val = a.val)
    (hy : z.aluSlot z.dsp (Bundle.ofAlu op (aluOf g d r x)) =
      if st.2 then (z.dspHalf z.dsp 1 d.val (x.val % 2 == 1) st.1).dspSat (r.val % 4)
        else z.dspHalf z.dsp 1 d.val (x.val % 2 == 1) st.1) :
    Completes c s (AluLeaves i s d (withHalf (z.dsp.rd d) (x.val % 2 == 1) st.1) st.2) := by
  have hb := accumulator_legal g d r x z.dsp.pc (op := op) (by omega) (by omega)
  have hw := Quiet.regsWf hz hq
  obtain ⟨v, sat⟩ := st
  cases sat with
  | false =>
    exact alu_result hz hq hg hc hb (by omega) (by omega) (hy.trans (if_neg (by simp))) (DspRes.landed_half ..)
  | true =>
    have hi := Zone.issue_alu (h := s.host) hg hb (by omega) (by omega) (hy.trans (if_pos rfl))
    obtain ⟨q, m, e, hm, hf⟩ := Zone.dspSat_noted (z := z.dspHalf z.dsp 1 d.val (x.val % 2 == 1) v) hw (r.val % 4)
    refine slot_leaves hz hq hc (q := q) (r := m) ?_ (DspRes.landed_half _ (x.val % 2 == 1) v _) hm (fun _ => hf) nofun
    rw [hi, e, Bool.or_true, Zone.dspHalf, Zone.dspRes, fin_val]
    rfl

end rows

/-- Settles O31: each row is one slot of `Zone.aluSlot`, or FCLR's `Zone.fclr`. -/
theorem dspFlags : Obligations.DspFlags := by
  intro s i g d r x z hz hq hg u v hu hv
  subst hu hv
  have hbeq : ((z.dsp.rd d).toInt == (z.dsp.rd r).toInt) = (z.dsp.rd d == z.dsp.rd r) := by
    rw [Bool.eq_iff_iff, beq_iff_eq, beq_iff_eq, BitVec.toInt_inj]
  refine ⟨fun hx b => ⟨fun hb => ?_, fun hb => ?_, fun hb => ?_⟩, fun a ha => ⟨?_, ?_, ?_⟩, ?_, ?_⟩
  · let b := Bundle.ofAlu 16 (aluOf g d r x)
    have hy : z.aluSlot z.dsp b = z.setPred (b.x + 1) ((z.dsp.rd (fin 64 b.d)).toInt == (z.dsp.rd (fin 64 b.s)).toInt) := rfl
    rw [aluOf_x, aluOf_d, aluOf_s, fin_val, fin_val, hbeq, ← hb] at hy
    exact compare_completes hz hq hg rfl (by decide) hx hy
  · let b := Bundle.ofAlu 17 (aluOf g d r x)
    have hy : z.aluSlot z.dsp b =
      z.setPred (b.x + 1) (decide ((z.dsp.rd (fin 64 b.d)).toInt < (z.dsp.rd (fin 64 b.s)).toInt)) := rfl
    rw [aluOf_x, aluOf_d, aluOf_s, fin_val, fin_val, ← hb] at hy
    exact compare_completes hz hq hg rfl (by decide) hx hy
  · let b := Bundle.ofAlu 18 (aluOf g d r x)
    have hy : z.aluSlot z.dsp b =
      z.setPred (b.x + 1) (decide ((z.dsp.rd (fin 64 b.d)).toInt ≤ (z.dsp.rd (fin 64 b.s)).toInt)) := rfl
    rw [aluOf_x, aluOf_d, aluOf_s, fin_val, fin_val, ← hb] at hy
    exact compare_completes hz hq hg rfl (by decide) hx hy
  · let b := Bundle.ofAlu 19 (aluOf g d r x)
    have hy : z.aluSlot z.dsp b = z.dspRes z.dsp 1 b.d 0 (BitVec.ofInt 72 z.dsp.accOld[fin 4 b.s].read) := rfl
    have hr := accumulator_legal g d r x z.dsp.pc (op := 19) (by decide) (by omega)
    rw [aluOf_d, aluOf_acc 19 g d r x ha] at hy
    exact alu_result hz hq hg rfl hr (by decide) (by decide) hy rfl
  · let b := Bundle.ofAlu 20 (aluOf g d r x)
    have hy : z.aluSlot z.dsp b = if (z.dsp.accOld[fin 4 b.s].store tgtS36).2 then
        (z.dspHalf z.dsp 1 b.d (b.x % 2 == 1) (z.dsp.accOld[fin 4 b.s].store tgtS36).1).dspSat (b.s % 4)
      else z.dspHalf z.dsp 1 b.d (b.x % 2 == 1) (z.dsp.accOld[fin 4 b.s].store tgtS36).1 := rfl
    rw [aluOf_acc 20 g d r x ha, aluOf_d, aluOf_s, aluOf_x] at hy
    exact store_completes hz hq hg rfl (.inl rfl) ha hy
  · let b := Bundle.ofAlu 21 (aluOf g d r x)
    have hy : z.aluSlot z.dsp b = if (z.dsp.accOld[fin 4 b.s].store tgtG36).2 then
        (z.dspHalf z.dsp 1 b.d (b.x % 2 == 1) (z.dsp.accOld[fin 4 b.s].store tgtG36).1).dspSat (b.s % 4)
      else z.dspHalf z.dsp 1 b.d (b.x % 2 == 1) (z.dsp.accOld[fin 4 b.s].store tgtG36).1 := rfl
    rw [aluOf_acc 21 g d r x ha, aluOf_d, aluOf_s, aluOf_x] at hy
    exact store_completes hz hq hg rfl (.inr rfl) ha hy
  · let b := Bundle.ofAlu 23 (aluOf g d r x)
    have hy : z.aluSlot z.dsp b =
      z.dspHalf z.dsp 1 b.d (b.x / 2 % 2 == 1) (halfOf (z.dsp.rd (fin 64 b.s)) (b.x % 2 == 1)) := rfl
    rw [aluOf_d, aluOf_s, aluOf_x, fin_val] at hy
    exact alu_result hz hq hg rfl rfl (by decide) (by decide) hy (DspRes.landed_half ..)
  · let b := Bundle.ofAlu 22 (aluOf g d r x)
    have hu : (if (22 : Nat) = 22 then z.fclr b.s b.x else z) = z.fclr r.val x.val := by
      rw [if_pos rfl, aluOf_s, aluOf_x]
    have hn := Zone.issue_acts (h := s.host) (f := aluOf g d r x) hg rfl (by decide) hu rfl
    have hd : (z.fclr r.val x.val).dsp.after z.dsp.acc = { z.dsp.passed with
        acc := (z.fclr r.val x.val).dsp.acc, sat := z.dsp.sat && x.val % 2 == 0 } := by
      rw [ZDsp.passed_eq]
      exact ZDsp.after_flags z.dsp _ _ _
    refine (slot_dsp hz hq rfl (hn.trans (congrArg (fun e : ZDsp => { z with dsp := e }) hd))).imp
      fun t ⟨ht, hl⟩ => ⟨fun a => ?_, ?_, ?_, hl⟩
    · rw [ht]
      simp [Zone.fclr]
    · rw [ht]
    · rw [ht]

end Sys2Proof.Machine
end

section
namespace Sys2Proof.Machine

/-! The memories of a zone, and when they are canonical. -/

/-- The memories of a zone's DSP (R196, R213). -/
structure DspMemories where
  prog  : Mem72
  data  : Mem72
  parA  : Mem72
  parB  : Mem72
  dly   : Mem72
  stale : List (Nat × Bool)

/-- The memories of a zone (Table 17-1): voice blocks, route images, sample cache, those of the DSP, and the errors that words
hold. -/
structure Memories where
  battA : Mem72
  battB : Mem72
  batA  : Mem72
  batB  : Mem72
  cache : Mem72
  dsp   : DspMemories
  marks : List (Nat × Nat)

/-- The memories of this DSP. -/
def ZDsp.memories (d : ZDsp) : DspMemories :=
  { prog := d.prog, data := d.data, parA := d.parA, parB := d.parB, dly := d.dly, stale := d.stale }

/-- The memories of this zone. -/
def Zone.memories (z : Zone) : Memories :=
  { battA := z.vox.battA, battB := z.vox.battB, batA := z.route.batA, batB := z.route.batB, cache := z.cache.mem
    dsp := z.dsp.memories, marks := z.mem.marks }

/-- Every memory of a DSP in canonical form. -/
structure DspMemories.Canon (m : DspMemories) : Prop where
  prog  : m72Wf m.prog = true
  data  : m72Wf m.data = true
  parA  : m72Wf m.parA = true
  parB  : m72Wf m.parB = true
  dly   : m72Wf m.dly = true
  stale : smWf (fun _ => false) 0 m.stale = true

/-- Every memory in canonical form. -/
structure Memories.Canon (m : Memories) : Prop where
  battA : m72Wf m.battA = true
  battB : m72Wf m.battB = true
  batA  : m72Wf m.batA = true
  batB  : m72Wf m.batB = true
  cache : m72Wf m.cache = true
  dsp   : m.dsp.Canon
  marks : smWf (fun _ => (0 : Nat)) 0 m.marks = true

theorem Zone.memWf_iff {z : Zone} : z.memWf = true ↔ z.memories.Canon := by
  simp only [Zone.memWf, Bool.and_eq_true, and_assoc]
  exact ⟨fun ⟨a, b, c, d, e, f, g, h, i, j, k, l⟩ => ⟨a, b, c, d, e, ⟨f, g, h, i, j, k⟩, l⟩,
    fun ⟨a, b, c, d, e, ⟨f, g, h, i, j, k⟩, l⟩ => ⟨a, b, c, d, e, f, g, h, i, j, k, l⟩⟩

/-- A zone's memories are those of its parts, whatever else of it is replaced. -/
@[simp] theorem Zone.memories_mk (id ctl pwr regs time pll pos tmr sched swaps msgs voices) (vox : ZVox) (winH winP)
    (cache : ZCache) (route : ZRoute) (lim) (dsp : ZDsp) (dec aec gov out) (mem : ZMem) (draws) :
    (Zone.mk id ctl pwr regs time pll pos tmr sched swaps msgs voices vox winH winP cache route lim dsp dec aec gov out mem
      draws).memories =
    { battA := vox.battA, battB := vox.battB, batA := route.batA, batB := route.batB, cache := cache.mem
      dsp := dsp.memories, marks := mem.marks } := rfl

@[simp] theorem Zone.memories_eta (z : Zone) : ({
    battA := z.vox.battA, battB := z.vox.battB, batA := z.route.batA, batB := z.route.batB, cache := z.cache.mem
    dsp := z.dsp.memories, marks := z.mem.marks } : Memories) = z.memories := rfl

@[simp] theorem ZDsp.memories_mk (g acc accOld pt lc ro ix q pc loop pend prog data parA parB dly stale diIn doReg doOut rqA
    rqB reqs late rqFull rtn hnum harg tcause tpc sat tapclamp wcoll regdeny raddr handlers timerEv running loaded abandoned
    dead cycle delay lastEnd met) :
    (ZDsp.mk g acc accOld pt lc ro ix q pc loop pend prog data parA parB dly stale diIn doReg doOut rqA
      rqB reqs late rqFull rtn hnum harg tcause tpc sat tapclamp wcoll regdeny raddr handlers timerEv running loaded abandoned
      dead cycle delay lastEnd met).memories =
    { prog := prog, data := data, parA := parA, parB := parB, dly := dly, stale := stale } := rfl

@[simp] theorem ZDsp.memories_eta (d : ZDsp) : ({ prog := d.prog, data := d.data, parA := d.parA, parB := d.parB
                                                  dly := d.dly, stale := d.stale } : DspMemories) = d.memories := rfl

/-! Most operations of a zone write none of its memories. First those of registers, records and simple updates. -/

@[simp] theorem Zone.setReg_memories (z : Zone) (k : Nat) (v : Word) : (z.setReg k v).memories = z.memories := rfl

@[simp] theorem Zone.putFld_memories (z : Zone) (k hi lo v : Nat) : (z.putFld k hi lo v).memories = z.memories := rfl

@[simp] theorem Zone.putBit_memories (z : Zone) (k i : Nat) (b : Bool) : (z.putBit k i b).memories = z.memories := rfl

@[simp] theorem Zone.count_memories (z : Zone) (k hi lo n : Nat) : (z.count k hi lo n).memories = z.memories := rfl

@[simp] theorem Zone.setFlt_memories (z : Zone) (page i : Nat) : (z.setFlt page i).memories = z.memories := rfl

@[simp] theorem Zone.modOut_memories (z : Zone) (f : ZOut → ZOut) : (z.modOut f).memories = z.memories := rfl

@[simp] theorem Zone.modGov_memories (z : Zone) (f : ZGov → ZGov) : (z.modGov f).memories = z.memories := rfl

@[simp] theorem Zone.modSwap_memories (z : Zone) (p : Fin 6) (f : ZSwap → ZSwap) : (z.modSwap p f).memories = z.memories := rfl

@[simp] theorem Zone.ampEval_memories (z : Zone) : z.ampEval.memories = z.memories := rfl

@[simp] theorem Zone.taken_memories (z : Zone) : z.taken.memories = z.memories := rfl

@[simp] theorem Zone.send_memories (z : Zone) (cls code : Nat) (params : List Byte) :
    (z.send cls code params).memories = z.memories := by
  unfold Zone.send
  dsimp only
  split_ifs <;> rfl

end Sys2Proof.Machine
end

section
namespace Sys2Proof.Machine

/-! The memories of a zone under operations that repeat or choose. -/

theorem iter_memories {f : Nat → Zone → Zone} (hf : ∀ k z, (f k z).memories = z.memories) (n : Nat) (z : Zone) :
    (iter n f z).memories = z.memories :=
  iterFrom_keeps (g := Zone.memories) hf 0 n z

theorem iter_snd_memories {α : Type} {f : Nat → α × Zone → α × Zone}
    (hf : ∀ k a, (f k a).2.memories = a.2.memories) (n : Nat) (a : α × Zone) : (iter n f a).2.memories = a.2.memories :=
  iterFrom_keeps (g := fun a : α × Zone => a.2.memories) hf 0 n a

theorem foldl_memories {γ : Type} {f : Zone → γ → Zone} (hf : ∀ z x, (f z x).memories = z.memories) (l : List γ) (z : Zone) :
    (l.foldl f z).memories = z.memories :=
  foldl_keeps (g := Zone.memories) hf l z

theorem foldl_snd_memories {α γ : Type} {f : α × Zone → γ → α × Zone}
    (hf : ∀ a x, (f a x).2.memories = a.2.memories) (l : List γ) (a : α × Zone) : (l.foldl f a).2.memories = a.2.memories :=
  foldl_keeps (g := fun a : α × Zone => a.2.memories) hf l a

@[simp] theorem ite_memories (c : Prop) [Decidable c] (a b : Zone) :
    (if c then a else b).memories = if c then a.memories else b.memories := apply_ite Zone.memories c a b

@[simp] theorem ite_snd_memories {α : Type} (c : Prop) [Decidable c] (a b : α × Zone) :
    (if c then a else b).2.memories = if c then a.2.memories else b.2.memories :=
  apply_ite (fun r : α × Zone => r.2.memories) c a b

theorem underTest_memories {f : Zone → Zone} (hf : ∀ z, (f z).memories = z.memories) (z : Zone) :
    (z.underTest f).memories = z.memories := by
  unfold Zone.underTest
  split
  · exact hf _
  · exact hf _

end Sys2Proof.Machine
end

section
namespace Sys2Proof.Machine

/-! The operations of a zone that write none of its memories, those that keep its state (Table 1-2) first. -/

@[simp] theorem Zone.draw_memories (z : Zone) : z.draw.2.memories = z.memories := rfl

@[simp] theorem Zone.draw48_memories (z : Zone) : z.draw48.2.memories = z.memories := rfl

@[simp] theorem Zone.freeWord_memories (z : Zone) (what : Nat) : (z.freeWord what).2.memories = z.memories := rfl

@[simp] theorem Zone.freeCond_memories (z : Zone) (what : Nat) : (z.freeCond what).2.memories = z.memories := rfl

@[simp] theorem Zone.arith_memories (z : Zone) (page acc flag : Nat) : (z.arith page acc flag).memories = z.memories := by
  simp [Zone.arith]

@[simp] theorem Zone.routeValidate_memories (z : Zone) (arm : Bool) : (z.routeValidate arm).2.memories = z.memories := rfl

@[simp] theorem Zone.gainReq_memories (z : Zone) (k : Nat) (t : Int) : (z.gainReq k t).memories = z.memories := by
  unfold Zone.gainReq
  split <;> simp

@[simp] theorem Zone.routeSwapped_memories (z : Zone) (old new : Mem72) : (z.routeSwapped old new).memories = z.memories := by
  simp only [Zone.routeSwapped]
  rw [iter_memories (fun k z => by simp), iter_memories (fun k z => by simp)]
  simp

@[simp] theorem Zone.spliceDrop_memories (z : Zone) : z.spliceDrop.memories = z.memories := rfl

@[simp] theorem Zone.gainsWarm_memories (z : Zone) : z.gainsWarm.memories = z.memories := rfl

@[simp] theorem Zone.lfoStart_memories (z : Zone) (p : LfoP) (old : Option LfoSt) :
    (z.lfoStart p old).2.memories = z.memories := by
  simp only [Zone.lfoStart]
  split <;> simp

@[simp] theorem Zone.oscStart_memories (z : Zone) (h : HostC) (v n : Nat) (p : OscP) :
    (z.oscStart h v n p).2.2.memories = z.memories := by
  simp only [Zone.oscStart]
  repeat' split
  all_goals simp

@[simp] theorem Zone.paramFault_memories (z : Zone) (item : Word) (v n : Nat) :
    (z.paramFault item v n).memories = z.memories := by
  simp [Zone.paramFault]

@[simp] theorem Zone.modVoice_memories (z : Zone) (v : Fin 96) (f : Voice → Voice) : (z.modVoice v f).memories = z.memories := rfl

@[simp] theorem Zone.dlRisk_memories (z : Zone) (handle : BitVec 16) (r : Rat) (d : DlSt) :
    (z.dlRisk handle r d).memories = z.memories := by
  simp [Zone.dlRisk]

@[simp] theorem Zone.dlMiss_memories (z : Zone) (handle : BitVec 16) (rem : Rat) :
    (z.dlMiss handle rem).memories = z.memories := by
  simp [Zone.dlMiss]

@[simp] theorem Zone.dlBegin_memories (z : Zone) (handle : BitVec 16) (rem : Rat) (d : DlSt) :
    (z.dlBegin handle rem d).2.memories = z.memories := by
  simp [Zone.dlBegin]

@[simp] theorem Zone.deadline_memories (z : Zone) (h : HostC) (v : Fin 96) (first : Bool) :
    (z.deadline h v first).memories = z.memories := by
  simp only [Zone.deadline]
  split <;> simp

@[simp] theorem Zone.ctlWord_memories (z : Zone) (v : Fin 96) (w : Word) : (z.ctlWord v w).memories = z.memories := by
  simp only [Zone.ctlWord]
  split_ifs <;> simp [iter_memories]

@[simp] theorem Zone.voiceBegin_memories (z : Zone) (h : HostC) (v : Fin 96) (st : Start) :
    (z.voiceBegin h v st).memories = z.memories := by
  simp [Zone.voiceBegin, foldl_memories]

@[simp] theorem Zone.waitDeadline_memories (z : Zone) (st : Start) : (z.waitDeadline st).2.memories = z.memories := by
  unfold Zone.waitDeadline
  split <;> simp

@[simp] theorem Zone.vrelOne_memories (z : Zone) (v : Fin 96) : (z.vrelOne v).memories = z.memories := rfl

@[simp] theorem Zone.vkillOne_memories (z : Zone) (v : Fin 96) : (z.vkillOne v).memories = z.memories := rfl

@[simp] theorem Zone.succLost_memories (z : Zone) (h : HostC) (v : Fin 96) : (z.succLost h v).memories = z.memories := by
  unfold Zone.succLost
  split <;> simp

@[simp] theorem Zone.lateStart_memories (z : Zone) (vo : Voice) : (z.lateStart vo).memories = z.memories := by
  simp [Zone.lateStart]

@[simp] theorem Zone.dropVoices_memories (z : Zone) : z.dropVoices.memories = z.memories := rfl

@[simp] theorem Zone.oscSwap_memories (z : Zone) (h : HostC) (v n : Nat) (old new : OscP) (o : OscSt) :
    (z.oscSwap h v n old new o).2.2.memories = z.memories := by
  simp only [Zone.oscSwap]
  repeat' split
  all_goals simp

@[simp] theorem Zone.voiceSwap_memories (z : Zone) (h : HostC) (old new : Mem72) (v : Fin 96) :
    (z.voiceSwap h old new v).memories = z.memories := by
  simp only [Zone.voiceSwap]
  split_ifs
  · rfl
  · repeat rw [iter_memories (fun k z => by simp)]

@[simp] theorem Zone.blocksSwapped_memories (z : Zone) (h : HostC) (old new : Mem72) :
    (z.blocksSwapped h old new).memories = z.memories := by
  simp [Zone.blocksSwapped, iter_memories]

@[simp] theorem Zone.arithOnce_memories (z : Zone) (page acc flag : Nat) : (z.arithOnce page acc flag).memories = z.memories := by
  simp [Zone.arithOnce]

@[simp] theorem Zone.accFlags_memories (z : Zone) (page num : Nat) (a b : AccSt) :
    (z.accFlags page num a b).memories = z.memories := by
  simp [Zone.accFlags]

@[simp] theorem Zone.decSample_memories (z : Zone) (n : Fin 4) (c : Int) : (z.decSample n c).memories = z.memories := by
  simp [Zone.decSample]

@[simp] theorem Zone.decFeed_memories (z : Zone) : z.decFeed.memories = z.memories := by
  unfold Zone.decFeed
  exact underTest_memories (fun z => foldl_memories (fun z n => by simp [foldl_memories]) _ _) _

@[simp] theorem Zone.decReset_memories (z : Zone) (n : Fin 4) : (z.decReset n).memories = z.memories := by
  simp [Zone.decReset]

@[simp] theorem Zone.fadesBegun_memories (z : Zone) : z.fadesBegun.memories = z.memories := rfl

@[simp] theorem Zone.decLoad_memories (z : Zone) (n : Fin 4) : (z.decLoad n).memories = z.memories := by
  simp [Zone.decLoad]

@[simp] theorem Zone.decLoadAll_memories (z : Zone) : z.decLoadAll.memories = z.memories := by
  simp [Zone.decLoadAll, foldl_memories]

@[simp] theorem Zone.chainStart_memories (z : Zone) : z.chainStart.memories = z.memories := rfl

@[simp] theorem Zone.decTick_memories (z : Zone) (n : Fin 4) : (z.decTick n).memories = z.memories := by
  simp [Zone.decTick]

@[simp] theorem Zone.decFreq_memories (z : Zone) (n : Fin 4) (v : Word) : (z.decFreq n v).memories = z.memories := rfl

@[simp] theorem Zone.crossEnd_memories (z : Zone) (n : Fin 4) : (z.crossEnd n).memories = z.memories := rfl

@[simp] theorem Zone.cdataHiRead_memories (z : Zone) (n : Fin 4) (p : Party) : (z.cdataHiRead n p).2.memories = z.memories := rfl

@[simp] theorem Zone.cdataLoRead_memories (z : Zone) (n : Fin 4) (p : Party) : (z.cdataLoRead n p).2.memories = z.memories := rfl

@[simp] theorem Zone.cdataLoWrite_memories (z : Zone) (n : Fin 4) (p : Party) (v : Word) :
    (z.cdataLoWrite n p v).2.memories = z.memories := by
  simp [Zone.cdataLoWrite]

@[simp] theorem Zone.erleWindow_memories (z : Zone) (c : Fin 2) : (z.erleWindow c).memories = z.memories := by
  simp [Zone.erleWindow]

@[simp] theorem Zone.bandsMsg_memories (z : Zone) : z.bandsMsg.memories = z.memories := by
  simp [Zone.bandsMsg]

@[simp] theorem Zone.bandCapture_memories (z : Zone) (p : Party) : (z.bandCapture p).memories = z.memories := by
  unfold Zone.bandCapture
  split <;> simp

@[simp] theorem Zone.windowEnd_memories (z : Zone) (c : Fin 2) : (z.windowEnd c).memories = z.memories := by
  simp [Zone.windowEnd]

@[simp] theorem Zone.ampTick_memories (z : Zone) : z.ampTick.memories = z.memories := rfl

@[simp] theorem Zone.spanWrite_memories (z : Zone) (v : Word) : (z.spanWrite v).memories = z.memories := by
  simp [Zone.spanWrite]

@[simp] theorem Zone.pilotAgain_memories (z : Zone) : z.pilotAgain.memories = z.memories := rfl

@[simp] theorem Zone.spanSwitch_memories (z : Zone) : z.spanSwitch.memories = z.memories := by
  simp [Zone.spanSwitch]

@[simp] theorem Zone.unmute_memories (z : Zone) : z.unmute.memories = z.memories := by
  unfold Zone.unmute
  split <;> simp

@[simp] theorem Zone.switchAct_memories (z : Zone) : z.switchAct.memories = z.memories := by
  simp [Zone.switchAct]

@[simp] theorem Zone.spanTick_memories (z : Zone) : z.spanTick.memories = z.memories := by
  simp [Zone.spanTick]

@[simp] theorem Zone.delayTick_memories (z : Zone) : z.delayTick.memories = z.memories := by
  simp [Zone.delayTick]

@[simp] theorem Zone.ampOnTick_memories (z : Zone) : z.ampOnTick.memories = z.memories := by
  simp [Zone.ampOnTick]

@[simp] theorem Zone.muStep_memories (z : Zone) : z.muStep.memories = z.memories := rfl

@[simp] theorem Zone.cmSettled_memories (z : Zone) : z.cmSettled.memories = z.memories := rfl

@[simp] theorem Zone.cmRamp_memories (n : Nat) (z : Zone) : (z.cmRamp n).memories = z.memories := by
  simp [Zone.cmRamp]

@[simp] theorem Zone.pilotWrite_memories (z : Zone) (v : Word) : (z.pilotWrite v).memories = z.memories := rfl

@[simp] theorem Zone.pilotTick_memories (z : Zone) : z.pilotTick.memories = z.memories := by
  simp [Zone.pilotTick]

@[simp] theorem Zone.burst_memories (z : Zone) : z.burst.memories = z.memories := by
  simp [Zone.burst]

@[simp] theorem Zone.fallbackTick_memories (z : Zone) : z.fallbackTick.memories = z.memories := by
  simp [Zone.fallbackTick]

@[simp] theorem Zone.testRestart_memories (z : Zone) : z.testRestart.memories = z.memories := rfl

@[simp] theorem Zone.testFrame_memories (z : Zone) : z.testFrame.memories = z.memories := by
  simp [Zone.testFrame]

@[simp] theorem Zone.stoneWrite_memories (z : Zone) (v : Word) : (z.stoneWrite v).memories = z.memories := by
  simp only [Zone.stoneWrite]
  split_ifs <;> simp

@[simp] theorem Zone.stoneTick_memories (z : Zone) : z.stoneTick.memories = z.memories := by
  simp [Zone.stoneTick]

@[simp] theorem Zone.stoneUpdate_memories (z : Zone) (u : Nat) : (z.stoneUpdate u).2.memories = z.memories := rfl

@[simp] theorem Zone.stoneFrame_memories (z : Zone) : z.stoneFrame.memories = z.memories := by
  simp [Zone.stoneFrame]

@[simp] theorem Zone.parkCodes_memories (z : Zone) : z.parkCodes.memories = z.memories := by
  simp [Zone.parkCodes]

@[simp] theorem Zone.pinsOff_memories (z : Zone) : z.pinsOff.memories = z.memories := by
  simp [Zone.pinsOff]

@[simp] theorem Zone.clrAssert_memories (z : Zone) : z.clrAssert.memories = z.memories := by
  simp [Zone.clrAssert]

@[simp] theorem Zone.clrRelease_memories (z : Zone) (sub : Nat) : (z.clrRelease sub).memories = z.memories := by
  simp [Zone.clrRelease]

@[simp] theorem Zone.clrFade_memories (z : Zone) : z.clrFade.memories = z.memories := rfl

@[simp] theorem Zone.clrAct_memories (z : Zone) : z.clrAct.memories = z.memories := by
  simp [Zone.clrAct]

@[simp] theorem Zone.clrStale_memories (z : Zone) : z.clrStale.memories = z.memories := by
  simp [Zone.clrStale]

@[simp] theorem Zone.clrTick_memories (z : Zone) : z.clrTick.memories = z.memories := by
  simp [Zone.clrTick]

@[simp] theorem Zone.clrSlowTick_memories (z : Zone) : z.clrSlowTick.memories = z.memories := by
  simp [Zone.clrSlowTick]

@[simp] theorem Zone.dacSat_memories (z : Zone) : z.dacSat.memories = z.memories := by
  simp [Zone.dacSat]

@[simp] theorem Zone.dacUpdate_memories (u : Nat) (z : Zone) : (z.dacUpdate u).memories = z.memories := by
  simp [Zone.dacUpdate]

@[simp] theorem Zone.outFrame_memories (z : Zone) (inp : FrameIn) : (z.outFrame inp).memories = z.memories := by
  simp [Zone.outFrame, iter_memories]

@[simp] theorem Zone.tdmStart_memories (z : Zone) : z.tdmStart.memories = z.memories := by
  simp [Zone.tdmStart]

@[simp] theorem Zone.tdmEnd_memories (z : Zone) (v : Vector Word 8) : (z.tdmEnd v).memories = z.memories := by
  simp [Zone.tdmEnd]

@[simp] theorem Zone.tdmTick_memories (z : Zone) : z.tdmTick.memories = z.memories := by
  simp [Zone.tdmTick]

@[simp] theorem Zone.tdmSlip_memories (z : Zone) (phase : Int) : (z.tdmSlip phase).memories = z.memories := by
  simp [Zone.tdmSlip]

@[simp] theorem Zone.tdmLocked_memories (z : Zone) (phase : Int) : (z.tdmLocked phase).memories = z.memories := by
  simp [Zone.tdmLocked]

@[simp] theorem Zone.nalBandTick_memories (z : Zone) (n : Fin 7) : (z.nalBandTick n).memories = z.memories := rfl

@[simp] theorem Zone.nalTick_memories (z : Zone) : z.nalTick.memories = z.memories := by
  unfold Zone.nalTick
  split
  · exact foldl_memories (fun z n => by simp) _ _
  · rfl

@[simp] theorem Zone.verdictSet_memories (z : Zone) (v : Nat) : (z.verdictSet v).memories = z.memories := by
  simp [Zone.verdictSet]

@[simp] theorem Zone.lineBegin_memories (z : Zone) : z.lineBegin.memories = z.memories := rfl

@[simp] theorem Zone.lineFrame_memories (z : Zone) : z.lineFrame.memories = z.memories := by
  simp [Zone.lineFrame]

@[simp] theorem Zone.baseMisSet_memories (z : Zone) : z.baseMisSet.memories = z.memories := by
  simp [Zone.baseMisSet]

@[simp] theorem Zone.lineDone_memories (z : Zone) : z.lineDone.2.memories = z.memories := by
  simp [Zone.lineDone]

@[simp] theorem Zone.lineOff_memories (z : Zone) : z.lineOff.memories = z.memories := by
  simp [Zone.lineOff]

@[simp] theorem Zone.baseLoad_memories (z : Zone) (r : Option BaseRec) (bad : Bool) :
    (z.baseLoad r bad).memories = z.memories := by
  simp only [Zone.baseLoad]
  repeat' split
  all_goals simp

@[simp] theorem Zone.storeBase_memories (z : Zone) : z.storeBase.memories = z.memories := by
  simp [Zone.storeBase]

@[simp] theorem Zone.clearBase_memories (z : Zone) : z.clearBase.memories = z.memories := rfl

@[simp] theorem Zone.ampSeq_memories (z : Zone) : z.ampSeq.memories = z.memories := by
  simp [Zone.ampSeq]

@[simp] theorem Zone.ampRelease_memories (z : Zone) : z.ampRelease.memories = z.memories := by
  unfold Zone.ampRelease
  split <;> simp

@[simp] theorem Zone.ampSeqRun_memories (z : Zone) (k : Nat) : (z.ampSeqRun k).memories = z.memories := by
  simp only [Zone.ampSeqRun]
  repeat' split
  all_goals simp

@[simp] theorem Zone.ampReset_memories (z : Zone) : z.ampReset.memories = z.memories := by
  simp [Zone.ampReset]

@[simp] theorem Zone.holdStart_memories (z : Zone) : z.holdStart.memories = z.memories := rfl

@[simp] theorem Zone.holdExpire_memories (z : Zone) : z.holdExpire.memories = z.memories := by
  simp only [Zone.holdExpire]
  rw [foldl_memories (fun z v => by split <;> simp)]
  simp

@[simp] theorem Zone.holdTick_memories (z : Zone) : z.holdTick.memories = z.memories := by
  simp [Zone.holdTick]

@[simp] theorem Zone.armCheck_memories (z : Zone) (p : Fin 6) (t : BitVec 32) : (z.armCheck p t).2.memories = z.memories := by
  simp [Zone.armCheck]

@[simp] theorem Zone.armSet_memories (z : Zone) (p : Fin 6) (t : BitVec 32) (copy owned : Bool) :
    (z.armSet p t copy owned).memories = z.memories := rfl

@[simp] theorem Zone.arm_memories (z : Zone) (p : Fin 6) (t : BitVec 32) (tgt : Option (BitVec 24)) (copy : Bool) :
    (z.arm p t tgt copy).2.memories = z.memories := by
  simp only [Zone.arm]
  repeat' split
  all_goals simp

@[simp] theorem Zone.armMask_memories (z : Zone) (m : BitVec 6) (t : BitVec 32) (owned : Bool) :
    (z.armMask m t owned).2.memories = z.memories := by
  simp only [Zone.armMask]
  rw [ite_snd_memories, foldl_memories (fun z v => by simp), foldl_snd_memories (fun z v => by simp), ite_self]

@[simp] theorem Zone.modeReport_memories (z : Zone) (mode outcome : Nat) (target applied : BitVec 32) (dev : Bool) :
    (z.modeReport mode outcome target applied dev).memories = z.memories := by
  simp [Zone.modeReport]

@[simp] theorem Zone.modeArm_memories (z : Zone) (mode : Nat) (m : BitVec 6) (t : BitVec 32) (dev : Bool) :
    (z.modeArm mode m t dev).2.memories = z.memories := by
  simp [Zone.modeArm]

@[simp] theorem Zone.dropOwned_memories (z : Zone) : z.dropOwned.memories = z.memories := rfl

@[simp] theorem Zone.modeCancel_memories (z : Zone) (outcome : Nat) : (z.modeCancel outcome).memories = z.memories := by
  unfold Zone.modeCancel
  split <;> simp

@[simp] theorem Zone.disarm_memories (z : Zone) (p : Fin 6) : (z.disarm p).memories = z.memories := by
  simp [Zone.disarm]

@[simp] theorem Zone.swapped_memories (z : Zone) (h : HostC) (p : Fin 6) : (z.swapped h p).memories = z.memories := by
  unfold Zone.swapped
  split <;> simp

@[simp] theorem Zone.swapNow_memories (z : Zone) (h : HostC) (p : Fin 6) : (z.swapNow h p).memories = z.memories := by
  simp [Zone.swapNow]

@[simp] theorem Zone.swapsDue_memories (z : Zone) (h : HostC) : (z.swapsDue h).memories = z.memories := by
  simp only [Zone.swapsDue]
  split
  · simp [foldl_memories]
  · exact foldl_memories (fun z p => by simp) _ _

@[simp] theorem Zone.swapsFenced_memories (z : Zone) : z.swapsFenced.memories = z.memories := by
  unfold Zone.swapsFenced
  rw [Zone.modeCancel_memories, foldl_memories (fun z p => by simp)]

@[simp] theorem Zone.post_memories (z : Zone) (w : Vector Word 8) (tend : Option (BitVec 48)) (p0ctl : Bool) :
    (z.post w tend p0ctl).2.memories = z.memories := by
  simp [Zone.post]

@[simp] theorem Zone.cancel_memories (z : Zone) (tag : BitVec 16) : (z.cancel tag).memories = z.memories := by
  simp [Zone.cancel]

@[simp] theorem Zone.flush_memories (z : Zone) : z.flush.memories = z.memories := rfl

@[simp] theorem Zone.markDue_memories (z : Zone) : z.markDue.memories = z.memories := rfl

@[simp] theorem Zone.recordCross_memories (z : Zone) : z.recordCross.memories = z.memories := rfl

@[simp] theorem Zone.dspStop_memories (z : Zone) : z.dspStop.memories = z.memories := rfl

@[simp] theorem Zone.outFence_memories (z : Zone) : z.outFence.memories = z.memories := by
  simp [Zone.outFence]

@[simp] theorem Zone.outState_memories (z : Zone) (old : ZSt) : (z.outState old).memories = z.memories := by
  simp only [Zone.outState]
  split <;> simp

@[simp] theorem Zone.govReset_memories (z : Zone) : z.govReset.memories = z.memories := by
  simp [Zone.govReset]

@[simp] theorem Zone.initEnd_memories (z : Zone) : z.initEnd.memories = z.memories := rfl

@[simp] theorem Zone.govState_memories (z : Zone) (old : ZSt) : (z.govState old).memories = z.memories := by
  simp only [Zone.govState]
  split <;> simp

@[simp] theorem Zone.syncDue_memories (z : Zone) : z.syncDue.memories = z.memories := by
  simp [Zone.syncDue]

@[simp] theorem Zone.syncReset_memories (z : Zone) : z.syncReset.memories = z.memories := by
  simp [Zone.syncReset]

@[simp] theorem Zone.fenceMsg_memories (z : Zone) (c : Nat) : (z.fenceMsg c).memories = z.memories := by
  simp [Zone.fenceMsg]

@[simp] theorem Zone.fenceStop_memories (z : Zone) : z.fenceStop.memories = z.memories := by
  simp [Zone.fenceStop]

@[simp] theorem Zone.reject_memories (z : Zone) : z.reject.memories = z.memories := rfl

@[simp] theorem Zone.toSlow_memories (z : Zone) : z.toSlow.memories = z.memories := by
  simp [Zone.toSlow]

@[simp] theorem Zone.wdStart_memories (z : Zone) : z.wdStart.memories = z.memories := rfl

@[simp] theorem Zone.wdTick_memories (z : Zone) : z.wdTick.memories = z.memories := by
  simp [Zone.wdTick]

@[simp] theorem Zone.bucketLeak_memories (z : Zone) : z.bucketLeak.memories = z.memories := rfl

@[simp] theorem Zone.judge_memories (z : Zone) : z.judge.memories = z.memories := by
  simp [Zone.judge]

@[simp] theorem Zone.relock_memories (z : Zone) (e : Int) : (z.relock e).memories = z.memories := by
  simp [Zone.relock]

@[simp] theorem Zone.lockStep_memories (z : Zone) (e : Int) : (z.lockStep e).memories = z.memories := by
  simp [Zone.lockStep]

@[simp] theorem Zone.holdover_memories (z : Zone) (elapsed : Nat) : (z.holdover elapsed).memories = z.memories := by
  simp [Zone.holdover, Zone.holdEnter]

@[simp] theorem Zone.edgeSeen_memories (z : Zone) (interval : Nat) (e : Int) (sync : Bool) :
    (z.edgeSeen interval e sync).memories = z.memories := rfl

@[simp] theorem Zone.frefEdge_memories (z : Zone) (interval : Nat) (e : Int) (sync : Bool) :
    (z.frefEdge interval e sync).memories = z.memories := by
  simp [Zone.frefEdge]

@[simp] theorem Zone.fofsRead_memories (z : Zone) : z.fofsRead.2.memories = z.memories := rfl

@[simp] theorem Zone.slewDone_memories (z : Zone) : z.slewDone.memories = z.memories := by
  simp [Zone.slewDone]

@[simp] theorem Zone.rateTick_memories (z : Zone) : z.rateTick.memories = z.memories := by
  simp [Zone.rateTick]

@[simp] theorem Zone.epochArm_memories (z : Zone) (check : Bool) : (z.epochArm check).memories = z.memories := by
  simp [Zone.epochArm]

@[simp] theorem Zone.epochDone_memories (z : Zone) (d : Int) (check : Bool) : (z.epochDone d check).memories = z.memories := by
  simp [Zone.epochDone]

@[simp] theorem Zone.tmrCount_memories (z : Zone) (unit : Bool) (k : Nat) : (z.tmrCount unit k).memories = z.memories := rfl

@[simp] theorem Zone.tmrForce_memories (z : Zone) : z.tmrForce.memories = z.memories := rfl

@[simp] theorem Zone.tmrEnd_memories (z : Zone) (n : Fin 4) : (z.tmrEnd n).memories = z.memories := by
  simp [Zone.tmrEnd]

@[simp] theorem Zone.tmrNextWrite_memories (z : Zone) (n : Fin 4) (v : Word) : (z.tmrNextWrite n v).memories = z.memories := by
  simp [Zone.tmrNextWrite]

@[simp] theorem Zone.tmrCtlWrite_memories (z : Zone) (n : Fin 4) (v : Word) : (z.tmrCtlWrite n v).memories = z.memories := by
  simp [Zone.tmrCtlWrite]

@[simp] theorem Zone.countEdge_memories (z : Zone) (neg : Bool) (f : BitVec 48) (s : Nat) :
    (z.countEdge neg f s).memories = z.memories := rfl

@[simp] theorem Zone.tach_memories (z : Zone) (a b : Bool) (s : Nat) : (z.tach a b s).memories = z.memories := by
  simp only [Zone.tach]
  repeat' split
  all_goals simp

@[simp] theorem Zone.posModeTo_memories (z : Zone) (m : Nat) : (z.posModeTo m).memories = z.memories := rfl

@[simp] theorem Zone.posFrame_memories (z : Zone) (n : Nat) : (z.posFrame n).memories = z.memories := by
  simp [Zone.posFrame]

@[simp] theorem Zone.standstill_memories (z : Zone) : z.standstill.memories = z.memories := by
  simp [Zone.standstill]

@[simp] theorem Zone.staleSet_memories (z : Zone) : z.staleSet.memories = z.memories := by
  simp [Zone.staleSet]

@[simp] theorem Zone.hcmdWrite_memories (z : Zone) (setpos setvel atTick : Bool) :
    (z.hcmdWrite setpos setvel atTick).memories = z.memories := rfl

@[simp] theorem Zone.hcmdApply_memories (z : Zone) : z.hcmdApply.memories = z.memories := by
  unfold Zone.hcmdApply
  split <;> simp

@[simp] theorem Zone.drawSubf_memories (z : Zone) : z.drawSubf.memories = z.memories := by
  simp [Zone.drawSubf]

@[simp] theorem Zone.latchTime_memories (z : Zone) (p : Party) : (z.latchTime p).memories = z.memories := by
  unfold Zone.latchTime
  split <;> simp

@[simp] theorem Zone.latchPos_memories (z : Zone) (p : Party) : (z.latchPos p).memories = z.memories := by
  unfold Zone.latchPos
  split <;> simp

@[simp] theorem Zone.slowTick_memories (z : Zone) : z.slowTick.memories = z.memories := by
  simp [Zone.slowTick]

@[simp] theorem Zone.advance_memories (z : Zone) : z.advance.memories = z.memories := by
  simp [Zone.advance]

@[simp] theorem Zone.slowEdge_memories (z : Zone) (a b : Bool) : (z.slowEdge a b).memories = z.memories := by
  simp [Zone.slowEdge]

@[simp] theorem Zone.dspReq_memories (z : Zone) (act cls : Nat) : (z.dspReq act cls).memories = z.memories := by
  simp [Zone.dspReq]

@[simp] theorem Zone.dspStall_memories (z : Zone) (n : Nat) : (z.dspStall n).memories = z.memories := rfl

@[simp] theorem Zone.dspHold_memories (z : Zone) (n : Nat) : (z.dspHold n).memories = z.memories := by
  simp [Zone.dspHold]

@[simp] theorem Zone.dspArb_memories (z : Zone) : z.dspArb.memories = z.memories := rfl

@[simp] theorem Zone.verdictNew_memories (z : Zone) (v : Nat) : (z.verdictNew v).2.memories = z.memories := by
  simp [Zone.verdictNew]

@[simp] theorem Zone.intervalDone_memories (z : Zone) : z.intervalDone.2.memories = z.memories := by
  simp only [Zone.intervalDone]
  repeat' split
  all_goals simp

@[simp] theorem Zone.intervalNext_memories (z : Zone) : z.intervalNext.memories = z.memories := by
  simp [Zone.intervalNext]

@[simp] theorem Zone.govTick_memories (z : Zone) : z.govTick.memories = z.memories := by
  simp [Zone.govTick]

@[simp] theorem Zone.modWin_memories (z : Zone) (p : Party) (f : WinSet → WinSet) : (z.modWin p f).memories = z.memories := by
  unfold Zone.modWin
  split <;> simp

@[simp] theorem Zone.confRead_memories (z : Zone) (off : Nat) : (z.confRead off).2.memories = z.memories := rfl

@[simp] theorem Zone.rcClear_memories (z : Zone) (off : Nat) : (z.rcClear off).memories = z.memories := by
  simp [Zone.rcClear]

@[simp] theorem Zone.clrCnt_memories (z : Zone) (page : Nat) : (z.clrCnt page).memories = z.memories := by
  unfold Zone.clrCnt
  exact foldl_memories (fun z x => by simp) _ _

@[simp] theorem Zone.gramp_memories (z : Zone) (k : Fin 64) : (z.gramp k).memories = z.memories := by
  simp [Zone.gramp]

@[simp] theorem Zone.gramps_memories (z : Zone) : z.gramps.memories = z.memories := by
  unfold Zone.gramps
  exact foldl_memories (fun z x => by simp) _ _

@[simp] theorem Zone.spliceEnd_memories (z : Zone) : z.spliceEnd.memories = z.memories := by
  simp [Zone.spliceEnd]

@[simp] theorem Zone.memTick_memories (z : Zone) : z.memTick.memories = z.memories := by
  simp [Zone.memTick]

@[simp] theorem Zone.segNext_memories (z : Zone) : z.segNext.memories = z.memories := by
  simp [Zone.segNext]

@[simp] theorem Zone.cmdRun_memories (z : Zone) : z.cmdRun.memories = z.memories := by
  simp [Zone.cmdRun]

@[simp] theorem Zone.cmdResume_memories (z : Zone) : z.cmdResume.memories = z.memories := by
  simp [Zone.cmdResume]

@[simp] theorem Zone.wdogKick_memories (z : Zone) (p : Party) (v : Word) : (z.wdogKick p v).memories = z.memories := by
  simp [Zone.wdogKick]

@[simp] theorem Zone.wdogWrite_memories (z : Zone) (v : Word) : (z.wdogWrite v).memories = z.memories := by
  simp only [Zone.wdogWrite]
  split_ifs <;> simp

@[simp] theorem Zone.initSlowEv_memories (z : Zone) : z.initSlowEv.memories = z.memories := by
  simp [Zone.initSlowEv]

@[simp] theorem Zone.leakCheck_memories (z : Zone) : z.leakCheck.memories = z.memories := by
  simp [Zone.leakCheck]

@[simp] theorem Zone.zvaGood_memories (z : Zone) : z.zvaGood.memories = z.memories := by
  simp [Zone.zvaGood]

@[simp] theorem Zone.cmokEv_memories (z : Zone) : z.cmokEv.memories = z.memories := by
  simp [Zone.cmokEv]

@[simp] theorem Zone.haltOff_memories (z : Zone) (e : Int) : (z.haltOff e).memories = z.memories := by
  simp [Zone.haltOff]

@[simp] theorem Zone.sleepStart_memories (z : Zone) : z.sleepStart.memories = z.memories := rfl

@[simp] theorem Zone.sleepBack_memories (z : Zone) : z.sleepBack.memories = z.memories := rfl

@[simp] theorem Zone.wakeNow_memories (z : Zone) : z.wakeNow.memories = z.memories := by
  simp [Zone.wakeNow]

@[simp] theorem Zone.wakeTick_memories (z : Zone) : z.wakeTick.memories = z.memories := by
  simp [Zone.wakeTick]

@[simp] theorem Zone.fltClear_memories (z : Zone) (page : Nat) (v : Word) : (z.fltClear page v).memories = z.memories := by
  unfold Zone.fltClear
  split <;> simp

@[simp] theorem Zone.pgFltWrite_memories (z : Zone) (page : Nat) (v : Word) : (z.pgFltWrite page v).memories = z.memories := by
  simp [Zone.pgFltWrite]

@[simp] theorem Zone.pgSwapWrite_memories (z : Zone) (p : Fin 6) (v : Word) : (z.pgSwapWrite p v).2.memories = z.memories := by
  unfold Zone.pgSwapWrite
  split <;> simp

@[simp] theorem Zone.pgLockWrite_memories (z : Zone) (page : Nat) (v : Word) : (z.pgLockWrite page v).memories = z.memories := by
  simp [Zone.pgLockWrite]

@[simp] theorem Zone.headerWrite_memories (z : Zone) (page o : Nat) (v : Word) :
    (z.headerWrite page o v).2.memories = z.memories := by
  simp only [Zone.headerWrite]
  repeat' split
  all_goals simp

@[simp] theorem Zone.epochCtl_memories (z : Zone) (v : Word) : (z.epochCtl v).memories = z.memories := by
  simp [Zone.epochCtl]

@[simp] theorem Zone.schedCmd_memories (z : Zone) (p0 : Bool) (v : Word) : (z.schedCmd p0 v).2.memories = z.memories := by
  unfold Zone.schedCmd
  split <;> simp

@[simp] theorem Zone.swapsetWrite_memories (z : Zone) (v : Word) : (z.swapsetWrite v).2.memories = z.memories := by
  simp [Zone.swapsetWrite]

@[simp] theorem Zone.greqWrite_memories (z : Zone) (v : Word) : (z.greqWrite v).memories = z.memories := rfl

@[simp] theorem Zone.dspCtlWrite_memories (z : Zone) (v : Word) : (z.dspCtlWrite v).memories = z.memories := rfl

@[simp] theorem Zone.decStage_memories (z : Zone) (n : Fin 4) (off : Nat) (v : Word) :
    (z.decStage n off v).memories = z.memories := rfl

@[simp] theorem Zone.decCmd_memories (z : Zone) (n : Fin 4) (v : Word) : (z.decCmd n v).memories = z.memories := by
  simp [Zone.decCmd]

@[simp] theorem Zone.modDecWin_memories (z : Zone) (n : Fin 4) (p : Party) (f : DecWin → DecWin) :
    (z.modDecWin n p f).memories = z.memories := rfl

@[simp] theorem Zone.decWrite_memories (z : Zone) (n : Fin 4) (p : Party) (off : Nat) (v : Word) :
    (z.decWrite n p off v).2.memories = z.memories := by
  unfold Zone.decWrite
  split <;> simp

@[simp] theorem Zone.aecCmd_memories (z : Zone) (v : Word) : (z.aecCmd v).memories = z.memories := rfl

@[simp] theorem Zone.lineCmd_memories (z : Zone) (v : Word) : (z.lineCmd v).memories = z.memories := by
  simp only [Zone.lineCmd]
  repeat' split
  all_goals simp

@[simp] theorem Zone.crcFeed_memories (z : Zone) (n : Nat) (v : Word) : (z.crcFeed n v).memories = z.memories := rfl

@[simp] theorem Zone.crcOwned_memories (z : Zone) (p : Party) (off : Nat) (v : Word) :
    (z.crcOwned p off v).memories = z.memories := by
  simp [Zone.crcOwned]

@[simp] theorem Zone.crcWrite_memories (z : Zone) (p : Party) (off : Nat) (v : Word) :
    (z.crcWrite p off v).memories = z.memories := by
  simp [Zone.crcWrite]

@[simp] theorem Zone.stormWrite_memories (z : Zone) (v : Word) : (z.stormWrite v).memories = z.memories := by
  simp [Zone.stormWrite]

@[simp] theorem Zone.regDeny_memories (z : Zone) : z.regDeny.memories = z.memories := rfl

@[simp] theorem Zone.collide_memories (z : Zone) (h : HostC) : (z.collide h).memories = z.memories := rfl

@[simp] theorem Zone.dspRes_memories (z : Zone) (d0 : ZDsp) (dly name part : Nat) (v : W72) :
    (z.dspRes d0 dly name part v).memories = z.memories := rfl

@[simp] theorem Zone.dspHalf_memories (z : Zone) (d0 : ZDsp) (dly name : Nat) (l : Bool) (v : Int) :
    (z.dspHalf d0 dly name l v).memories = z.memories := rfl

@[simp] theorem Zone.dspAcc_memories (z : Zone) (a : Nat) (f : AccSt → AccSt) : (z.dspAcc a f).memories = z.memories := by
  simp [Zone.dspAcc]

@[simp] theorem Zone.dspSat_memories (z : Zone) (num : Nat) : (z.dspSat num).memories = z.memories := by
  simp [Zone.dspSat]

@[simp] theorem Zone.dspSatAlu_memories (z : Zone) : z.dspSatAlu.memories = z.memories := by
  simp [Zone.dspSatAlu]

@[simp] theorem Zone.macSlot_memories (z : Zone) (d0 : ZDsp) (b : Bundle) : (z.macSlot d0 b).memories = z.memories := by
  unfold Zone.macSlot
  split <;> simp

@[simp] theorem Zone.aluSatRes_memories (z : Zone) (d0 : ZDsp) (b : Bundle) (v : Int) :
    (z.aluSatRes d0 b v).memories = z.memories := by
  simp [Zone.aluSatRes]

@[simp] theorem Zone.setPred_memories (z : Zone) (k : Nat) (v : Bool) : (z.setPred k v).memories = z.memories := rfl

@[simp] theorem Zone.fclr_memories (z : Zone) (s x : Nat) : (z.fclr s x).memories = z.memories := rfl

@[simp] theorem Zone.aluSlot_memories (z : Zone) (d0 : ZDsp) (b : Bundle) : (z.aluSlot d0 b).memories = z.memories := by
  unfold Zone.aluSlot
  split <;> simp

@[simp] theorem Zone.ptMove_memories (z : Zone) (n : Nat) (m : Int) : (z.ptMove n m).memories = z.memories := rfl

@[simp] theorem Zone.ptsSlot_memories (z : Zone) (d0 : ZDsp) (b : Bundle) : (z.ptsSlot d0 b).memories = z.memories := by
  simp [Zone.ptsSlot]

@[simp] theorem Zone.dspLatch_memories (z : Zone) : z.dspLatch.memories = z.memories := rfl

@[simp] theorem Zone.leaveInit_memories (z old : Zone) (r : Option BaseRec) : (z.leaveInit old r).memories = z.memories := by
  simp only [Zone.leaveInit]
  repeat' split
  all_goals simp

@[simp] theorem Zone.hostqSettle_memories (z : Zone) : z.hostqSettle.memories = z.memories := by
  simp [Zone.hostqSettle]

@[simp] theorem Zone.chkField_memories (z : Zone) (it : Item) (idx : Nat) : (z.chkField it idx).memories = z.memories := by
  simp [Zone.chkField]

@[simp] theorem Zone.fenceItem_memories (z : Zone) (it : Item) (idx : Nat) : (z.fenceItem it idx).memories = z.memories := by
  simp [Zone.fenceItem]

@[simp] theorem Zone.cacheDrop_memories (z : Zone) (unfence : Bool) : (z.cacheDrop unfence).memories = z.memories := rfl

@[simp] theorem Zone.loadTable_memories (z : Zone) (h : HostC) (it : Item) (tgt : Nat) :
    (z.loadTable h it tgt).2.memories = z.memories := by
  unfold Zone.loadTable
  generalize (if tgt = 2 then _ else _ : Fin 6 × Nat) = bank
  obtain ⟨p, page⟩ := bank
  dsimp only
  split
  · rfl
  · exact iter_memories (fun e z => by split <;> simp) _ _

@[simp] theorem Zone.timers_memories (z : Zone) : z.timers.memories = z.memories := by
  unfold Zone.timers
  exact foldl_memories (fun z x => by simp) _ _

@[simp] theorem Zone.slowTimers_memories (z : Zone) : z.slowTimers.memories = z.memories := by
  simp [Zone.slowTimers]

@[simp] theorem Zone.frameNew_memories (z : Zone) : z.frameNew.memories = z.memories := rfl

@[simp] theorem Zone.frameBegin_memories (z : Zone) : z.frameBegin.memories = z.memories := by
  simp [Zone.frameBegin]

@[simp] theorem Zone.tickCauses_memories (z : Zone) : z.tickCauses.2.memories = z.memories := by
  simp [Zone.tickCauses]

@[simp] theorem Zone.hostGains_memories (z : Zone) : z.hostGains.memories = z.memories := by
  unfold Zone.hostGains
  exact foldl_memories (fun z x => by simp) _ _

@[simp] theorem Zone.bookLate_memories (z : Zone) : z.bookLate.memories = z.memories := rfl

@[simp] theorem Zone.checkFrame_memories (z : Zone) : z.checkFrame.memories = z.memories := by
  simp [Zone.checkFrame]

@[simp] theorem Zone.goto_memories (z : Zone) (s : ZSt) : (z.goto s).memories = z.memories := by
  simp [Zone.goto]

@[simp] theorem Zone.accAt_memories (z : Zone) (d : Nat) (f : AccSt → AccSt) : (z.accAt d f).memories = z.memories := by
  simp [Zone.accAt]

@[simp] theorem Zone.runSlot_memories (z : Zone) (w : W72) (r : Option Int) (second : Bool) :
    (z.runSlot w r second).memories = z.memories := by
  simp [Zone.runSlot]

@[simp] theorem Zone.keyStep_memories (z : Zone) (i : Nat) (w : W72) : (z.keyStep i w).memories = z.memories := by
  simp [Zone.keyStep]

@[simp] theorem Zone.passSlot_memories (z : Zone) (act : Mem72) (i : Nat) : (z.passSlot act i).memories = z.memories := by
  unfold Zone.passSlot
  dsimp only
  split
  · split <;> simp
  · simp

@[simp] theorem Zone.sinkStore_memories (z : Zone) (t : Target) (a : AccSt) (num : Nat) :
    (z.sinkStore t a num).2.memories = z.memories := by
  simp [Zone.sinkStore]

@[simp] theorem Zone.passEnd_memories (z : Zone) : z.passEnd.memories = z.memories := by
  simp [Zone.passEnd, iter_memories]

@[simp] theorem Zone.gainsCold_memories (z : Zone) : z.gainsCold.memories = z.memories := rfl

@[simp] theorem Zone.lfoFrame_memories (z : Zone) (p : LfoP) (l : LfoSt) (addend : Int) :
    (z.lfoFrame p l addend).2.memories = z.memories := by
  simp [Zone.lfoFrame]

@[simp] theorem Zone.modSrc_memories (z : Zone) (v : Voice) (src : Nat) : (z.modSrc v src).2.memories = z.memories := by
  simp only [Zone.modSrc, ite_snd_memories]
  cases v.st.dl <;> simp

@[simp] theorem Zone.modSlot_memories (z : Zone) (v : Voice) (p : ModP) (m : ModSt) :
    (z.modSlot v p m).2.2.memories = z.memories := by
  unfold Zone.modSlot
  split
  · rfl
  · split
    · simp
    · dsimp only
      split
      · simp
      · split <;> simp

theorem matStep_memories (m : Mem72) (v s : Nat) (a : List (Nat × AccSt) × Voice × Zone) :
    (matStep m v s a).2.2.memories = a.2.2.memories := by
  obtain ⟨l, vo, z⟩ := a
  unfold matStep
  dsimp only
  split <;> simp

@[simp] theorem Zone.matrix_memories (z : Zone) (m : Mem72) (v : Nat) (vo : Voice) :
    (z.matrix m v vo).2.2.memories = z.memories :=
  iterFrom_keeps (g := fun a : List (Nat × AccSt) × Voice × Zone => a.2.2.memories) (matStep_memories m v) 0 16 ([], vo, z)

@[simp] theorem Zone.notePclamp_memories (z : Zone) : z.notePclamp.memories = z.memories := rfl

@[simp] theorem Zone.deadlineMiss_memories (z : Zone) (h : HostC) (v : Fin 96) : (z.deadlineMiss h v).memories = z.memories := by
  simp only [Zone.deadlineMiss]
  split <;> simp

@[simp] theorem Zone.voiceRetrig_memories (z : Zone) (v : Fin 96) (a : Addends) : (z.voiceRetrig v a).memories = z.memories := rfl

@[simp] theorem Zone.noVoice_memories (z : Zone) (cls : Nat) (handle : BitVec 16) (src reason : Nat) :
    (z.noVoice cls handle src reason).memories = z.memories := by
  simp [Zone.noVoice]

@[simp] theorem Zone.vctlOne_memories (z : Zone) (w : Word) (v : Fin 96) : (z.vctlOne w v).memories = z.memories := by
  unfold Zone.vctlOne
  split <;> simp

theorem Zone.toHandle_memories {f : Zone → Fin 96 → Zone} (hf : ∀ z v, (f z v).memories = z.memories) (z : Zone) (pr : P0Right)
    (hd : BitVec 16) : (z.toHandle pr hd f).memories = z.memories := by
  unfold Zone.toHandle
  split
  · rfl
  · exact foldl_memories hf _ _

@[simp] theorem Zone.vrel_memories (z : Zone) (pr : P0Right) (arg1 : Word) : (z.vrel pr arg1).memories = z.memories :=
  Zone.toHandle_memories Zone.vrelOne_memories z pr _

@[simp] theorem Zone.vkill_memories (z : Zone) (pr : P0Right) (arg1 : Word) : (z.vkill pr arg1).memories = z.memories :=
  Zone.toHandle_memories Zone.vkillOne_memories z pr _

@[simp] theorem Zone.vctl_memories (z : Zone) (pr : P0Right) (arg0 arg1 : Word) :
    (z.vctl pr arg0 arg1).memories = z.memories := by
  unfold Zone.vctl
  split
  · rfl
  · exact Zone.toHandle_memories (fun z v => z.vctlOne_memories arg0 v) z pr _

@[simp] theorem Zone.duckUpdate_memories (z : Zone) : z.duckUpdate.memories = z.memories := rfl

@[simp] theorem Zone.decIn_memories (z : Zone) (n : Fin 4) (codes : List Int) : (z.decIn n codes).memories = z.memories := rfl

@[simp] theorem Zone.sensCodes_memories (z : Zone) (v : Vector (Fin 5) 64) : (z.sensCodes v).2.memories = z.memories := by
  unfold Zone.sensCodes
  split
  · rw [iter_snd_memories]
    exact fun _ a => a.2.freeWord_memories 21
  · rfl

@[simp] theorem Zone.decOut_memories (z : Zone) (n : Fin 4) : (z.decOut n).memories = z.memories := by
  simp [Zone.decOut]

@[simp] theorem Zone.aecFront_memories (z : Zone) (c : Fin 2) : (z.aecFront c).memories = z.memories := by
  simp [Zone.aecFront]

@[simp] theorem Zone.aecAdapt_memories (z : Zone) (s : AecCh) (xs : List Int) (num : Nat) :
    (z.aecAdapt s xs num).2.memories = z.memories := by
  simp [Zone.aecAdapt]

@[simp] theorem Zone.aecChannel_memories (z : Zone) (c : Fin 2) : (z.aecChannel c).memories = z.memories := by
  unfold Zone.aecChannel
  extract_lets cfg s1 s2 en xs mx low dt s3 put
  have hp (s : AecCh) (y : Zone) : (put s y).memories = y.memories := rfl
  clear_value put s3
  split
  · exact hp _ _
  split
  · exact hp _ _
  split
  next num y e =>
    have hy : y.memories = z.memories := by rw [← z.freeWord_memories 3, e]
    extract_lets n a0 a v d y1 y2 y3 s4
    have h3 : y3.memories = z.memories := by simp [y3, y2, y1, hy]
    clear_value y3
    split
    · simp [hp, h3]
    · simp [hp, h3]

@[simp] theorem Zone.bandIn_memories (z : Zone) (i : Fin 5) (x : Int) (ok : Bool) : (z.bandIn i x ok).memories = z.memories := rfl

@[simp] theorem Zone.measEnd_memories (z : Zone) (inp : FrameIn) : (z.measEnd inp).memories = z.memories := by
  unfold Zone.measEnd
  extract_lets c y a x
  have hx : x.memories = z.memories := rfl
  clear_value x
  split
  · simp [hx]
  · exact hx

theorem Zone.nalSection_memories (a : Int × Zone) (n : Fin 7) : (Zone.nalSection a n).2.memories = a.2.memories := by
  unfold Zone.nalSection
  dsimp only
  simp

@[simp] theorem Zone.nalFrame_memories (z : Zone) : z.nalFrame.2.memories = z.memories := by
  unfold Zone.nalFrame
  exact foldl_snd_memories Zone.nalSection_memories _ _

@[simp] theorem Zone.ridge_memories (z : Zone) (x : Int) : (z.ridge x).memories = z.memories := by
  simp [Zone.ridge]

@[simp] theorem Zone.limFrame_memories (z : Zone) : z.limFrame.memories = z.memories := by
  simp [Zone.limFrame]

@[simp] theorem Zone.dspHandler_memories (z : Zone) (n : Nat) (arg : Word) : (z.dspHandler n arg).memories = z.memories := by
  simp [Zone.dspHandler]

@[simp] theorem Zone.schedEvent_memories (z : Zone) (tag : BitVec 16) (late : Bool) (l act : Nat) (arg0 : Word) :
    (z.schedEvent tag late l act arg0).memories = z.memories := by
  simp [Zone.schedEvent]

@[simp] theorem Zone.actRefused_memories (z : Zone) (tag : BitVec 16) (reason : Nat) :
    (z.actRefused tag reason).memories = z.memories := by
  simp [Zone.actRefused]

@[simp] theorem Zone.actSwap_memories (z : Zone) (tag : BitVec 16) (arg0 arg1 : Word) :
    (z.actSwap tag arg0 arg1).memories = z.memories := by
  simp [Zone.actSwap]

@[simp] theorem Zone.actMode_memories (z : Zone) (tag : BitVec 16) (arg0 arg1 : Word) :
    (z.actMode tag arg0 arg1).memories = z.memories := by
  simp [Zone.actMode]

@[simp] theorem Zone.actGain_memories (z : Zone) (arg0 arg1 : Word) : (z.actGain arg0 arg1).memories = z.memories := by
  simp [Zone.actGain]

@[simp] theorem Zone.enter_memories (z : Zone) (s : ZSt) : (z.enter s).memories = z.memories := by
  simp [Zone.enter]

@[simp] theorem Zone.dropMsgs_memories (z : Zone) : z.dropMsgs.memories = z.memories := rfl

@[simp] theorem Zone.fenceMark_memories (z : Zone) (causes : Nat) : (z.fenceMark causes).memories = z.memories := rfl

@[simp] theorem Zone.fenceNow_memories (z : Zone) (causes : Nat) : (z.fenceNow causes).memories = z.memories := by
  simp [Zone.fenceNow]

@[simp] theorem Zone.raise_memories (z : Zone) (causes : Nat) : (z.raise causes).memories = z.memories := by
  have hd (l : List Nat) (z : Zone) :
      (l.foldl (fun z i => (z.putBit Reg.FENCE_PEND i true).send clsFault 0x0002 (natLe i 1)) z).memories = z.memories :=
    foldl_memories (fun z i => by simp) l z
  unfold Zone.raise
  dsimp only
  split_ifs
  · rfl
  · exact hd _ _
  · exact (foldl_memories (fun z i => by simp) _ _).trans (hd _ _)
  · exact (Zone.fenceNow_memories _ _).trans (hd _ _)

@[simp] theorem Zone.initPll_memories (z : Zone) : z.initPll.memories = z.memories := by
  simp [Zone.initPll]

@[simp] theorem Zone.initMark_memories (z : Zone) (warm : Bool) : (z.initMark warm).memories = z.memories := rfl

@[simp] theorem Zone.initStop_memories (z : Zone) : z.initStop.memories = z.memories := rfl

@[simp] theorem Zone.initPower_memories (z : Zone) : z.initPower.memories = z.memories := rfl

@[simp] theorem Zone.wdRestart_memories (z : Zone) : z.wdRestart.memories = z.memories := by
  simp [Zone.wdRestart]

@[simp] theorem Zone.toRun_memories (z : Zone) : z.toRun.memories = z.memories := by
  simp [Zone.toRun]

@[simp] theorem Zone.stateTick_memories (z : Zone) : z.stateTick.memories = z.memories := by
  simp [Zone.stateTick]

@[simp] theorem Zone.whyHold_memories (z : Zone) : z.whyHold.memories = z.memories := by
  simp [Zone.whyHold]

@[simp] theorem Zone.wdExpire_memories (z : Zone) : z.wdExpire.memories = z.memories := by
  simp [Zone.wdExpire]

@[simp] theorem Zone.bucketAdd_memories (z : Zone) : z.bucketAdd.memories = z.memories := by
  simp [Zone.bucketAdd]

@[simp] theorem Zone.raiseTick_memories (z : Zone) (causes : Nat) : (z.raiseTick causes).memories = z.memories := by
  simp [Zone.raiseTick]

@[simp] theorem Zone.holdLimit_memories (z : Zone) : z.holdLimit.memories = z.memories := by
  simp [Zone.holdLimit]

@[simp] theorem Zone.verdictIssue_memories (z : Zone) (v : Nat) : (z.verdictIssue v).memories = z.memories := by
  simp [Zone.verdictIssue]

@[simp] theorem Zone.ampCheck_memories (z : Zone) : z.ampCheck.memories = z.memories := by
  unfold Zone.ampCheck
  split
  · dsimp only
    split
    · simp
    · split
      · simp
      · split_ifs <;> simp
      · split_ifs <;> simp
  · rfl

@[simp] theorem Zone.ampPin_memories (z : Zone) (a : Bool) : (z.ampPin a).memories = z.memories := by
  simp only [Zone.ampPin]
  split_ifs <;> simp

@[simp] theorem Zone.intervalEnd_memories (z : Zone) : z.intervalEnd.memories = z.memories := by
  simp [Zone.intervalEnd]

@[simp] theorem Zone.btYield_memories (z : Zone) (c : Nat) : (z.btYield c).memories = z.memories := by
  simp [Zone.btYield]

@[simp] theorem Zone.btFail_memories (z : Zone) (c seg : Nat) : (z.btFail c seg).memories = z.memories := by
  simp [Zone.btFail]

@[simp] theorem Zone.enableRegs_memories (z : Zone) : z.enableRegs.memories = z.memories := rfl

@[simp] theorem Zone.toOff_memories (z : Zone) : z.toOff.memories = z.memories := by
  simp [Zone.toOff]

@[simp] theorem Zone.cmdDisable_memories (z : Zone) : z.cmdDisable.memories = z.memories := by
  simp [Zone.cmdDisable]

@[simp] theorem Zone.cmdFence_memories (z : Zone) : z.cmdFence.memories = z.memories := by
  simp [Zone.cmdFence]

@[simp] theorem Zone.cmdRecover_memories (z : Zone) : z.cmdRecover.memories = z.memories := by
  simp [Zone.cmdRecover]

@[simp] theorem Zone.initComplete_memories (z : Zone) : z.initComplete.memories = z.memories := by
  simp [Zone.initComplete]

@[simp] theorem Zone.ladderEnd_memories (z : Zone) : z.ladderEnd.memories = z.memories := by
  simp [Zone.ladderEnd]

@[simp] theorem Zone.testComplete_memories (z : Zone) (march ladder : Bool) :
    (z.testComplete march ladder).memories = z.memories := by
  simp [Zone.testComplete]

@[simp] theorem Zone.wdCheck_memories (z : Zone) : z.wdCheck.memories = z.memories := by
  simp [Zone.wdCheck]

@[simp] theorem Zone.orphanSet_memories (z : Zone) (silence : Nat) : (z.orphanSet silence).memories = z.memories := by
  simp [Zone.orphanSet]

@[simp] theorem Zone.hclossSet_memories (z : Zone) (on : Bool) : (z.hclossSet on).memories = z.memories := by
  simp [Zone.hclossSet]

@[simp] theorem Zone.vanaFail_memories (z : Zone) : z.vanaFail.memories = z.memories := by
  simp [Zone.vanaFail]

@[simp] theorem Zone.plainWrite_memories (z : Zone) (r : RegSpec) (v : Word) : (z.plainWrite r v).memories = z.memories := rfl

@[simp] theorem Zone.dspEnter_memories (z : Zone) (vec hnum : Nat) (harg : Word) :
    (z.dspEnter vec hnum harg).memories = z.memories := rfl

theorem Zone.dspNext_memories {z y : Zone} (e : z.dspNext = some y) : y.memories = z.memories := by
  unfold Zone.dspNext at e
  dsimp only at e
  split at e
  · cases e
    simp
  · split at e
    · cases e
      simp
    · cases e

@[simp] theorem Zone.dspEnd_memories (z : Zone) : z.dspEnd.memories = z.memories := by
  simp [Zone.dspEnd]

@[simp] theorem Zone.settle_memories (z old : Zone) (r : Option BaseRec) : (z.settle old r).memories = z.memories := by
  simp [Zone.settle]

@[simp] theorem Zone.heartbeat_memories (z : Zone) : z.heartbeat.memories = z.memories := by
  simp [Zone.heartbeat]

@[simp] theorem Zone.judgeTick_memories (z : Zone) (h : HostC) : (z.judgeTick h).memories = z.memories := by
  simp [Zone.judgeTick]

@[simp] theorem Zone.deadlines_memories (z : Zone) (h : HostC) : (z.deadlines h).memories = z.memories := by
  unfold Zone.deadlines
  split
  · rfl
  · exact iter_memories (fun k z => by simp) _ z

@[simp] theorem Zone.takeRes_memories (z : Zone) : z.takeRes.memories = z.memories := rfl

end Sys2Proof.Machine
end

section
namespace Sys2Proof.Machine

/-! More operations that leave the memories of a zone as they are: sleep, the sample cache's queue, a voice's frame, the DSP's
control. -/

theorem Zone.memories_dsp {z : Zone} {d : ZDsp} (h : d.memories = z.dsp.memories) :
    ({ z with dsp := d } : Zone).memories = z.memories := by
  rw [Zone.memories_mk, h]
  rfl

theorem Zone.memories_route {z : Zone} {r : ZRoute} (hA : r.batA = z.route.batA) (hB : r.batB = z.route.batB) :
    ({ z with route := r } : Zone).memories = z.memories := by
  rw [Zone.memories_mk, hA, hB]
  rfl

theorem Zone.memories_aec (z : Zone) (a : ZAec) : ({ z with aec := a } : Zone).memories = z.memories := rfl

@[simp] theorem Zone.bandTick_memories (z : Zone) : z.bandTick.memories = z.memories := by
  unfold Zone.bandTick
  extract_lets sel useB pick y y' chB
  have hy : y.memories = z.memories := foldl_memories (fun _ _ => by simp) _ _
  have hy' : y'.memories = z.memories := (Zone.setReg_memories _ _ _).trans hy
  clear_value y'
  exact (y'.memories_aec _).trans hy'

@[simp] theorem Zone.haltOn_memories (z : Zone) : z.haltOn.memories = z.memories := by
  unfold Zone.haltOn
  split
  · rfl
  · extract_lets y1 y2
    have h2 : y2.memories = z.memories := by simp [y2, y1]
    clear_value y2
    rw [Zone.parkCodes_memories, Zone.ampEval_memories, Zone.dspStop_memories]
    exact h2

@[simp] theorem Zone.sleepNow_memories (z : Zone) : z.sleepNow.memories = z.memories := by
  unfold Zone.sleepNow
  split
  · rfl
  · extract_lets y1 y2 y3
    have h2 : y2.memories = z.memories := by simp [y2, y1]
    clear_value y2
    rw [Zone.modOut_memories, Zone.dspStop_memories]
    exact h2

@[simp] theorem Zone.sleepTick_memories (z : Zone) : z.sleepTick.memories = z.memories := by
  unfold Zone.sleepTick
  split <;> simp

@[simp] theorem Zone.regTrip_memories (z : Zone) (core analog : Bool) : (z.regTrip core analog).memories = z.memories := by
  unfold Zone.regTrip
  split
  · rfl
  · extract_lets y0 y1 y2 t p y3
    have h2 : y2.memories = z.memories := Zone.raise_memories _ _
    clear_value y2
    have h3 : y3.memories = z.memories := by
      simp only [y3]
      split
      · exact (Zone.toSlow_memories y2).trans h2
      · exact h2
    clear_value y3
    split
    · exact (Zone.pinsOff_memories y3).trans h3
    · exact h3

@[simp] theorem ZCache.request_mem (c : ZCache) (f : Fetch) : (c.request f).mem = c.mem := by
  simp only [ZCache.request]
  repeat' split
  all_goals rfl

@[simp] theorem ZCache.touch_mem (c : ZCache) (bs : List Nat) : (c.touch bs).mem = c.mem := by
  unfold ZCache.touch
  split <;> rfl

@[simp] theorem ZCache.unwait_mem (c : ZCache) (v : Nat) : (c.unwait v).mem = c.mem := rfl

theorem ZCache.letIn_mem : ∀ (n : Nat) (c : ZCache), (ZCache.letIn n c).mem = c.mem
  | 0, _ => rfl
  | n + 1, c => by
    unfold ZCache.letIn
    split
    · rfl
    · split
      · exact ZCache.letIn_mem n _
      · rfl

@[simp] theorem ZCache.done_mem (c : ZCache) (f : Fetch) : (c.done f).mem = c.mem := ZCache.letIn_mem 64 _

@[simp] theorem Zone.fetchReq_memories (z : Zone) (f : Fetch) : (z.fetchReq f).memories = z.memories := by
  simp [Zone.fetchReq]

@[simp] theorem Zone.presetFetch_memories (z : Zone) (v : Fin 96) (cls : Nat) (it : Item) :
    (z.presetFetch v cls it).memories = z.memories := Zone.fetchReq_memories z _

@[simp] theorem Zone.fetchDrop_memories (z : Zone) (f : Fetch) : (z.fetchDrop f).memories = z.memories := by
  simp [Zone.fetchDrop]

@[simp] theorem Zone.pinVoice_memories (z : Zone) (h : HostC) (v : Fin 96) (a : Addends) :
    (z.pinVoice h v a).memories = z.memories := by
  simp [Zone.pinVoice, Zone.modVoice]

theorem Zone.fetchReqs_memories (f : Nat → Fetch) (l : List Nat) (z : Zone) :
    (l.foldl (fun z b => z.fetchReq (f b)) z).memories = z.memories :=
  foldl_memories (fun z b => z.fetchReq_memories (f b)) l z

@[simp] theorem Zone.starveVoice_memories (z : Zone) (h : HostC) (v : Fin 96) (a : Addends) :
    (z.starveVoice h v a).memories = z.memories := by
  have hy : (z.pinVoice h v a).memories = z.memories := Zone.pinVoice_memories z h v a
  unfold Zone.starveVoice
  dsimp only
  generalize z.pinVoice h v a = y at hy ⊢
  generalize hu : (if y.ctl.hcloss && y.ctl.st == .hold then y else _) = u
  have h1 : u.memories = z.memories := by
    rw [← hu, ite_memories, Zone.fetchReqs_memories, ite_self, hy]
  clear hu
  split
  · simpa using h1
  · split
    · rw [iter_memories (fun n z => by split <;> simp)]
      split <;> simpa using h1
    · split <;> simpa using h1

@[simp] theorem Zone.prefEntry_memories (z : Zone) (h : HostC) (cfg : Word) (e : Entry) :
    (z.prefEntry h cfg e).memories = z.memories := by
  unfold Zone.prefEntry
  split
  · rfl
  · split
    · rfl
    · exact foldl_memories (fun z b => by split <;> simp) _ _

@[simp] theorem Zone.prefetch_memories (z : Zone) (h : HostC) : (z.prefetch h).memories = z.memories :=
  foldl_memories (fun z e => z.prefEntry_memories h _ e) _ _

@[simp] theorem Zone.laneFlag_memories (z : Zone) (i : Nat) : (z.laneFlag i).memories = z.memories := by
  unfold Zone.laneFlag
  dsimp only
  split
  · simp
  · rw [Zone.arith_memories]
    unfold ZVox.laneMark
    split <;> rfl

@[simp] theorem Zone.laneFlags_memories (z : Zone) (f : LaneFl) : (z.laneFlags f).memories = z.memories := by
  simp [Zone.laneFlags]

@[simp] theorem Zone.laneLoad_memories (z : Zone) (x : Int) : (z.laneLoad x).2.memories = z.memories := by
  simp [Zone.laneLoad]

@[simp] theorem Zone.laneSum_memories (z : Zone) (xs : List Int) : (z.laneSum xs).2.memories = z.memories := by
  simp [Zone.laneSum]

@[simp] theorem Zone.voiceControl_memories (z : Zone) (v : Fin 96) : (z.voiceControl v).2.memories = z.memories := by
  unfold Zone.voiceControl
  dsimp only
  refine (Zone.matrix_memories _ _ _ _).trans ?_
  exact iter_snd_memories (fun l p => by simp) 3 _

@[simp] theorem Zone.voiceOut_memories (z : Zone) (v : Fin 96) (a : Addends) (os : List Int) :
    (z.voiceOut v a os).memories = z.memories := by
  unfold Zone.voiceOut
  extract_lets m vo into par p0 p1 lev
  have hl (p : FltP) (f : Nat) (y : Int) (z : Zone) : (lev p f y z).2.memories = z.memories := by
    simp only [lev]
    split <;> simp
  clear_value lev
  dsimp only
  rw [Zone.modVoice_memories, iter_snd_memories (fun s acc => by split <;> simp)]
  simp [hl]

@[simp] theorem Zone.voiceEnd_memories (z : Zone) (v : Fin 96) : (z.voiceEnd v).memories = z.memories := by
  simp [Zone.voiceEnd, Zone.modVoice]

theorem Zone.frameDone_memories (z : Zone) : ({ z with route := z.route.frameDone } : Zone).memories = z.memories := rfl

@[simp] theorem Zone.routePass_memories (z : Zone) : z.routePass.memories = z.memories := by
  unfold Zone.routePass
  split
  · extract_lets r y act
    have hy : y.memories = z.memories := Zone.memories_route rfl rfl
    clear_value y
    have hp : (((passKeys act y.route.splice).foldl (fun (y : Zone) i => y.passSlot act i) y).passEnd).memories = z.memories :=
      (Zone.passEnd_memories _).trans ((foldl_memories (fun y i => y.passSlot_memories act i) _ y).trans hy)
    exact (Zone.frameDone_memories _).trans hp
  · exact Zone.memories_route rfl rfl

theorem foldl_land_memories (l : List DspRes) (d : ZDsp) : (l.foldl ZDsp.land d).memories = d.memories :=
  foldl_keeps (g := ZDsp.memories) (f := ZDsp.land) (fun _ _ => rfl) l d

@[simp] theorem ZDsp.tickRes_memories (d : ZDsp) : d.tickRes.memories = d.memories := foldl_land_memories _ d

@[simp] theorem ZDsp.drain_memories (d : ZDsp) : d.drain.memories = d.memories :=
  (ZDsp.tickRes_memories d.tickRes).trans d.tickRes_memories

@[simp] theorem ZDsp.next_memories (d : ZDsp) : d.next.memories = d.memories := by
  simp only [ZDsp.next]
  repeat' split
  all_goals rfl

@[simp] theorem ZDsp.loopStart_memories (d : ZDsp) (lc : Nat) (b : Bundle) : (d.loopStart lc b).memories = d.memories := by
  simp only [ZDsp.loopStart]
  split_ifs <;> rfl

@[simp] theorem ZDsp.control_memories (d d0 : ZDsp) (b : Bundle) : (d.control d0 b).memories = d.memories := by
  unfold ZDsp.control
  split
  · simp
  · split
    · exact d.drain_memories
    · simp
    · exact d.drain_memories
    · simp

/-- A trap drains the DSP's results and keeps its memories. -/
theorem Zone.trapped_memories (z : Zone) (tpc cause : Nat) :
  ({ z with dsp := { z.dsp.drain with tcause := cause, tpc := tpc, loop := none } } : Zone).memories = z.memories :=
  Zone.memories_dsp z.dsp.drain_memories

@[simp] theorem Zone.dspTrap_memories (z : Zone) (cause : Nat) : (z.dspTrap cause).memories = z.memories := by
  unfold Zone.dspTrap
  extract_lets tpc inTrap d z1 z2 z3 z4 z5 z6 d' z7
  have h1 : z1.memories = z.memories := z.trapped_memories _ _
  have h4 : z4.memories = z.memories := h1
  clear_value z4
  have h5 : z5.memories = z.memories := by
    simp only [z5]
    split
    · rw [Zone.count_memories, Zone.setFlt_memories, h4]
    · exact h4
  clear_value z5
  have h6 : z6.memories = z.memories := by
    simp only [z6]
    split
    · rw [Zone.send_memories, h5]
    · exact h5
  clear_value z6
  have h7 : z7.memories = z.memories := by
    simp only [z7]
    split
    · exact (Zone.memories_dsp (z := (z6.freeWord 2).2) rfl).trans h6
    · exact (Zone.memories_dsp (z := z6) rfl).trans h6
  exact (Zone.bucketAdd_memories _).trans h7

@[simp] theorem Zone.overrun_memories (z : Zone) : z.overrun.memories = z.memories := by
  simp [Zone.overrun]

end Sys2Proof.Machine
end

section
namespace Sys2Proof.Machine

/-! Canonical memories of a zone through what writes them: marks of errors, voice blocks, route images, the DSP's memories, the
sample cache. -/

theorem iterFrom_inv {α : Type} {P : α → Prop} {f : Nat → α → α} (hf : ∀ k a, P a → P (f k a)) :
    ∀ (k n : Nat) {a : α}, P a → P (iterFrom f k n a)
  | _, 0, _, h => h
  | k, n + 1, _, h => iterFrom_inv hf (k + 1) n (hf k _ h)

/-- What each turn of a loop keeps, the loop keeps. -/
theorem iter_inv {α : Type} {P : α → Prop} {f : Nat → α → α} (hf : ∀ k a, P a → P (f k a)) (n : Nat)
    {a : α} (h : P a) : P (iter n f a) :=
  iterFrom_inv hf 0 n h

/-- What leaves the memories as they are leaves them canonical. -/
theorem Memories.Canon.of_eq {m n : Memories} (h : m.Canon) (e : n = m) : n.Canon := e ▸ h

theorem iter_canon {f : Nat → Zone → Zone} (hf : ∀ k z, z.memories.Canon → (f k z).memories.Canon) (n : Nat) {z : Zone}
    (h : z.memories.Canon) : (iter n f z).memories.Canon :=
  iter_inv (P := fun z : Zone => z.memories.Canon) hf n h

theorem foldl_canon {γ : Type} {f : Zone → γ → Zone} (hf : ∀ z x, z.memories.Canon → (f z x).memories.Canon) (l : List γ)
    {z : Zone} (h : z.memories.Canon) : (l.foldl f z).memories.Canon :=
  List.foldlRecOn (motive := fun z : Zone => z.memories.Canon) l f h fun z hz x _ => hf z x hz

theorem foldl_snd_canon {α γ : Type} {f : α × Zone → γ → α × Zone}
    (hf : ∀ a x, a.2.memories.Canon → (f a x).2.memories.Canon) (l : List γ) {a : α × Zone} (h : a.2.memories.Canon) :
    (l.foldl f a).2.memories.Canon :=
  List.foldlRecOn (motive := fun a : α × Zone => a.2.memories.Canon) l f h fun a ha x _ => hf a x ha

/-! What keeps a memory canonical: a run of writes, a load. -/

theorem iter_m72Set_wf (n : Nat) (k : Nat → Nat) (w : Nat → W72) {m : Mem72} (h : m72Wf m = true) :
    m72Wf (iter n (fun i m => m72Set m (k i) (w i)) m) = true :=
  iter_inv (P := fun m => m72Wf m = true) (fun _ _ hm => m72Set_wf hm) n h

/-- Words at consecutive addresses, those of 0 left out, in front of a canonical memory above them. -/
theorem smWf_load (f : Nat → W72) {r : Mem72} : ∀ (n lo : Nat), smWf (fun _ => (0 : W72)) (lo + n) r = true →
    smWf (fun _ => (0 : W72)) lo (((List.range' lo n).map (fun k => (k, f k))).filter (fun p => p.2 != 0) ++ r) = true
  | 0, _, h => h
  | n + 1, lo, h => by
    have ih := smWf_load f n (lo + 1) (by rwa [Nat.add_right_comm])
    rw [List.range'_succ, List.map_cons, List.filter_cons]
    split
    · rename_i hv
      simp only [List.cons_append, smWf, Bool.and_eq_true, decide_eq_true_eq]
      exact ⟨⟨le_rfl, by simpa using hv⟩, ih⟩
    · exact smWf_mono _ (Nat.le_succ lo) ih

/-- What is left of a canonical memory from an address on. -/
theorem smWf_drop {m : Mem72} (n : Nat) : ∀ {lo : Nat}, smWf (fun _ => (0 : W72)) lo m = true →
    smWf (fun _ => (0 : W72)) n (m.filter (fun p => decide (n ≤ p.1))) = true := by
  induction m with
  | nil => exact fun _ => rfl
  | cons p m ih =>
    obtain ⟨a, v⟩ := p
    intro lo h
    simp only [smWf, Bool.and_eq_true, decide_eq_true_eq] at h
    rw [List.filter_cons]
    split
    · rename_i hn
      simp only [smWf, Bool.and_eq_true, decide_eq_true_eq]
      exact ⟨⟨by simpa using hn, h.1.2⟩, smWf_filter _ _ h.2⟩
    · exact ih h.2

/-- A load writes the words of addresses 0 to n - 1 and keeps those above. -/
theorem m72Load_wf {m : Mem72} (n : Nat) (f : Nat → W72) (h : m72Wf m = true) : m72Wf (m72Load m n f) = true := by
  unfold m72Load m72Wf
  rw [List.range_eq_range']
  exact smWf_load f n 0 (by rw [Nat.zero_add]; exact smWf_drop n h)

theorem ZDsp.zero_canon : ZDsp.zero.memories.Canon := ⟨rfl, rfl, rfl, rfl, rfl, rfl⟩

/-! Errors that words hold (R81, R344). -/

theorem Zone.upset_canon {z : Zone} (u : Upset) (h : z.memories.Canon) : (z.upset u).memories.Canon :=
  { h with marks := smSet_wf _ h.marks (Nat.zero_le _) }

theorem Zone.eccRead_canon {z : Zone} (c w : Nat) (h : z.memories.Canon) : (z.eccRead c w).2.memories.Canon := by
  unfold Zone.eccRead
  split
  · exact h
  · exact h.of_eq (by simp [ZMem.tally])
  · exact { h with marks := smSet_wf _ h.marks (Nat.zero_le _) }

theorem Zone.eccWrite_canon {z : Zone} (c w : Nat) (h : z.memories.Canon) : (z.eccWrite c w).memories.Canon :=
  { h with marks := smSet_wf _ h.marks (Nat.zero_le _) }

theorem Zone.eccScan_canon {z : Zone} (c lo n : Nat) (h : z.memories.Canon) : (z.eccScan c lo n).2.memories.Canon := by
  unfold Zone.eccScan
  exact foldl_snd_canon (fun _ p ha => Zone.eccRead_canon c (p.1 % 2 ^ 20) ha) _ h

theorem Zone.eccFence_canon {z : Zone} (c lo n : Nat) (h : z.memories.Canon) : (z.eccFence c lo n).memories.Canon := by
  unfold Zone.eccFence
  dsimp only
  split
  · exact (Zone.eccScan_canon c lo n h).of_eq (by simp)
  · exact Zone.eccScan_canon c lo n h

theorem Zone.voiceEcc_canon {z : Zone} (h : z.memories.Canon) : z.voiceEcc.memories.Canon := by
  refine iter_canon (fun k z hz => ?_) 96 h
  dsimp only
  split
  · exact hz
  · exact Zone.eccFence_canon _ _ _ (Zone.eccFence_canon _ _ _ hz)

theorem Zone.routeEcc_canon {z : Zone} (h : z.memories.Canon) : z.routeEcc.memories.Canon := Zone.eccFence_canon _ _ _ h

theorem Zone.scrubMem_canon {z : Zone} (c : Nat) (h : z.memories.Canon) : (z.scrubMem c).memories.Canon := by
  unfold Zone.scrubMem
  dsimp only
  split
  · exact (Zone.eccScan_canon c 0 (memWords c) h).of_eq (by simp)
  · exact Zone.eccScan_canon c 0 (memWords c) h

theorem Zone.scrubPass_canon {z : Zone} (h : z.memories.Canon) : z.scrubPass.memories.Canon := by
  unfold Zone.scrubPass
  split
  · exact h
  · exact iter_canon (fun c _ hz => Zone.scrubMem_canon c hz) 8 h

/-- A march that restores a segment's words (R352). -/
theorem Zone.restored_canon {z : Zone} (c seg n : Nat) (h : z.memories.Canon) :
    ({ z with mem := { z.mem.restored c seg with borrows := n } } : Zone).memories.Canon :=
  { h with marks := smWf_filter _ _ h.marks }

theorem Zone.borrow_canon {z : Zone} (marchFail yielded : Bool) (h : z.memories.Canon) :
    (z.borrow marchFail yielded).memories.Canon := by
  unfold Zone.borrow
  split
  · exact h
  · generalize segLoc z.mem.seg = l
    obtain ⟨c, seg⟩ := l
    have hs := Zone.eccScan_canon c (64 * seg) 64 h
    dsimp only
    generalize z.eccScan c (64 * seg) 64 = r at hs ⊢
    generalize hy : (if r.1 && 4 ≤ c && c ≤ 6 then r.2.raise 0x02 else r.2) = y
    have hm : y.memories.Canon := hs.of_eq (by simp [← hy])
    clear hy
    have hb := Zone.restored_canon c seg (y.mem.borrows + 1) hm
    split
    · exact h.of_eq (Zone.segNext_memories z)
    · split
      · exact hb.of_eq (Zone.btYield_memories _ _)
      · split
        · exact hb.of_eq ((Zone.btFail_memories _ _ _).trans (Zone.segNext_memories _))
        · exact hb.of_eq (Zone.segNext_memories _)

theorem Zone.cacheCheck_canon {z : Zone} (ws : List Nat) (h : z.memories.Canon) : (z.cacheCheck ws).memories.Canon := by
  refine foldl_canon (fun z w hz => ?_) _ h
  dsimp only
  split
  · exact (Zone.eccRead_canon memCache w hz).of_eq rfl
  · exact Zone.eccRead_canon memCache w hz

theorem Zone.winCheck_canon {z : Zone} (code w : Nat) (h : z.memories.Canon) : (z.winCheck code w).2.memories.Canon := by
  have hr := Zone.eccRead_canon code w h
  unfold Zone.winCheck
  dsimp only
  split
  · exact hr.of_eq (by simp)
  · split
    · exact hr.of_eq rfl
    · exact hr

theorem Zone.winFetch_canon {z : Zone} (code w : Nat) (v : W72) (h : z.memories.Canon) :
    (z.winFetch code w v).2.memories.Canon := by
  unfold Zone.winFetch
  dsimp only
  split
  · exact (Zone.winCheck_canon code w h).of_eq (by simp)
  · exact Zone.winCheck_canon code w h

theorem Zone.aecEcc_canon {z : Zone} (h : z.memories.Canon) : z.aecEcc.memories.Canon := by
  refine foldl_canon (fun z p hz => ?_) _ h
  have hr := Zone.eccRead_canon memAec (p.1 % 2 ^ 20) hz
  dsimp only
  split
  · refine Zone.eccWrite_canon _ _ (hr.of_eq ?_)
    rw [Zone.setFlt_memories, Zone.count_memories, Zone.memories_aec, Zone.freeCond_memories]
  · exact hr

theorem Zone.aecInstant_canon {z : Zone} (h : z.memories.Canon) : z.aecInstant.memories.Canon := by
  unfold Zone.aecInstant
  split
  · exact h
  · extract_lets y1 x y2 y3 y4 a b y5 y6
    have h4 : y4.memories.Canon :=
      (Zone.aecEcc_canon h).of_eq ((foldl_memories Zone.aecChannel_memories _ y3).trans rfl)
    have h6 : y6.memories.Canon := h4.of_eq (by simp [y6, y5])
    clear_value y6
    split
    · exact h6.of_eq (Zone.memories_aec _ _)
    · exact h6.of_eq (Zone.memories_aec _ _)

theorem Zone.measStart_canon {z : Zone} (h : z.memories.Canon) : z.measStart.memories.Canon := by
  unfold Zone.measStart
  split
  · refine Zone.aecInstant_canon (h.of_eq ?_)
    rw [foldl_memories Zone.aecFront_memories, underTest_memories (fun z => foldl_memories Zone.decOut_memories _ z),
      foldl_memories Zone.windowEnd_memories]
  · exact h

end Sys2Proof.Machine
end

section
namespace Sys2Proof.Machine

/-! Canonical memories of a zone: starts of voices, copies of blocks, INIT, the DSP's writes. -/

theorem Zone.presetCopy_canon {z : Zone} (it : Item) (v : Fin 96) (h : z.memories.Canon) :
    (z.presetCopy it v).memories.Canon := by
  have hw (m : Mem72) (hm : m72Wf m = true) :
      m72Wf (iter 32 (fun i m => m72Set m (v.val * 32 + i) (z.presetWord it i)) m) = true :=
    iter_m72Set_wf 32 _ _ hm
  refine { h with battA := ?_, battB := ?_ }
  · simp only [Zone.presetCopy, Zone.memories_mk]
    split
    · exact hw _ h.battA
    · exact h.battA
  · simp only [Zone.presetCopy, Zone.memories_mk]
    split
    · exact hw _ h.battB
    · exact h.battB

theorem Zone.presetCheck_canon {z : Zone} (it : Item) (h : z.memories.Canon) : (z.presetCheck it).memories.Canon := by
  unfold Zone.presetCheck
  split
  · exact Zone.cacheCheck_canon _ h
  · exact h

theorem Zone.startOn_canon {z : Zone} (x : HostC) (v : Fin 96) (st : Start) (succ : Bool) (h : z.memories.Canon) :
    (z.startOn x v st succ).memories.Canon := by
  have hu : ({ z with cache := z.cache.unwait v.val } : Zone).memories.Canon := h
  unfold Zone.startOn
  dsimp only
  generalize ({ z with cache := z.cache.unwait v.val } : Zone) = y at hu ⊢
  split
  · exact hu.of_eq (Zone.voiceBegin_memories _ _ _ _)
  · split
    · exact hu.of_eq (Zone.modVoice_memories _ _ _)
    · rename_i it _
      have hc := Zone.presetCheck_canon it hu
      split
      · exact (Zone.presetCopy_canon it v hc).of_eq (Zone.voiceBegin_memories _ _ _ _)
      · exact hc.of_eq (by simp)

theorem Zone.succStart_canon {z : Zone} (x : HostC) (v : Fin 96) (h : z.memories.Canon) :
    (z.succStart x v).memories.Canon := by
  unfold Zone.succStart
  split
  · split
    · exact h.of_eq (Zone.modVoice_memories _ _ _)
    · exact Zone.startOn_canon x v _ true h
  · exact h

theorem Zone.waitCopy_canon {z : Zone} (x : HostC) (v : Fin 96) (h : z.memories.Canon) :
    (z.waitCopy x v).memories.Canon := by
  unfold Zone.waitCopy
  dsimp only
  split
  · rename_i it _
    have hc := Zone.presetCheck_canon it h
    split
    · refine (Zone.presetCopy_canon it v (hc.of_eq ?_)).of_eq (Zone.voiceBegin_memories _ _ _ _)
      exact Zone.lateStart_memories _ _
    · exact hc.of_eq (Zone.presetFetch_memories _ _ _ _)
  · exact h.of_eq (by simp)

theorem Zone.completeVoice_canon {z : Zone} (x : HostC) (v : Fin 96) (h : z.memories.Canon) :
    (z.completeVoice x v).memories.Canon := by
  unfold Zone.completeVoice
  dsimp only
  split
  · split
    · exact Zone.succStart_canon x v h
    · exact h.of_eq (Zone.modVoice_memories _ _ _)
  · split
    · exact Zone.waitCopy_canon x v h
    · split
      · exact h.of_eq (Zone.succLost_memories _ _ _)
      · exact h

theorem Zone.steal_canon {z : Zone} (x : HostC) (v : Fin 96) (st : Start) (h : z.memories.Canon) :
    (z.steal x v st).memories.Canon := by
  unfold Zone.steal
  extract_lets vi y1 y2 y3
  have h2 : y2.memories.Canon := h.of_eq (by simp [y2, y1])
  clear_value y2
  split
  · exact Zone.startOn_canon x v st false h2
  · have h3 : y3.memories.Canon := h2.of_eq (Zone.modVoice_memories _ _ _)
    clear_value y3
    split
    · split
      · exact h3
      · exact h3.of_eq (Zone.presetFetch_memories _ _ _ _)
    · exact h3

theorem Zone.vstart_canon {z : Zone} (x : HostC) (src cls : Nat) (arg0 arg1 : Word) (dl : Option DlSt) (cnt : Bool)
    (h : z.memories.Canon) : (z.vstart x src cls arg0 arg1 dl cnt).2.memories.Canon := by
  unfold Zone.vstart
  extract_lets hd hd' st y
  split
  · exact h.of_eq (by simp [y])
  split
  · exact h.of_eq (Zone.noVoice_memories _ _ _ _ _)
  split
  · exact h.of_eq (Zone.noVoice_memories _ _ _ _ _)
  split
  · exact Zone.startOn_canon x _ st false h
  · split
    · exact Zone.steal_canon x _ st h
    · exact h.of_eq (Zone.noVoice_memories _ _ _ _ _)

theorem Zone.parAct_canon {z : Zone} (h : z.memories.Canon) :
    m72Wf (if z.swaps[(2 : Fin 6)].active then z.dsp.parB else z.dsp.parA) = true := by
  split
  · exact h.dsp.parB
  · exact h.dsp.parA

theorem Zone.battAct_wf {z : Zone} (h : z.memories.Canon) : m72Wf z.battAct = true := by
  unfold Zone.battAct
  split
  · exact h.battB
  · exact h.battA

theorem Zone.routeAct_wf {z : Zone} (h : z.memories.Canon) : m72Wf z.routeAct = true := by
  unfold Zone.routeAct
  split
  · exact h.batB
  · exact h.batA

theorem Zone.copyBatten_canon {z : Zone} (p : Fin 6) (h : z.memories.Canon) : (z.copyBatten p).memories.Canon := by
  unfold Zone.copyBatten
  split
  · exact { h with battA := Zone.battAct_wf h, battB := Zone.battAct_wf h }
  · exact { h with batA := Zone.routeAct_wf h, batB := Zone.routeAct_wf h }
  · exact { h with dsp := { h.dsp with parA := Zone.parAct_canon h, parB := Zone.parAct_canon h } }
  · exact foldl_canon (fun z k hz => hz.of_eq (Zone.setReg_memories _ _ _)) _ h

theorem Zone.copyDone_canon {z : Zone} (p : Fin 6) (h : z.memories.Canon) : (z.copyDone p).memories.Canon :=
  (Zone.copyBatten_canon p h).of_eq (Zone.modSwap_memories _ _ _)

theorem Zone.copiesDone_canon {z : Zone} (h : z.memories.Canon) : z.copiesDone.memories.Canon := by
  unfold Zone.copiesDone
  refine foldl_canon (fun z p hz => ?_) _ h
  split
  · exact Zone.copyDone_canon p hz
  · exact hz

theorem Zone.memClear_canon {z : Zone} (keep : Bool) (h : z.memories.Canon) : (z.memClear keep).memories.Canon := by
  have he : m72Wf [] = true := rfl
  unfold Zone.memClear
  extract_lets d dsp marks
  rw [Zone.putBit_memories, Zone.memories_mk]
  simp only [dsp, marks, d]
  cases keep with
  | false => exact ⟨he, he, he, he, he, ZDsp.zero_canon, rfl⟩
  | true => exact ⟨h.battA, h.battB, h.batA, h.batB, he, { ZDsp.zero_canon with prog := h.dsp.prog }, smWf_filter _ _ h.marks⟩

theorem Zone.coldMem_canon {z : Zone} (h : z.memories.Canon) : z.coldMem.memories.Canon :=
  (Zone.memClear_canon false h).of_eq (Zone.gainsCold_memories _)

theorem Zone.warmMem_canon {z : Zone} (h : z.memories.Canon) : z.warmMem.memories.Canon := by
  unfold Zone.warmMem
  split
  · exact Zone.coldMem_canon h
  · exact (Zone.memClear_canon true h).of_eq (Zone.gainsWarm_memories _)

theorem Zone.initMem_canon {z : Zone} (warm : Bool) (h : z.memories.Canon) : (z.initMem warm).memories.Canon := by
  unfold Zone.initMem
  split
  · exact Zone.warmMem_canon h
  · exact Zone.coldMem_canon h

theorem Zone.toInit_canon {z : Zone} (warm : Bool) (h : z.memories.Canon) : (z.toInit warm).memories.Canon := by
  unfold Zone.toInit
  have hs : (z.initPll.initMark warm).initStop.memories.Canon := h.of_eq (by simp)
  exact (Zone.initMem_canon warm hs).of_eq (by simp)

theorem Zone.spaceRead_canon {z : Zone} (y : Bool) (w : Nat) (h : z.memories.Canon) :
    (z.spaceRead y w).2.2.memories.Canon := by
  unfold Zone.spaceRead
  split
  · split
    · exact h
    · exact Zone.eccRead_canon memDelay w h
  · exact Zone.eccRead_canon memData (z.dPhys w) h

theorem Zone.freshen_canon {z : Zone} (seg : Nat) (h : z.memories.Canon) : (z.freshen seg).memories.Canon :=
  { h with
    dsp := { h.dsp with dly := smWf_filter _ _ h.dsp.dly, stale := smSet_wf _ h.dsp.stale (Nat.zero_le _) }
    marks := smWf_filter _ _ h.marks }

theorem Zone.yWrite_canon {z : Zone} (w : Nat) (f : W72 → W72) (h : z.memories.Canon) :
    (z.yWrite w f).2.memories.Canon := by
  unfold Zone.yWrite
  dsimp only
  refine Zone.eccWrite_canon _ _ ?_
  have hy : (if z.dsp.isStale (w / 64) then z.freshen (w / 64) else z).memories.Canon := by
    split
    · exact Zone.freshen_canon _ h
    · exact h
  exact { hy with dsp := { hy.dsp with dly := m72Set_wf hy.dsp.dly } }

theorem Zone.dWrite_canon {z : Zone} (w : Nat) (f : W72 → W72) (h : z.memories.Canon) : (z.dWrite w f).memories.Canon :=
  Zone.eccWrite_canon _ _ { h with dsp := { h.dsp with data := m72Set_wf h.dsp.data } }

theorem Zone.zeroElems_canon {z : Zone} (lo hi : Nat) (h : z.memories.Canon) : (z.zeroElems lo hi).memories.Canon :=
  { h with
    dsp := { h.dsp with
      dly := List.foldlRecOn (motive := fun m => m72Wf m = true) _ _ h.dsp.dly fun _ hm _ _ => m72Set_wf hm }
    marks := smWf_filter _ _ h.marks }

theorem Zone.expose_canon {z : Zone} (p : Ptr) (n : Nat) (h : z.memories.Canon) : (z.expose p n).memories.Canon := by
  unfold Zone.expose
  extract_lets k edge y
  split
  · exact h
  · have hy : y.memories.Canon := Zone.zeroElems_canon _ _ h
    exact { hy with dsp := { hy.dsp with
      stale := List.foldlRecOn (motive := fun s => smWf (fun _ => false) 0 s = true) _ _ hy.dsp.stale
        fun _ hs _ _ => smSet_wf _ hs (Nat.zero_le _) } }

theorem Zone.lenChange_canon {z : Zone} (i : Fin 8) (h : z.memories.Canon) : (z.lenChange i).memories.Canon := by
  unfold Zone.lenChange
  dsimp only
  split
  · exact h
  · split
    · exact Zone.expose_canon _ _ h
    · exact h

theorem Zone.lenChanges_canon {z : Zone} (h : z.memories.Canon) : z.lenChanges.memories.Canon :=
  foldl_canon (fun _ i hz => Zone.lenChange_canon i hz) _ h

theorem Zone.dspTick_canon {z : Zone} (h : z.memories.Canon) : z.dspTick.memories.Canon := by
  unfold Zone.dspTick
  extract_lets r d y y'
  have hy : y.memories.Canon := by
    simp only [y]
    split
    · exact h
    · exact h.of_eq (Zone.memories_dsp rfl)
  clear_value y
  have hl : y'.memories.Canon := Zone.lenChanges_canon hy
  clear_value y'
  exact hl.of_eq (Zone.memories_dsp rfl)

theorem Zone.progWrite_canon {z : Zone} (w : Nat) (v : W72) (h : z.memories.Canon) : (z.progWrite w v).memories.Canon :=
  Zone.eccWrite_canon _ _ { h with dsp := { h.dsp with prog := m72Set_wf h.dsp.prog } }

theorem Zone.parWrite_canon {z : Zone} (w : Nat) (v : W72) (h : z.memories.Canon) : (z.parWrite w v).memories.Canon := by
  unfold Zone.parWrite
  refine Zone.eccWrite_canon _ _ ?_
  split
  · exact { h with dsp := { h.dsp with parA := m72Set_wf h.dsp.parA } }
  · exact { h with dsp := { h.dsp with parB := m72Set_wf h.dsp.parB } }

theorem Zone.vwinCommit_canon {z : Zone} (w : Nat) (v : W72) (h : z.memories.Canon) :
    (z.vwinCommit w v).memories.Canon := by
  unfold Zone.vwinCommit
  split
  · exact h
  · refine Zone.eccWrite_canon _ _ ?_
    rw [Zone.modVoice_memories]
    split
    · exact { h with battA := m72Set_wf h.battA }
    · exact { h with battB := m72Set_wf h.battB }

theorem Zone.rwinCommit_canon {z : Zone} (w : Nat) (v : W72) (h : z.memories.Canon) :
    (z.rwinCommit w v).memories.Canon := by
  unfold Zone.rwinCommit
  split
  · exact h
  · refine Zone.eccWrite_canon _ _ ?_
    split
    · exact { h with batA := m72Set_wf h.batA }
    · exact { h with batB := m72Set_wf h.batB }

theorem Zone.dwinCommit_canon {z : Zone} (sp w : Nat) (v : W72) (h : z.memories.Canon) :
    (z.dwinCommit sp w v).memories.Canon := by
  unfold Zone.dwinCommit
  split
  · exact h
  · split
    · exact Zone.progWrite_canon w v h
    · exact Zone.dWrite_canon w _ h
    · exact Zone.parWrite_canon w v h
    · exact Zone.yWrite_canon w _ h

end Sys2Proof.Machine
end

section
namespace Sys2Proof.Machine

/-! Canonical memories of a zone: window accesses, registers, the DSP's memory slot. -/

theorem Zone.vwinWrite_canon {z : Zone} (p : Party) (v : Word) (h : z.memories.Canon) :
    (z.vwinWrite p v).2.memories.Canon := by
  unfold Zone.vwinWrite
  dsimp only
  split
  · exact h
  · rw [Zone.modWin_memories]
    split
    · exact Zone.vwinCommit_canon _ _ h
    · exact h

theorem Zone.rwinWrite_canon {z : Zone} (p : Party) (v : Word) (h : z.memories.Canon) :
    (z.rwinWrite p v).2.memories.Canon := by
  unfold Zone.rwinWrite
  dsimp only
  split
  · exact h
  · rw [Zone.modWin_memories]
    split
    · exact Zone.rwinCommit_canon _ _ h
    · exact h

theorem Zone.dwinWrite_canon {z : Zone} (p : Party) (v : Word) (h : z.memories.Canon) :
    (z.dwinWrite p v).2.memories.Canon := by
  unfold Zone.dwinWrite
  dsimp only
  split
  · exact h
  split
  · exact h
  · rw [Zone.modWin_memories]
    split
    · exact Zone.dwinCommit_canon _ _ _ h
    · exact h

theorem Zone.vwinRead_canon {z : Zone} (p : Party) (h : z.memories.Canon) : (z.vwinRead p).2.memories.Canon := by
  unfold Zone.vwinRead
  dsimp only
  rw [Zone.modWin_memories]
  split
  · exact h
  split
  · exact h
  · exact Zone.winFetch_canon _ _ _ h

theorem Zone.rwinRead_canon {z : Zone} (p : Party) (h : z.memories.Canon) : (z.rwinRead p).2.memories.Canon := by
  unfold Zone.rwinRead
  dsimp only
  rw [Zone.modWin_memories]
  split
  · exact h
  split
  · exact h
  · exact Zone.winFetch_canon _ _ _ h

theorem Zone.dwinFetch_canon {z : Zone} (sp w : Nat) (inact : Bool) (h : z.memories.Canon) :
    (z.dwinFetch sp w inact).2.memories.Canon := by
  unfold Zone.dwinFetch
  split
  · exact h
  · split
    · exact Zone.winFetch_canon _ _ _ h
    · exact Zone.winFetch_canon _ _ _ h
    · exact Zone.winFetch_canon _ _ _ h
    · split
      · exact h
      · exact Zone.winFetch_canon _ _ _ h

theorem Zone.dwinRead_canon {z : Zone} (p : Party) (h : z.memories.Canon) : (z.dwinRead p).2.memories.Canon := by
  unfold Zone.dwinRead
  dsimp only
  rw [Zone.modWin_memories]
  split
  · exact h
  · exact Zone.dwinFetch_canon _ _ _ h

theorem Zone.memFetch_canon {z : Zone} (code w : Nat) (h : z.memories.Canon) : (z.memFetch code w).2.memories.Canon := by
  unfold Zone.memFetch
  split
  · exact h
  · split
    · exact Zone.winFetch_canon _ _ _ h
    · exact (Zone.winCheck_canon memVoice w h).of_eq (Zone.freeWord_memories _ _)
    · exact (Zone.winCheck_canon memAec w h).of_eq (Zone.freeWord_memories _ _)
    · exact h

theorem Zone.memRead_canon {z : Zone} (p : Party) (h : z.memories.Canon) : (z.memRead p).2.memories.Canon := by
  unfold Zone.memRead
  dsimp only
  rw [Zone.modWin_memories]
  split
  · exact h
  · exact Zone.memFetch_canon _ _ h

/-! Register accesses. -/

/-- An access that may not be of the register at hand; where it is, the zone it leaves has canonical memories. -/
def AnswerCanon {α : Type} (r : Option (α × Zone)) : Prop := ∀ x, r = some x → x.2.memories.Canon

section answer
variable {α : Type}

theorem AnswerCanon.none : AnswerCanon (none : Option (α × Zone)) := fun _ e => by cases e

theorem AnswerCanon.some {x : α × Zone} (h : x.2.memories.Canon) : AnswerCanon (some x) := fun _ e => by
  cases e
  exact h

theorem AnswerCanon.ite {c : Prop} [Decidable c] {x y : Option (α × Zone)} (hx : AnswerCanon x) (hy : AnswerCanon y) :
    AnswerCanon (if c then x else y) := by
  split
  · exact hx
  · exact hy

/-- An answer that leaves the memories as they were. -/
theorem AnswerCanon.of_eq {z : Zone} {x : α × Zone} (h : z.memories.Canon) (e : x.2.memories = z.memories) :
    AnswerCanon (Option.some x) := .some (h.of_eq e)

end answer

theorem Zone.readSpecial_canon {z : Zone} (p : Party) (off : Nat) (h : z.memories.Canon) :
    AnswerCanon (z.readSpecial p off) := by
  have hv : AnswerCanon (some (z.vwinRead p)) := .some (Zone.vwinRead_canon p h)
  have hr : AnswerCanon (some (z.rwinRead p)) := .some (Zone.rwinRead_canon p h)
  have hd : AnswerCanon (some (z.dwinRead p)) := .some (Zone.dwinRead_canon p h)
  have hm : AnswerCanon (some (z.memRead p)) := .some (Zone.memRead_canon p h)
  unfold Zone.readSpecial
  split
  · exact .some h
  · dsimp only
    cases p
    all_goals
      repeat' apply AnswerCanon.ite
      any_goals assumption
      any_goals exact .none
      all_goals exact .of_eq h (by simp)

theorem Zone.regRead_canon {z : Zone} (p : Party) (off : Nat) (h : z.memories.Canon) :
    (z.regRead p off).z.memories.Canon := by
  unfold Zone.regRead
  dsimp only
  split_ifs
  · exact h
  · exact h
  · exact h
  · exact h
  · split
    · exact h
    · split
      · exact h
      · split
        · rename_i e
          exact Zone.readSpecial_canon p off h _ e
        · exact h.of_eq (by simp)

theorem Zone.cmdEnable_canon {z : Zone} (x : HostC) (h : z.memories.Canon) : (z.cmdEnable x).memories.Canon := by
  unfold Zone.cmdEnable
  split
  · exact Zone.toInit_canon false (h.of_eq (by simp))
  · exact h.of_eq (Zone.reject_memories z)

theorem Zone.cmdReset_canon {z : Zone} (warm : Bool) (h : z.memories.Canon) : (z.cmdReset warm).memories.Canon := by
  unfold Zone.cmdReset
  split
  · exact h.of_eq (Zone.reject_memories z)
  · exact Zone.toInit_canon warm h

theorem Zone.zctlCmd_canon {z : Zone} (x : HostC) (v : Word) (h : z.memories.Canon) : (z.zctlCmd x v).memories.Canon := by
  unfold Zone.zctlCmd
  split
  · exact h.of_eq (Zone.reject_memories z)
  · split
    · exact Zone.cmdEnable_canon x h
    · exact h.of_eq (Zone.cmdDisable_memories z)
    · exact Zone.cmdReset_canon true h
    · exact Zone.cmdReset_canon false h
    · exact h.of_eq (Zone.cmdRun_memories z)
    · exact h.of_eq (Zone.cmdResume_memories z)
    · exact h.of_eq (Zone.cmdFence_memories z)
    · exact h.of_eq (Zone.cmdRecover_memories z)
    · exact h

theorem Zone.writeA_canon {z : Zone} (x : HostC) (p : Party) (p0 : Bool) (off : Nat) (v : Word) (h : z.memories.Canon) :
    AnswerCanon (z.writeA x p p0 off v) := by
  unfold Zone.writeA
  refine .ite (.some (Zone.zctlCmd_canon x v h)) ?_
  repeat' apply AnswerCanon.ite
  any_goals exact .none
  all_goals exact .of_eq h (by simp)

theorem Zone.writeB_canon {z : Zone} (p : Party) (off : Nat) (v : Word) (h : z.memories.Canon) :
    AnswerCanon (z.writeB p off v) := by
  have hv : AnswerCanon (some (z.vwinWrite p v)) := .some (Zone.vwinWrite_canon p v h)
  have hr : AnswerCanon (some (z.rwinWrite p v)) := .some (Zone.rwinWrite_canon p v h)
  have hd : AnswerCanon (some (z.dwinWrite p v)) := .some (Zone.dwinWrite_canon p v h)
  unfold Zone.writeB
  repeat' apply AnswerCanon.ite
  any_goals assumption
  any_goals exact .none
  all_goals exact .of_eq h (by simp)

theorem Zone.blockWrite_canon {z : Zone} (x : HostC) (p : Party) (p0 : Bool) (r : RegSpec) (v : Word) (h : z.memories.Canon) :
    (z.blockWrite x p p0 r v).2.memories.Canon := by
  unfold Zone.blockWrite
  split
  · exact h
  · exact h
  · split
    · split
      · exact h
      · exact h.of_eq (Zone.setReg_memories _ _ _)
    · exact h
  · split
    · rename_i e
      exact Zone.writeA_canon x p p0 _ v h _ e
    · split
      · rename_i e
        exact Zone.writeB_canon p _ v h _ e
      · exact h.of_eq (Zone.plainWrite_memories _ _ _)

theorem Zone.regWrite_canon {z : Zone} (x : HostC) (p : Party) (p0 : Bool) (off : Nat) (v : Word) (h : z.memories.Canon) :
    (z.regWrite x p p0 off v).2.memories.Canon := by
  unfold Zone.regWrite
  dsimp only
  split_ifs
  · exact h
  · exact h
  · exact h.of_eq (Zone.regDeny_memories z)
  · exact h
  · exact h.of_eq (Zone.headerWrite_memories _ _ _ _)
  · split
    · exact h
    · exact Zone.blockWrite_canon x p p0 _ v h

theorem Zone.bcastWrite_canon {z : Zone} (x : HostC) (p0 : Bool) (off : Nat) (v : Word) (h : z.memories.Canon) :
    (z.bcastWrite x p0 off v).2.memories.Canon := by
  unfold Zone.bcastWrite
  split
  · exact h
  split
  · exact h.of_eq (Zone.reject_memories z)
  · exact Zone.regWrite_canon x .host p0 off v h

theorem Zone.bridgeRead_canon {z : Zone} (off : Nat) (h : z.memories.Canon) : (z.bridgeRead off).2.memories.Canon := by
  unfold Zone.bridgeRead
  split
  · exact h
  · exact Zone.regRead_canon .prog off h

theorem Zone.bridgeWrite_canon {z : Zone} (x : HostC) (off : Nat) (v : Word) (h : z.memories.Canon) :
    (z.bridgeWrite x off v).memories.Canon := by
  unfold Zone.bridgeWrite
  dsimp only
  split
  · exact h
  split
  · have hf : (z.freeCond 12).2.memories.Canon := h.of_eq (Zone.freeCond_memories _ _)
    split
    · exact hf.of_eq (Zone.collide_memories _ _)
    · exact Zone.regWrite_canon x .prog false off v hf
  · exact Zone.regWrite_canon x .prog false off v h

/-! The DSP's memory slot, its issue and its run. -/

theorem Zone.memLoad_canon {z : Zone} (d0 : ZDsp) (b : Bundle) (elem : Bool) (h : z.memories.Canon) :
    (z.memLoad d0 b elem).2.memories.Canon := by
  unfold Zone.memLoad
  dsimp only
  split
  · exact h
  · rename_i e _
    have hs := Zone.spaceRead_canon d0.pt[fin 8 b.en].y (e / 2) h
    split
    · exact hs
    · exact hs.of_eq (by simp)

theorem Zone.memStore_canon {z : Zone} (d0 : ZDsp) (b : Bundle) (elem : Bool) (h : z.memories.Canon) :
    (z.memStore d0 b elem).2.memories.Canon := by
  unfold Zone.memStore
  dsimp only
  split
  · exact h
  · split
    · simp only [Zone.ptMove_memories, Zone.dspArb_memories, ite_memories, Zone.dspStall_memories, ite_self]
      exact Zone.yWrite_canon _ _ h
    · split
      · exact h
      · rw [Zone.ptMove_memories, Zone.dspArb_memories]
        exact Zone.dWrite_canon _ _ h

theorem Zone.memTap_canon {z : Zone} (d0 : ZDsp) (b : Bundle) (h : z.memories.Canon) : (z.memTap d0 b).2.memories.Canon := by
  unfold Zone.memTap
  dsimp only
  split
  · exact h
  · rename_i e _
    have hs := Zone.spaceRead_canon d0.pt[fin 8 b.en].y (e / 2) h
    split
    · exact hs
    · exact hs.of_eq (by simp)

theorem Zone.ioRead_canon {z : Zone} (d0 : ZDsp) (a : Nat) (h : z.memories.Canon) : (z.ioRead d0 a).2.memories.Canon := by
  unfold Zone.ioRead
  dsimp only
  split_ifs
  · exact h
  · exact h
  · split
    case h_15 => exact (Zone.bridgeRead_canon _ h).of_eq (Zone.dspStall_memories _ _)
    all_goals exact h

theorem Zone.ioWrite_canon {z : Zone} (d0 : ZDsp) (x : HostC) (a : Nat) (g : W72) (h : z.memories.Canon) :
    (z.ioWrite d0 x a g).2.memories.Canon := by
  unfold Zone.ioWrite
  dsimp only
  split
  · exact h
  · split
    case h_3 =>
      split
      · exact h
      · exact h.of_eq (Zone.dspReq_memories _ _ _)
    case h_8 => exact (Zone.bridgeWrite_canon x _ _ h).of_eq (Zone.dspStall_memories _ _)
    all_goals exact h

theorem Zone.memSlot_canon {z : Zone} (d0 : ZDsp) (x : HostC) (b : Bundle) (h : z.memories.Canon) :
    (z.memSlot d0 x b).2.memories.Canon := by
  unfold Zone.memSlot
  split
  · exact Zone.memLoad_canon d0 b false h
  · exact Zone.memStore_canon d0 b false h
  · exact Zone.memLoad_canon d0 b true h
  · exact Zone.memStore_canon d0 b true h
  · exact Zone.memTap_canon d0 b h
  · split
    · exact Zone.ioWrite_canon d0 x _ _ h
    · exact (Zone.ioRead_canon d0 _ h).of_eq (Zone.dspRes_memories _ _ _ _ _ _)
  · exact h.of_eq (Zone.ptsSlot_memories _ _ _)
  · exact h

theorem Zone.issue_canon {z : Zone} (x : HostC) (b : Bundle) (h : z.memories.Canon) : (z.issue x b).memories.Canon := by
  have hm : (if z.dsp.guard b.ge then z.memSlot z.dsp x b else (none, z)).2.memories.Canon := by
    split
    · exact Zone.memSlot_canon _ x b h
    · exact h
  unfold Zone.issue
  dsimp only
  split
  · exact h.of_eq (Zone.dspTrap_memories _ _)
  · generalize (if z.dsp.guard b.ge then z.memSlot z.dsp x b else (none, z)) = r at hm
    obtain ⟨t, y⟩ := r
    cases t with
    | some t => exact hm.of_eq (Zone.dspTrap_memories _ _)
    | none =>
      refine hm.of_eq ((Zone.memories_dsp ?_).trans ?_)
      · rw [ZDsp.control_memories, ZDsp.memories_mk, ZDsp.memories_eta, ZDsp.tickRes_memories]
      · simp

theorem Zone.fetchIssue_canon {z : Zone} (x : HostC) (h : z.memories.Canon) : (z.fetchIssue x).memories.Canon := by
  have hr := Zone.eccRead_canon memProg z.dsp.pc h
  unfold Zone.fetchIssue
  dsimp only
  split
  · exact hr.of_eq (Zone.dspTrap_memories _ _)
  · exact Zone.issue_canon x _ hr

theorem dspGo_canon (x : HostC) : ∀ (n : Nat) (todo : List (Nat × Nat)) {z : Zone}, z.memories.Canon →
    (dspGo x n todo z).memories.Canon
  | 0, _, _, h => h
  | n + 1, todo, z, h => by
    unfold dspGo
    split
    · exact h
    split
    · split
      · exact h.of_eq (Zone.dspTrap_memories _ _)
      · exact dspGo_canon x n _ (Zone.fetchIssue_canon x h)
    · split
      · split
        · exact h.of_eq (Zone.dspTrap_memories _ _)
        · exact dspGo_canon x n _ (h.of_eq (Zone.dspEnter_memories _ _ _ _))
      · split
        · rename_i y e
          split
          · exact h.of_eq (Zone.dspTrap_memories _ _)
          · exact dspGo_canon x n _ (h.of_eq (Zone.dspNext_memories e))
        · exact h

theorem Zone.dspFrame_canon {z : Zone} (x : HostC) (h : z.memories.Canon) : (z.dspFrame x).memories.Canon := by
  unfold Zone.dspFrame
  split
  · exact h.of_eq (Zone.memories_dsp rfl)
  · extract_lets d y todo y'
    have hy : y.memories.Canon := h.of_eq (Zone.memories_dsp rfl)
    clear_value y
    have hy' : y'.memories.Canon := (dspGo_canon x dspFuel todo hy).of_eq (Zone.dspEnd_memories _)
    clear_value y'
    exact hy'.of_eq (Zone.memories_dsp rfl)

end Sys2Proof.Machine
end

section
namespace Sys2Proof.Machine

/-! Canonical memories of a zone: fetches and loads, rendering, the window of a frame, a frame's and a tick's work. -/

theorem Zone.fillLine_canon {z : Zone} (x : HostC) (it : Item) (idx line : Nat) (f : Fetch) (h : z.memories.Canon) :
    (z.fillLine x it idx line f).memories.Canon := by
  refine { h with cache := ?_, marks := smWf_filter _ _ h.marks }
  simp only [Zone.fillLine, Zone.memories_mk, ZCache.done_mem]
  exact iter_m72Set_wf 512 _ _ h.cache

theorem Zone.fetched_canon {z : Zone} (x : HostC) (f : Fetch) (it : Item) (o : Nat) (h : z.memories.Canon) :
    (z.fetched x f it o).memories.Canon := by
  unfold Zone.fetched
  dsimp only
  split
  · split
    · exact h.of_eq (by simp)
    · exact h
  · split
    · exact h
    · rename_i line _
      have hf := Zone.fillLine_canon x it (f.blk - it.first) line f h
      split
      · refine (hf.of_eq ?_).of_eq (Zone.chkField_memories _ _ _)
        split
        · rfl
        · rfl
      · split
        · exact hf
        · exact hf

theorem Zone.loadRoute_canon {z : Zone} (x : HostC) (it : Item) (h : z.memories.Canon) :
    (z.loadRoute x it).2.memories.Canon := by
  have hw : (iter 576 (fun k (z : Zone) => z.rwinCommit k (x.itemW72 it 0 k)) z).memories.Canon :=
    iter_canon (fun k z hz => Zone.rwinCommit_canon k _ hz) 576 h
  fun_cases Zone.loadRoute z x it with
  | case1 => exact h
  | case2 _ y c z' hz =>
    have hy : y.memories.Canon := hw
    clear_value y
    have hr := y.routeValidate_memories false
    rw [hz] at hr
    exact hy.of_eq hr

theorem Zone.loadDsp_canon {z : Zone} (x : HostC) (it : Item) (h : z.memories.Canon) :
    (z.loadDsp x it).2.memories.Canon := by
  unfold Zone.loadDsp
  extract_lets nb np nd par d0 d m
  split
  · exact h
  · have he : m72Wf [] = true := rfl
    have hd : d.memories.Canon := by
      simp only [d, ZDsp.memories_mk]
      exact ⟨m72Load_wf _ _ he, m72Load_wf _ _ h.dsp.data, m72Load_wf _ _ h.dsp.parA, m72Load_wf _ _ h.dsp.parB,
        h.dsp.dly, h.dsp.stale⟩
    have hm : smWf (fun _ => (0 : Nat)) 0 m.marks = true :=
      smWf_filter _ _ (smWf_filter _ _ (smWf_filter _ _ (smWf_filter _ _ h.marks)))
    clear_value d m
    exact { h with dsp := hd, marks := hm }

theorem Zone.loadInto_canon {z : Zone} (x : HostC) (it : Item) (tgt : Nat) (h : z.memories.Canon) :
    (z.loadInto x it tgt).2.memories.Canon := by
  unfold Zone.loadInto
  split
  · exact Zone.loadRoute_canon x it h
  · exact Zone.loadDsp_canon x it h
  · exact h.of_eq (Zone.loadTable_memories _ _ _ _)

/-! Rendering of voices. -/

theorem Zone.oscCheck_canon {z : Zone} (x : HostC) (m : Mem72) (v n : Nat) (vo : Voice) (a : Addends) (h : z.memories.Canon) :
    (z.oscCheck x m v n vo a).memories.Canon := by
  unfold Zone.oscCheck
  split
  · exact Zone.cacheCheck_canon _ h
  · exact h

theorem Zone.voiceOscs_canon {z : Zone} (x : HostC) (v : Fin 96) (a : Addends) (h : z.memories.Canon) :
    (z.voiceOscs x v a).2.memories.Canon := by
  unfold Zone.voiceOscs
  refine iter_inv (P := fun r : List Int × Zone => r.2.memories.Canon) (fun n r hr => ?_) 3 h
  refine (Zone.oscCheck_canon x z.battAct v.val n r.2.voices[v] a hr).of_eq ?_
  simp

theorem Zone.renderVoice_canon {z : Zone} (x : HostC) (v : Fin 96) (h : z.memories.Canon) :
    (z.renderVoice x v).memories.Canon := by
  unfold Zone.renderVoice
  extract_lets vo y
  split
  · exact h.of_eq (Zone.modVoice_memories _ _ _)
  · have hy : (y.voiceControl v).2.memories.Canon := h.of_eq (by simp [y])
    clear_value y
    generalize y.voiceControl v = r at hy ⊢
    obtain ⟨a, y1⟩ := r
    have hs : (y1.starveVoice x v a).memories.Canon := hy.of_eq (Zone.starveVoice_memories _ _ _ _)
    dsimp only
    generalize y1.starveVoice x v a = y2 at hs ⊢
    split
    · exact hy.of_eq (Zone.voiceEnd_memories _ _)
    split
    · exact hs.of_eq (Zone.voiceEnd_memories _ _)
    · generalize hm : Zone.modVoice (y2.deadlineMiss x v) v _ = y3
      have h3 : (y3.voiceOscs x v a).2.memories.Canon :=
        Zone.voiceOscs_canon x v a (hs.of_eq (by rw [← hm, Zone.modVoice_memories, Zone.deadlineMiss_memories]))
      generalize y3.voiceOscs x v a = r at h3 ⊢
      split
      · split
        · exact h3.of_eq (by simp)
        · exact h3.of_eq (by simp)
      · exact h3.of_eq (by simp)

theorem Zone.renderAll_canon {z : Zone} (x : HostC) (h : z.memories.Canon) : (z.renderAll x).memories.Canon :=
  iter_canon (fun k _ hz => Zone.renderVoice_canon x (fin 96 k) hz) 96 h

theorem Zone.voiceFrame_canon {z : Zone} (x : HostC) (h : z.memories.Canon) : (z.voiceFrame x).memories.Canon := by
  have he := Zone.voiceEcc_canon h
  unfold Zone.voiceFrame
  dsimp only
  split
  · exact h
  split
  · exact Zone.renderAll_canon x he
  · exact he

/-! Entries, DSP requests and commands of the host in a frame's window. -/

theorem Zone.actVstart_canon {z : Zone} (x : HostC) (cls : Nat) (arg0 arg1 : Word) (dl : Option DlSt) (late : Bool)
    (h : z.memories.Canon) : (z.actVstart x cls arg0 arg1 dl late).memories.Canon :=
  Zone.vstart_canon x 0 cls arg0 arg1 dl (!late) h

theorem Zone.doAct_canon {z : Zone} (x : HostC) (e : Entry) (late : Bool) (h : z.memories.Canon) :
    (z.doAct x e late).memories.Canon := by
  unfold Zone.doAct
  dsimp only
  split
  · exact Zone.actVstart_canon x _ _ _ _ late h
  all_goals exact h.of_eq (by simp)

theorem Zone.execEntry_canon {z : Zone} (x : HostC) (e : Entry) (h : z.memories.Canon) :
    (z.execEntry x e).memories.Canon := by
  unfold Zone.execEntry
  extract_lets q y l late y1 y2
  have hy : y.memories.Canon := h
  have h1 : y1.memories.Canon := hy.of_eq (by simp [y1])
  have h2 : y2.memories.Canon := Zone.doAct_canon x e late h1
  split
  · exact hy.of_eq (by simp)
  split
  · exact h1.of_eq (Zone.actRefused_memories _ _ _)
  split
  · exact h2.of_eq (Zone.schedEvent_memories _ _ _ _ _ _)
  · exact h2

theorem Zone.dspRequest_canon {z : Zone} (x : HostC) (r : DspReq) (h : z.memories.Canon) :
    (z.dspRequest x r).memories.Canon := by
  unfold Zone.dspRequest
  split
  · split
    · exact Zone.vstart_canon x 2 r.cls r.a r.b none false h
    · exact h
  all_goals exact h.of_eq (by simp)

theorem Zone.hostVoice_canon {z : Zone} (x : HostC) (c : HostV) (h : z.memories.Canon) :
    (z.hostVoice x c).2.memories.Canon := by
  unfold Zone.hostVoice
  dsimp only
  split
  · have hv := Zone.vstart_canon x 1 c.cls c.arg0 c.arg1 none false h
    generalize z.vstart x 1 c.cls c.arg0 c.arg1 none false = r at hv ⊢
    obtain ⟨a, y⟩ := r
    cases a <;> exact hv
  all_goals exact h.of_eq (by simp)

theorem Zone.hostTake_canon {z : Zone} (x : HostC) (c : HostV) (h : z.memories.Canon) : (z.hostTake x c).memories.Canon := by
  have hq : ({ z with vox := { z.vox with hostq := z.vox.hostq.tail } } : Zone).memories.Canon := h
  have hv := Zone.hostVoice_canon x c hq
  unfold Zone.hostTake
  dsimp only
  generalize Zone.hostVoice _ x c = r at hv ⊢
  split
  · exact hv
  · exact hv

theorem Window.item_canon {w : Window} {f : Zone → Zone} (hf : ∀ z, z.memories.Canon → (f z).memories.Canon) (cost : Nat)
    (h : w.z.memories.Canon) : (w.item cost f).z.memories.Canon := by
  unfold Window.item
  split
  · exact h
  · split
    · exact hf _ h
    · exact h

theorem Window.entries_canon {w : Window} (x : HostC) (h : w.z.memories.Canon) : (w.entries x).z.memories.Canon := by
  unfold Window.entries
  dsimp only
  refine List.foldlRecOn (motive := fun w : Window => w.z.memories.Canon) _ _ ?_ fun w hw e _ => ?_
  · split
    · exact h
    · exact h
  · refine Window.item_canon (fun z hz => ?_) _ hw
    exact Zone.execEntry_canon x e hz

theorem Window.completions_canon {w : Window} (x : HostC) (h : w.z.memories.Canon) : (w.completions x).z.memories.Canon :=
  iter_inv (P := fun w : Window => w.z.memories.Canon)
    (fun k _ hw => Window.item_canon (fun _ hz => Zone.completeVoice_canon x (fin 96 k) hz) _ hw) 96 h

theorem Window.requests_canon (x : HostC) : ∀ (l : List DspReq) {w : Window}, w.z.memories.Canon →
    (Window.requests x l w).z.memories.Canon
  | [], _, h => h
  | r :: t, w, h => by
    have hi : (w.item (w.z.requestCost x r) (fun z => z.dspRequest x r)).z.memories.Canon :=
      Window.item_canon (fun z hz => Zone.dspRequest_canon x r hz) _ h
    unfold Window.requests
    dsimp only
    split
    · exact hi
    · exact Window.requests_canon x t hi

theorem Window.hostCmds_canon (x : HostC) : ∀ (l : List HostV) {w : Window}, w.z.memories.Canon →
    (Window.hostCmds x l w).z.memories.Canon
  | [], _, h => h
  | c :: t, _, h => Window.hostCmds_canon x t (Window.item_canon (fun _ hz => Zone.hostTake_canon x c hz) _ h)

theorem Window.work_canon {w : Window} (x : HostC) (h : w.z.memories.Canon) : (w.work x).memories.Canon := by
  have h1 := Window.completions_canon x h
  unfold Window.work
  generalize w.completions x = w1 at h1 ⊢
  extract_lets w2 w3 w4 w5 w6 l y d w7 y' d' w8 y8 v8 z9
  have h3 : w3.z.memories.Canon := h1.of_eq (Zone.markDue_memories _)
  clear_value w3
  have h4 : w4.z.memories.Canon := by
    simp only [w4]
    split
    · exact Window.entries_canon x h3
    · exact h3
  clear_value w4
  have h5 : w5.z.memories.Canon := by
    simp only [w5]
    split
    · exact Window.hostCmds_canon x _ h4
    · exact h4
  clear_value w5
  have h6 : w6.z.memories.Canon := h5.of_eq (Zone.hostGains_memories _)
  clear_value w6
  have h8 : w8.z.memories.Canon := by
    simp only [w8]
    split
    · exact Window.requests_canon x _ h6
    · exact h6
  clear_value w8
  split
  · exact h8.of_eq (Zone.bookLate_memories _)
  · exact h8

theorem Zone.window_canon {z : Zone} (x : HostC) (h : z.memories.Canon) : (z.window x).memories.Canon := by
  unfold Zone.window
  dsimp only
  exact Window.work_canon x (h.of_eq (Zone.takeRes_memories _))

theorem Zone.windowOn_canon {z : Zone} (x : HostC) (h : z.memories.Canon) : (z.windowOn x).memories.Canon :=
  Window.work_canon x h

/-! A tick and a frame. -/

theorem Zone.tickWork_canon {z : Zone} (x : HostC) (h : z.memories.Canon) : (z.tickWork x).memories.Canon := by
  unfold Zone.tickWork
  extract_lets y1 y2 y3 y4 y5
  have h1 : y1.memories.Canon := h.of_eq (by simp [y1])
  clear_value y1
  have h2 : y2.memories.Canon := Zone.dspTick_canon ((Zone.copiesDone_canon h1).of_eq (Zone.swapsDue_memories _ _))
  clear_value y2
  have h3 : y3.memories.Canon := h2.of_eq (by simp [y3, foldl_memories])
  clear_value y3
  have h4 : y4.memories.Canon := h3.of_eq (by simp [y4])
  clear_value y4
  have h5 : y5.memories.Canon := h4.of_eq (by simp [y5])
  clear_value y5
  exact h5.of_eq (by simp)

theorem Zone.slowTickWork_canon {z : Zone} (x : HostC) (h : z.memories.Canon) : (z.slowTickWork x).memories.Canon :=
  h.of_eq (by simp [Zone.slowTickWork])

theorem Zone.routeFrame_canon {z : Zone} (h : z.memories.Canon) : z.routeFrame.memories.Canon := by
  unfold Zone.routeFrame
  extract_lets mb y1 y2 cap r y3
  have h1 : y1.memories.Canon := by
    simp only [y1]
    split
    · exact Zone.routeEcc_canon h
    · exact h
  clear_value y1
  have h2 : y2.memories.Canon := h1.of_eq (by simp [y2])
  clear_value y2
  have h3 : y3.memories.Canon := h2.of_eq ((Zone.limFrame_memories _).trans (Zone.memories_route rfl rfl))
  clear_value y3
  exact h3.of_eq (Zone.memories_route rfl rfl)

theorem Zone.frameBody_canon {z : Zone} (x : HostC) (inp : FrameIn) (h : z.memories.Canon) :
    (z.frameBody x inp).memories.Canon := by
  unfold Zone.frameBody
  extract_lets y y1 y2 y3 y4 y5
  have hy : y.memories.Canon := (foldl_canon (fun _ u hz => Zone.upset_canon u hz) inp.upsets h).of_eq (by simp [y])
  clear_value y
  split
  · exact Zone.window_canon x hy
  · have h1 : y1.memories.Canon := Zone.measStart_canon (hy.of_eq (Zone.dspLatch_memories _))
    clear_value y1
    have h2 : y2.memories.Canon := Zone.dspFrame_canon x (Zone.window_canon x h1)
    clear_value y2
    have h3 : y3.memories.Canon :=
      (Zone.routeFrame_canon (h2.of_eq (Zone.tdmStart_memories _))).of_eq (Zone.testFrame_memories _)
    clear_value y3
    have h4 : y4.memories.Canon := (Zone.voiceFrame_canon x h3).of_eq (Zone.lineFrame_memories _)
    clear_value y4
    have h5 : y5.memories.Canon := h4.of_eq (by simp [y5])
    clear_value y5
    split
    · exact h5.of_eq (Zone.prefetch_memories _ _)
    · exact h5

theorem Zone.loadFrame_canon {z : Zone} (x : HostC) (h : z.memories.Canon) : (z.loadFrame x).memories.Canon := by
  unfold Zone.loadFrame
  extract_lets d was inst t q a y1 y2 y3 y4 y5
  have h1 : y1.memories.Canon := h
  clear_value y1
  have h4 : y4.memories.Canon := h1.of_eq (by simp [y4, y3, y2])
  clear_value y4
  have h5 : y5.memories.Canon := by
    simp only [y5]
    split
    · exact h4.of_eq (Zone.swapsDue_memories _ _)
    · have ht : y4.slowTick.timers.memories.Canon := h4.of_eq (by simp)
      exact (Zone.tickWork_canon x ht).of_eq (by simp)
  clear_value y5
  exact Zone.aecInstant_canon (Zone.windowOn_canon x h5)

theorem Zone.loadAct_canon {z : Zone} (x : HostC) (h : z.memories.Canon) : (z.loadAct x).memories.Canon := by
  unfold Zone.loadAct
  dsimp only
  split
  · exact h
  split
  · exact h.of_eq (Zone.count_memories _ _ _ _ _)
  split
  · exact h
  split
  · exact h.of_eq (Zone.checkFrame_memories _)
  · exact Zone.loadFrame_canon x h

theorem Zone.loadEdge_canon {z : Zone} (x : HostC) (h : z.memories.Canon) : (z.loadEdge x).memories.Canon := by
  have ht : ({ z with time := { z.time with syncHi := false } } : Zone).memories.Canon := h
  unfold Zone.loadEdge
  split
  · exact Zone.loadAct_canon x ht
  · exact h

theorem Zone.frefStep_canon {z : Zone} (x : HostC) (interval : Nat) (e : Int) (sync : Bool) (h : z.memories.Canon) :
    (z.frefStep x interval e sync).memories.Canon := by
  have he : (z.frefEdge interval e sync).memories.Canon := h.of_eq (Zone.frefEdge_memories _ _ _ _)
  unfold Zone.frefStep
  dsimp only
  split
  · exact Zone.loadAct_canon x he
  · exact he

/-! Reset. -/

theorem Zone.reset_canon (i : ZoneId) : (Zone.reset i).memories.Canon := ⟨rfl, rfl, rfl, rfl, rfl, ZDsp.zero_canon, rfl⟩

theorem Zone.afterReset_canon (z : Zone) : z.afterReset.memories.Canon := Zone.reset_canon z.id

end Sys2Proof.Machine
end

section
namespace Sys2Proof.Machine

/-! Canonical memories of every zone of the device, through what a command makes of the zones. -/

/-- A zone's memories are canonical after where they were before. -/
def Zone.KeepsWf (z n : Zone) : Prop := z.memories.Canon → n.memories.Canon

theorem Zone.KeepsWf.refl {z : Zone} : z.KeepsWf z := fun h => h

theorem Zone.KeepsWf.of_eq {z n : Zone} (e : n.memories = z.memories) : z.KeepsWf n := fun h => h.of_eq e

theorem Zone.KeepsWf.ite {z n : Zone} {c : Prop} [Decidable c] (h : z.KeepsWf n) : z.KeepsWf (if c then n else z) := by
  split
  · exact h
  · exact .refl

theorem Zone.cacheDrop_keepsWf (z : Zone) (b : Bool) : z.KeepsWf (z.cacheDrop b) := .of_eq (z.cacheDrop_memories b)

/-- Every zone of the device keeps its memories canonical. -/
structure KeepsWf (s t : State) : Prop where
  zone : ∀ i : ZoneId, s.zones[i].KeepsWf t.zones[i]

section keepsWf
variable {s t u : State}

@[simp] theorem KeepsWf.refl : KeepsWf s s := ⟨fun _ => .refl⟩

theorem KeepsWf.trans (h : KeepsWf s t) (h' : KeepsWf t u) : KeepsWf s u :=
  ⟨fun i hz => h'.zone i (h.zone i hz)⟩

theorem KeepsWf.of_zones (h : t.zones = s.zones) : KeepsWf s t := ⟨fun i => by rw [h]; exact .refl⟩

theorem HostWork.keepsWf (h : HostWork s t) : KeepsWf s t := .of_zones h.1

/-- The host complex changes something. -/
theorem KeepsWf.host (m : KeepsWf s t) (h : HostC) : KeepsWf s { t with host := h } := m.trans (.of_zones rfl)

theorem State.modHost_keepsWf {f : HostC → HostC} : KeepsWf s (s.modHost f) := .of_zones rfl

theorem KeepsWf.ite {c : Prop} [Decidable c] (ht : KeepsWf s t) (hu : KeepsWf s u) : KeepsWf s (if c then t else u) := by
  split
  · exact ht
  · exact hu

theorem State.mapped_keepsWf {f : Zone → Zone} (hf : ∀ z : Zone, z.KeepsWf (f z)) {h : HostC} :
    KeepsWf s { s with zones := s.zones.map f, host := h } :=
  ⟨fun i => by simpa using hf s.zones[i]⟩

theorem State.set_keepsWf {i : ZoneId} {z : Zone} (hz : s.zones[i].KeepsWf z) {h : HostC} :
    KeepsWf s { s with zones := s.zones.set i z, host := h } := by
  refine ⟨fun j => ?_⟩
  change s.zones[j].KeepsWf (s.zones.set i z)[j]
  rw [vset_eq]
  split
  next e => rw [e]; exact hz
  next => exact .refl

theorem State.putZone_keepsWf {i : ZoneId} {z : Zone} (h : s.zones[i].KeepsWf z) : KeepsWf s (s.putZone i z) :=
  State.set_keepsWf h

theorem Zone.wakeNow_keepsWf (z : Zone) : z.KeepsWf z.wakeNow := .of_eq z.wakeNow_memories

theorem State.abandonSleep_keepsWf (s : State) (r : Nat) : KeepsWf s (s.abandonSleep r) :=
  State.mapped_keepsWf Zone.wakeNow_keepsWf

/-- A zone that has changed, and what the host complex takes of it. -/
theorem State.gather_keepsWf {i : ZoneId} {o n : Zone} (h : s.zones[i].KeepsWf n) : KeepsWf s (s.gather i o n) := by
  have hn : s.zones[i].KeepsWf n.taken := fun hz => (h hz).of_eq n.taken_memories
  unfold State.gather
  exact .ite ((State.set_keepsWf hn).trans (State.abandonSleep_keepsWf _ 2)) (State.set_keepsWf hn)

theorem State.onZone_keepsWf {i : ZoneId} {f : Zone → HostC → Zone} (h : s.zones[i].KeepsWf (f s.zones[i] s.host)) :
    KeepsWf s (s.onZone i f) :=
  State.gather_keepsWf fun hz => (h hz).of_eq (Zone.settle_memories _ _ _)

theorem State.onZoneR_keepsWf {α : Type} {i : ZoneId} {f : Zone → HostC → α × Zone}
    (h : s.zones[i].KeepsWf (f s.zones[i] s.host).2) : KeepsWf s (s.onZoneR i f).2 :=
  State.gather_keepsWf fun hz => (h hz).of_eq (Zone.settle_memories _ _ _)

theorem foldl_keepsWf {α : Type} {f : State → α → State} (h : ∀ s a, KeepsWf s (f s a)) :
    ∀ (l : List α) (s : State), KeepsWf s (l.foldl f s)
  | [], _ => .refl
  | a :: l, s => (h s a).trans (foldl_keepsWf h l (f s a))

theorem State.onAll_keepsWf {f : Zone → HostC → Zone} (h : ∀ (z : Zone) (x : HostC), z.KeepsWf (f z x)) :
    KeepsWf s (s.onAll f) :=
  foldl_keepsWf (fun _ _ => State.onZone_keepsWf (h _ _)) _ s

end keepsWf

end Sys2Proof.Machine
end

section
namespace Sys2Proof.Machine

/-! The zones' memories through the device's own work: content, security. -/

section keepsWf
variable {s : State}

/-! Content. -/

theorem State.mount_keepsWf : KeepsWf s s.mount.2 := by
  unfold State.mount
  dsimp only
  split
  · exact .refl
  · exact State.mapped_keepsWf fun z => z.cacheDrop_keepsWf _

theorem State.unmount_keepsWf : KeepsWf s s.unmount.2 := by
  unfold State.unmount
  split
  · exact .refl
  · exact State.mapped_keepsWf fun z => z.cacheDrop_keepsWf _

theorem State.loadBlock_keepsWf (j : PortJob) (it : Item) (k : Nat) (r : List Nat) (i : ZoneId) (tgt o : Nat) :
    KeepsWf s (s.loadBlock j it k r i tgt o) := by
  unfold State.loadBlock
  dsimp only
  split
  · split
    · exact State.modHost_keepsWf
    · exact State.modHost_keepsWf
  · have hl (u : State) : KeepsWf u (u.onZoneR i (fun z h => z.loadInto h it tgt)).2 :=
      State.onZoneR_keepsWf (fun h => Zone.loadInto_canon _ _ _ h)
    split
    · refine KeepsWf.trans ?_ State.modHost_keepsWf
      refine KeepsWf.trans ?_ (hl _)
      exact State.onZone_keepsWf (.of_eq (by split_ifs <;> simp))
    · refine KeepsWf.trans ?_ State.modHost_keepsWf
      exact State.onZone_keepsWf (.of_eq (by split_ifs <;> simp))

theorem State.loadSlot_keepsWf (j : PortJob) (id : Word) (i : ZoneId) (tgt : Nat) (cdqs : Bool) :
    KeepsWf s (s.loadSlot j id i tgt cdqs) := by
  unfold State.loadSlot
  split
  · exact State.modHost_keepsWf
  · exact State.modHost_keepsWf
  · dsimp only
    split_ifs
    · exact State.modHost_keepsWf
    · exact State.modHost_keepsWf
    · exact State.loadBlock_keepsWf ..
    · refine KeepsWf.trans ?_ (State.loadBlock_keepsWf ..)
      exact State.modHost_keepsWf
    · exact State.modHost_keepsWf
    · exact State.loadBlock_keepsWf ..

theorem State.jobSlot_keepsWf (j : PortJob) (cdqs : Bool) : KeepsWf s (s.jobSlot j cdqs) := by
  unfold State.jobSlot
  split
  · exact State.modHost_keepsWf
  · exact State.loadSlot_keepsWf ..

theorem State.contCmd_keepsWf (v : Word) : KeepsWf s (s.contCmd v).2 := by
  unfold State.contCmd
  split
  · exact State.mount_keepsWf
  · exact State.unmount_keepsWf
  · exact s.load_hostWork.keepsWf
  · unfold State.unfence
    dsimp only
    exact State.onZone_keepsWf (.of_eq rfl)
  · exact .refl

theorem State.slotServe_keepsWf (i : ZoneId) (own cdqs : Bool) : KeepsWf s (s.slotServe i own cdqs) := by
  unfold State.slotServe
  split
  · exact .refl
  · split
    · exact State.onZone_keepsWf (.of_eq <| Zone.fetchDrop_memories _ _)
    · dsimp only
      split
      · exact State.onZone_keepsWf (.of_eq (by simp))
      · split
        · split
          · exact State.onZone_keepsWf (.of_eq rfl)
          · exact State.onZone_keepsWf (fun h => Zone.fetched_canon _ _ _ _ h)
        · split
          · refine KeepsWf.trans ?_ (State.onZone_keepsWf (fun h => Zone.fetched_canon _ _ _ _ h))
            exact State.modHost_keepsWf
          · split
            · exact State.onZone_keepsWf (.of_eq rfl)
            · exact State.onZone_keepsWf (fun h => Zone.fetched_canon _ _ _ _ h)

theorem State.fetchSlot_keepsWf (cdqs : Bool) : KeepsWf s (s.fetchSlot cdqs) := by
  unfold State.fetchSlot
  split_ifs
  · exact .refl
  · split
    · exact State.jobSlot_keepsWf ..
    · exact .refl
  · split
    · exact (State.slotServe_keepsWf ..).trans (State.slotNext_hostWork _ _).keepsWf
    · exact (State.jobSlot_keepsWf ..).trans (State.slotNext_hostWork _ _).keepsWf
    · exact (State.slotServe_keepsWf ..).trans (State.slotNext_hostWork _ _).keepsWf
    · exact (State.slotNext_hostWork _ _).keepsWf

/-! Tamper and the life-cycle: a device that enters DEAD takes its zones to OFF (R340). -/

theorem State.toDead_keepsWf (r : Nat) : KeepsWf s (s.toDead r) := by
  unfold State.toDead
  dsimp only
  refine KeepsWf.trans ?_ (State.lcsChange_hostWork ..).keepsWf
  refine KeepsWf.trans ?_ (State.onAll_keepsWf fun z _ => .of_eq (z.toOff_memories))
  exact (s.closeSession_hostWork r).keepsWf.host _

theorem State.tamper_keepsWf (source : Nat) (counts : Bool) : KeepsWf s (s.tamper source counts) := by
  unfold State.tamper
  dsimp only
  generalize (if counts then satAdd 255 s.host.lcs.tamper 1 else s.host.lcs.tamper) = n
  have h (t : State) (e : t.zones = s.zones) (c : Nat) (p : List Byte) : KeepsWf s (t.secMsg c p) :=
    (KeepsWf.of_zones e).trans (t.secMsg_hostWork c p).keepsWf
  split
  · refine (h _ ?_ _ _).trans (State.toDead_keepsWf 4)
    rfl
  · refine h _ ?_ _ _
    rfl

/-- An event of Avhar that closes the session and is a tamper event. -/
theorem State.tampered_keepsWf {h : HostC} {source : Nat} {counts : Bool} :
    KeepsWf s (({ s.closeSession 4 with host := h } : State).tamper source counts) :=
  ((s.closeSession_hostWork 4).keepsWf.host h).trans (State.tamper_keepsWf ..)

theorem State.keyrec_keepsWf (k : KeyRec) : KeepsWf s (s.keyrec k) := by
  unfold State.keyrec
  exact State.tampered_keepsWf

theorem State.clkmon_keepsWf : KeepsWf s s.clkmon := by
  unfold State.clkmon
  exact State.tampered_keepsWf

theorem State.puf_keepsWf : KeepsWf s s.puf := by
  unfold State.puf
  exact State.tampered_keepsWf

theorem State.shield_keepsWf : KeepsWf s s.shield := by
  unfold State.shield
  exact State.tampered_keepsWf

theorem State.kill_keepsWf : KeepsWf s s.kill := by
  unfold State.kill
  split
  · exact (State.lcsEnd_hostWork ..).keepsWf
  · dsimp only
    generalize (if s.host.sessionState then s.host.ownerToken 4 else s.host.makerSig 9) = r
    split
    · exact (State.lcsEnd_hostWork ..).keepsWf
    · exact (State.toDead_keepsWf 3).trans (State.lcsEnd_hostWork ..).keepsWf

theorem State.lcsCmd_keepsWf (v : Word) : KeepsWf s (s.lcsCmd v) := by
  unfold State.lcsCmd
  split
  · exact .refl
  · split
    · exact s.genkey_hostWork.keepsWf
    · exact s.provision_hostWork.keepsWf
    · exact s.takeOwner_hostWork.keepsWf
    · exact s.lockField_hostWork.keepsWf
    · exact s.unlock_hostWork.keepsWf
    · exact s.rma_hostWork.keepsWf
    · exact s.rmaMaker_hostWork.keepsWf
    · exact s.remake_hostWork.keepsWf
    · exact State.kill_keepsWf
    · exact .refl

end keepsWf

end Sys2Proof.Machine
end

section
namespace Sys2Proof.Machine

/-! The zones' memories through registers of the host complex and accesses of host software. -/

section keepsWf
variable {s : State}

/-! Reads. -/

theorem State.rcClearHost_keepsWf (a : Nat) : KeepsWf s (s.rcClearHost a) := by
  unfold State.rcClearHost
  split
  · refine State.putZone_keepsWf (.of_eq ?_)
    dsimp only
    split
    · rfl
    · rfl
  · exact State.modHost_keepsWf

theorem State.hostRead_keepsWf (a : Nat) : KeepsWf s (s.hostRead a).s := by
  unfold State.hostRead
  dsimp only
  split
  · exact .refl
  · split
    · exact .refl
    · split
      · exact .refl
      · split
        · exact .refl
        · split
          · exact KeepsWf.host .refl _
          · split
            · exact KeepsWf.host .refl _
            · dsimp only
              split
              · exact State.rcClearHost_keepsWf a
              · exact .refl

theorem State.regRead_keepsWf (a : Nat) : KeepsWf s (s.regRead a).s := by
  unfold State.regRead
  split
  · exact State.hostRead_keepsWf a
  · exact State.gather_keepsWf (fun h => Zone.regRead_canon .host _ h)
  · exact .refl
  · exact .refl

/-- The words of a burst of reads. -/
theorem readRun_keepsWf (addr : BitVec 24) : ∀ (n k : Nat) (r : Nat × Nat × List Word × State),
    KeepsWf r.2.2.2 (readRun addr k n r).2.2.2
  | 0, _, _ => .refl
  | n + 1, k, (_, _, _, _) => by
    unfold readRun
    refine KeepsWf.trans ?_ (readRun_keepsWf addr n (k + 1) _)
    exact State.regRead_keepsWf (burstAddr addr k)

/-! Mode changes of the device and sleep. -/

theorem State.modeArmDev_keepsWf (next : Bool) (pmask : BitVec 6) (mode zmask : Nat) :
    KeepsWf s (s.modeArmDev next pmask mode zmask).2 := by
  unfold State.modeArmDev
  split
  · exact .refl
  · dsimp only
    refine KeepsWf.trans ?_ (foldl_keepsWf (fun _ _ => State.onZone_keepsWf (.of_eq <| Zone.modeArm_memories _ _ _ _ _)) _ _)
    exact KeepsWf.host .refl _

theorem State.modeAbort_keepsWf (zmask : Nat) : KeepsWf s (s.modeAbort zmask) := by
  unfold State.modeAbort
  refine foldl_keepsWf (fun _ _ => State.onZone_keepsWf ?_) _ s
  split
  · split
    · exact .refl
    · exact .of_eq <| Zone.modeCancel_memories _ _
  · exact .refl

theorem State.modeCmd_keepsWf (v : Word) : KeepsWf s (s.modeCmd v).2 := by
  unfold State.modeCmd
  split
  · exact State.modeArmDev_keepsWf ..
  · exact State.modeArmDev_keepsWf ..
  · exact State.modeAbort_keepsWf _
  · exact .refl

theorem State.sleepEnter_keepsWf (i : ZoneId) : KeepsWf s (s.sleepEnter i) := by
  unfold State.sleepEnter
  split
  · exact .refl
  · dsimp only
    split
    · exact s.abandonSleep_keepsWf _
    · refine KeepsWf.trans ?_ (State.onZone_keepsWf (.of_eq <| Zone.sleepStart_memories _))
      exact KeepsWf.host .refl _

theorem State.sleepWrite_keepsWf (v : Word) : KeepsWf s (s.sleepWrite v).2 := by
  unfold State.sleepWrite
  extract_lets h ok old h1 p q h2 t
  split
  · exact KeepsWf.host .refl _
  · have ht : KeepsWf s t := KeepsWf.host .refl _
    split
    · exact ht.trans (foldl_keepsWf (fun _ i => State.sleepEnter_keepsWf i) _ _)
    · exact ht

/-! Writes in the host complex. -/

theorem State.clrCntHost_keepsWf (page : Nat) : KeepsWf s (s.clrCntHost page) := by
  unfold State.clrCntHost
  exact foldl_keepsWf (fun _ r => State.rcClearHost_keepsWf (RegSpec.off r)) _ s

theorem State.hostHeaderWrite_keepsWf (page o : Nat) (v : Word) : KeepsWf s (s.hostHeaderWrite page o v).2 := by
  unfold State.hostHeaderWrite
  split
  · dsimp only
    split
    · exact State.clrCntHost_keepsWf page
    · exact .refl
  · dsimp only
    exact State.modHost_keepsWf
  · dsimp only
    exact State.modHost_keepsWf
  · exact .refl
  · dsimp only
    split
    · exact State.modHost_keepsWf
    · exact .refl
  · exact .refl
  · exact .refl

/-- What an answer that may be none makes of the device. -/
def AnswerKeepsWf (s : State) (r : Option (Nat × State)) : Prop := ∀ x, r = some x → KeepsWf s x.2

theorem AnswerKeepsWf.some {n : Nat} {t : State} (h : KeepsWf s t) : AnswerKeepsWf s (some (n, t)) :=
  fun _ e => by cases e; exact h

theorem AnswerKeepsWf.ite {c : Prop} [Decidable c] {x y : Option (Nat × State)} (hx : AnswerKeepsWf s x)
    (hy : AnswerKeepsWf s y) : AnswerKeepsWf s (if c then x else y) := by
  split
  · exact hx
  · exact hy

theorem State.hostSpecial_keepsWf (a : Nat) (v : Word) : AnswerKeepsWf s (s.hostSpecial a v) := by
  unfold State.hostSpecial
  refine .ite (.some (State.sleepWrite_keepsWf v)) ?_
  refine .ite (.some (State.modeCmd_keepsWf v)) ?_
  refine .ite (.some State.modHost_keepsWf) ?_
  refine .ite (.some (s.sgWrite_hostWork v).keepsWf) ?_
  refine .ite (.some (State.contCmd_keepsWf v)) ?_
  refine .ite (.some (s.xcmd_hostWork v).keepsWf) ?_
  refine .ite (.some State.modHost_keepsWf) ?_
  refine .ite (.some (KeepsWf.host .refl _)) ?_
  refine .ite (.some State.modHost_keepsWf) ?_
  refine .ite (.some (s.secCmd_hostWork v).keepsWf) ?_
  refine .ite (.some (State.lcsCmd_keepsWf v)) ?_
  exact fun _ e => by cases e

theorem State.hostWrite_keepsWf (a : Nat) (v : Word) : KeepsWf s (s.hostWrite a v).2 := by
  unfold State.hostWrite
  dsimp only
  split
  · exact .refl
  · split
    · exact .refl
    · split
      · exact State.hostHeaderWrite_keepsWf ..
      · split
        · exact .refl
        · split
          · exact .refl
          · split
            next hx => exact State.hostSpecial_keepsWf a v _ hx
            next =>
              dsimp only
              exact State.modHost_keepsWf

/-! Writes by address. -/

/-- A fold over zones that carries an answer with the device. -/
theorem foldlAns_keepsWf {α β : Type} {g : β → State} {f : β → α → β} (h : ∀ r a, KeepsWf (g r) (g (f r a))) :
    ∀ (l : List α) (r : β), KeepsWf (g r) (g (l.foldl f r))
  | [], _ => .refl
  | a :: l, r => (h r a).trans (foldlAns_keepsWf h l (f r a))

theorem State.zoneWrite_keepsWf {p0 : Bool} {i : ZoneId} {off a : Nat} {v : Word} : KeepsWf s (s.zoneWrite p0 i off a v).s := by
  have hz : KeepsWf s (s.onZoneR i (fun z h => z.regWrite h .host p0 off v)).2 :=
    State.onZoneR_keepsWf (fun h => Zone.regWrite_canon _ .host _ _ _ h)
  unfold State.zoneWrite
  dsimp only
  split
  · exact hz.trans (State.wrote_hostWork ..).keepsWf
  · exact hz

theorem State.bcastWrite_keepsWf {p0 : Bool} {skip off a : Nat} {v : Word} : KeepsWf s (s.bcastWrite p0 skip off a v).s := by
  unfold State.bcastWrite
  refine KeepsWf.trans ?_ (State.wrote_hostWork ..).keepsWf
  refine foldlAns_keepsWf (g := WrAns.s) (fun r i => ?_) (List.finRange 8) ⟨0, 0, 0, s⟩
  have hz : KeepsWf r.s (r.s.onZoneR i (fun z h => z.bcastWrite h p0 off v)).2 :=
    State.onZoneR_keepsWf (fun h => Zone.bcastWrite_canon _ _ _ _ h)
  dsimp only
  split
  · exact .refl
  · split
    · exact hz
    · exact hz

theorem State.regWrite_keepsWf {p0 : Bool} {skip a : Nat} {v : Word} : KeepsWf s (s.regWrite p0 skip a v).s := by
  unfold State.regWrite
  split
  · exact State.hostWrite_keepsWf a v
  · exact State.zoneWrite_keepsWf
  · exact State.bcastWrite_keepsWf
  · exact .refl

end keepsWf

end Sys2Proof.Machine
end

section
namespace Sys2Proof.Machine

/-! The zones' memories through the link and its protocols. -/

section keepsWf
variable {s : State}

/-! Frames. -/

theorem State.validFrame_keepsWf (mode : Nat) (valid : Bool) : KeepsWf s (s.validFrame mode valid) := by
  unfold State.validFrame
  dsimp only
  split
  · refine KeepsWf.trans ?_ (State.onAll_keepsWf fun z _ => .of_eq (z.orphanSet_memories 0))
    exact KeepsWf.host .refl _
  · exact KeepsWf.host .refl _

theorem State.checkFrame_keepsWf (f : RxFrame) : KeepsWf s (s.checkFrame f) := by
  unfold State.checkFrame
  dsimp only
  split
  · exact State.modHost_keepsWf
  split
  · exact .refl
  generalize ht : s.modHost _ = t
  have hm : KeepsWf s t := by rw [← ht]; exact State.modHost_keepsWf
  refine hm.trans ?_
  split
  · have he : KeepsWf t (t.modHost (fun h => h.linkErr Reg.LINK_COUNT 7 0 1 2)) :=
      State.modHost_keepsWf
    split
    · exact he
    · exact he.trans (State.nakNow_hostWork ..).keepsWf
  · have hv (b : Bool) : KeepsWf t ((t.validFrame 1 b).modHost HostC.heardRate) :=
      (State.validFrame_keepsWf 1 b).trans State.modHost_keepsWf
    split
    · exact (hv _).trans (State.broadcast_hostWork ..).keepsWf
    · exact (hv _).trans (State.addressed_hostWork ..).keepsWf

theorem State.frameReceived_keepsWf (f : RxFrame) : KeepsWf s (s.frameReceived f) := by
  unfold State.frameReceived
  extract_lets h h1 l h2
  split
  · exact .refl
  · split
    · exact KeepsWf.host .refl _
    · refine KeepsWf.trans ?_ (State.checkFrame_keepsWf f)
      exact KeepsWf.host .refl _

theorem State.recsSent_keepsWf (l : List (Nat × BitVec 16)) : KeepsWf s (s.recsSent l) := by
  unfold State.recsSent
  refine State.mapped_keepsWf fun _ => ?_
  exact .of_eq rfl

theorem State.transmit_keepsWf (o : ArbOutcome) : KeepsWf s (s.transmit o) := by
  unfold State.transmit
  split
  · exact .refl
  · split
    · exact .refl
    · split
      · exact State.modHost_keepsWf
      · exact State.modHost_keepsWf
      · dsimp only
        split
        · refine KeepsWf.trans ?_ (State.recsSent_keepsWf _)
          exact State.modHost_keepsWf
        · exact State.modHost_keepsWf

theorem State.transmitFrame_keepsWf (o : ArbOutcome) : KeepsWf s (s.transmitFrame o) := by
  unfold State.transmitFrame
  dsimp only
  split
  · exact (State.transmit_keepsWf o).trans (State.hsend_hostWork ..).keepsWf
  · exact State.transmit_keepsWf o

theorem State.messageResend_keepsWf : KeepsWf s s.messageResend := by
  unfold State.messageResend
  refine State.mapped_keepsWf fun _ => ?_
  exact .of_eq rfl

theorem State.msgAck_keepsWf (src : Nat) (m : BitVec 16) : KeepsWf s (s.msgAck src m) := by
  unfold State.msgAck
  split
  · exact State.modHost_keepsWf
  · exact State.putZone_keepsWf (.of_eq rfl)

/-! Commands of the protocol engine. -/

theorem burstRun_keepsWf {p0 : Bool} {addr : BitVec 24} : ∀ (ws : List Word) (k : Nat) (r : WrAns),
    KeepsWf r.s (burstRun p0 addr k ws r).s
  | [], _, _ => .refl
  | v :: rest, k, r => by
    unfold burstRun
    extract_lets a isB w lower
    split
    · exact .refl
    · refine KeepsWf.trans ?_ (burstRun_keepsWf rest (k + 1) _)
      exact State.regWrite_keepsWf

theorem State.regWriteCmd_keepsWf {c : Hdr} {addr : BitVec 24} {ws : List Word} :
    KeepsWf s (s.regWriteCmd c addr ws) := by
  unfold State.regWriteCmd
  dsimp only
  have hb : KeepsWf s (burstRun s.host.p0ctl addr 0 ws ⟨0, 0, 0, s⟩).s := burstRun_keepsWf ws 0 ⟨0, 0, 0, s⟩
  iterate 4 refine .ite (State.nak_hostWork ..).keepsWf ?_
  exact .ite (hb.trans (State.ack_hostWork ..).keepsWf) (hb.trans (State.nak_hostWork ..).keepsWf)

theorem State.regReadCmd_keepsWf (c : Hdr) (addr : BitVec 24) (count : Byte) : KeepsWf s (s.regReadCmd c addr count) := by
  unfold State.regReadCmd
  dsimp only
  iterate 4 refine .ite (State.nak_hostWork ..).keepsWf ?_
  exact (readRun_keepsWf addr _ 0 (0, 255, [], s)).trans (State.reply_hostWork ..).keepsWf

theorem State.eachZone_keepsWf {zmask : Nat} {f : Zone → HostC → (Nat × Nat) × Zone}
    (h : ∀ (z : Zone) x, z.KeepsWf (f z x).2) : KeepsWf s (s.eachZone zmask f).s := by
  unfold State.eachZone
  refine foldlAns_keepsWf (g := WrAns.s) (fun r i => ?_) (List.finRange 8) ⟨0, 0, 0, s⟩
  have hz : KeepsWf r.s (r.s.onZoneR i f).2 := State.onZoneR_keepsWf (h _ _)
  dsimp only
  split
  · exact .refl
  · split
    · exact hz
    · exact hz

theorem State.zoneAns_keepsWf (w : WrAns) (c : Hdr) (zmask : Nat) : KeepsWf w.s (State.zoneAns w c zmask) := by
  unfold State.zoneAns
  split
  · exact (State.ack_hostWork ..).keepsWf
  · exact (State.nak_hostWork ..).keepsWf

theorem State.voiceSend_keepsWf (c : Hdr) (zmask : Nat) (v : HostV) : KeepsWf s (s.voiceSend c zmask v) := by
  unfold State.voiceSend
  dsimp only
  refine KeepsWf.trans ?_ (State.voiceDone_hostWork _).keepsWf
  refine KeepsWf.trans ?_ (foldl_keepsWf (fun _ _ => ?_) _ _)
  · exact State.modHost_keepsWf
  · split
    · exact .refl
    · exact State.onZone_keepsWf (.of_eq rfl)

/-- The authority of a command that needs one. -/
theorem State.authorityIf_keepsWf (p : Prop) [Decidable p] (zmask : Nat) (item : Word) (a : Auth) :
    KeepsWf s (if p then s.authority zmask item a else (0, 0, s)).2.2 := by
  split
  · exact (State.authority_hostWork ..).keepsWf
  · exact .refl

theorem State.voiceCmd_keepsWf (c : Hdr) (op zmask cls : Byte) (arg0 arg1 : Word) (a : Auth) :
    KeepsWf s (s.voiceCmd c op zmask cls arg0 arg1 a) := by
  unfold State.voiceCmd
  extract_lets p0 r z
  iterate 7 refine .ite (State.nak_hostWork ..).keepsWf ?_
  have ha : KeepsWf s (if p0 then s.authority z arg0 a else (0, 0, s)).2.2 := State.authorityIf_keepsWf p0 z arg0 a
  generalize (if p0 then s.authority z arg0 a else (0, 0, s)) = x at ha
  dsimp only
  split
  · exact ha.trans (State.nak_hostWork ..).keepsWf
  · exact ha.trans (State.voiceSend_keepsWf ..)

theorem State.eventPost_keepsWf (c : Hdr) (zmask : Byte) (e : Vector Word 8) (a : Auth) :
    KeepsWf s (s.eventPost c zmask e a) := by
  unfold State.eventPost
  extract_lets p0 r z
  iterate 5 refine .ite (State.nak_hostWork ..).keepsWf ?_
  have ha : KeepsWf s (if p0 then s.authority z e[(4 : Fin 8)] a else (0, 0, s)).2.2 :=
    State.authorityIf_keepsWf (p0 = true) z e[(4 : Fin 8)] a
  generalize (if p0 then s.authority z e[(4 : Fin 8)] a else (0, 0, s)) = x at ha
  dsimp only
  split
  · exact ha.trans (State.nak_hostWork ..).keepsWf
  · refine (ha.trans (State.eachZone_keepsWf fun y h => ?_)).trans (State.zoneAns_keepsWf ..)
    split
    · exact .refl
    split
    · exact .refl
    · exact .of_eq <| Zone.post_memories ..

theorem State.msgackCmd_keepsWf (c : Hdr) (src : Byte) (m : BitVec 16) : KeepsWf s (s.msgackCmd c src m) := by
  unfold State.msgackCmd
  dsimp only
  iterate 2 refine .ite (State.nak_hostWork ..).keepsWf ?_
  exact (State.msgAck_keepsWf ..).trans (State.ack_hostWork ..).keepsWf

/-! Compatibility commands. -/

/-- The work of a compatibility command, which keeps the memories of the zones canonical. -/
abbrev EachKeepsWf (act : State → Nat × List Byte × State) : Prop := ∀ s, KeepsWf s (act s).2.2

theorem State.compatTake_keepsWf {act : State → Nat × List Byte × State} (h : EachKeepsWf act) (f : CompatFrame) (cmd : Nat) :
    KeepsWf s (s.compatTake f cmd act) := by
  unfold State.compatTake
  split
  · refine KeepsWf.trans ?_ (State.lswAnswer_hostWork ..).keepsWf
    exact State.modHost_keepsWf
  · dsimp only
    refine KeepsWf.trans (KeepsWf.trans ?_ (h _)) (State.lswAnswer_hostWork ..).keepsWf
    exact (State.validFrame_keepsWf 2 true).trans State.modHost_keepsWf

theorem State.compat_keepsWf {act : State → Nat × List Byte × State} (h : EachKeepsWf act) (f : CompatFrame) (cmd : Nat) :
    KeepsWf s (s.compat f cmd act) := by
  unfold State.compat
  extract_lets h0 h1
  split
  · exact .refl
  · split
    · exact KeepsWf.host .refl _
    · dsimp only
      split
      · exact KeepsWf.host .refl _
      · refine KeepsWf.trans ?_ (State.compatTake_keepsWf h f cmd)
        exact KeepsWf.host .refl _

theorem State.compatWrite_keepsWf {f : CompatFrame} : EachKeepsWf (State.compatWrite f.data) := by
  intro s
  unfold State.compatWrite
  dsimp only
  split
  · exact .refl
  · exact burstRun_keepsWf _ 0 ⟨0, 0, 0, s⟩

theorem State.compatRead_keepsWf (d : List Byte) : EachKeepsWf (State.compatRead d) := by
  intro s
  unfold State.compatRead
  dsimp only
  split
  · exact .refl
  · exact readRun_keepsWf _ _ 0 (0, 255, [], s)

theorem protoRun_keepsWf {c : Instr} : KeepsWf s (protoRun c s) := by
  unfold protoRun
  split
  · exact (State.ping_hostWork ..).keepsWf
  · exact (State.ident_hostWork ..).keepsWf
  · exact State.regWriteCmd_keepsWf
  · exact State.regReadCmd_keepsWf ..
  · exact State.voiceCmd_keepsWf ..
  · exact State.eventPost_keepsWf ..
  · exact (State.bulkWr_hostWork ..).keepsWf
  · exact (State.bulkRd_hostWork ..).keepsWf
  · exact State.msgackCmd_keepsWf ..
  · exact (State.helloCmd_hostWork ..).keepsWf
  · exact (State.authCmd_hostWork ..).keepsWf
  · exact (State.closeCmd_hostWork ..).keepsWf
  · exact (State.resumeCmd_hostWork ..).keepsWf
  · exact (State.statusCmd_hostWork ..).keepsWf
  · exact (State.getcertCmd_hostWork ..).keepsWf
  · exact State.compat_keepsWf State.compatWrite_keepsWf ..
  · exact State.compat_keepsWf (State.compatRead_keepsWf _) ..
  · exact State.compat_keepsWf (fun _ => .refl) ..
  · exact .refl

end keepsWf

end Sys2Proof.Machine
end

section
namespace Sys2Proof.Machine

/-! The zones' memories through boundaries, commands in their order and accesses of a party. -/

section keepsWf
variable {s : State}

theorem State.hostTicks_keepsWf (i : ZoneId) : KeepsWf s (s.hostTicks i) := by
  unfold State.hostTicks
  split
  · exact .refl
  · refine State.mapped_keepsWf fun _ => ?_
    exact .of_eq rfl

theorem State.setBegan_keepsWf (i : ZoneId) (b : Bool) : KeepsWf s (s.setBegan i b) := by
  unfold State.setBegan vmod
  dsimp only
  refine State.set_keepsWf ?_
  exact .of_eq rfl

/-! Boundaries. -/

theorem State.frameStart_keepsWf (i : ZoneId) : KeepsWf s (s.frameStart i) := by
  have h : KeepsWf s (s.onZone i (fun z _ => ((z.frameBegin).ampSeqRun 1).cmRamp 256)) := State.onZone_keepsWf (.of_eq (by simp))
  unfold State.frameStart
  dsimp only
  split
  · exact (h.trans (State.hostTicks_keepsWf i)).trans (State.onZone_keepsWf (fun h => Zone.tickWork_canon _ h))
  · exact h

theorem State.frameBoundary_keepsWf (i : ZoneId) (inp : FrameIn) : KeepsWf s (s.frameBoundary i inp) := by
  unfold State.frameBoundary
  split
  · exact .refl
  · dsimp only
    refine KeepsWf.trans ?_ (State.onZone_keepsWf (fun h => Zone.frameBody_canon _ inp h))
    split
    · exact State.setBegan_keepsWf i false
    · exact State.frameStart_keepsWf i

theorem State.tickBoundary_keepsWf (i : ZoneId) : KeepsWf s (s.tickBoundary i) := by
  unfold State.tickBoundary
  dsimp only
  split
  · exact .refl
  · exact (State.frameStart_keepsWf i).trans (State.setBegan_keepsWf i true)

theorem State.zslowEdge_keepsWf (i : ZoneId) (a b : Bool) : KeepsWf s (s.zslowEdge i a b) := by
  unfold State.zslowEdge
  split
  · exact .refl
  · have h : KeepsWf s (s.onZone i (fun z _ =>
        ((((((z.decFeed).slowEdge a b).slowTimers).hcmdApply).standstill).staleSet).cmRamp 750)) :=
      State.onZone_keepsWf (.of_eq (by simp))
    dsimp only
    split
    · exact (h.trans (State.hostTicks_keepsWf i)).trans (State.onZone_keepsWf (fun h => Zone.slowTickWork_canon _ h))
    · exact h

/-! Commands of the link in their order (R312). -/

theorem State.drain_keepsWf : ∀ (n : Nat) (s : State), KeepsWf s (State.drain n s)
  | 0, _ => .refl
  | n + 1, s => by
    unfold State.drain
    split
    · exact .refl
    · split
      · refine KeepsWf.trans (KeepsWf.trans ?_ protoRun_keepsWf) (State.drain_keepsWf n _)
        exact State.modHost_keepsWf
      · exact .refl

theorem State.flush_keepsWf : KeepsWf s s.flush :=
  s.voiceDone_hostWork.keepsWf.trans (State.drain_keepsWf _ _)

theorem State.inOrder_keepsWf (c : Instr) : KeepsWf s (s.inOrder c) := by
  unfold State.inOrder
  dsimp only
  split
  · exact State.flush_keepsWf.trans protoRun_keepsWf
  · exact State.flush_keepsWf.trans State.modHost_keepsWf

theorem State.compatIn_keepsWf (c : Instr) : KeepsWf s (s.compatIn c) := by
  unfold State.compatIn
  split
  · exact .refl
  · exact State.modHost_keepsWf.trans (State.inOrder_keepsWf c)

theorem State.wake_keepsWf (c : WakeCause) : KeepsWf s (s.wake c) := by
  unfold State.wake
  split
  · exact .refl
  split
  · exact s.abandonSleep_keepsWf 2
  split
  · exact .refl
  · exact (State.mapped_keepsWf Zone.wakeNow_keepsWf).trans State.flush_keepsWf

/-! Accesses of a party. -/

theorem State.busWrite_keepsWf {a : Nat} {v : Word} : KeepsWf s (s.busWrite a v) := by
  unfold State.busWrite
  exact State.regWrite_keepsWf.trans State.modHost_keepsWf

theorem State.busRead_keepsWf {a : Nat} : KeepsWf s (s.busRead a) := by
  unfold State.busRead
  exact (State.regRead_keepsWf a).trans State.modHost_keepsWf

theorem State.partyWrite_keepsWf {p : Party} {i : ZoneId} {off : Nat} {v : Word} : KeepsWf s (s.partyWrite p i off v) := by
  cases p with
  | host => exact State.busWrite_keepsWf
  | prog =>
    unfold State.partyWrite
    exact State.onZone_keepsWf fun h => (Zone.bridgeWrite_canon _ off v h).of_eq (Zone.dspHold_memories _ _)

theorem State.partyRead_keepsWf {p : Party} {i : ZoneId} {off : Nat} : KeepsWf s (s.partyRead p i off) := by
  cases p with
  | host => exact State.busRead_keepsWf
  | prog =>
    unfold State.partyRead
    exact State.onZone_keepsWf fun h => (Zone.bridgeRead_canon off h).of_eq (Zone.dspHold_memories _ _)

theorem State.addrWrite_keepsWf {p : Party} {a : Nat} {v : Word} : KeepsWf s (s.addrWrite p a v) := by
  unfold State.addrWrite
  split
  · exact State.partyWrite_keepsWf
  · exact .refl
  · exact State.busWrite_keepsWf

theorem State.addrRead_keepsWf {p : Party} {a : Nat} : KeepsWf s (s.addrRead p a) := by
  unfold State.addrRead
  split
  · exact State.partyRead_keepsWf
  · exact .refl
  · exact State.busRead_keepsWf

/-! Device resets. -/

theorem bootStep_keepsWf (r : BootRun) (e : Nat) : KeepsWf r.s (bootStep r e).s := by
  unfold bootStep
  split
  · exact .refl
  · extract_lets at0 n w a v stop
    split
    · split
      · exact .refl
      · have hx : KeepsWf r.s (r.s.regWrite false 0 a v).s := State.regWrite_keepsWf
        split
        · exact hx
        · exact hx
    · have hx : KeepsWf r.s (r.s.regRead a).s := State.regRead_keepsWf a
      split
      · exact hx
      · dsimp only
        split_ifs
        all_goals exact hx.host _
    · split
      · exact .refl
      · exact .refl
    · exact .refl

theorem State.boot_keepsWf : KeepsWf s s.boot := by
  unfold State.boot
  split
  · exact .refl
  · split
    · exact State.modHost_keepsWf
    · have h := foldlAns_keepsWf (g := BootRun.s) bootStep_keepsWf
        (List.range (leNat (byRead s.host.nvm.mem (0x11000 + 8) 4))) ⟨0, false, 0, 0, 0, s⟩
      exact h.trans State.modHost_keepsWf

theorem Zone.afterReset_keepsWf (z : Zone) : z.KeepsWf z.afterReset := fun _ => z.afterReset_canon

theorem State.deviceReset_keepsWf (cause : ResetCause) (ta : BitVec 2) : KeepsWf s (s.deviceReset cause ta) := by
  have hm (t : State) (o n p : Nat) : KeepsWf t (t.lcsChange o n p) := (State.lcsChange_hostWork ..).keepsWf
  have hs (t : State) (c : Nat) (p : List Byte) : KeepsWf t (t.secMsg c p) := (State.secMsg_hostWork ..).keepsWf
  unfold State.deviceReset
  dsimp only
  refine KeepsWf.trans ?_ State.boot_keepsWf
  split
  · refine KeepsWf.trans ?_ (hm ..)
    split
    · exact (State.mapped_keepsWf Zone.afterReset_keepsWf).trans (hs ..)
    · exact State.mapped_keepsWf Zone.afterReset_keepsWf
  · split
    · exact (State.mapped_keepsWf Zone.afterReset_keepsWf).trans (hs ..)
    · exact State.mapped_keepsWf Zone.afterReset_keepsWf

end keepsWf

/-! Every command. -/

/-- An event of a zone. -/
theorem event_keepsWf {s : State} {i : ZoneId} {f : Zone → HostC → Zone} (h : ∀ (z : Zone) x, z.KeepsWf (f z x)) :
    KeepsWf s (s.onZone i f) :=
  State.onZone_keepsWf (h _ _)

/-- What is ordered in a zone that executes voice operations. -/
theorem liveDo_keepsWf {s : State} {i : ZoneId} {f : Zone → HostC → Zone} (h : ∀ (z : Zone) x, z.KeepsWf (f z x)) :
    KeepsWf s (s.onZone i (fun z h => if z.live then f z h else z)) :=
  event_keepsWf fun z x => by
    split
    · exact h z x
    · exact .refl

/-- No command of the model leaves a memory of a zone in another form than the canonical. -/
theorem exec_keepsWf (c : Instr) (s : State) : Completes c s (KeepsWf s) := by
  cases c
  -- orders
  case enable | disable | resetWarm | resetCold | run | resume | fence | recover => exact ⟨_, rfl, State.busWrite_keepsWf⟩
  -- bundles of a zone's DSP
  case macMnop | mpy | mac | msu | gmpy | gmac | dmpy | dmac | dmac2 | wmpy | wmac | wgmac | ald | aadd | asub | aclr | anop
      | mov | add | sub | neg | abs | min | max | and | or | xor | shra | shra8 | shl | ldi | ldis | cmpeq | cmplt | cmple
      | rdacc | sts | stg | fclr | hmov | br | loop | endRoutine | memMnop | ldw | stw | lde | ste | tap | ioRead | ioWrite
      | pts => exact ⟨_, rfl, event_keepsWf fun _ x hz => Zone.issue_canon x _ hz⟩
  -- what is ordered in a zone that executes voice operations
  case vrel | vkill | vctl | swap | mode | msg | gain | handler => exact ⟨_, rfl, liveDo_keepsWf fun _ _ => .of_eq (by simp)⟩
  case retrig =>
    refine ⟨_, rfl, State.onZone_keepsWf ?_⟩
    dsimp only
    split
    · exact .of_eq <| Zone.vctl_memories ..
    · exact .refl
  case vstart => exact ⟨_, rfl, liveDo_keepsWf fun z x => by
    split
    · exact .refl
    · split
      · exact fun hz => Zone.actVstart_canon x _ _ _ _ _ hz
      · exact fun hz => Zone.hostVoice_canon x _ hz
      · exact fun hz => Zone.dspRequest_canon x _ hz⟩
  -- writes of host software to a zone
  case wdogWrite | frefRate | epochArm | epochDisarm | setpos | setvel | posMode | swapset | post | cancel | flush | validate
      | greqLo | stoneCfg | dspRun | clra | clrb | storeBase | clearBase | ampReset | spanRequest | mute | pilotRequest
      | tdmCfg => exact ⟨_, rfl, State.busWrite_keepsWf⟩
  case tmrNext | tmrCtl | forceEnd | srst | cdataLo | freq | armAtTgt | armNext | armAtTgtCopy | armNextCopy | disarm =>
    exact ⟨_, rfl, State.busWrite_keepsWf⟩
  -- accesses of either party
  case wdogKick | vwinDataWrite | dwinDataWrite | rwinDataWrite =>
    exact ⟨_, rfl, State.partyWrite_keepsWf⟩
  case vwinDataRead | dwinDataRead | rwinDataRead | btickRead | wdataRead | latchRead =>
    exact ⟨_, rfl, State.partyRead_keepsWf⟩
  case cdataHi => exact ⟨_, rfl, State.busRead_keepsWf⟩
  -- events of a zone
  case initComplete | initSlow | testComplete | wdog | trapBucketLeak | router | regulatorTrip | orphan | hcloss
      | holdover | holdoverLimit | slewComplete | standstill | stale | hcmdApply
      | spliceWindowEnd | gramp | overrun | crossFadeEnd | erleWindow
      | intervalEnd | ampfault | spanSwitch | cmok | unmute | clrnAssert | clrnRelease
      | clrCrossFade | slip | tdmLock | debugHaltEnd | vanaFail
      | zvaInRegulation =>
    exact ⟨_, rfl, event_keepsWf fun _ _ => .of_eq (by simp)⟩
  case tachEdge | periodEnd | ovl | ovlClear | dtHoldEnd | checkpoint
      | ampenRelease | holdTimeout | burst | debugHalt =>
    exact ⟨_, rfl, event_keepsWf fun _ _ => .of_eq (by simp)⟩
  case aecInstant => exact ⟨_, rfl, event_keepsWf fun _ _ => Zone.aecInstant_canon⟩
  case scrubPass => exact ⟨_, rfl, event_keepsWf fun _ _ => Zone.scrubPass_canon⟩
  case borrow => exact ⟨_, rfl, event_keepsWf fun _ _ => Zone.borrow_canon _ _⟩
  case copyDone => exact ⟨_, rfl, event_keepsWf fun _ _ => .ite (Zone.copyDone_canon _)⟩
  case presetCopy => exact ⟨_, rfl, event_keepsWf fun _ x => .ite (Zone.waitCopy_canon x _)⟩
  case successorStart => exact ⟨_, rfl, event_keepsWf fun _ x => .ite (Zone.succStart_canon x _)⟩
  case correctedWriteBack =>
    exact ⟨_, rfl, event_keepsWf fun _ _ => .ite fun hz => { hz with marks := smWf_filter _ _ hz.marks }⟩
  case frefEdge => exact ⟨_, rfl, event_keepsWf fun _ _ h => Zone.frefStep_canon _ _ _ _ h⟩
  case loadEdge => exact ⟨_, rfl, event_keepsWf fun _ _ h => Zone.loadEdge_canon _ h⟩
  -- writes and reads of host software in the host complex
  case sgArm | sgDisarm | mount | unmount | load | unfence | xcmd | modeArm | modeArmNext | abort | sleepArm | installOpk
      | revokeOpk | setCek | setTgk | installSt | removeSt | setFloor | setCfloor | genkey | provision | takeOwner | lockField
      | unlock | rma | rmaMaker | remake | kill =>
    exact ⟨_, rfl, State.busWrite_keepsWf⟩
  case nvmData wr =>
    cases wr with
    | some v => exact ⟨_, rfl, State.busWrite_keepsWf⟩
    | none => exact ⟨_, rfl, State.busRead_keepsWf⟩
  case pgLock => exact ⟨_, rfl, State.busWrite_keepsWf⟩
  -- accesses by address
  case crcFeed | start | cur | clrcnt | registerWrite => exact ⟨_, rfl, State.addrWrite_keepsWf⟩
  case rcRead => exact ⟨_, rfl, State.addrRead_keepsWf⟩
  -- commands of the link
  case ping | ident | regWrite | regRead | voice | eventPost | bulkWr | bulkRd | msgack | hello | auth | close | resumeSession
      | status | getcert => exact ⟨_, rfl, State.inOrder_keepsWf _⟩
  case write | read | pingCompat => exact ⟨_, rfl, State.compatIn_keepsWf _⟩
  case transmitFrame o => exact ⟨_, rfl, State.flush_keepsWf.trans (State.transmitFrame_keepsWf o)⟩
  case messageResend => exact ⟨_, rfl, State.messageResend_keepsWf⟩
  case frameReceived f =>
    refine ⟨_, rfl, ?_⟩
    split
    · exact State.frameReceived_keepsWf f
    · exact .refl
  case recordCreated src cls code p =>
    refine ⟨_, rfl, ?_⟩
    split
    · exact .refl
    split
    · exact State.onZone_keepsWf (.of_eq <| Zone.send_memories ..)
    · exact (State.hsend_hostWork ..).keepsWf
  -- boundaries, sleep and wake
  case frameBoundary i inp =>
    exact ⟨_, rfl, (State.frameBoundary_keepsWf i inp).trans State.flush_keepsWf⟩
  case tickBoundary i =>
    exact ⟨_, rfl, (State.tickBoundary_keepsWf i).trans State.flush_keepsWf⟩
  case zslowEdge i a b =>
    exact ⟨_, rfl, (State.zslowEdge_keepsWf i a b).trans State.flush_keepsWf⟩
  case sleepEntry i => exact ⟨_, rfl, State.sleepEnter_keepsWf i⟩
  case wake c => exact ⟨_, rfl, State.wake_keepsWf c⟩
  -- Avhar and content
  case fetchSlot => exact ⟨_, rfl, State.fetchSlot_keepsWf _⟩
  case vglitch => exact ⟨_, rfl, State.tamper_keepsWf ..⟩
  case temp =>
    refine ⟨_, rfl, KeepsWf.trans ?_ (State.tamper_keepsWf ..)⟩
    exact State.modHost_keepsWf
  case keyrec k => exact ⟨_, rfl, State.keyrec_keepsWf k⟩
  case clkmon => exact ⟨_, rfl, State.clkmon_keepsWf⟩
  case puf => exact ⟨_, rfl, State.puf_keepsWf⟩
  case shield => exact ⟨_, rfl, State.shield_keepsWf⟩
  case tempInRange =>
    refine ⟨_, rfl, KeepsWf.trans ?_ State.flush_keepsWf⟩
    exact State.modHost_keepsWf
  case p0Check =>
    refine ⟨_, rfl, ?_⟩
    split
    · exact .refl
    · exact (State.p0Check_hostWork ..).keepsWf
  case handshakeTimeout =>
    refine ⟨_, rfl, ?_⟩
    split
    · exact .refl
    · exact State.modHost_keepsWf
  case linkBreak => exact ⟨_, rfl, s.linkBreak_hostWork.keepsWf⟩
  case timeout => exact ⟨_, rfl, s.linkTimeout_hostWork.keepsWf⟩
  case wakeEdge => exact ⟨_, rfl, (s.wakeEdge_hostWork _ _).keepsWf⟩
  case syncPulse => exact ⟨_, rfl, (s.syncPulse_hostWork _).keepsWf⟩
  case message => exact ⟨_, rfl, s.message_hostWork.keepsWf⟩
  case nonceExpiry => exact ⟨_, rfl, s.nonceExpiry_hostWork.keepsWf⟩
  case debugOpen => exact ⟨_, rfl, (s.debugOpen_hostWork _ _).keepsWf⟩
  case ready => exact ⟨_, rfl, s.ready_hostWork.keepsWf⟩
  case x32Check => exact ⟨_, rfl, (s.x32Check_hostWork _).keepsWf⟩
  case slept => exact ⟨_, rfl, s.slept_hostWork.keepsWf⟩
  case avharClockReturn =>
    refine ⟨_, rfl, ?_⟩
    exact State.modHost_keepsWf
  case deviceReset => exact ⟨_, rfl, State.deviceReset_keepsWf ..⟩
  case brownOut cause =>
    cases cause with
    | vcore | vaux | vio => exact ⟨_, rfl, State.deviceReset_keepsWf ..⟩
    | por | resetn => exact ⟨_, rfl, .refl⟩

/-- A step is the effect of a command, or nothing where none is pending. -/
theorem step_keepsWf {s t : State} (h : step s = .next t) : KeepsWf s t := by
  unfold step at h
  split at h
  · cases h
    exact .refl
  next c r _ =>
    have hr : KeepsWf s { s with pending := r } := .of_zones rfl
    exact hr.trans ((exec_keepsWf c _).of_next h)
/-- Settles O57: a zone's operations write its memories through the accessors that keep them canonical. -/
theorem zoneMemoriesCanonical : Obligations.ZoneMemoriesCanonical := by
  intro s t h hs i
  exact Zone.memWf_iff.mpr ((step_keepsWf hs).zone i (Zone.memWf_iff.mp (h i)))

end Sys2Proof.Machine
end

section
namespace Sys2Proof.Machine

/-! A voice start on a free voice (R134). -/

section starts
variable {z : Zone}

/-- A zone that has drawn noise. -/
def Drawn (z n : Zone) : Prop := ∃ d, n = { z with draws := d }

theorem Drawn.refl : Drawn z z := ⟨z.draws, rfl⟩

theorem Drawn.trans {a b c : Zone} (h : Drawn a b) (h' : Drawn b c) : Drawn a c := by
  obtain ⟨d, rfl⟩ := h
  obtain ⟨d', rfl⟩ := h'
  exact ⟨d', rfl⟩

theorem Drawn.lfo {n : Zone} (hn : Drawn z n) (p : LfoP) (old : Option LfoSt) : Drawn z (n.lfoStart p old).2 := by
  refine hn.trans ?_
  simp only [Zone.lfoStart]
  split
  · exact ⟨_, rfl⟩
  · exact ⟨_, rfl⟩

theorem Drawn.osc {n : Zone} (hn : Drawn z n) (h : HostC) (v k : Nat) (p : OscP) : Drawn z (n.oscStart h v k p).2.2 := by
  refine hn.trans ?_
  have hph : Drawn n (if p.free then n.draw48 else (BitVec.ofNat 48 (p.phase0 * 2 ^ 32), n)).2 := by
    split
    · exact ⟨_, rfl⟩
    · exact .refl
  unfold Zone.oscStart
  dsimp only
  split
  · exact hph
  · split
    · exact .refl
    · exact .refl
  · split
    · exact .refl
    · exact .refl
  · exact .refl
  · exact .refl
  · exact hph

/-- A zone with other messages and registers. -/
def Reported (z n : Zone) : Prop := ∃ q r, n = { z with msgs := q, regs := r }

theorem Reported.refl : Reported z z := ⟨z.msgs, z.regs, rfl⟩

/-- The fault of an oscillator, where it has one (R92). -/
theorem Reported.fault {n : Zone} (hn : Reported z n) (b : Bool) (item : Word) (v k : Nat) :
    Reported z (if b then n.paramFault item v k else n) := by
  split
  · obtain ⟨q, r, rfl⟩ := hn
    let n : Zone := { z with msgs := q, regs := r }
    obtain ⟨q', r', e⟩ := (n.setFlt 0x1C00 5).send_shape clsReport 0x0041 (natLe item.toNat 4 ++ natLe v 1 ++ natLe k 1)
    exact ⟨q', r', e⟩
  · exact hn

theorem Zone.deadline_none {v : Fin 96} (hd : z.voices[v].st.dl = none) (h : HostC) (first : Bool) :
    z.deadline h v first = z := by
  unfold Zone.deadline
  dsimp only
  rw [hd]

/-- A start without control words held and without a deadline: beside its voice it writes the noise draws, and flag and record of an
oscillator that cannot sound. -/
theorem Zone.voiceBegin_shape (z : Zone) (h : HostC) (v : Fin 96) {st : Start} (hh : st.held = []) (hd : st.dl = none) :
    ∃ vo q r d, z.voiceBegin h v st = { z with voices := vmod z.voices v (fun _ => vo), msgs := q, regs := r, draws := d } ∧
      vo.life = .active ∧ vo.st = { st with held := [] } ∧ vo.start = z.time.frame := by
  have h0 : Drawn z z.draw.2 := ⟨_, rfl⟩
  have hl := ((h0.lfo (lfoP z.battAct v 0) none).lfo (lfoP z.battAct v 1) none).lfo (lfoP z.battAct v 2) none
  obtain ⟨d, e⟩ := ((hl.osc h v 0 (oscP z.battAct v 0)).osc h v 1 (oscP z.battAct v 1)).osc h v 2 (oscP z.battAct v 2)
  unfold Zone.voiceBegin
  rw [hh]
  dsimp only [List.foldl_nil]
  rw [e]
  generalize hn : Zone.modVoice _ v _ = n
  obtain ⟨q, r, e'⟩ := ((Reported.refl (z := n).fault _ _ _ _).fault _ _ _ _).fault _ _ _ _
  rw [e']
  subst hn
  refine ⟨_, q, r, d, Zone.deadline_none ?_ h true, rfl, rfl, rfl⟩
  exact (congrArg (fun vo : Voice => vo.st.dl) (vmod_self ..)).trans hd

theorem Zone.startOn_plain (z : Zone) (h : HostC) (v : Fin 96) {st : Start} (hi : st.item = 0) (succ : Bool) :
    z.startOn h v st succ = ({ z with cache := z.cache.unwait v.val } : Zone).voiceBegin h v st := if_pos hi

/-- A start without a preset in a zone that may take a free voice: the lowest-numbered one begins (R134, R144). -/
theorem Zone.vstart_free {v : Fin 96} {src cls : Nat} (hc : cls ≠ 0) (hr : z.holdRefuses cls = false)
    (hm : z.mayTake cls = true) (hf : z.firstFree = some v) (h : HostC) (arg1 : Word) (cnt : Bool) : ∃ vo c q r d,
    (z.vstart h src cls 0 arg1 none cnt).2 =
      { z with cache := c, voices := vmod z.voices v (fun _ => vo), msgs := q, regs := r, draws := d } ∧
    vo.life = .active ∧ vo.st.cls = cls ∧ vo.st.note = fld arg1 15 8 ∧ vo.st.vel = fld arg1 7 0 ∧ vo.start = z.time.frame := by
  unfold Zone.vstart
  dsimp only
  rw [if_neg (by simp), if_neg (by simp [hc]), hr, if_neg (by simp), hm, if_pos rfl, hf]
  dsimp only
  rw [Zone.startOn_plain _ _ _ rfl]
  obtain ⟨vo, q, r, d, e, hl, hs, hb⟩ := Zone.voiceBegin_shape { z with cache := z.cache.unwait v.val } h v
    (st := { item := 0, cls := cls, note := fld arg1 15 8, vel := fld arg1 7 0, dl := none, held := [], cnt := cnt
             handle := if (BitVec.extractLsb' 16 16 arg1).toNat > 0xFEFF then 0 else BitVec.extractLsb' 16 16 arg1 }) rfl rfl
  exact ⟨vo, _, q, r, d, e, hl, by rw [hs], by rw [hs], by rw [hs], hb⟩

theorem Zone.hostVoice_start (z : Zone) (h : HostC) {c : HostV} (hc : c.op = 0) :
    (z.hostVoice h c).2 = (z.vstart h 1 c.cls c.arg0 c.arg1 none false).2 := by
  unfold Zone.hostVoice
  rw [hc]
  generalize z.vstart h 1 c.cls c.arg0 c.arg1 none false = r
  obtain ⟨a, n⟩ := r
  cases a with
  | taken | noPreset | failed => rfl

/-- Each source makes a start of the six classes the allocator's (R139). -/
theorem exec_vstart (s : State) (i : ZoneId) (src : VSrc) {cls : Fin 8} (h5 : cls.val ≤ 5) (arg1 : Word) : ∃ k cnt,
    exec (.vstart i src cls 0 arg1 none) s = liveDo s i (fun z h => (z.vstart h k cls.val 0 arg1 none cnt).2) := by
  have hc : ¬ cls.val > 5 := by omega
  change ∃ k cnt, execVstart i src cls 0 arg1 none s = _
  unfold execVstart
  simp only [if_neg hc]
  cases src with
  | sched => exact ⟨0, true, rfl⟩
  | host => exact ⟨1, false, congrArg (liveDo s i) (funext fun z => funext fun h => z.hostVoice_start h rfl)⟩
  | dsp => exact ⟨2, false, congrArg (liveDo s i) (funext fun z => funext fun h => if_pos h5)⟩

end starts

section completes
variable {s : State} {i : ZoneId} {z : Zone} (hz : s.zones[i] = z) (hq : Quiet s i) (hl : z.live = true)
include hz hq hl

/-- A start without a preset in RUN, from any source (R134, R144). -/
theorem vstart_completes (src : VSrc) (cls : Fin 8) (arg1 : Word) (v : Fin 96) (hrun : z.ctl.st = .run) (h1 : 1 ≤ cls.val)
    (h5 : cls.val ≤ 5) (hm : z.mayTake cls.val = true) (hf : z.firstFree = some v) :
    Completes (.vstart i src cls 0 arg1 none) s (fun t =>
      t.zones[i].voices[v].life = .active ∧ t.zones[i].voices[v].st.cls = cls.val ∧
      t.zones[i].voices[v].st.note = fld arg1 15 8 ∧ t.zones[i].voices[v].st.vel = fld arg1 7 0 ∧
      t.zones[i].voices[v].start = z.time.frame ∧ OnlyVoice v z t.zones[i] ∧ t.zones[i].time = z.time ∧
      t.zones[i].pos = z.pos ∧ t.zones[i].sched.queue = z.sched.queue ∧ OnlyZone i s t) := by
  have hr : z.holdRefuses cls.val = false := by simp [Zone.holdRefuses, hrun]
  obtain ⟨k, cnt, he⟩ := exec_vstart s i src h5 arg1
  obtain ⟨vo, c, q, r, d, hn, hlife, hcls, hnote, hvel, hstart⟩ :=
    Zone.vstart_free (src := k) (by omega) hr hm hf s.host arg1 cnt
  refine (liveDo_silent hz hq hl he hn ⟨rfl, rfl, rfl, rfl, rfl, rfl⟩).imp fun t ⟨ht, ho⟩ => ?_
  have hv : (vmod z.voices v fun _ => vo)[v] = vo := vmod_self ..
  rw [ht]
  dsimp only
  rw [hv]
  exact ⟨hlife, hcls, hnote, hvel, hstart, fun w hw => vmod_ne _ hw _, rfl, rfl, rfl, ho⟩

end completes
end Sys2Proof.Machine
end

section
namespace Sys2Proof.Machine

/-! Commands to a handle (R142, R143). -/

section handle
variable {z : Zone} {hd : BitVec 16} {v : Fin 96}

theorem Voice.heldBy_active {vo : Voice} (hl : vo.life = .active) : vo.heldBy = some vo.st.cls := by
  unfold Voice.heldBy
  rw [hl]

/-- One sounding voice that is not P0 takes the command, whoever gives it (R331). -/
theorem Zone.toHandle_one (ha : z.addressed hd = [v]) (hc : z.voices[v].st.cls ≠ 0) (hl : z.voices[v].life = .active)
    (pr : P0Right) (f : Zone → Fin 96 → Zone) : z.toHandle pr hd f = f z v := by
  have hp : (z.voices[v].heldBy == some 0) = false := by
    rw [Voice.heldBy_active hl]
    simpa using hc
  unfold Zone.toHandle
  rw [ha]
  dsimp only [List.filter]
  rw [hp]
  cases pr with
  | full | host | dsp => rfl

theorem Zone.toHandle_none (ha : z.addressed hd = []) (pr : P0Right) (f : Zone → Fin 96 → Zone) :
    z.toHandle pr hd f = z.count Reg.VCTL_COUNT 7 0 1 := by
  unfold Zone.toHandle
  rw [ha]

theorem Zone.modVoice_congr {f g : Voice → Voice} (h : f z.voices[v] = g z.voices[v]) : z.modVoice v f = z.modVoice v g := by
  simp only [Zone.modVoice, vmod, h]

theorem Zone.modVoice_idle {f : Voice → Voice} (h : f z.voices[v] = z.voices[v]) : z.modVoice v f = z :=
  (Zone.modVoice_congr (g := fun vo => vo) h).trans (by simp only [Zone.modVoice, vmod_idle])

theorem Zone.modVoice_mute (z : Zone) (v : Fin 96) (f : Voice → Voice) : Mute z (z.modVoice v f) :=
  ⟨⟨rfl, rfl, rfl, rfl, rfl, rfl⟩, rfl, rfl⟩

theorem Zone.modVoice_voice (z : Zone) (v : Fin 96) (f : Voice → Voice) : (z.modVoice v f).voices[v] = f z.voices[v] :=
  vmod_self ..

theorem Zone.modVoice_others (z : Zone) (v : Fin 96) (f : Voice → Voice) : OnlyVoice v z (z.modVoice v f) :=
  fun _ hw => vmod_ne _ hw _

end handle

/-! VREL and VKILL on one sounding voice. -/

/-- Every envelope of the voice is in RELEASE or OFF (R120). -/
def Quieting (z : Zone) (v : Fin 96) : Prop :=
  ∀ e : Fin 4, ((z.voices[v].sig.env[e]).advance (envP z.battAct v.val e.val)).st ∈ [0, 6]

theorem quieting_iff {z : Zone} {v : Fin 96} : ((List.range 4).all (fun e =>
    let s := ((z.voices[v].sig.env[fin 4 e]).advance (envP z.battAct v.val e)).st; s == 0 || s == 6)) = true ↔ Quieting z v := by
  simp only [List.all_eq_true, List.mem_range, Bool.or_eq_true, beq_iff_eq, Quieting, List.mem_cons, List.not_mem_nil, or_false]
  refine ⟨fun h e => ?_, fun h e he => ?_⟩
  · have hs := h e.val e.isLt
    simp only [fin_val] at hs
    exact hs
  · simp only [show fin 4 e = ⟨e, he⟩ from fin_val ⟨e, he⟩]
    exact h ⟨e, he⟩

section one
variable {z : Zone} {v : Fin 96} (hl : z.voices[v].life = .active)
include hl

/-- VREL where an envelope is in neither: the voice is released (R120). -/
theorem Zone.vrelOne_sounding (h : ¬ Quieting z v) : ∃ f, z.vrelOne v = z.modVoice v f ∧ (f z.voices[v]).life = .released ∧
    (f z.voices[v]).sig.rel = true := by
  refine ⟨_, rfl, ?_⟩
  dsimp only
  rw [hl]
  dsimp only
  rw [if_neg (mt quieting_iff.mp h)]
  exact ⟨rfl, rfl⟩

/-- VREL where all are in one of them: no effect (R120). -/
theorem Zone.vrelOne_quieting (h : Quieting z v) : z.vrelOne v = z := by
  refine Zone.modVoice_idle ?_
  dsimp only
  rw [hl]
  exact if_pos (quieting_iff.mpr h)

/-- VKILL: the kill fade begins (R143, R146). -/
theorem Zone.vkillOne_sounding : z.vkillOne v = z.modVoice v (fun vo =>
    { vo with life := .fading, succ := none, fadeK := 0, fadeN := z.stealN, st := { vo.st with handle := 0 } }) := by
  refine Zone.modVoice_congr ?_
  dsimp only
  rw [hl]

theorem Zone.vctlOne_sounding (w : Word) : z.vctlOne w v = z.ctlWord v w := by
  unfold Zone.vctlOne
  rw [hl]

end one

/-! Live controls of a voice: a control without a ramp, and RETRIG (R121, R129, R130). -/

section control
variable {z : Zone} {v : Fin 96} {w : Word}

/-- A control with its STEP bit takes its value at once (R129). -/
theorem Zone.ctlWord_step (hc : fld w 31 28 ≤ 7) (hs : bit w 27 = true) : z.ctlWord v w = z.modVoice v (fun vo =>
    { vo with sig := { vo.sig with
      ctl := vmod vo.sig.ctl (fin 8 (fld w 31 28)) (fun c => c.set (wrapS 24 (fld w 23 0) * 2 ^ 12) 0) } }) := by
  unfold Zone.ctlWord
  dsimp only
  rw [if_pos hc, hs]
  rfl

/-- What a loop leaves of a component that only turn j writes. -/
theorem iterFrom_at {α β : Type} {f : Nat → α → α} {g : α → β} {h : β → β} {j b : Nat}
    (hne : ∀ k a, k < b → k ≠ j → g (f k a) = g a) (hj : ∀ a, g (f j a) = h (g a)) :
    ∀ (k n : Nat) (a : α), k + n ≤ b → g (iterFrom f k n a) = if k ≤ j ∧ j < k + n then h (g a) else g a
  | k, 0, a, _ => by rw [if_neg (by omega)]; rfl
  | k, n + 1, a, hb => by
    change g (iterFrom f (k + 1) n (f k a)) = _
    rw [iterFrom_at hne hj (k + 1) n (f k a) (by omega)]
    by_cases hk : k = j
    · subst hk
      rw [if_neg (by omega), if_pos (by omega), hj]
    · rw [hne k a (by omega) hk]
      exact if_congr (by omega) rfl rfl

/-- A loop over a voice changes that voice alone. -/
theorem iterFrom_modVoice (f : Nat → Voice → Voice) : ∀ (k n : Nat) (z : Zone),
    iterFrom (fun e (y : Zone) => y.modVoice v (f e)) k n z = z.modVoice v (iterFrom f k n)
  | _, 0, _ => (Zone.modVoice_idle rfl).symm
  | k, n + 1, z => by
    change iterFrom _ (k + 1) n (z.modVoice v (f k)) = _
    rw [iterFrom_modVoice f (k + 1) n, Zone.modVoice, Zone.modVoice, vmod_vmod]
    rfl

theorem ite_modVoice (c : Prop) [Decidable c] (f : Voice → Voice) :
    (if c then z.modVoice v f else z) = z.modVoice v (fun vo => if c then f vo else vo) := by
  by_cases h : c
  · simp only [if_pos h]
  · simp only [if_neg h]
    exact (Zone.modVoice_idle rfl).symm

/-- A zone in which the LFOs of voice v have been started anew, with the noise drawn for it (R122). -/
def LfosStarted (v : Fin 96) (z n : Zone) : Prop :=
  ∃ l d, n = { z.modVoice v (fun vo => { vo with sig := { vo.sig with lfo := l } }) with draws := d }

theorem LfosStarted.refl : LfosStarted v z z :=
  ⟨z.voices[v].sig.lfo, z.draws, (Zone.modVoice_idle (f := fun vo =>
    { vo with sig := { vo.sig with lfo := z.voices[v].sig.lfo } }) rfl).symm⟩

theorem LfosStarted.one {n : Zone} (h : LfosStarted v z n) (p : LfoP) (old : Option LfoSt) (k : Fin 3) :
    LfosStarted v z ((n.lfoStart p old).2.modVoice v (fun vo =>
      { vo with sig := { vo.sig with lfo := vo.sig.lfo.set k (n.lfoStart p old).1 } })) := by
  obtain ⟨d, e⟩ := (Drawn.refl (z := n)).lfo p old
  rw [e]
  generalize (n.lfoStart p old).1 = x
  obtain ⟨l, d', rfl⟩ := h
  refine ⟨l.set k x, d, ?_⟩
  simp only [Zone.modVoice, vmod_vmod]

/-- One envelope of a voice under a RETRIG word (R121). -/
def retrigTurn (m : Mem72) (v : Nat) (w : Word) (e : Nat) (vo : Voice) : Voice :=
  if fld w e e = 1 then { vo with sig := vo.sig.retrig (envP m v e) (fin 4 e) false } else vo

/-- RETRIG of a voice that is not released: its LFOs, then its envelopes (R121, R122). -/
theorem Zone.ctlWord_retrig (hc : fld w 31 28 = 8) (hr : z.voices[v].sig.rel = false) : ∃ n,
    z.ctlWord v w = n.modVoice v (iter 4 (retrigTurn z.battAct v.val w)) ∧ LfosStarted v z n := by
  unfold Zone.ctlWord
  dsimp only
  rw [hc, if_neg (by decide), if_pos rfl, hr, if_neg (by decide)]
  refine ⟨?n, ?env, ?lfo⟩
  case env =>
    simp only [ite_modVoice]
    exact iterFrom_modVoice _ 0 4 _
  case lfo =>
    refine iter_inv (P := LfosStarted v z) (fun k a h => ?_) 3 LfosStarted.refl
    split
    · exact h.one _ _ _
    · exact h

/-- An envelope of a voice with its sustain ramp. -/
def VSig.envAt (g : VSig) (e : Fin 4) : EnvSt × (Int × Nat) := (g.env[e], g.sus[e])

/-- What a retrigger leaves of them (R121, R136). -/
def retrigOne (p : EnvP) (s : EnvSt × (Int × Nat)) : EnvSt × (Int × Nat) :=
  if p.rt ≥ 2 then s else (s.1.retrig p s.2, (0, 0))

theorem retrigOne_env (p : EnvP) (s : EnvSt × (Int × Nat)) : (retrigOne p s).1 = s.1.retrig p s.2 := by
  unfold retrigOne
  split
  · next h =>
    unfold EnvSt.retrig EnvSt.retrigAt
    split
    · omega
    · omega
    · rfl
  · rfl

theorem VSig.retrig_same (g : VSig) (p : EnvP) (e : Fin 4) : (g.retrig p e false).envAt e = retrigOne p (g.envAt e) := by
  unfold VSig.retrig retrigOne
  dsimp only
  split
  · rfl
  · simp [VSig.envAt]

theorem VSig.retrig_ne (g : VSig) (p : EnvP) {e j : Fin 4} (h : e ≠ j) : (g.retrig p e false).envAt j = g.envAt j := by
  have hv : e.val ≠ j.val := fun he => h (Fin.ext he)
  unfold VSig.retrig
  dsimp only
  split
  · rfl
  · simp [VSig.envAt, hv]

theorem VSig.retrig_ctl (g : VSig) (p : EnvP) (e : Fin 4) : (g.retrig p e false).ctl = g.ctl := by
  unfold VSig.retrig
  dsimp only
  split
  · rfl
  · rfl

section turns
variable (m : Mem72) (v : Nat) (w : Word) (vo : Voice)

theorem retrigTurn_same (e : Fin 4) : (retrigTurn m v w e.val vo).sig.envAt e =
    if fld w e.val e.val = 1 then retrigOne (envP m v e.val) (vo.sig.envAt e) else vo.sig.envAt e := by
  unfold retrigTurn
  split
  · rw [fin_val]
    exact VSig.retrig_same ..
  · rfl

theorem retrigTurn_ne {k : Nat} {e : Fin 4} (hk : k < 4) (hne : k ≠ e.val) :
    (retrigTurn m v w k vo).sig.envAt e = vo.sig.envAt e := by
  have hf : fin 4 k = ⟨k, hk⟩ := fin_val ⟨k, hk⟩
  unfold retrigTurn
  split
  · exact VSig.retrig_ne _ _ (by rw [hf]; exact fun he => hne (congrArg Fin.val he))
  · rfl

/-- The envelopes that a RETRIG word names start again, each from its own level and sustain ramp (R121, R136). -/
theorem retrigTurns_env (e : Fin 4) : (iter 4 (retrigTurn m v w) vo).sig.env[e] =
    if bit w e.val then (vo.sig.env[e]).retrig (envP m v e.val) vo.sig.sus[e] else vo.sig.env[e] := by
  have ha := iterFrom_at (g := fun a : Voice => a.sig.envAt e)
    (h := fun x => if fld w e.val e.val = 1 then retrigOne (envP m v e.val) x else x)
    (fun _ a => retrigTurn_ne m v w a) (fun a => retrigTurn_same m v w a e) 0 4 vo (le_refl 4)
  rw [if_pos (by omega)] at ha
  have hb : bit w e.val = true ↔ fld w e.val e.val = 1 := by rw [bit_eq_fld, beq_iff_eq]
  refine (congrArg Prod.fst ha).trans ?_
  by_cases h : fld w e.val e.val = 1
  · rw [if_pos h, if_pos (hb.mpr h)]
    exact retrigOne_env ..
  · rw [if_neg h, if_neg (mt hb.mp h)]
    rfl

/-- RETRIG keeps the life and the controls of a voice. -/
theorem retrigTurns_keep :
    (iter 4 (retrigTurn m v w) vo).life = vo.life ∧ (iter 4 (retrigTurn m v w) vo).sig.ctl = vo.sig.ctl := by
  have keep (k : Nat) (a : Voice) : ((retrigTurn m v w k a).life, (retrigTurn m v w k a).sig.ctl) = (a.life, a.sig.ctl) := by
    unfold retrigTurn
    split
    · exact congrArg (Prod.mk _) (VSig.retrig_ctl ..)
    · rfl
  have hk := iterFrom_keeps (g := fun a : Voice => (a.life, a.sig.ctl)) keep 0 4 vo
  exact ⟨congrArg Prod.fst hk, congrArg Prod.snd hk⟩

end turns

end control

section completes
variable {s : State} {i : ZoneId} {z : Zone} (hz : s.zones[i] = z) (hq : Quiet s i) (hl : z.live = true)
include hz hq hl

/-- VREL and VKILL to a handle that addresses no voice are counted (R142). -/
theorem unaddressed_completes {c : Instr} {pr : HostC → P0Right} {f : Zone → Fin 96 → Zone} {hd : BitVec 16}
    (hc : exec c s = liveDo s i (fun z h => z.toHandle (pr h) hd f)) (ha : z.addressed hd = []) :
    Completes c s (fun t => Counted Reg.VCTL_COUNT 7 0 1 z t.zones[i] ∧ RegsBut [Reg.VCTL_COUNT] z t.zones[i] ∧
      { t.zones[i] with regs := z.regs } = z ∧ Lone i s t) := by
  have hw : z.regsWf = true := Quiet.regsWf hz hq
  refine (liveDo_mute hz hq hl hc (Zone.toHandle_none ha _ _)
    ⟨⟨rfl, rfl, rfl, rfl, rfl, rfl⟩, rfl, rfl⟩).imp fun t ⟨ht, ho⟩ => ?_
  rw [ht]
  exact ⟨Zone.count_counted hw _ (by decide) (by decide) 1, fun k hk => Zone.reg_setReg_ne hw (by simpa using hk), rfl, ho⟩

section addressed
variable (src : VSrc) {arg1 : Word} {v : Fin 96} (ha : z.addressed (handleOf arg1) = [v]) (hc : z.voices[v].st.cls ≠ 0)
  (hv : z.voices[v].life = .active)
include ha hc hv

/-- A command to the handle of one sounding voice that changes that voice alone. -/
theorem addressed_completes {c : Instr} {pr : HostC → P0Right} {f : Zone → Fin 96 → Zone} {g : Voice → Voice}
    (he : exec c s = liveDo s i (fun z h => z.toHandle (pr h) (handleOf arg1) f)) (hf : f z v = z.modVoice v g) :
    Completes c s (fun t => t.zones[i].voices[v] = g z.voices[v] ∧ OnlyVoice v z t.zones[i] ∧
      { t.zones[i] with voices := z.voices } = z ∧ Lone i s t) := by
  have hn := (Zone.toHandle_one ha hc hv (pr s.host) f).trans hf
  refine (liveDo_mute hz hq hl he hn (Zone.modVoice_mute z v g)).imp fun t ⟨ht, ho⟩ => ?_
  rw [ht]
  exact ⟨Zone.modVoice_voice z v g, Zone.modVoice_others z v g, rfl, ho⟩

/-- VREL of a voice with an envelope in neither RELEASE nor OFF (R120). -/
theorem vrel_releases (hs : ∃ e : Fin 4, ((z.voices[v].sig.env[e]).advance (envP z.battAct v.val e.val)).st ∉ [0, 6]) :
    Completes (.vrel i src arg1) s (fun t => t.zones[i].voices[v].life = .released ∧ t.zones[i].voices[v].sig.rel = true ∧
      OnlyVoice v z t.zones[i] ∧ { t.zones[i] with voices := z.voices } = z ∧ Lone i s t) := by
  obtain ⟨e, hs⟩ := hs
  obtain ⟨g, hg, hlife, hrel⟩ := Zone.vrelOne_sounding hv fun hall => hs (hall e)
  refine (addressed_completes hz hq hl ha hc hv (pr := srcRight src) (c := .vrel i src arg1) rfl hg).imp fun t ⟨ht, ho⟩ => ?_
  rw [ht]
  exact ⟨hlife, hrel, ho⟩

/-- VREL of a voice whose envelopes are all in one of them (R120). -/
theorem vrel_idle (hs : Quieting z v) : Completes (.vrel i src arg1) s (fun t => t.zones[i] = z ∧ Lone i s t) := by
  have hn := (Zone.toHandle_one ha hc hv (srcRight src s.host) Zone.vrelOne).trans (Zone.vrelOne_quieting hv hs)
  exact liveDo_mute hz hq (f := fun z h => z.vrel (srcRight src h) arg1) hl rfl hn (.refl z)

/-- VKILL (R143, R146). -/
theorem vkill_completes : Completes (.vkill i src arg1) s (fun t => t.zones[i].voices[v].life = .fading ∧
    t.zones[i].voices[v].succ = none ∧ t.zones[i].voices[v].fadeN = z.stealN ∧ t.zones[i].voices[v].fadeK = 0 ∧
    t.zones[i].voices[v].st.handle = 0 ∧ OnlyVoice v z t.zones[i] ∧ { t.zones[i] with voices := z.voices } = z ∧
    Lone i s t) := by
  refine (addressed_completes hz hq hl ha hc hv (pr := srcRight src) (c := .vkill i src arg1) rfl
    (Zone.vkillOne_sounding hv)).imp fun t ⟨ht, ho⟩ => ?_
  rw [ht]
  exact ⟨rfl, rfl, rfl, rfl, rfl, ho⟩

/-- VCTL of a control with its STEP bit (R129). -/
theorem vctl_completes (arg0 : Word) (h7 : fld arg0 31 28 ≤ 7) (hs : bit arg0 27 = true) :
    Completes (.vctl i src arg0 arg1) s (fun t =>
      (∀ k : Fin 8, t.zones[i].voices[v].sig.ctl[k].v =
        if k.val = fld arg0 31 28 then wrapS 24 (fld arg0 23 0) * 2 ^ 12 else z.voices[v].sig.ctl[k].v) ∧
      t.zones[i].voices[v].life = .active ∧ t.zones[i].voices[v].sig.env = z.voices[v].sig.env ∧
      OnlyVoice v z t.zones[i] ∧ { t.zones[i] with voices := z.voices } = z ∧ Lone i s t) := by
  have he (z : Zone) (h : HostC) : z.vctl (srcRight src h) arg0 arg1 =
      z.toHandle (srcRight src h) (handleOf arg1) (fun z v => z.vctlOne arg0 v) := if_neg (by omega)
  refine (addressed_completes hz hq hl ha hc hv (pr := srcRight src) (c := .vctl i src arg0 arg1)
    (congrArg (liveDo s i) (funext fun z => funext fun h => he z h))
    ((Zone.vctlOne_sounding hv arg0).trans (Zone.ctlWord_step h7 hs))).imp fun t ⟨ht, ho⟩ => ?_
  rw [ht]
  refine ⟨fun k => ?_, hv, rfl, ho⟩
  by_cases hk : k.val = fld arg0 31 28
  · rw [if_pos hk, ← hk, fin_val]
    exact congrArg CtlSt.v (vmod_self ..)
  · have hne : k ≠ fin 8 (fld arg0 31 28) := fun e => hk ((congrArg Fin.val e).trans (Nat.mod_eq_of_lt (by omega)))
    rw [if_neg hk]
    exact congrArg CtlSt.v (vmod_ne _ hne _)

/-- RETRIG of a voice that is not released (R121). -/
theorem retrig_completes (arg0 : Word) (hr : z.voices[v].sig.rel = false) : Completes (.retrig i src arg0 arg1) s (fun t =>
    (∀ e : Fin 4, t.zones[i].voices[v].sig.env[e] = if bit arg0 e.val then
      (z.voices[v].sig.env[e]).retrig (envP z.battAct v.val e.val) z.voices[v].sig.sus[e] else z.voices[v].sig.env[e]) ∧
    t.zones[i].voices[v].sig.ctl = z.voices[v].sig.ctl ∧ t.zones[i].voices[v].life = .active ∧
    OnlyVoice v z t.zones[i] ∧ { t.zones[i] with voices := z.voices, draws := z.draws } = z ∧ Lone i s t) := by
  have h8 : fld (setFld arg0 31 28 8) 31 28 = 8 := fld_setFld_same (by decide) (by decide)
  have hb (e : Fin 4) : bit (setFld arg0 31 28 8) e.val = bit arg0 e.val := by
    rw [bit_eq_fld, bit_eq_fld, fld_setFld_below (by decide) (by decide) (by omega) (le_refl _)]
  obtain ⟨n, hn, l, d, rfl⟩ := Zone.ctlWord_retrig h8 hr
  have hg : z.vctl (srcRight src s.host) (setFld arg0 31 28 8) arg1 = _ := (if_neg (by omega)).trans
    ((Zone.toHandle_one ha hc hv _ _).trans ((Zone.vctlOne_sounding hv _).trans hn))
  refine (liveDo_mute hz hq (f := fun z h => z.vctl (srcRight src h) (setFld arg0 31 28 8) arg1) hl rfl hg
    ⟨⟨rfl, rfl, rfl, rfl, rfl, rfl⟩, rfl, rfl⟩).imp fun t ⟨ht, ho⟩ => ?_
  have hvoice := (Zone.modVoice_voice { z.modVoice v (fun vo => { vo with sig := { vo.sig with lfo := l } }) with draws := d } v
    (iter 4 (retrigTurn z.battAct v.val (setFld arg0 31 28 8)))).trans (congrArg _ (Zone.modVoice_voice z v _))
  obtain ⟨hlife, hctl⟩ := retrigTurns_keep z.battAct v.val (setFld arg0 31 28 8)
    { z.voices[v] with sig := { z.voices[v].sig with lfo := l } }
  rw [ht, hvoice]
  refine ⟨fun e => ?_, hctl, hlife.trans hv, fun w hw => ?_, rfl, ho⟩
  · rw [retrigTurns_env, hb]
  · exact (Zone.modVoice_others _ v _ w hw).trans (Zone.modVoice_others z v _ w hw)

end addressed
end completes

/-- Settles O19: a start goes through the allocator to the lowest-numbered free voice; a command to a handle does its one operation
on the voice addressed, or is counted. -/
theorem voiceActions : Obligations.VoiceActions := by
  intro s i src z hz hq hl
  refine ⟨vstart_completes hz hq hl src, fun arg1 v ha hc hv _ => ?_, fun arg1 ha => ?_⟩
  · exact ⟨vrel_releases hz hq hl src ha hc hv, vrel_idle hz hq hl src ha hc hv, vkill_completes hz hq hl src ha hc hv,
      vctl_completes hz hq hl src ha hc hv, retrig_completes hz hq hl src ha hc hv⟩
  · exact ⟨unaddressed_completes hz hq hl (pr := srcRight src) (c := .vrel i src arg1) rfl ha,
      unaddressed_completes hz hq hl (pr := srcRight src) (c := .vkill i src arg1) rfl ha⟩

end Sys2Proof.Machine
end

section
namespace Sys2Proof.Machine

/-! PRESET_COPY of a block that has gone bad (R135, R344). -/

/-- A preset in block 10 of the bundle. -/
def spoiledPreset : Item := { id := 5, ty := 3, enc := false, first := 10, nblk := 1, len := 288 }

/-- A zone in a frame that has begun, whose voice 0 waits for that preset; the block is in line 3 of the sample cache, and the first
word of the line holds an error that cannot be corrected. -/
def spoiledZone : Zone :=
  { Zone.reset 0 with
    ctl := { (Zone.reset 0).ctl with st := .run }
    time := { (Zone.reset 0).time with est := false, began := true }
    voices := (Zone.reset 0).voices.set 0 { Voice.free0 with life := .wait, st := { Start.none0 with item := 5, cls := 2 } }
    cache := { (Zone.reset 0).cache with lines := [{ line := 3, blk := 10, used := 1, held := [] }] }
    mem := { (Zone.reset 0).mem with marks := [(memKey memCache (3 * 512), 2)] } }

/-- A device with that zone and the preset's bundle mounted. -/
def spoiledDevice : State :=
  { State.reset with
    zones := State.reset.zones.set 0 spoiledZone
    host := { State.reset.host with cont := { State.reset.host.cont with mstate := 2, items := [spoiledPreset] } } }

/-- Refutes O22: a cached preset block with an uncorrectable word is invalidated as its copy reads it (R13, R344), so that the voice
still waits after PRESET_COPY. -/
theorem not_voiceCompletions : ¬ Obligations.VoiceCompletions := by
  intro h
  obtain ⟨hcopy, -⟩ := h spoiledDevice 0 0 spoiledZone rfl (by decide +kernel) rfl rfl
  obtain ⟨hactive, -⟩ := (hcopy spoiledPreset rfl rfl (by decide +kernel) (by decide +kernel)).of_next rfl
  exact absurd hactive (by decide +kernel)

end Sys2Proof.Machine
end
